-- ==== Sys2Proof/Word.lean ====
section
/-! DEFINITION. The plainest types of the model: a field of a register, a row of a register table, the fabric ports,
and two's complement.

A register of the TS44 is 32 bits wide and is held by its fields (R12): a field has an address (the BAR0 byte address of
R69), its lowest bit, its width and its reset value. A LO/HI pair of R72 is one field of up to 64 bits at the address of
its LO word. A field's content is a natural number below 2 to its width; a signed field holds two's complement. -/
namespace Sys2Proof

/-- A field of a register: BAR0 byte address of the register (R69), lowest bit, width, reset value. -/
structure Fld where
  addr : Nat
  lo : Nat
  w : Nat
  reset : Nat
  deriving DecidableEq, Repr

/-- One number for the place of a field: two fields with different keys are different storage. -/
def Fld.key (f : Fld) : Nat := f.addr * 32 + f.lo

/-- The largest value a field holds. -/
def Fld.top (f : Fld) : Nat := 2 ^ f.w - 1

/-- The page a field belongs to (R69). -/
def Fld.page (f : Fld) : Nat := f.addr / 4096

/-- The byte offset of a field's register in its page (R69). -/
def Fld.off (f : Fld) : Nat := f.addr % 4096

/-- The register types of R12. slrw is SL while the unit's chapter says so and RW otherwise; rws and wos are RW and WO
registers that only the STC may write (R452, R462, R463, R483). -/
inductive RegTy where
  | rw | ro | w1c | wo | rwc | tk | sl | slrw | rws | wos
  deriving DecidableEq, Repr

/-- One row of a register table: the field at the row's first instance and index, which word of the field the row shows
(0 the whole field, 1 the LO word, 2 the HI word of a pair), the strides and counts of up to two array indices, the type,
the stated range, and the reset value per index where the instances differ. -/
structure Row where
  f : Fld
  word : Nat
  s1 : Nat
  n1 : Nat
  s2 : Nat
  n2 : Nat
  ty : RegTy
  vmin : Nat
  vmax : Nat
  resets : List Nat := []
  deriving DecidableEq, Repr

/-- The three fabric ports that write registers (04_register_pages.md, "The BAR0 window"). -/
inductive Port where
  | pcie | stc | twi
  deriving DecidableEq, Repr

/-- The code of a port in OWNER and WRITER fields (R73, R74): 0b01 PCIe, 0b10 STC, 0b11 two-wire. -/
def Port.code : Port → Nat
  | .pcie => 1
  | .stc => 2
  | .twi => 3

/-- The index of a port's own window in the pages that give each port one (R48, R202, R453). -/
def Port.window : Port → Nat
  | .pcie => 0
  | .stc => 1
  | .twi => 2

/-- The three variants of R2, fused into one die. -/
inductive Variant where
  | ts4410 | ts4320 | ts4210
  deriving DecidableEq, Repr

/-- The signed value of a w-bit two's complement word. -/
def toSigned (w v : Nat) : Int :=
  if 2 ^ w ≤ 2 * v then (v : Int) - (2 : Int) ^ w else (v : Int)

/-- The w-bit two's complement word of a signed value. -/
def ofSigned (w : Nat) (i : Int) : Nat := (i % (2 : Int) ^ w).toNat

/-- Bit b of a number. -/
def bit (v b : Nat) : Bool := v / 2 ^ b % 2 == 1

/-- Bits hi..lo of a number. -/
def bits (v hi lo : Nat) : Nat := v / 2 ^ lo % 2 ^ (hi + 1 - lo)

/-- 1 for true and 0 for false. -/
def b2n (b : Bool) : Nat := if b then 1 else 0

/-- The bits of a that are not in b. -/
def clearBits (a b : Nat) : Nat := a - (a &&& b)

/-- The number of phase steps in a frame (R26). -/
def frameSteps : Nat := 40000

/-- The number of frames in a management tick (R15). -/
def tickFrames : Nat := 25

/-- The number of phase steps in a management tick. -/
def tickSteps : Nat := 1000000

/-- The number of phase steps in one second. -/
def secondSteps : Nat := 400000000

/-- The 64-bit register form of an SC counted in phase steps: frame in 63:16, phase in 15:0 (R26). -/
def scReg (n : Nat) : Nat := n / frameSteps * 65536 + n % frameSteps

/-- The phase-step count of an SC in register form. -/
def scSteps (v : Nat) : Nat := v / 65536 * frameSteps + v % 65536

/-- n / d to the nearest integer, halves away from zero (R288); d is positive. -/
def roundDiv (n : Int) (d : Nat) : Int :=
  let q : Nat := (2 * n.natAbs + d) / (2 * d)
  if n < 0 then -(q : Int) else q

end Sys2Proof
end

