-- ==== Sys2Proof/Syntax.lean ====
section
/-! DEFINITION. The commands the block takes, and the shapes of their operands. -/
namespace Sys2Proof

/-- What an EPHEMERIS message says: frame EPH_FRAME is the start of second SOD of UTC day DAY, with LEAP (R38). -/
structure Eph where
  frame : Nat
  day : Nat
  sod : Nat
  leap : Nat
  deriving DecidableEq, Repr

/-- The source of a trigger, which names its TRIG tally (R54). -/
inductive TrigSrc where
  | orry | pin | cmd
  deriving DecidableEq, Repr

/-- Who writes a register: the LGC inside the part, or a fabric port (R73, R333). -/
inductive Writer where
  | lgc | fabric (p : Port)
  deriving DecidableEq, Repr


/-- Where the cell of a packet buffer row is (R54): free; held by the n-th frame of a queue; by the n-th frame of a staged
container of a target frame; or by the n-th frame of the burst in flight. -/
inductive CellAt where
  | free
  | queued (q n : Nat)
  | staged (cont target n : Nat)
  | burst (n : Nat)
  deriving DecidableEq, Repr

/-- What read the word that an uncorrectable error spoiled (R470). -/
inductive CellUse where
  | other | egress | staging | confirmed
  deriving DecidableEq, Repr

/-- A write that the LGC makes on its own path (R19): PIN_CFG of a pin, EXC_CFG of a pair, AFE_CMD, or an operation of SWAP_CMD. -/
inductive LgcWrite where
  | pinCfg (pin v : Nat)
  | excCfg (pair v : Nat)
  | afe (v : Nat)
  | shadow (x a : Nat)
  | release (x : Nat)
  | takeover (x a result : Nat)
  deriving DecidableEq, Repr

/-- What a command that a register write starts finds outside the registers: the write that the LGC makes in the second cycle of an 8-byte
write (R71); the transmit lane's self-monitor passes (RETRAIN); the
filtered level of MOD_TXFLT (TXFLT_CLEAR); the level sensed at MOD_TXEN (CLEAR_LOCKOUT); the VOUT_MODE byte read (VREG_CTL); the place
of a packet buffer row's cell (RPR_CMD). -/
structure Outside where
  second : Option LgcWrite := none
  selfOk : Bool := false
  pin : Bool := false
  pad : Bool := false
  mode : Nat := 0
  cell : CellAt := .free
  deriving DecidableEq, Repr

/-- What the check of a window of a receive lane showed (R112): the symbols at which the check sum failed, and the codewords that FRMD
could not correct, each numbered in its frame (R102, R127). -/
structure CheckSeen where
  mismatches : List Nat := []
  uncorrectable : List Nat := []
  deriving DecidableEq, Repr

/-- The bytes that a read takes: size of them from the BAR0 byte address addr (R71). -/
structure Span where
  addr : Nat
  size : Nat
  deriving DecidableEq, Repr

/-- The level that a pin has reached, and the core cycle t in which it has. -/
structure PinAt where
  t : Nat
  high : Bool
  deriving DecidableEq, Repr

/-- What a deskew search saw (R108): the alignment in UI that the last candidate tried gives the lane against RXD0, the candidates tried,
and, with the check lane, the symbols of 256 at which the sum held, else the frames of three whose PSYNC stood where it was expected. -/
structure DeskewSeen where
  off : Int
  cand : Nat
  hits : Nat
  deriving DecidableEq, Repr

/-- A stretch of received symbols (R102, R130): it begins sub byte positions after its core cycle's; x0 to x2 are the level indices at
the pins of RXD0 to RXD2, aligned under R108: the level received last before it, then its symbols. -/
structure Stretch where
  sub : Nat
  x0 : List Nat
  x1 : List Nat
  x2 : List Nat
  deriving DecidableEq, Repr

/-- What seats tell the Dealer in a round (R233): the length in cycles that seat 2 or 4 declares; by engine, the blocks that remain in a
hand of seat 3 whose data stalls. -/
structure Declared where
  cycles : Nat
  stalled : List (Nat × Nat) := []
  deriving DecidableEq, Repr

/-- The end of an engine's hand (R231), with what a hand of seat 3 read of its job's input. -/
structure HandEnd where
  engine : Nat
  input : List Nat := []
  deriving DecidableEq, Repr

/-- A guard whose range is a count of edges in a sliding second (R519): MOD_SD, BLANK, SEAL_SW, PWR_WARN_N, or WAKE0 and WAKE1. -/
inductive Guard where
  | modSd | blank | sealSw | pwrWarn | wake (n : Nat)
  deriving DecidableEq, Repr

/-- The commands of the TS44, one constructor per row of the opcode table. Every command carries first the core cycle t
(2.5 ns) at which it happens. -/
inductive Instr where
  | /-- REGISTER_WRITE (R83). A fabric write to a register that has no row of its own is checked in the order of R85 and either applied or refused in full. addr is the BAR0 byte address, size the bytes written, v the value written. -/
    registerWrite (t : Nat) (p : Port) (addr size v : Nat) (x : Outside)
  | /-- LATCHING_READ (R72). A read of a LO or other latching register latches its companion registers for the reading port. b: the bytes read. -/
    latchingRead (t : Nat) (p : Port) (b : Span)
  | /-- PAIR_LO_WRITE (R72). A LO write of a 64-bit pair is held apart for its port until the matching HI write. page and off name the LO register, v is the word written. -/
    pairLoWrite (t : Nat) (p : Port) (page off v : Nat)
  | /-- PAIR_HI_WRITE (R72). A HI write checks and applies the held LO and HI as one write, or is refused with ORDER. page and off name the HI register, v is the word written. -/
    pairHiWrite (t : Nat) (p : Port) (page off v : Nat)
  | /-- PAGE_LOCK (R79). A PAGE_CTL write takes, renews or releases the page lock for the writing port. v is the word written to PAGE_CTL. -/
    pageLock (t : Nat) (p : Port) (page v : Nat)
  | /-- LOCK_LEASE_EXPIRE (R80). A lock expires when LOCK_LEASE ticks pass without an accepted write from its owner, raising LOCK_EXPIRED. -/
    lockLeaseExpire (t : Nat) (page : Nat)
  | /-- TICK_COMMIT (R76). A COMMIT write runs the cross-field checks on the RWC group and arms it. v is the word written to TICK_COMMIT, with COMMIT 1. -/
    tickCommit (t : Nat) (p : Port) (page v : Nat)
  | /-- TICK_DISCARD (R76). A DISCARD write empties the page's pending RWC group. v is the word written to TICK_COMMIT, with DISCARD 1. -/
    tickDiscard (t : Nat) (p : Port) (page v : Nat)
  | /-- RWC_GROUP_APPLY (R77). At the commit cycle the armed RWC group is rechecked and applied whole, or left pending with a recorded refusal. -/
    rwcGroupApply (t : Nat) (page : Nat)
  | /-- TICK_COMMIT_CYCLE (R16). At every tick boundary the commit cycle applies TK writes and runs the slow-plane work of that tick. tj is the junction temperature in 0.1 °C, rosc the counts of the ring oscillators, age the samples of the ageing monitors. -/
    tickCommitCycle (t : Nat) (tj : Int) (rosc : List Nat) (age : List (Int × Int × Nat))
  | /-- CAUSE_CLEAR (R98). A W1C write clears CAUSE or SUB_CAUSE leaves unless an event sets them in the same cycle. off names CAUSE or a SUB_CAUSE word, v is the word written. -/
    causeClear (t : Nat) (p : Port) (page off v : Nat)
  | /-- CAUSE_FORCE (R92). A CAUSE_FORCE write sets CAUSE bits for attention only, without side effects. v is the word written. -/
    causeForce (t : Nat) (p : Port) (page v : Nat)
  | /-- SUB_FORCE (R92). A SUB_FORCE write sets SUB_CAUSE bits for attention only. word numbers the SUB_FORCE register, v is the word written. -/
    subForce (t : Nat) (p : Port) (page word v : Nat)
  | /-- HOLDOFF_END (R95). The 400-step hold-off after a release of ATTN_N ends and a pending assert condition drives the pin. e: the core cycle, and the level that other devices leave at the ball of ATTN_N from here on (R96). -/
    holdoffEnd (e : PinAt)
  | /-- VEC_REARM (R432). A VEC_REARM write resends an ATTN vector's message while its expression is non-zero. v is the word written. -/
    vecRearm (t : Nat) (p : Port) (v : Nat)
  | /-- COAL_TIMEOUT (R432). A RING vector sends its message COAL_US after its first unannounced completion. -/
    coalTimeout (t : Nat) (vec : Nat)
  | /-- ADVANCE_WRITE (R28). The STC writes SIDR ADVANCE, refused with RANGE above five frames. v is the word written. -/
    advanceWrite (t : Nat) (p : Port) (v : Nat)
  | /-- ADVANCE_APPLY (R28). At the next frame boundary BITS and ADVANCE_VALID take the written values and small changes are applied without a correction event. -/
    advanceApply (t : Nat)
  | /-- LEARN_MEASUREMENT (R30). Once per second while LOCKED, REFCLK is measured against the line clock and LEARN_PPB and LEARN_VALID are updated. ppb is the measured REFCLK error. -/
    learnMeasurement (t : Nat) (ppb : Int)
  | /-- UNCERT_GROWTH (R31). Once per second outside LOCKED, SC_UNCERT grows by the configured bound and HOLDOVER falls to FREE past HOLD_LIMIT. -/
    uncertGrowth (t : Nat)
  | /-- MAINS_CROSSING (R32). A filtered rising MAINS_SENSE crossing is timestamped, learned or used to steer MERIDIAN, and checked by the mains guard. -/
    mainsCrossing (t : Nat)
  | /-- MAINS_TIMEOUT (R32). No crossing within TIMEOUT frames clears MAINS_OK and raises MAINS_GUARD. -/
    mainsTimeout (t : Nat)
  | /-- SLEW_ADJUSTMENT (R34). At each non-zero multiple of 1,000 phase steps a slew adds or removes one phase step. -/
    slewAdjustment (t : Nat)
  | /-- SC_STEP (R35). At the next head-end tick boundary the SC takes the new value in a step tick, recording STEP_SC and raising SC_STEP. -/
    scStep (t : Nat)
  | /-- EPHEMERIS (R38). An EPHEMERIS message is range-checked, filtered in runs and accepted or rejected as wall time. -/
    ephemeris (t : Nat)
  | /-- EPH_TIMEOUT (R40). No accepted ephemeris within TIMEOUT seconds while LOCKED makes WALL_STATE PROVISIONAL. -/
    ephTimeout (t : Nat)
  | /-- ORRERY_FIRE (R45). The due Almanac entry with the lowest occurrence SC and index fires a trigger to its unit. -/
    orreryFire (t : Nat)
  | /-- ALMANAC_INSTALL (R48). W_CMD INSTALL checks and atomically replaces the entry at W_INDEX. The fields are those the port's window holds. -/
    almanacInstall (t : Nat) (p : Port)
  | /-- ALMANAC_REMOVE (R48). W_CMD REMOVE checks and empties the entry at W_INDEX. -/
    almanacRemove (t : Nat) (p : Port)
  | /-- ALMANAC_READ (R53). W_CMD READ loads the entry at W_INDEX into the window registers. -/
    almanacRead (t : Nat) (p : Port)
  | /-- ENTRY_UE (R50). An uncorrectable error empties an Almanac entry and raises ENTRY_UE. -/
    entryUe (t : Nat) (index : Nat)
  | /-- SNAPSHOT (R59). LEDG_CMD SNAPSHOT makes its writer owner, merges with a pending snapshot, or is refused with BUSY. -/
    snapshot (t : Nat) (w : Writer)
  | /-- SNAPSHOT_COPY (R58). In the commit cycle a pending snapshot copies every tally into the bank and raises SNAP_READY. -/
    snapshotCopy (t : Nat)
  | /-- SNAPSHOT_RELEASE (R59). LEDG_CMD RELEASE from the owner clears SNAP_HELD. -/
    snapshotRelease (t : Nat) (w : Writer)
  | /-- CLEAR_BREAK (R64). LEDG_CMD CLEAR_BREAK clears a domain's BREAK bit and its halts if the balance holds. -/
    clearBreak (t : Nat) (p : Port) (domain : Nat)
  | /-- LANE_PHASE_DONE (R107). A receive lane completes its interpolator sweep and enters ADAPT. centre is the code of the widest eye's centre. -/
    lanePhaseDone (t : Nat) (lane centre : Nat)
  | /-- LANE_ADAPT_DONE (R107). A receive lane completes equalizer convergence and enters DESKEW. -/
    laneAdaptDone (t : Nat) (lane : Nat)
  | /-- LANE_DESKEW_DONE (R108). A lane's deskew search ends aligned, entering CHECK, or fails back to PHASE. x: what the search saw. -/
    laneDeskewDone (t : Nat) (lane : Nat) (x : DeskewSeen)
  | /-- LANE_WINDOW (R111). Each 65,536-symbol window judges a lane in CHECK or UP and moves it to UP or DOWN after FILTER windows. corrected holds the line bits that FRMD corrected, numbered in their frame (R102); eye is the eye height; ampOk: the input amplitude lies in its range; x: what the check showed (R112). -/
    laneWindow (t : Nat) (lane : Nat) (corrected : List Nat) (eye : Nat) (ampOk : Bool) (x : CheckSeen)
  | /-- TRAIN_TIMEOUT (R109). A lane not UP TRAIN_TIMEOUT ticks after PHASE is declared DOWN. -/
    trainTimeout (t : Nat) (lane : Nat)
  | /-- LANE_RETRY (R107). A DOWN lane re-enters PHASE after RETRY_TICKS. -/
    laneRetry (t : Nat) (lane : Nat)
  | /-- EQ_UPDATE (R119). An adaptive equalizer parameter is updated within its fence every 4,096 symbols. param 0 CTLE, 1 VGA, 2 to 4 DFE1 to DFE3, 5 PHASE; ask is the value the loop asks for. -/
    eqUpdate (t : Nat) (lane param : Nat) (ask : Int)
  | /-- FENCE_HELD (R120). A lane held at a fence bound for FENCE_TICKS consecutive ticks raises FENCE_HELD. -/
    fenceHeld (t : Nat) (lane : Nat)
  | /-- RETRAIN (R126). LANE_CMD RETRAIN sends a receive lane to PHASE or retrains a transmit lane. selfOk: the transmit lane's self-monitor passes. -/
    retrain (t : Nat) (p : Port) (lane : Nat) (selfOk : Bool)
  | /-- LANE_HOLD (R126). LANE_CMD HOLD puts a receive lane in HELD. -/
    laneHold (t : Nat) (p : Port) (lane : Nat)
  | /-- LANE_RELEASE (R126). LANE_CMD RELEASE sends a HELD receive lane to PHASE. -/
    laneRelease (t : Nat) (p : Port) (lane : Nat)
  | /-- TX_SWAP (R116). LANE_CMD TX_SWAP starts substitution to the named transmit lane. -/
    txSwap (t : Nat) (p : Port) (lane : Nat)
  | /-- TX_DRIVER_FAULT (R116). The active transmit lane's self-monitor fails, aborting a burst and starting automatic substitution. -/
    txDriverFault (t : Nat)
  | /-- TX_SWAP_DONE (R116). After training and the switch marker the new transmit lane becomes ACTIVE and TX_SUBST_DONE is raised. selfOk: the new lane's self-monitor passes in step 2. -/
    txSwapDone (t : Nat) (selfOk : Bool)
  | /-- TX_TRAINING_DONE (R110). After 65,536 training symbols from TX_ENABLE, TXD0 switches to the idle pattern. -/
    txTrainingDone (t : Nat)
  | /-- TXFLT_CLEAR (R122). LANE_CMD TXFLT_CLEAR ends the TXFLT guard substitute. pin is the filtered level of MOD_TXFLT. -/
    txfltClear (t : Nat) (p : Port) (lane : Nat) (pin : Bool)
  | /-- MOD_SD_EDGE (R121). A filtered MOD_SD edge is accepted and checked against the chatter guard. -/
    modSdEdge (t : Nat) (level : Bool)
  | /-- SD_CONTRADICT (R121). MOD_SD low for TIMEOUT ticks while lanes pass makes the TS44 ignore MOD_SD. -/
    sdContradict (t : Nat)
  | /-- MOD_TXFLT_ASSERT (R122). A filtered MOD_TXFLT assertion drops MOD_TXEN, aborts a burst and reports to ACTV. e: the core cycle and the filtered level after the edge: false is the release. -/
    modTxfltAssert (e : PinAt)
  | /-- TXFLT_TIMEOUT (R122). MOD_TXFLT still asserted TIMEOUT ticks after MOD_TXEN fell fails the TXFLT guard. -/
    txfltTimeout (t : Nat)
  | /-- RXC_TIMEOUT (R123). RXC showing no edge for TIMEOUT REFCLK periods fails the RXC guard and downs the lanes. -/
    rxcTimeout (t : Nat)
  | /-- RXC_WINDOW (R123). Each 2^20-cycle window measures RXC_PPM and fails or recovers the RXC guard. -/
    rxcWindow (t : Nat) (ppm : Int)
  | /-- DOWNSTREAM_FRAME (R130). A downstream frame is delineated, descrambled, FEC-decoded and its header, grant map, OAM and path blocks processed. x: what the receive lanes bring from byte position 8 t + sub on. -/
    downstreamFrame (t : Nat) (x : Stretch)
  | /-- LOS_DETECT (R136). LINK reading DOWN or TRAINING for LOS_SET phase steps detects LOS. -/
    losDetect (t : Nat)
  | /-- LOS_CLEAR (R136). LINK up for LOS_CLR frames clears LOS. -/
    losClear (t : Nat)
  | /-- LOF_DETECT (R136). Delineation out of SYNC for LOF_SET frames detects LOF. -/
    lofDetect (t : Nat)
  | /-- SF_WINDOW (R136). At the end of each 100-frame window SF and PATH_SF are detected or cleared. -/
    sfWindow (t : Nat)
  | /-- SD_WINDOW (R136). At the end of each 10,000-frame window SD and PATH_SD are detected or cleared. -/
    sdWindow (t : Nat)
  | /-- PM_SECOND (R140). At each PM second boundary the raw counters are latched into LS registers and zeroed. -/
    pmSecond (t : Nat)
  | /-- SECOND_FINAL (R142). Ten seconds after its end a second's classification becomes final and is added to its bin. -/
    secondFinal (t : Nat)
  | /-- BIN_CLOSE (R143). A PMON close trigger closes the 15-minute or day bin at the latest second boundary under its policy. occ is the trigger's occurrence SC in phase steps. -/
    binClose (t : Nat) (src : TrigSrc) (occ action : Nat)
  | /-- BIN_HISTORY (R143). A closed bin enters history 10 s after its boundary and raises BIN15_DONE or BINDAY_DONE. -/
    binHistory (t : Nat)
  | /-- CLEAR_HISTORY (R147). PM_CMD CLEAR_HISTORY empties both histories and starts PARTIAL bins. -/
    clearHistory (t : Nat) (p : Port)
  | /-- BIN_SEL (R147). A BIN_SEL write copies the selected bin into the bin window. v is the word written. -/
    binSel (t : Nat) (p : Port) (v : Nat)
  | /-- GRANT_ENTRY (R157). A grant entry is checked and then used, declined or discarded for this terminal. -/
    grantEntry (t : Nat)
  | /-- BURST_LAUNCH (R159). At the granted time a burst with preamble, delimiter, header and body leaves on TXD0 with MOD_TXEN. -/
    burstLaunch (t : Nat)
  | /-- BURST_PROFILE (R168). A BURST_PROFILE message loads the profile registers and may move STANDBY to SERIAL. -/
    burstProfile (t : Nat)
  | /-- ASSIGN_ID (R168). An ASSIGN_ID matching the SERIAL assigns TERM_ID and moves to RANGING. -/
    assignId (t : Nat)
  | /-- RANGING_TIME (R155). A RANGING_TIME message is guarded, sets RANGED_ADVANCE and queues an ACK. -/
    rangingTime (t : Nat)
  | /-- DEACTIVATE (R168). A DEACTIVATE message returns the terminal to INITIAL. -/
    deactivate (t : Nat)
  | /-- DISABLE (R168). A DISABLE matching the SERIAL moves the terminal to HALTED. -/
    disable (t : Nat)
  | /-- ENABLE (R168). An ENABLE message matching or all ones moves HALTED to STANDBY. -/
    enable (t : Nat)
  | /-- POPUP (R168). A POPUP in INTERMITTENT sets POPUP_SEEN and queues an ACK. -/
    popup (t : Nat)
  | /-- PATH_CONFIG (R168). An authenticated PATH_CONFIG message is delivered to the STC. full: the STC's receive queue holds 8 messages. -/
    pathConfig (t : Nat) (full : Bool)
  | /-- KEY_CONTROL (R225). An authenticated KEY_CONTROL message is delivered to the STC for key loading. full: the STC's receive queue holds 8 messages. -/
    keyControl (t : Nat) (full : Bool)
  | /-- PRICE (R168). An authenticated PRICE message is delivered to the STC for the LGC. full: the STC's receive queue holds 8 messages. -/
    price (t : Nat) (full : Bool)
  | /-- CREDIT (R168). An authenticated CREDIT message is delivered to the STC for the LGC. full: the STC's receive queue holds 8 messages. -/
    credit (t : Nat) (full : Bool)
  | /-- OAM_REQUEST (R168). An authenticated OAM_REQUEST message is delivered to the STC. full: the STC's receive queue holds 8 messages. -/
    oamRequest (t : Nat) (full : Bool)
  | /-- TO1_EXPIRE (R150). TO1 expiry returns SERIAL or RANGING to STANDBY. -/
    to1Expire (t : Nat)
  | /-- TO2_EXPIRE (R150). TO2 expiry returns INTERMITTENT to INITIAL. -/
    to2Expire (t : Nat)
  | /-- GO_OPERATION (R173). ACTV_CMD GO_OPERATION enters OPERATION from a ranged RANGING or popped INTERMITTENT. -/
    goOperation (t : Nat) (p : Port)
  | /-- CLEAR_LOCKOUT (R173). ACTV_CMD CLEAR_LOCKOUT returns LOCKOUT to INITIAL. pad is the level sensed at MOD_TXEN. -/
    clearLockout (t : Nat) (p : Port) (pad : Bool)
  | /-- REJOIN (R173). ACTV_CMD REJOIN returns the terminal to INITIAL. -/
    rejoin (t : Nat) (p : Port)
  | /-- UPMSG_SEND (R174). UPMSG_CMD SEND computes the MIC and queues an STC_REPLY upstream. -/
    upmsgSend (t : Nat) (p : Port)
  | /-- ROGUE_PAD (R166). TXEN_PAD high for FILTER steps while driven low enters LOCKOUT. -/
    roguePad (t : Nat)
  | /-- TXEN_LOW (R166). TXEN_PAD low for 4,000 steps while driven high raises TXEN_LOW. -/
    txenLow (t : Nat)
  | /-- INGRESS_FRAME (R178). A frame completing at a source is classified, policed and admitted to a queue or dropped. src is the ingress source, d the frame's bytes. -/
    ingressFrame (t : Nat) (src : Nat) (d : List Nat)
  | /-- CLS_INSTALL (R183). Classifier INSTALL writes an entry, moving a referenced old action to a ghost slot. -/
    clsInstall (t : Nat) (p : Port)
  | /-- CLS_REMOVE (R183). Classifier REMOVE empties the entry holding a key. -/
    clsRemove (t : Nat) (p : Port)
  | /-- CLS_READ (R202). Classifier READ loads the entry at W_INDEX into the window. -/
    clsRead (t : Nat) (p : Port)
  | /-- EGRESS_FRAME (R187). A downstream port takes the scheduled frame and frees its cells and descriptor when its last byte leaves. ready are the ports whose transmitters can take a frame, bufs the buffer addresses of the next RX descriptors. -/
    egressFrame (t : Nat) (ready bufs : List Nat)
  | /-- STAGING (R192). After each used grant map the burst builder stages containers for a future frame by dequeuing frames. -/
    staging (t : Nat)
  | /-- TOKEN_REFILL (R186). At each multiple of 1,000 phase steps policer and shaper buckets refill. -/
    tokenRefill (t : Nat)
  | /-- TM_RESET (R199). TM_CMD RESET drops all frames and reinitialises CELLS, DESC, CREDIT and scheduler state. -/
    tmReset (t : Nat) (p : Port)
  | /-- FLUSH_QUEUE (R199). TM_CMD FLUSH_QUEUE drops the frames a queue held. q is the number written. -/
    flushQueue (t : Nat) (p : Port) (q : Nat)
  | /-- TEL_SEL (R207). A TEL_SEL write copies a queue's telemetry and may clear it. v is the word written. -/
    telSel (t : Nat) (p : Port) (v : Nat)
  | /-- KEY_IMPORT (R216). KEY_CMD IMPORT loads a wrapped or clear key into a slot. The operands are the IMP registers. -/
    keyImport (t : Nat) (p : Port)
  | /-- KEY_ERASE (R216). KEY_CMD ERASE empties a key slot. -/
    keyErase (t : Nat) (p : Port)
  | /-- UPSW_ARM (R221). A UPSW_HI write arms an upstream phase switch for a container. lo and hi are the words of the pair. -/
    upswArm (t : Nat) (p : Port) (cont lo hi : Nat)
  | /-- DRAINED (R222). NONCE.OPEN reaching 0 while UP_DRAIN is 1 raises DRAINED. -/
    drained (t : Nat)
  | /-- OAM_SET_ACTIVATE (R224). A KEYS trigger activates an OAM key set from its firing frame. -/
    oamSetActivate (t : Nat) (src : TrigSrc) (arg : Nat)
  | /-- HOST_BANK_ACTIVATE (R224). A KEYS trigger activates a host key bank for later jobs. -/
    hostBankActivate (t : Nat) (src : TrigSrc) (arg : Nat)
  | /-- DOORBELL (R433). A BAR2 doorbell write sets a ring's TAIL or is discarded as DB_BAD. off is the offset in BAR2; word32: a 32-bit write. -/
    doorbell (t : Nat) (off v : Nat) (word32 : Bool)
  | /-- HOST_JOB (R229). Seat 3 fetches a job descriptor from a ring and checks it before requesting an engine. desc is the descriptor's 64 bytes, ctx the bytes CTX_ADDR names. -/
    hostJob (t : Nat) (desc ctx : List Nat)
  | /-- HOST_JOB_DONE (R230). A job ends and its completion with STATUS is written in ring order. The AAD and the tag the DMA read for the ring's oldest job; rdErr, wrErr: a DMA read, a DMA write failed. -/
    hostJobDone (t : Nat) (ring : Nat) (aad tag : List Nat) (rdErr wrErr : Bool)
  | /-- DEALER_ROUND (R232). In a round the Dealer grants the lowest grantable engine to the highest-priority requesting seat. x: what the seats tell the Dealer (R233). -/
    dealerRound (t : Nat) (x : Declared)
  | /-- ENGINE_RELEASE (R231). A seat releases an engine at the end of its hand, grantable next cycle. h: the hand that ends. -/
    engineRelease (t : Nat) (h : HandEnd)
  | /-- DEALER_RECLAIM (R234). An engine held WDOG cycles is reclaimed to POOL and the seat's work fails. -/
    dealerReclaim (t : Nat) (engine : Nat)
  | /-- PIN_CFG_WRITE (R246). A PIN_CFG write assigns a crosspoint pin's role and owner after its checks. v is the word written. -/
    pinCfgWrite (t : Nat) (w : Writer) (pin v : Nat)
  | /-- EXC_CFG_WRITE (R248). An EXC_CFG write configures or enables an excitation pair after its checks. v is the word written. -/
    excCfgWrite (t : Nat) (w : Writer) (pair v : Nat)
  | /-- EXC_REVERSAL (R249). At each REV_PERIOD frame boundary a reversing pair exchanges EXC_P and EXC_N. -/
    excReversal (t : Nat) (pair : Nat)
  | /-- EXC_GUARD_FRAME (R251). Each frame the pair guard judges current and sense and may raise EXC_FAULT. current in µA, pm the sensed voltage in per mille of the driven one, limited: the current limiter acts. -/
    excGuardFrame (t : Nat) (pair current pm : Nat) (limited : Bool)
  | /-- EXC_TIMEOUT (R251). A pair in current limit for TIMEOUT frames is switched off with STATE FAULT. -/
    excTimeout (t : Nat) (pair : Nat)
  | /-- SLICE_SAMPLE (R254). A slice delivers a sample with its end SC and flags on its grid. raw is 2^31 G Vd / Vref of the support's weighted input, rounded; cm the input common mode in mV. -/
    sliceSample (t : Nat) (slice : Nat) (raw : Int) (cm : Nat)
  | /-- SLICE_STALL (R255). No sample for TIMEOUT frames fails the slice guard with STALL. -/
    sliceStall (t : Nat) (slice : Nat)
  | /-- BLANK_TRIGGER (R258). A unit 0x30 trigger opens a blanking window on a group under its policy. occ is the trigger's occurrence SC in phase steps. -/
    blankTrigger (t : Nat) (src : TrigSrc) (occ action arg : Nat)
  | /-- AFE_BLANK (R258). AFE_CMD BLANK opens a blanking window from its acceptance SC. v is the word written to AFE_CMD. -/
    afeBlank (t : Nat) (w : Writer) (v : Nat)
  | /-- BLANK_WINDOW_END (R256). A blanking window closes at its end. 8 names the pin window. -/
    blankWindowEnd (t : Nat) (group : Nat)
  | /-- BLANK_EDGE (R259). A filtered BLANK rising edge opens the pin window and counts as a trigger. -/
    blankEdge (t : Nat)
  | /-- BLANK_FALL (R259). A filtered BLANK fall starts the POST-frame closing of the pin window. -/
    blankFall (t : Nat)
  | /-- BLANK_STUCK (R259). BLANK held high for TIMEOUT ticks is treated as low. -/
    blankStuck (t : Nat)
  | /-- TRIG_IN_EDGE (R260). A filtered TRIG_IN edge sends its routed trigger or is refused by the guard. level is the filtered level of pin n after the edge. -/
    trigInEdge (t : Nat) (n : Nat) (level : Bool)
  | /-- SHADOW (R263). SWAP_CMD SHADOW makes a DUMMY or SPARE slice shadow an active slice. -/
    shadow (t : Nat) (w : Writer) (x a : Nat)
  | /-- SHADOW_RELEASE (R263). SWAP_CMD RELEASE ends shadowing. -/
    shadowRelease (t : Nat) (w : Writer) (x : Nat)
  | /-- TAKEOVER (R263). SWAP_CMD TAKEOVER is accepted for a settled shadow. -/
    takeover (t : Nat) (w : Writer) (x a result : Nat)
  | /-- TAKEOVER_APPLY (R263). At the next sample end the shadow becomes ACTIVE with the USER and SWAP_DONE is raised. -/
    takeoverApply (t : Nat)
  | /-- LOOP_UPDATE (R268). A unit 0x5C trigger updates a loop output's SETPOINT from its source. arg is the loop. -/
    loopUpdate (t : Nat) (src : TrigSrc) (arg : Nat)
  | /-- HOST_HI_WRITE (R268). A HOST_HI write updates a HOST-sourced loop as a command trigger. n is the loop, v the word written to its HOST_HI. -/
    hostHiWrite (t : Nat) (p : Port) (n v : Nat)
  | /-- LOOP_CONTROL (R265). Once per frame the loop controller adjusts DRV and the loop guard judges the current. cur is the current in µA measured at the loop's FB pin. -/
    loopControl (t : Nat) (n cur : Nat)
  | /-- LOOP_STALE (R266). STALE ticks without an update drive the fault current. -/
    loopStale (t : Nat) (n : Nat)
  | /-- WEIGH_OUTPUT (R275). A weigh channel delivers an output on its SC grid with FILL and flags. -/
    weighOutput (t : Nat) (chan : Nat)
  | /-- NOTCH_FENCE_HELD (R278). A notch pushed past a bound for FENCE_TICKS ticks raises FENCE_HELD. -/
    notchFenceHeld (t : Nat) (chan notch : Nat)
  | /-- ZERO_STALE (R285). Stale time exceeding ZT_STALE_LIMIT sets ZERO_STALE and starts the drift bound. -/
    zeroStale (t : Nat) (set : Nat)
  | /-- ZERO (R283). SET_CMD ZERO is checked and queued for the next commit cycle. -/
    zero (t : Nat) (p : Port) (set : Nat)
  | /-- TARE (R287). SET_CMD TARE is checked and queued for the next commit cycle. -/
    tare (t : Nat) (p : Port) (set : Nat)
  | /-- PRESET_TARE (R287). SET_CMD PRESET_TARE is checked and queued for the next commit cycle. The argument is the one the set's CMD_ARG holds. -/
    presetTare (t : Nat) (p : Port) (set : Nat)
  | /-- CLEAR_TARE (R287). SET_CMD CLEAR_TARE is queued for the next commit cycle. -/
    clearTare (t : Nat) (p : Port) (set : Nat)
  | /-- SET_CMD_EXECUTE (R299). At the commit cycle a pending SET_CMD runs its STATE checks and executes. -/
    setCmdExecute (t : Nat) (set : Nat)
  | /-- CONVERT (R290). A CONVERT trigger starts, queues, merges or restarts a weighing window on a set. occ is the trigger's occurrence SC in phase steps. -/
    convert (t : Nat) (src : TrigSrc) (chan occ action arg : Nat)
  | /-- WCH_CONVERT (R300). WCH_CMD CONVERT issues a command CONVERT trigger. -/
    wchConvert (t : Nat) (p : Port) (chan arg : Nat)
  | /-- WIN_DONE (R290). The last output of a window completes the window result. -/
    winDone (t : Nat) (set : Nat)
  | /-- DE_CHECK (R293). A double-entry dwell ends and the dummy's comparison is judged. -/
    deCheck (t : Nat)
  | /-- SEQUENCE (R305). A unit 0x5A SEQUENCE trigger starts, queues, merges or restarts a shot sequence. occ is the trigger's occurrence SC in phase steps. -/
    sequence (t : Nat) (src : TrigSrc) (occ action arg : Nat)
  | /-- USX_SEQUENCE_CMD (R329). USX_CMD SEQUENCE issues a command SEQUENCE trigger. -/
    usxSequenceCmd (t : Nat) (p : Port) (arg : Nat)
  | /-- USX_SHOT (R306). At a slot a burst is sent and its arrival timed by the transit clock. stamps are the zero crossings in 10 ps counts, amp the amplitude in mV. -/
    usxShot (t : Nat) (stamps : List Nat) (amp : Nat)
  | /-- DISCHARGE (R314). At a temperature slot a DISCH port is charged and its discharge time measured. time is the discharge time in 10 ps counts. -/
    discharge (t : Nat) (time : Nat)
  | /-- SEQUENCE_END (R306). A sequence ends, its result is queued and a pending trigger starts. -/
    sequenceEnd (t : Nat)
  | /-- TEMP_HOLD_EXPIRE (R315). T_HOLD seconds after an RTD fault T_MED becomes invalid. -/
    tempHoldExpire (t : Nat) (port : Nat)
  | /-- GET_LEGAL_ID (R334). The GET_LEGAL_ID service returns the identification fields. -/
    getLegalId (t : Nat)
  | /-- ID_COMPUTE_DONE (R334). The LEGAL_ID computation ends and ID_VALID becomes 1. -/
    idComputeDone (t : Nat)
  | /-- LOG_READ (R352). The LOG_READ service returns one audit log entry. -/
    logRead (t : Nat)
  | /-- SESSION_START (R340). SESSION_START returns a fresh NONCE, SERIAL and ID_CRC in ARMED. -/
    sessionStart (t : Nat)
  | /-- SESSION_RESPONSE (R340). SESSION_RESPONSE is compared and opens the seal or fails with AUTH. -/
    sessionResponse (t : Nat)
  | /-- PARAM_READ (R341). Session PARAM_READ returns an edit-buffer record. -/
    paramRead (t : Nat)
  | /-- PARAM_WRITE (R341). Session PARAM_WRITE writes an edit-buffer record. -/
    paramWrite (t : Nat)
  | /-- COMMIT (R345). Session COMMIT checks and starts a calibration commit of the edit buffer. -/
    commit (t : Nat)
  | /-- CAL_COMMIT_DONE (R346). The calibration commit completes, parameters apply and CAL_COMMIT is logged. -/
    calCommitDone (t : Nat)
  | /-- SESSION_DISCARD (R341). Session DISCARD reloads the edit buffer from the active bank. -/
    sessionDiscard (t : Nat)
  | /-- ROLLOVER (R356). Session ROLLOVER erases the audit log after the final CHAIN is proved. -/
    rollover (t : Nat)
  | /-- SESSION_CLEAR_BREAK (R341). Session CLEAR_BREAK clears a MONEY, MASS or VOL break once balanced. -/
    sessionClearBreak (t : Nat)
  | /-- SESSION_CLOSE (R337). Session CLOSE ends the seal session and discards the edit buffer. -/
    sessionClose (t : Nat)
  | /-- SESSION_TIMEOUT (R337). SESSION_TIMEOUT seconds without an accepted command end the session. -/
    sessionTimeout (t : Nat)
  | /-- STC_IMAGE_CHECK (R336). The LGC accepts or refuses an STC image header. -/
    stcImageCheck (t : Nat)
  | /-- SEAL_SW_EDGE (R337). A filtered SEAL_SW change moves the seal between CLOSED and ARMED and may end a session. -/
    sealSwEdge (t : Nat)
  | /-- SEAL_LEFT_OPEN (R338). SEAL_SW high for OPEN_TIMEOUT without a session is logged as LEFT_OPEN. -/
    sealLeftOpen (t : Nat)
  | /-- TAMPER (R339). A filtered TAMPER_N assertion ends any session and is counted and logged. on is its assertion. -/
    tamper (t : Nat) (on : Bool)
  | /-- VRES_SAMPLE (R347). VRES_SNS is sampled each frame and the VRES guard judged. mv is the sampled voltage in mV. -/
    vresSample (t : Nat) (mv : Nat)
  | /-- TOTALS_COMMIT (R349). A totals commit writes the next journal slot, or defers when VRES is not satisfied. -/
    totalsCommit (t : Nat)
  | /-- READ_POS (R359). A READ_POS write loads an audit log entry into the ALOG window. -/
    readPos (t : Nat) (p : Port) (pos : Nat)
  | /-- LGC_HALT (R25). LGC_STATE becomes HALTED, legal values carry NFT, the switch ramps off and legal entries stop. reason is the code logged at the next boot (R25). -/
    lgcHalt (t : Nat) (reason : Nat)
  | /-- SELFTEST_DONE (R489). The LGC finishes SELFTEST and enters RUN at the next commit cycle. romOk says whether ROM_CRC matches the fused value (R334). -/
    selftestDone (t : Nat) (romOk : Bool)
  | /-- DELIVERY_OPEN (R371). DELIVERY_OPEN checks and opens a delivery and schedules the connect. -/
    deliveryOpen (t : Nat)
  | /-- DELIVERY_STOP (R371). DELIVERY_STOP stops the open delivery with reason STOP. -/
    deliveryStop (t : Nat)
  | /-- TOPUP (R369). A CREDIT body with OP TOPUP loads credit, repaying emergency credit first. -/
    topup (t : Nat)
  | /-- EXPIRE (R369). A CREDIT body with OP EXPIRE writes off balance. -/
    expire (t : Nat)
  | /-- ACCOUNT_CLOSE (R369). A CREDIT body with OP CLOSE expires the balance and closes the account. -/
    accountClose (t : Nat)
  | /-- ACCOUNT_OPEN (R369). A CREDIT body with OP OPEN opens and arms an account. -/
    accountOpen (t : Nat)
  | /-- PRICE_STAGE (R368). The PRICE service stages a rate's prices with an activation frame. -/
    priceStage (t : Nat)
  | /-- EMERGENCY (R370). The EMERGENCY service activates an account's emergency credit. -/
    emergency (t : Nat)
  | /-- ACTIVATE_PRICES (R368). A unit 0x68 trigger copies the staged price table into the active one. occ is the occurrence SC in phase steps. -/
    activatePrices (t : Nat) (src : TrigSrc) (occ arg : Nat)
  | /-- TARF_EVALUATE (R366). A TARF trigger causes the rate and friendly state to be re-evaluated. occ is the occurrence SC in phase steps. -/
    tarfEvaluate (t : Nat) (src : TrigSrc) (occ arg : Nat)
  | /-- PREP_EVALUATE (R366). A PREP EVALUATE trigger causes the friendly state to be re-evaluated. occ is the occurrence SC in phase steps. -/
    prepEvaluate (t : Nat) (src : TrigSrc) (occ arg : Nat)
  | /-- ARM (R374). An ARM trigger arms every open account with positive balance. occ is the occurrence SC in phase steps. -/
    arm (t : Nat) (src : TrigSrc) (occ arg : Nat)
  | /-- DELIVERY_CLOSE (R372). A stopping delivery closes after SETTLE once its value is stable, or at SETTLE_MAX. -/
    deliveryClose (t : Nat)
  | /-- DELIVERY_BOOK (R373). After seat 2 signs the record the delivery is booked and charged. -/
    deliveryBook (t : Nat)
  | /-- UNATTRIBUTED_CLOSE (R375). An unattributed delivery closes after UNATTR_IDLE idle ticks and is booked. -/
    unattributedClose (t : Nat)
  | /-- CONNECT (R396). A CONNECT trigger starts RAMP_UP from OFF or is merged or refused. -/
    connect (t : Nat) (src : TrigSrc) (arg : Nat)
  | /-- DISCONNECT (R396). A DISCONNECT trigger ramps the switch off or ends a retry. -/
    disconnect (t : Nat) (src : TrigSrc) (arg : Nat)
  | /-- SET_TOTAL (R396). A SET_TOTAL trigger writes TOTAL_LIMIT if acceptable. -/
    setTotal (t : Nat) (src : TrigSrc) (arg : Nat)
  | /-- SWITCH_SAMPLE (R383). Every microsecond the switch samples VIN, VOUT and shunts and judges trips and phases. vin and vout in mV, v the shunt voltages in nV and cm ISNSpP in mV by phase. -/
    switchSample (t : Nat) (vin vout : Nat) (v : List Int) (cm : List Nat)
  | /-- FAST_TRIP (R387). The analogue comparator hard-offs the switch within 1 µs on a shunt overvoltage. -/
    fastTrip (t : Nat) (phase : Nat)
  | /-- RAMP_TIMEOUT (R385). RAMP_MAX frames in RAMP_UP without ON trip the switch. -/
    rampTimeout (t : Nat)
  | /-- RAMP_OFF_DONE (R386). A ramp-off completes and the switch enters OFF. -/
    rampOffDone (t : Nat)
  | /-- RETRY_BACKOFF_END (R388). The backoff after a trip ends and the switch re-enters RAMP_UP. -/
    retryBackoffEnd (t : Nat)
  | /-- RETRY_COUNT_RESET (R388). RESET_TICKS consecutive commit cycles in ON reset the retry count. -/
    retryCountReset (t : Nat)
  | /-- PWR_WARN_ASSERT (R391). A filtered PWR_WARN_N assertion is counted, guarded and raises PWR_WARN. -/
    pwrWarnAssert (t : Nat)
  | /-- PWR_WARN_DEASSERT (R391). A filtered PWR_WARN_N deassertion clears dying gasp. -/
    pwrWarnDeassert (t : Nat)
  | /-- WARN_STUCK (R391). PWR_WARN_N low for TIMEOUT ticks undriven makes the comparator the filtered level. -/
    warnStuck (t : Nat)
  | /-- WELD_CHECK (R392). Each frame while off, VOUT is checked and WELDED set or cleared. -/
    weldCheck (t : Nat)
  | /-- CLEAR_LATCH (R400). SW_CMD CLEAR_LATCH moves LATCHED to OFF. -/
    clearLatch (t : Nat) (p : Port)
  | /-- PHASE_CLEAR (R400). SW_CMD PHASE_CLEAR clears a phase's OPEN and SENSE_LOST. -/
    phaseClear (t : Nat) (p : Port) (phase : Nat)
  | /-- POWER_REQUEST (R408). PWR_CMD REQUEST from the STC starts a state change after its checks. -/
    powerRequest (t : Nat) (p : Port) (target : Nat)
  | /-- POWER_TRIGGER (R408). A unit 0x78 REQUEST trigger starts a state change or is refused. -/
    powerTrigger (t : Nat) (src : TrigSrc) (action arg : Nat)
  | /-- CTL_CLK (R417). PWR_CMD CTL_CLK moves the controllers to PRIOR's controller clock after a wake. -/
    ctlClk (t : Nat) (p : Port)
  | /-- QUIESCE_DONE (R410). Seats release their engines or QUIESCE_MAX passes and entry continues to the clock step. -/
    quiesceDone (t : Nat)
  | /-- WAKE_EDGE (R416). A filtered WAKE0 or WAKE1 edge is guarded and wakes the TS44 or is counted. level is the new filtered level. -/
    wakeEdge (t : Nat) (pin : Nat) (level : Bool)
  | /-- WAKE_STUCK (R416). A wake pin active for TIMEOUT seconds is treated as STUCK. -/
    wakeStuck (t : Nat) (pin : Nat)
  | /-- RTC_ALARM (R415). The RTC count reaching RTC_ALARM wakes from HIBERNATE. -/
    rtcAlarm (t : Nat)
  | /-- ADDRESS_MATCH (R449). The Dome matcher NACKs a matching two-wire address and latches a wake. addr is the address the byte carries. -/
    addressMatch (t : Nat) (addr : Nat)
  | /-- HOST_WAKE (R415). A HOST_WAKE write wakes from DOZE or NAP. -/
    hostWake (t : Nat) (p : Port)
  | /-- WAKE_CLOCK_RESTORE (R417). Once the voltage is acknowledged and the PLL locked, clocks and lanes return and STATE takes PRIOR. -/
    wakeClockRestore (t : Nat)
  | /-- HIBERNATE_EXIT (R418). The Dome runs the fixed power-up table to leave HIBERNATE. As RESET_RELEASE. -/
    hibernateExit (t : Nat) (failed : List Nat) (a b : List (List Nat))
  | /-- RAIL_TIMEOUT (R418). Rails not present within RAIL_TIMEOUT keep the Dome in HIBERNATE. -/
    railTimeout (t : Nat)
  | /-- WAKE_POP (R427). A WAKE_POP write removes the oldest WAKE_LOG entry. -/
    wakePop (t : Nat) (p : Port)
  | /-- VREG_ACK (R422). A VOUT_COMMAND is acknowledged by PGOOD or read-back and ACK_MV updated. mv is READ_VOUT in mV. -/
    vregAck (t : Nat) (mv : Nat)
  | /-- VREG_ACK_TIMEOUT (R422). No acknowledgement within ACK_TIMEOUT_US fails the request, possibly latching FAILED. status is STATUS_WORD as it is read then. -/
    vregAckTimeout (t : Nat) (status : Nat)
  | /-- PGOOD_LOST (R422). VREG_PGOOD falling with no request in flight raises PGOOD_LOST. -/
    pgoodLost (t : Nat)
  | /-- VREG_ENABLE (R421). Writing VREG EN = 1 reads VOUT_MODE and enables voltage control. v is the word written to VREG_CTL, mode the VOUT_MODE byte read. -/
    vregEnable (t : Nat) (p : Port) (v mode : Nat)
  | /-- RAIL_OUT_OF_WINDOW (R424). A rail outside its window for 4 samples sets RAIL_SEEN and raises SUPPLY. now is RAILS_NOW of the sample. -/
    railOutOfWindow (t : Nat) (now : Nat)
  | /-- THERMAL_FORCED_TRIM (R425). Four samples at or above TH_CRIT in RUN force TRIM. -/
    thermalForcedTrim (t : Nat)
  | /-- PERST_ASSERT (R431). PERST_N low resets the PCIe core, HOST page and rings and releases PCIe locks. rxPartial and txPartial say whether an RX frame was not fully written and a TX frame not fully read. -/
    perstAssert (t : Nat) (rxPartial txPartial : Bool)
  | /-- HOT_RESET (R431). A PCIe hot reset acts as PERST_N. As PERST_ASSERT. -/
    hotReset (t : Nat) (rxPartial txPartial : Bool)
  | /-- FUNCTION_LEVEL_RESET (R431). An FLR resets the HOST page, rings and MSI-X state. As PERST_ASSERT. -/
    functionLevelReset (t : Nat) (rxPartial txPartial : Bool)
  | /-- HOST_TX_FRAME (R436). A frame read whole from a TX ring enters source 18. The frame's descriptors of 16 bytes and its bytes; err: a read failed. -/
    hostTxFrame (t : Nat) (descs : List (List Nat)) (data : List Nat) (err : Bool)
  | /-- ETH_LINK_UP (R438). LINK_FILTER ticks of clean block lock raise an Ethernet link. -/
    ethLinkUp (t : Nat) (port : Nat)
  | /-- ETH_LINK_DOWN (R438). Loss of block lock or hi_ber drops an Ethernet link. hiBer says that hi_ber dropped the link, not a loss of block lock. -/
    ethLinkDown (t : Nat) (port : Nat) (hiBer : Bool)
  | /-- STC_BOOT (R441). The loader selects and boots an STC image. a and b are the 64-byte headers as read, aOk and bOk whether the slots' CRCs hold. -/
    stcBoot (t : Nat) (a b : List Nat) (aOk bOk : Bool)
  | /-- STC_KICK (R442). An STC_KICK write completes a boot or feeds the STC watchdog. -/
    stcKick (t : Nat) (p : Port)
  | /-- STC_WDOG_EXPIRE (R442). No kick within STC_WDOG restarts the STC. -/
    stcWdogExpire (t : Nat)
  | /-- BOOT_TIMEOUT (R441). No first kick within BOOT_TIMEOUT fails the boot. -/
    bootTimeout (t : Nat)
  | /-- STC_RESTART (R442). STC_CMD RESTART from PCIe restarts the STC preferring SLOT. -/
    stcRestart (t : Nat) (p : Port) (slot : Nat)
  | /-- FL_GO (R443). FL_GO sends one flash command through the window. -/
    flGo (t : Nat) (p : Port)
  | /-- FL_DONE (R462). A flash window command completes and raises FL_DONE. data are the bytes read. -/
    flDone (t : Nat) (data : List Nat)
  | /-- TWO_WIRE_WRITE (R446). A two-wire write transaction executes its groups as 32-bit writes at STOP. addr is the 7-bit address sent, bytes are the bytes after the address byte up to STOP or repeated START. -/
    twoWireWrite (t : Nat) (addr : Nat) (bytes : List Nat) (x : Outside)
  | /-- TWO_WIRE_READ (R446). A two-wire read returns 32-bit words from OFF upward. head holds the bytes of the write part after its address byte, n is the number of words whose first byte the target was asked for. -/
    twoWireRead (t : Nat) (addr : Nat) (head : Option (List Nat)) (n : Nat)
  | /-- SCL_TIMEOUT (R445). SCL held low for SCL_TIMEOUT abandons the transaction. -/
    sclTimeout (t : Nat)
  | /-- TWC_GO (R452). TWC_GO runs an STC two-wire controller transaction. -/
    twcGo (t : Nat) (p : Port)
  | /-- TWC_DONE (R452). The controller transaction ends with RESULT and CMD_DONE. result as RESULT of R452, data the bytes read. -/
    twcDone (t : Nat) (result : Nat) (data : List Nat)
  | /-- MODULE_POLL (R451). Every POLL_TICKS the controller reads module status, marking STALE after failures. result as RESULT of R452, data the bytes read. -/
    modulePoll (t : Nat) (result : Nat) (data : List Nat)
  | /-- REQ_POST (R453). REQ_POST sends a mailbox request to the LGC or STC. w is the window: 0 PCIe, 1 STC, 2 two-wire. -/
    reqPost (t : Nat) (p : Port) (w : Nat)
  | /-- RSP_ACK (R453). RSP_ACK clears a window's answer and OUTSTANDING. w is the window. -/
    rspAck (t : Nat) (p : Port) (w : Nat)
  | /-- OUT_POST (R455). The STC answers a window's request with OUT_POST. -/
    outPost (t : Nat) (p : Port)
  | /-- STC_RSP_TIMEOUT (R455). An STC request unanswered within STC_RSP_TIMEOUT is answered STATE by hardware. w is the window. -/
    stcRspTimeout (t : Nat) (w : Nat)
  | /-- EVT_POST (R456). Writing EVT_POST_DATA word 1 posts an STC event to the host queue. v is the word written to EVT_POST_DATA[1]. -/
    evtPost (t : Nat) (p : Port) (v : Nat)
  | /-- EVT_POP (R456). EVT_POP removes the head host event. -/
    evtPop (t : Nat) (p : Port)
  | /-- OEV_POP (R463). OEV_POP removes the head Orrery event for the STC. -/
    oevPop (t : Nat) (p : Port)
  | /-- STC_EVENT (R456). A unit 0xF0 trigger queues an event for the STC. occ is the occurrence SC in phase steps. -/
    stcEvent (t : Nat) (src : TrigSrc) (occ action arg : Nat)
  | /-- GET_INFO (R457). STC command GET_INFO returns image and boot information. w is the window whose request it is. -/
    getInfo (t : Nat) (w : Nat)
  | /-- POWER (R457). STC command POWER applies policy and writes PWR_CMD REQUEST. w is the window whose request it is. -/
    power (t : Nat) (w : Nat)
  | /-- POLICY_SET (R457). STC command POLICY_SET sets AUTO_TRIM and LINE_HOLD. w is the window whose request it is. -/
    policySet (t : Nat) (w : Nat)
  | /-- MODULE_READ (R457). STC command MODULE_READ reads module registers over the controller. w is the window whose request it is. -/
    moduleRead (t : Nat) (w : Nat)
  | /-- MODULE_WRITE (R457). STC command MODULE_WRITE writes module registers over the controller. w is the window whose request it is. -/
    moduleWrite (t : Nat) (w : Nat)
  | /-- PM_REPORT (R457). STC command PM_REPORT sends a PM record upstream. w is the window whose request it is. -/
    pmReport (t : Nat) (w : Nat)
  | /-- OAM_SEND (R457). STC command OAM_SEND sends an STC_REPLY upstream. w is the window whose request it is. -/
    oamSend (t : Nat) (w : Nat)
  | /-- REPAIR_FORWARD (R482). STC command REPAIR with OP 1 to 4 is passed to RPR_CMD. cell is the place of a packet buffer row's cell. -/
    repairForward (t : Nat) (w : Nat) (cell : CellAt)
  | /-- REPAIR_REPORT (R482). STC command REPAIR with OP REPORT returns SPARES_LEFT. -/
    repairReport (t : Nat) (w : Nat)
  | /-- IMAGE_BEGIN (R457). STC command IMAGE_BEGIN checks a header and erases the inactive slot. w is the window whose request it is. -/
    imageBegin (t : Nat) (w : Nat)
  | /-- IMAGE_DATA (R457). STC command IMAGE_DATA writes body bytes. w is the window whose request it is. -/
    imageData (t : Nat) (w : Nat)
  | /-- IMAGE_COMMIT (R457). STC command IMAGE_COMMIT checks the CRC and writes the header last. w is the window whose request it is. -/
    imageCommit (t : Nat) (w : Nat)
  | /-- ACTIVATION_ENABLE (R457). STC command ACTIVATION with 1 enables ACTV. w is the window whose request it is. -/
    activationEnable (t : Nat) (w : Nat)
  | /-- ACTIVATION_DISABLE (R457). STC command ACTIVATION with 2 disables ACTV. w is the window whose request it is. -/
    activationDisable (t : Nat) (w : Nat)
  | /-- ACTIVATION_REJOIN (R457). STC command ACTIVATION with 3 issues REJOIN. w is the window whose request it is. -/
    activationRejoin (t : Nat) (w : Nat)
  | /-- RECORD_FORWARD (R457). STC command RECORD_FORWARD switches forwarding of delivery records. w is the window whose request it is. -/
    recordForward (t : Nat) (w : Nat)
  | /-- CORRECTED_ERROR (R469). A SECDED corrected error is counted and may make its row due. kind, inst and row name the memory row (R464), col the failing bit, cell the place of a packet buffer row's cell. -/
    correctedError (t : Nat) (kind inst row col : Nat) (cell : CellAt)
  | /-- UNCORRECTABLE_ERROR (R470). An uncorrectable error makes its row due, latches UE and drops or sends the affected data. entry is the Almanac row's entry 0 to 15; use is what read the word. -/
    uncorrectableError (t : Nat) (kind inst row entry : Nat) (cell : CellAt) (use : CellUse)
  | /-- ROW_TEST_DONE (R471). A quarantined buffer row's test ends and the row is freed, remapped or kept quarantined. pass: the four patterns read back. -/
    rowTestDone (t : Nat) (bank row : Nat) (pass : Bool)
  | /-- ROW_COPY_DONE (R472). A row copy to a spare ends and the spare switches in. -/
    rowCopyDone (t : Nat) (kind row : Nat)
  | /-- COLUMN_COPY_DONE (R473). A column repair copy ends and the spare column switches in. -/
    columnCopyDone (t : Nat)
  | /-- ENGINE_TEST (R474). The sweeper tests an idle engine and retires it on failure. -/
    engineTest (t : Nat) (engine : Nat) (pass : Bool)
  | /-- SLICE_TEST (R475). The sweeper tests a SPARE slice and raises SLICE_TEST_FAIL on failure. -/
    sliceTest (t : Nat) (slice : Nat) (pass : Bool)
  | /-- RPR_TEST (R481). RPR_CMD TEST runs a resource test now. cell is the place of a packet buffer row's cell. -/
    rprTest (t : Nat) (p : Port) (kind inst idx : Nat) (cell : CellAt)
  | /-- RPR_RETIRE (R481). RPR_CMD RETIRE takes the repair path for a resource now. cell is the place of a packet buffer row's cell. -/
    rprRetire (t : Nat) (p : Port) (kind inst idx : Nat) (cell : CellAt)
  | /-- RPR_COLUMN (R481). RPR_CMD COLUMN starts a column repair. -/
    rprColumn (t : Nat) (p : Port) (kind inst idx : Nat)
  | /-- CE_CLEAR (R481). RPR_CMD CE_CLEAR empties the CE table. -/
    ceClear (t : Nat) (p : Port)
  | /-- REC_POP (R478). REC_POP removes the oldest queued repair record. -/
    recPop (t : Nat) (p : Port)
  | /-- MARGIN_LOW (R480). SLACK_WORST below SLACK_MIN for 4 ticks raises MARGIN_LOW. k is the monitor. -/
    marginLow (t : Nat) (k : Nat)
  | /-- RESET_ASSERT (R484). A filtered low RESET_N holds the die in reset with pins in their reset states. -/
    resetAssert (t : Nat)
  | /-- RESET_RELEASE (R486). The rising RESET_N starts clocks, samples straps, runs known-answer tests and the repair loader. up and down are the straps as the two pulls read them; failed the engines that fail their known-answer tests; a and b the 16-byte entries of the halves of the flash repair region. -/
    resetRelease (t : Nat) (up down : Nat) (failed : List Nat) (a b : List (List Nat))
  | /-- FABRIC_READY (R486). At F the ledgers initialise, CLK_CORE moves to the PLL and the fabric answers. -/
    fabricReady (t : Nat)
  | /-- VAON_POR (R498). VAON below 1.55 V holds the whole die in reset. -/
    vaonPor (t : Nat)
  | /-- TAP_INSTRUCTION (R517). A TAP instruction other than BYPASS, IDCODE or SAMPLE/PRELOAD latches COND_LOST.TEST and may hard-off the switch. tlr: the TAP returns to Test-Logic-Reset. -/
    tapInstruction (t : Nat) (code : Nat) (tlr : Bool)
  | /-- TEST_EN_ASSERT (R503). A filtered high TEST_EN latches COND_LOST.TEST. e: the core cycle and the level that the filter has reached. -/
    testEnAssert (e : PinAt)
  | /-- RANGE_RECOVERY (R519). A sliding-interval edge guard (MOD_SD, BLANK, SEAL_SW, PWR_WARN_N, WAKEn) recovers from CHATTER at the first instant its count over the interval falls to the limit, ending its substitute. -/
    rangeRecovery (t : Nat) (guard : Guard)
  | /-- TOTALS_COMMIT_DONE (R349). A totals commit writes its commit word up to 250 µs after it started, making the booking durable and letting HIBERNATE entry continue to H4. -/
    totalsCommitDone (t : Nat)
  | /-- ROLLOVER_DONE (R356). The audit-log erase of a ROLLOVER completes up to 50 ms later, LOG_ROLLOVER is written and the ROLLOVER is answered. -/
    rolloverDone (t : Nat)
  | /-- PCIE_LINK_DOWN (R458). The PCIe link goes down or retrains, clearing HOST_STATUS.LINK_UP and raising PCIE_LINK_DOWN. speed is 1 to 3 where the link retrains and 0 where it stays down; width is as HOST_STATUS.WIDTH gives it. -/
    pcieLinkDown (t : Nat) (speed width : Nat)
  | /-- D3HOT (R431). A PCIe configuration write puts the function in D3hot, stopping DMA and MSI-X while the rest runs on. d3 is the power state written, funcMask the MSI-X function mask. -/
    d3hot (t : Nat) (d3 funcMask : Bool)
  deriving DecidableEq, Repr

end Sys2Proof
end

