-- ==== Sys2Proof/Decode.lean ====
section
/-! DEFINITION. The words of the opcode table: the table gives no row any bits, so no word spells a command. -/
namespace Sys2Proof

/-- The command a table word spells. Every row of the opcode table has an empty field list, so the answer is none. -/
def decodeTableWord (_nbits _w : Nat) : Option Instr := none

end Sys2Proof
end

