-- ==== Sys2Proof/Config.lean ====
section
/-! DEFINITION. The free values of the model: constants with no body, so that no proof can use what they are.
Each stands for something the spec leaves open; the assumption log names each of them. -/
namespace Sys2Proof.Config

/-- Cycles a fabric command stays BUSY, counted by the n-th command; the rules give only an upper bound (R49, R126,
R269, R400), which Ops applies. Log 6. -/
opaque cmdCycles : Nat → Nat

/-- A key the die derives from its fused device secret, by slot (R214). Log 16. -/
opaque deviceKey : Nat → List Nat

/-- The serial-number slot drawn by the terminal's generator: seed, how many were drawn before (R153). Log 17. -/
opaque snDraw : Nat → Nat → Nat

/-- The SEQ of the n-th upstream message that ACTV builds of its own; R169 gives its other bytes. Log 20. -/
opaque upSeq : Nat → Nat

/-- Which way the n-th inexact result is rounded where the spec gives no rounding (R274, R310, R315 to R319, R325 to R328).
Log 25. -/
opaque roundUp : Nat → Bool

/-- The n-th output of a channel whose notches are not at rest; R277 gives no fixed-point arithmetic. Log 26. -/
opaque notchOutput : Nat → Int

/-- The frequency a notch's estimator asks for, in 0.01 Hz, at its n-th update; R278 leaves the estimator open. Log 27. -/
opaque notchAsk : Nat → Int

/-- The reference in mg that the n-th value formed while Z is unset is taken against; R283 gives Z no value then. Log 31. -/
opaque unsetZero : Nat → Int

/-- The mass in mg of the n-th window in which no value was formed; R290 gives it none. Log 32. -/
opaque emptyWindow : Nat → Int

/-- The n-th flow, speed or density whose formula the spec leaves without a result: two failed paths, no fallback, a divisor of 0
(R316 to R319). Log 33. -/
opaque noFlow : Nat → Int

/-- The rate of a moment to which the calendar gives none: no season is valid, or no switching time has come (R363, R364).
Log 28. -/
opaque openRate : Nat

/-- The n-th NONCE of a seal session, as a 128-bit number; R340 says only that it is new. Log 29. -/
opaque nonce : Nat → Nat

/-- A byte of the 256 KiB LGC mask ROM (R334). Log 30. -/
opaque rom : Nat → Nat

/-- ROM_VERSION (R334). Log 30. -/
opaque romVersion : Nat

/-- One code of a shunt reading, in nV; R394 speaks of it and no rule gives it. Log 36. -/
opaque shuntCode : Nat

/-- The 26 bytes that the STC's firmware puts into its n-th upstream report or forwarded record; R377 and R457 leave them to it.
Log 37. -/
opaque stcReport : Nat → List Nat

/-- The SEQ of the n-th message that the STC sends of its own (R457). Log 38. -/
opaque stcSeq : Nat → Nat

/-- The drive code that a loop's controller sets after a drive code, a SETPOINT and a current that differs from it (R265). Log 40. -/
opaque loopDrive : Nat → Nat → Nat → Nat

/-- The value of a loop source whose SRC_IDX names no weigh set or slice (R266, R271). Log 41. -/
opaque loopSource : Nat → Int

/-- The SERIAL that a repair record's MTAG covers: the LGC needs it before anything is written to the SERIAL register (R467, R468).
Log 42. -/
opaque serial : Nat

/-- Core cycles that a busy period of the two-wire bridge lasts, within the bound of R448, which states no length. Log 43. -/
opaque bridgeBusy : Nat → Nat

/-- The state that the training (13 stages) or idle (31 stages) generator of the transmit lanes starts from (R110). Log 200. -/
opaque prbsSeed : Nat → Nat

/-- The level that a transmit lane's precoder sent last before a core cycle, the idle pattern running before it (R105, R110). Log 200. -/
opaque lastLevel : Nat → Nat

/-- KEYLEN of an LGC key slot (R214, R332). Log 214. -/
opaque lgcKeylen : Nat → Nat

/-- The cipher blocks that a hand of seat 2 or 4 processes (R237). Log 215. -/
opaque handBlocks : Nat → Nat

/-- The event code and the 16 DATA bytes with which the LGC logs the n-th failed signing; the table of R354 has no such event (R234).
Log 216. -/
opaque signFailure : Nat → Nat × List Nat

/-- The context record that a key-wrap job saves: its descriptor before it. R227 gives KW no MODE. Log 217. -/
opaque kwRecord : List Nat → List Nat

end Sys2Proof.Config
end

