-- ==== Sys2Proof/Machine/RegMap.lean ====
section
/-! DEFINITION. The register map: one named field for every field of the spec's register tables, and per page the
list of rows the fabric reads and writes by (offset, bits, type, reset and stated range).
The rules are those that carry the tables: R3, R22, R23, R51 to R53, R67, R68, R73, R74, R90, R101, R125, R126, R145 to
R147, R172, R200 to R208, R237 to R240, R269 to R271, R297, R300, R329, R330, R358, R359, R378 to R380, R399, R427,
R428, R458 to R463, R483.
A reset value that the spec gives as fuse, totals, log, load or Dome is the model's own and is named in the assumption log. -/
namespace Sys2Proof

/-- A table row with the field's full range. -/
def row (f : Fld) (ty : RegTy) : Row := ⟨f, 0, 0, 1, 0, 1, ty, 0, f.top, []⟩
/-- A table row with a stated range. -/
def rowIn (f : Fld) (ty : RegTy) (mn mx : Nat) : Row := ⟨f, 0, 0, 1, 0, 1, ty, mn, mx, []⟩
/-- The row of one word of a pair: 1 the LO word, 2 the HI word (R72). -/
def Row.half (r : Row) (h : Nat) : Row := { r with word := h, vmin := 0, vmax := if h = 1 then 2 ^ 32 - 1 else 2 ^ (r.f.w - 32) - 1 }
/-- The first array index of a row: stride and count. -/
def Row.arr1 (r : Row) (s n : Nat) : Row := { r with s1 := s, n1 := n }
/-- The reset value of each instance. -/
def Row.per (r : Row) (l : List Nat) : Row := { r with resets := l }
/-- The second array index of a row: stride and count. -/
def Row.arr2 (r : Row) (s n : Nat) : Row := { r with s2 := s, n2 := n }

end Sys2Proof

namespace Sys2Proof.Machine

/-! Page SYS (0x00). -/
def SYS.WCH_COUNT : Fld := ⟨0x40, 27, 5, 0⟩
def SYS.SLICE_COUNT : Fld := ⟨0x40, 22, 5, 0⟩
def SYS.ENG_COUNT : Fld := ⟨0x40, 18, 4, 0⟩
def SYS.PHASE_COUNT : Fld := ⟨0x40, 15, 3, 0⟩
def SYS.LOOP_COUNT : Fld := ⟨0x40, 13, 2, 0⟩
def SYS.USX_PATHS : Fld := ⟨0x40, 10, 3, 0⟩
def SYS.VARIANT : Fld := ⟨0x40, 8, 2, 0⟩
def SYS.ETH1_PRESENT : Fld := ⟨0x40, 2, 1, 0⟩
def SYS.ETH0_PRESENT : Fld := ⟨0x40, 1, 1, 0⟩
def SYS.USX_PRESENT : Fld := ⟨0x40, 0, 1, 0⟩
def SYS.CORE_SRC : Fld := ⟨0x44, 30, 2, 0⟩
def SYS.PLL_LOCK : Fld := ⟨0x44, 29, 1, 0⟩
def SYS.FAST_GATED : Fld := ⟨0x44, 28, 1, 0⟩
def SYS.TICK_FRAME : Fld := ⟨0x44, 0, 5, 0⟩
def SYS.LGC_STATE : Fld := ⟨0x48, 28, 4, 0⟩
def SYS.STC_STATE : Fld := ⟨0x48, 24, 4, 0⟩
def SYS.STC_IMAGE : Fld := ⟨0x48, 23, 1, 0⟩
def SYS.STC_RESTARTS : Fld := ⟨0x48, 0, 16, 0⟩
def SYS.REFUSAL_COUNT : Fld := ⟨0x4C, 0, 32, 0⟩
def SYS.LAST_REFUSAL_WRITER : Fld := ⟨0x50, 30, 2, 0⟩
def SYS.LAST_REFUSAL_PAGE : Fld := ⟨0x50, 16, 8, 0⟩
def SYS.LAST_REFUSAL_SEQ : Fld := ⟨0x50, 0, 16, 0⟩
def SYS.REFUSAL_MASK : Fld := ⟨0x54, 8, 1, 1⟩
def SYS.REFUSED : Fld := ⟨0x54, 0, 1, 0⟩
def SYS.LOCK_LEASE : Fld := ⟨0x58, 0, 16, 400⟩
def SYS.LOCK_EXP_VALID : Fld := ⟨0x5C, 31, 1, 0⟩
def SYS.LOCK_EXP_OWNER : Fld := ⟨0x5C, 28, 2, 0⟩
def SYS.LOCK_EXP_PAGE : Fld := ⟨0x5C, 0, 8, 0⟩

/-! Page ATTN (0x01). -/
def ATTN.SUMMARY : Fld := ⟨0x1040, 0, 32, 0⟩
def ATTN.PIN_MASK : Fld := ⟨0x1044, 0, 32, 0⟩
def ATTN.STC_MASK : Fld := ⟨0x1048, 0, 32, 0⟩
def ATTN.EXT_LOW : Fld := ⟨0x104C, 8, 1, 0⟩
def ATTN.HOLDOFF : Fld := ⟨0x104C, 5, 1, 0⟩
def ATTN.ASSERTED : Fld := ⟨0x104C, 4, 1, 0⟩
def ATTN.DRIVE : Fld := ⟨0x104C, 0, 1, 0⟩
def ATTN.FIRST_VALID : Fld := ⟨0x1050, 31, 1, 0⟩
def ATTN.FIRST_BIT : Fld := ⟨0x1050, 0, 5, 0⟩
def ATTN.FIRST_SC : Fld := ⟨0x1054, 0, 64, 0⟩
def ATTN.ASSERT_COUNT : Fld := ⟨0x105C, 0, 32, 0⟩
def ATTN.PAGE_PEND (i : Nat) : Fld := ⟨0x1080 + 4 * i, 0, 32, 0⟩

/-! Page LEDG (0x02). -/
def LEDG.CMD_DOMAIN : Fld := ⟨0x2040, 8, 4, 0⟩
def LEDG.CMD_OP : Fld := ⟨0x2040, 0, 3, 0⟩
def LEDG.SNAP_PENDING : Fld := ⟨0x2044, 31, 1, 0⟩
def LEDG.SNAP_HELD : Fld := ⟨0x2044, 30, 1, 0⟩
def LEDG.SNAP_OWNER : Fld := ⟨0x2044, 28, 2, 0⟩
def LEDG.GUARANTEE : Fld := ⟨0x2044, 27, 1, 1⟩
def LEDG.COND_LOST : Fld := ⟨0x2044, 20, 4, 0⟩
def LEDG.BREAK : Fld := ⟨0x2044, 0, 9, 0⟩
def LEDG.SNAP_SEQ : Fld := ⟨0x2048, 0, 16, 0⟩
def LEDG.SNAP_SC : Fld := ⟨0x204C, 0, 64, 0⟩
def LEDG.TRIG_SEL : Fld := ⟨0x2054, 0, 8, 12⟩
def LEDG.BREAK_TICK : Fld := ⟨0x2058, 0, 64, 0⟩
def LEDG.S_CELLS_FREE : Fld := ⟨0x2100, 0, 17, 0⟩
def LEDG.S_CELLS_QUEUED : Fld := ⟨0x2104, 0, 17, 0⟩
def LEDG.S_CELLS_STAGED : Fld := ⟨0x2108, 0, 17, 0⟩
def LEDG.S_CELLS_QUARANTINED : Fld := ⟨0x210C, 0, 17, 0⟩
def LEDG.S_DESC_FREE : Fld := ⟨0x2110, 0, 16, 0⟩
def LEDG.S_DESC_IN_USE : Fld := ⟨0x2114, 0, 16, 0⟩
def LEDG.S_SPEC_DEBIT : Fld := ⟨0x2120, 0, 64, 0⟩
def LEDG.S_CONFIRMED : Fld := ⟨0x2128, 0, 64, 0⟩
def LEDG.S_REFUNDED : Fld := ⟨0x2130, 0, 64, 0⟩
def LEDG.S_CREDIT_PENDING : Fld := ⟨0x2138, 0, 32, 0⟩
def LEDG.S_NONCE_ALLOCATED : Fld := ⟨0x2140, 0, 64, 0⟩
def LEDG.S_NONCE_TRANSMITTED : Fld := ⟨0x2148, 0, 64, 0⟩
def LEDG.S_NONCE_BURNED : Fld := ⟨0x2150, 0, 64, 0⟩
def LEDG.S_NONCE_OPEN : Fld := ⟨0x2158, 0, 16, 0⟩
def LEDG.S_ENG_FITTED : Fld := ⟨0x2160, 16, 4, 0⟩
def LEDG.S_ENG_POOL : Fld := ⟨0x2160, 12, 4, 0⟩
def LEDG.S_ENG_STANDBY : Fld := ⟨0x2160, 8, 4, 0⟩
def LEDG.S_ENG_HELD : Fld := ⟨0x2160, 4, 4, 0⟩
def LEDG.S_ENG_RETIRED : Fld := ⟨0x2160, 0, 4, 0⟩
def LEDG.S_ENG_HELD_BY_SEAT : Fld := ⟨0x2164, 0, 20, 0⟩
def LEDG.S_MONEY_LOADED : Fld := ⟨0x2170, 0, 64, 0⟩
def LEDG.S_MONEY_BALANCE : Fld := ⟨0x2178, 0, 64, 0⟩
def LEDG.S_MONEY_CONSUMED : Fld := ⟨0x2180, 0, 64, 0⟩
def LEDG.S_MONEY_EXPIRED : Fld := ⟨0x2188, 0, 64, 0⟩
def LEDG.S_MONEY_EMERG_OUT : Fld := ⟨0x2190, 0, 64, 0⟩
def LEDG.S_MASS_TOTAL : Fld := ⟨0x21A0, 0, 64, 0⟩
def LEDG.S_MASS_DELIVERED : Fld := ⟨0x21A8, 0, 64, 0⟩
def LEDG.S_MASS_RESIDUE : Fld := ⟨0x21B0, 0, 64, 0⟩
def LEDG.S_VOL_TOTAL : Fld := ⟨0x21B8, 0, 64, 0⟩
def LEDG.S_VOL_DELIVERED : Fld := ⟨0x21C0, 0, 64, 0⟩
def LEDG.S_VOL_RESIDUE : Fld := ⟨0x21C8, 0, 64, 0⟩
def LEDG.S_SRC_ORRY : Fld := ⟨0x21D0, 0, 32, 0⟩
def LEDG.S_SRC_PIN : Fld := ⟨0x21D4, 0, 32, 0⟩
def LEDG.S_SRC_CMD : Fld := ⟨0x21D8, 0, 32, 0⟩
def LEDG.S_EXECUTED : Fld := ⟨0x21E0, 0, 32, 0⟩
def LEDG.S_MERGED : Fld := ⟨0x21E4, 0, 32, 0⟩
def LEDG.S_REFUSED : Fld := ⟨0x21E8, 0, 32, 0⟩
def LEDG.S_PENDING : Fld := ⟨0x21EC, 0, 32, 0⟩

/-! Page SIDR (0x03). -/
def SIDR.SC : Fld := ⟨0x3040, 0, 64, 0⟩
def SIDR.SC_QUALITY : Fld := ⟨0x3048, 30, 2, 3⟩
def SIDR.WALL_STATE : Fld := ⟨0x3048, 28, 2, 0⟩
def SIDR.SC_VALID : Fld := ⟨0x3048, 27, 1, 0⟩
def SIDR.SLEWING : Fld := ⟨0x3048, 26, 1, 0⟩
def SIDR.LEARN_VALID : Fld := ⟨0x3048, 25, 1, 0⟩
def SIDR.MAINS_LEARNED : Fld := ⟨0x3048, 24, 1, 0⟩
def SIDR.MAINS_OK : Fld := ⟨0x3048, 23, 1, 0⟩
def SIDR.LINE_USABLE : Fld := ⟨0x3048, 22, 1, 0⟩
def SIDR.STEP_COUNT : Fld := ⟨0x3048, 0, 16, 0⟩
def SIDR.ADV_VALID : Fld := ⟨0x304C, 31, 1, 0⟩
def SIDR.ADV_BITS : Fld := ⟨0x304C, 0, 24, 0⟩
def SIDR.SLEW_REMAIN : Fld := ⟨0x3050, 0, 32, 0⟩
def SIDR.LEARN_PPB : Fld := ⟨0x3054, 0, 32, 0⟩
def SIDR.HOLD_PPB : Fld := ⟨0x3058, 16, 16, 50⟩
def SIDR.MERID_PPB : Fld := ⟨0x3058, 0, 16, 2000⟩
def SIDR.HOLD_LIMIT : Fld := ⟨0x305C, 0, 32, 400000⟩
def SIDR.SC_UNCERT : Fld := ⟨0x3060, 0, 32, 0⟩
def SIDR.MERIDIAN_EN : Fld := ⟨0x3064, 31, 1, 1⟩
def SIDR.MAINS_TIMEOUT : Fld := ⟨0x3064, 16, 15, 500⟩
def SIDR.MAINS_FILTER : Fld := ⟨0x3064, 0, 16, 4000⟩
def SIDR.MAINS_MAX : Fld := ⟨0x3068, 16, 16, 220⟩
def SIDR.MAINS_MIN : Fld := ⟨0x3068, 0, 16, 150⟩
def SIDR.MAINS_SPACING : Fld := ⟨0x3070, 0, 32, 0⟩
def SIDR.MAINS_LAST_ERR : Fld := ⟨0x3074, 0, 32, 0⟩
def SIDR.EPH_TIMEOUT : Fld := ⟨0x3078, 24, 8, 5⟩
def SIDR.EPH_WINDOW : Fld := ⟨0x3078, 8, 16, 20000⟩
def SIDR.EPH_FILTER : Fld := ⟨0x3078, 0, 4, 3⟩
def SIDR.EPH_FRAME : Fld := ⟨0x3080, 0, 48, 0⟩
def SIDR.EPH_LEAP : Fld := ⟨0x3088, 28, 2, 0⟩
def SIDR.EPH_DAY : Fld := ⟨0x3088, 0, 20, 0⟩
def SIDR.EPH_SOD : Fld := ⟨0x308C, 0, 17, 0⟩
def SIDR.WALL_LEAP : Fld := ⟨0x3090, 28, 2, 0⟩
def SIDR.WALL_DAY : Fld := ⟨0x3090, 0, 20, 0⟩
def SIDR.WALL_SOD : Fld := ⟨0x3094, 0, 17, 0⟩
def SIDR.WALL_FRAME : Fld := ⟨0x3098, 0, 14, 0⟩
def SIDR.EPH_REJECTED : Fld := ⟨0x309C, 16, 16, 0⟩
def SIDR.EPH_ACCEPTED : Fld := ⟨0x309C, 0, 16, 0⟩
def SIDR.STEP_SC : Fld := ⟨0x30A0, 0, 64, 0⟩
def SIDR.STEP_FRAMES : Fld := ⟨0x30A8, 0, 32, 0⟩
def SIDR.TICK_SC : Fld := ⟨0x30B0, 0, 64, 0⟩

/-! Page ORRY (0x04). -/
def ORRY.HOLD_NONLEGAL : Fld := ⟨0x4040, 0, 1, 0⟩
def ORRY.VALID_ENTRIES : Fld := ⟨0x4044, 16, 9, 0⟩
def ORRY.DUE : Fld := ⟨0x4044, 0, 9, 0⟩
def ORRY.FIRED_TOTAL : Fld := ⟨0x4048, 0, 32, 0⟩
def ORRY.MISSED_TOTAL : Fld := ⟨0x404C, 0, 32, 0⟩
def ORRY.COND_SKIPPED : Fld := ⟨0x4050, 0, 32, 0⟩
def ORRY.LATE_MAX : Fld := ⟨0x4054, 0, 8, 0⟩
def ORRY.CE_COUNT : Fld := ⟨0x4058, 16, 16, 0⟩
def ORRY.UE_SEEN : Fld := ⟨0x4058, 8, 1, 0⟩
def ORRY.UE_INDEX : Fld := ⟨0x4058, 0, 8, 0⟩
def ORRY.SENT_SEL : Fld := ⟨0x4060, 0, 8, 0⟩
def ORRY.SENT_COUNT : Fld := ⟨0x4064, 0, 32, 0⟩
def ORRY.HOST_EVENT_ARG : Fld := ⟨0x4068, 0, 16, 0⟩

/-! Page ALM (0x05). -/
def ALM.W_INDEX (i : Nat) : Fld := ⟨0x5040 + 64 * i, 0, 8, 0⟩
def ALM.W_TARGET (i : Nat) : Fld := ⟨0x5044 + 64 * i, 0, 64, 0⟩
def ALM.W_PERIOD (i : Nat) : Fld := ⟨0x504C + 64 * i, 0, 32, 0⟩
def ALM.W_OFFSET (i : Nat) : Fld := ⟨0x5050 + 64 * i, 0, 32, 0⟩
def ALM.W_UNIT (i : Nat) : Fld := ⟨0x5054 + 64 * i, 24, 8, 0⟩
def ALM.W_ACTION (i : Nat) : Fld := ⟨0x5054 + 64 * i, 16, 8, 0⟩
def ALM.W_ARG (i : Nat) : Fld := ⟨0x5054 + 64 * i, 0, 16, 0⟩
def ALM.W_COND (i : Nat) : Fld := ⟨0x5058 + 64 * i, 8, 8, 0⟩
def ALM.W_TIMEBASE (i : Nat) : Fld := ⟨0x5058 + 64 * i, 4, 2, 0⟩
def ALM.W_MISS (i : Nat) : Fld := ⟨0x5058 + 64 * i, 3, 1, 0⟩
def ALM.W_PROTECT (i : Nat) : Fld := ⟨0x5058 + 64 * i, 2, 1, 0⟩
def ALM.W_CMD (i : Nat) : Fld := ⟨0x505C + 64 * i, 0, 2, 0⟩
def ALM.W_BUSY (i : Nat) : Fld := ⟨0x5060 + 64 * i, 31, 1, 0⟩
def ALM.W_CODE (i : Nat) : Fld := ⟨0x5060 + 64 * i, 0, 8, 0⟩
def ALM.R_NEXT (i : Nat) : Fld := ⟨0x5064 + 64 * i, 0, 64, 0⟩
def ALM.R_LAST (i : Nat) : Fld := ⟨0x506C + 64 * i, 0, 64, 0⟩
def ALM.R_VALID (i : Nat) : Fld := ⟨0x5074 + 64 * i, 31, 1, 0⟩
def ALM.R_LEGAL (i : Nat) : Fld := ⟨0x5074 + 64 * i, 30, 1, 0⟩
def ALM.R_OWNER (i : Nat) : Fld := ⟨0x5074 + 64 * i, 28, 2, 0⟩
def ALM.R_MISSED (i : Nat) : Fld := ⟨0x5074 + 64 * i, 16, 12, 0⟩
def ALM.R_FIRE_COUNT (i : Nat) : Fld := ⟨0x5074 + 64 * i, 0, 16, 0⟩

/-! Page LANE (0x08). -/
def LANE.RX_PRECODE : Fld := ⟨0x8040, 31, 1, 0⟩
def LANE.TX_PRECODE : Fld := ⟨0x8040, 30, 1, 0⟩
def LANE.RX_REVERT : Fld := ⟨0x8040, 29, 1, 1⟩
def LANE.TX_AUTO : Fld := ⟨0x8040, 28, 1, 1⟩
def LANE.RX_POL : Fld := ⟨0x8040, 25, 3, 0⟩
def LANE.TX_POL : Fld := ⟨0x8040, 23, 2, 0⟩
def LANE.TX_ENABLE : Fld := ⟨0x8040, 0, 1, 0⟩
def LANE.LINK : Fld := ⟨0x8044, 30, 2, 0⟩
def LANE.RX_SUBST : Fld := ⟨0x8044, 28, 2, 0⟩
def LANE.TX_ACTIVE : Fld := ⟨0x8044, 27, 1, 0⟩
def LANE.TX_RETRAIN : Fld := ⟨0x8044, 26, 1, 0⟩
def LANE.RXC_OK : Fld := ⟨0x8044, 25, 1, 0⟩
def LANE.SD_FILT : Fld := ⟨0x8044, 24, 1, 0⟩
def LANE.TXFLT_FILT : Fld := ⟨0x8044, 23, 1, 0⟩
def LANE.TXEN_PAD : Fld := ⟨0x8044, 22, 1, 0⟩
def LANE.TXD1_STATE : Fld := ⟨0x8044, 16, 4, 0⟩
def LANE.TXD0_STATE : Fld := ⟨0x8044, 12, 4, 0⟩
def LANE.RXD2_STATE : Fld := ⟨0x8044, 8, 4, 0⟩
def LANE.RXD1_STATE : Fld := ⟨0x8044, 4, 4, 0⟩
def LANE.RXD0_STATE : Fld := ⟨0x8044, 0, 4, 0⟩
def LANE.CMD_LANE : Fld := ⟨0x8048, 8, 3, 0⟩
def LANE.CMD_OP : Fld := ⟨0x8048, 0, 4, 0⟩
def LANE.CMD_BUSY : Fld := ⟨0x804C, 31, 1, 0⟩
def LANE.CMD_CODE : Fld := ⟨0x804C, 0, 8, 0⟩
def LANE.SD_FILTER : Fld := ⟨0x8050, 16, 16, 400⟩
def LANE.SD_MAX_EDGES : Fld := ⟨0x8050, 8, 8, 8⟩
def LANE.SD_TIMEOUT : Fld := ⟨0x8050, 0, 8, 4⟩
def LANE.TXFLT_FILTER : Fld := ⟨0x8054, 24, 8, 40⟩
def LANE.TXFLT_MAX : Fld := ⟨0x8054, 16, 8, 3⟩
def LANE.TXFLT_TIMEOUT : Fld := ⟨0x8054, 0, 16, 400⟩
def LANE.RXC_FILTER : Fld := ⟨0x8058, 24, 8, 2⟩
def LANE.RXC_TIMEOUT : Fld := ⟨0x8058, 16, 8, 5⟩
def LANE.RXC_RANGE_PPM : Fld := ⟨0x8058, 0, 16, 100⟩
def LANE.RX_FILTER : Fld := ⟨0x805C, 28, 4, 4⟩
def LANE.ERR_MAX : Fld := ⟨0x805C, 16, 12, 64⟩
def LANE.EYE_MIN : Fld := ⟨0x805C, 8, 8, 12⟩
def LANE.TRAIN_TIMEOUT : Fld := ⟨0x805C, 0, 8, 8⟩
def LANE.TX_FILTER : Fld := ⟨0x8060, 24, 8, 4⟩
def LANE.RTERM_MIN : Fld := ⟨0x8060, 16, 8, 80⟩
def LANE.RTERM_MAX : Fld := ⟨0x8060, 8, 8, 120⟩
def LANE.TX_TIMEOUT : Fld := ⟨0x8060, 0, 8, 1⟩
def LANE.RETRY_TICKS : Fld := ⟨0x8064, 16, 16, 400⟩
def LANE.FENCE_TICKS : Fld := ⟨0x8064, 0, 8, 40⟩
def LANE.CHECK_MISMATCH : Fld := ⟨0x8068, 0, 32, 0⟩
def LANE.CHECK_TOTAL : Fld := ⟨0x806C, 0, 32, 0⟩
def LANE.RXC_PPM : Fld := ⟨0x8070, 0, 16, 0⟩
def LANE.GRANTS_DECLINED : Fld := ⟨0x8074, 16, 16, 0⟩
def LANE.BURSTS_ABORTED : Fld := ⟨0x8074, 0, 16, 0⟩
def LANE.RX_SUBSTS : Fld := ⟨0x8078, 16, 16, 0⟩
def LANE.TX_SUBSTS : Fld := ⟨0x8078, 0, 16, 0⟩
def LANE.SD_FAILS : Fld := ⟨0x807C, 24, 8, 0⟩
def LANE.TXFLT_FAILS : Fld := ⟨0x807C, 16, 8, 0⟩
def LANE.RXC_FAILS : Fld := ⟨0x807C, 8, 8, 0⟩
def LANE.TX_FAILS : Fld := ⟨0x807C, 0, 8, 0⟩
def LANE.FIR_PRE (i : Nat) : Fld := ⟨0x81C0 + 4 * i, 16, 4, 0⟩
def LANE.FIR_MAIN (i : Nat) : Fld := ⟨0x81C0 + 4 * i, 8, 6, 40⟩
def LANE.FIR_POST (i : Nat) : Fld := ⟨0x81C0 + 4 * i, 0, 4, 0⟩
def LANE.VGA_MAX (i : Nat) : Fld := ⟨0x8100 + 64 * i, 24, 6, 63⟩
def LANE.VGA_MIN (i : Nat) : Fld := ⟨0x8100 + 64 * i, 16, 6, 0⟩
def LANE.CTLE_MAX (i : Nat) : Fld := ⟨0x8100 + 64 * i, 8, 4, 15⟩
def LANE.CTLE_MIN (i : Nat) : Fld := ⟨0x8100 + 64 * i, 0, 4, 0⟩
def LANE.DFE1_MAX (i : Nat) : Fld := ⟨0x8104 + 64 * i, 26, 6, 31⟩
def LANE.DFE1_MIN (i : Nat) : Fld := ⟨0x8104 + 64 * i, 20, 6, 32⟩
def LANE.DFE2_MAX (i : Nat) : Fld := ⟨0x8104 + 64 * i, 15, 5, 15⟩
def LANE.DFE2_MIN (i : Nat) : Fld := ⟨0x8104 + 64 * i, 10, 5, 16⟩
def LANE.DFE3_MAX (i : Nat) : Fld := ⟨0x8104 + 64 * i, 5, 5, 15⟩
def LANE.DFE3_MIN (i : Nat) : Fld := ⟨0x8104 + 64 * i, 0, 5, 16⟩
def LANE.PHASE_MAX (i : Nat) : Fld := ⟨0x8108 + 64 * i, 8, 6, 31⟩
def LANE.PHASE_MIN (i : Nat) : Fld := ⟨0x8108 + 64 * i, 0, 6, 32⟩
def LANE.LIVE_VGA (i : Nat) : Fld := ⟨0x810C + 64 * i, 24, 6, 0⟩
def LANE.LIVE_CTLE (i : Nat) : Fld := ⟨0x810C + 64 * i, 8, 4, 0⟩
def LANE.LIVE_DFE1 (i : Nat) : Fld := ⟨0x8110 + 64 * i, 26, 6, 0⟩
def LANE.LIVE_DFE2 (i : Nat) : Fld := ⟨0x8110 + 64 * i, 15, 5, 0⟩
def LANE.LIVE_DFE3 (i : Nat) : Fld := ⟨0x8110 + 64 * i, 5, 5, 0⟩
def LANE.LIVE_CENTRE (i : Nat) : Fld := ⟨0x8114 + 64 * i, 24, 6, 0⟩
def LANE.LIVE_PHASE (i : Nat) : Fld := ⟨0x8114 + 64 * i, 8, 6, 0⟩
def LANE.HELD_NOW (i : Nat) : Fld := ⟨0x8118 + 64 * i, 16, 6, 0⟩
def LANE.HELD_TICKS (i : Nat) : Fld := ⟨0x8118 + 64 * i, 0, 8, 0⟩
def LANE.FREEZE (i : Nat) : Fld := ⟨0x811C + 64 * i, 0, 1, 0⟩
def LANE.ERR_LAST (i : Nat) : Fld := ⟨0x8120 + 64 * i, 16, 16, 0⟩
def LANE.EYE_LAST (i : Nat) : Fld := ⟨0x8120 + 64 * i, 0, 16, 0⟩
def LANE.ERR_TOTAL (i : Nat) : Fld := ⟨0x8124 + 64 * i, 0, 32, 0⟩
def LANE.DOWN_COUNT (i : Nat) : Fld := ⟨0x8128 + 64 * i, 0, 16, 0⟩

/-! Page FRMD (0x0A). -/
def FRMD.LOS_SET : Fld := ⟨0xA040, 16, 16, 800⟩
def FRMD.LOS_CLR : Fld := ⟨0xA040, 8, 8, 2⟩
def FRMD.LOF_MISS : Fld := ⟨0xA040, 4, 4, 4⟩
def FRMD.PSYNC_TOL : Fld := ⟨0xA040, 0, 4, 4⟩
def FRMD.LOF_SET : Fld := ⟨0xA044, 24, 8, 10⟩
def FRMD.LOF_CLR : Fld := ⟨0xA044, 16, 8, 10⟩
def FRMD.LSC_UNREAD : Fld := ⟨0xA044, 12, 4, 4⟩
def FRMD.LSC_CLR : Fld := ⟨0xA044, 8, 4, 3⟩
def FRMD.SF_SET : Fld := ⟨0xA048, 16, 16, 240⟩
def FRMD.SF_CLR : Fld := ⟨0xA048, 0, 16, 24⟩
def FRMD.SD_SET : Fld := ⟨0xA04C, 16, 16, 24⟩
def FRMD.SD_CLR : Fld := ⟨0xA04C, 0, 16, 3⟩
def FRMD.PSF_SET : Fld := ⟨0xA050, 24, 8, 30⟩
def FRMD.PSF_CLR : Fld := ⟨0xA050, 16, 8, 3⟩
def FRMD.PSD_SET : Fld := ⟨0xA050, 0, 16, 10⟩
def FRMD.PSD_CLR : Fld := ⟨0xA054, 16, 16, 1⟩
def FRMD.PLM_SET : Fld := ⟨0xA054, 12, 4, 5⟩
def FRMD.PLM_CLR : Fld := ⟨0xA054, 8, 4, 5⟩
def FRMD.LOK_SET : Fld := ⟨0xA054, 4, 4, 1⟩
def FRMD.LOK_CLR : Fld := ⟨0xA054, 0, 4, 2⟩
def FRMD.SF_CLR_WIN : Fld := ⟨0xA058, 8, 8, 10⟩
def FRMD.SD_CLR_WIN : Fld := ⟨0xA058, 0, 8, 10⟩
def FRMD.DELIN : Fld := ⟨0xA060, 30, 2, 0⟩
def FRMD.DETECTED : Fld := ⟨0xA060, 8, 5, 0⟩
def FRMD.DECLARED : Fld := ⟨0xA060, 0, 5, 0⟩
def FRMD.FC : Fld := ⟨0xA064, 0, 48, 0⟩
def FRMD.SRC_ID : Fld := ⟨0xA06C, 0, 16, 0⟩
def FRMD.GMAP_COUNT : Fld := ⟨0xA070, 16, 10, 0⟩
def FRMD.OAM_COUNT : Fld := ⟨0xA070, 0, 7, 0⟩
def FRMD.FRAMES : Fld := ⟨0xA080, 0, 32, 0⟩
def FRMD.CW_CORR : Fld := ⟨0xA084, 0, 32, 0⟩
def FRMD.BYTES_CORR : Fld := ⟨0xA088, 0, 32, 0⟩
def FRMD.CW_UNCORR : Fld := ⟨0xA08C, 0, 32, 0⟩
def FRMD.BIP_VIOL : Fld := ⟨0xA090, 0, 32, 0⟩
def FRMD.ERR_FRAMES : Fld := ⟨0xA094, 0, 32, 0⟩
def FRMD.HDR_ERR : Fld := ⟨0xA098, 0, 32, 0⟩
def FRMD.FC_UNREAD : Fld := ⟨0xA09C, 0, 32, 0⟩
def FRMD.PATH_EN (i : Nat) : Fld := ⟨0xA100 + 4 * i, 31, 1, 0⟩
def FRMD.PTYPE_EXP (i : Nat) : Fld := ⟨0xA100 + 4 * i, 16, 8, 0⟩
def FRMD.RX_PTYPE (i : Nat) : Fld := ⟨0xA140 + 4 * i, 16, 8, 0⟩
def FRMD.P_DETECTED (i : Nat) : Fld := ⟨0xA140 + 4 * i, 8, 4, 0⟩
def FRMD.P_DECLARED (i : Nat) : Fld := ⟨0xA140 + 4 * i, 0, 4, 0⟩
def FRMD.PATH_DISCARD (i : Nat) : Fld := ⟨0xA180 + 4 * i, 0, 32, 0⟩

/-! Page FRMU (0x0B). -/
def FRMU.SSTAT_EN : Fld := ⟨0xB040, 1, 1, 1⟩
def FRMU.REI_EN : Fld := ⟨0xB040, 0, 1, 1⟩
def FRMU.SREI_ACC : Fld := ⟨0xB044, 0, 16, 0⟩
def FRMU.NEXT_PATH : Fld := ⟨0xB048, 16, 4, 0⟩
def FRMU.BURSTS_SENT : Fld := ⟨0xB080, 0, 32, 0⟩
def FRMU.BURSTS_ABORTED : Fld := ⟨0xB084, 0, 32, 0⟩
def FRMU.CW_SENT : Fld := ⟨0xB088, 0, 32, 0⟩
def FRMU.BYTES_SENT : Fld := ⟨0xB08C, 0, 32, 0⟩
def FRMU.SREI_SENT : Fld := ⟨0xB090, 0, 32, 0⟩
def FRMU.REI_RESTORED : Fld := ⟨0xB094, 0, 32, 0⟩
def FRMU.PREI_ACC (i : Nat) : Fld := ⟨0xB100 + 4 * i, 0, 16, 0⟩

/-! Page PMON (0x0C). -/
def PMON.SES_FRAMES : Fld := ⟨0xC040, 16, 16, 3000⟩
def PMON.PM_POLICY : Fld := ⟨0xC040, 0, 2, 0⟩
def PMON.SEC_UNAVAIL : Fld := ⟨0xC044, 31, 1, 0⟩
def PMON.CLOSE15_PEND : Fld := ⟨0xC044, 30, 1, 0⟩
def PMON.CLOSEDAY_PEND : Fld := ⟨0xC044, 29, 1, 0⟩
def PMON.HIST15 : Fld := ⟨0xC044, 23, 6, 0⟩
def PMON.HISTDAY : Fld := ⟨0xC044, 20, 3, 0⟩
def PMON.PATH_UNAVAIL : Fld := ⟨0xC044, 0, 16, 0⟩
def PMON.CLEAR_HISTORY : Fld := ⟨0xC048, 0, 1, 0⟩
def PMON.LS_SC : Fld := ⟨0xC050, 0, 64, 0⟩
def PMON.LS_FRAMES : Fld := ⟨0xC058, 0, 16, 0⟩
def PMON.LS_ERR_FRAMES : Fld := ⟨0xC05C, 0, 16, 0⟩
def PMON.LS_BIP : Fld := ⟨0xC060, 0, 32, 0⟩
def PMON.LS_CW_CORR : Fld := ⟨0xC064, 0, 32, 0⟩
def PMON.LS_CW_UNCORR : Fld := ⟨0xC068, 0, 32, 0⟩
def PMON.LS_DEF : Fld := ⟨0xC06C, 0, 5, 0⟩
def PMON.BIN_KIND : Fld := ⟨0xC080, 8, 1, 0⟩
def PMON.BIN_INDEX : Fld := ⟨0xC080, 0, 6, 0⟩
def PMON.BIN_START : Fld := ⟨0xC084, 0, 64, 0⟩
def PMON.BIN_END : Fld := ⟨0xC08C, 0, 64, 0⟩
def PMON.BIN_FLAGS : Fld := ⟨0xC094, 25, 7, 0⟩
def PMON.BIN_SECONDS : Fld := ⟨0xC094, 0, 17, 0⟩
def PMON.BIN_ES : Fld := ⟨0xC098, 0, 32, 0⟩
def PMON.BIN_SES : Fld := ⟨0xC09C, 0, 32, 0⟩
def PMON.BIN_UAS : Fld := ⟨0xC0A0, 0, 32, 0⟩
def PMON.BIN_DEF_S (i : Nat) : Fld := ⟨0xC0A4 + 4 * i, 0, 32, 0⟩
def PMON.BIP_SUM : Fld := ⟨0xC0B8, 0, 32, 0⟩
def PMON.CW_UNCORR_SUM : Fld := ⟨0xC0BC, 0, 32, 0⟩
def PMON.PLS_BIP (i : Nat) : Fld := ⟨0xC200 + 16 * i, 0, 32, 0⟩
def PMON.PLS_ERR (i : Nat) : Fld := ⟨0xC204 + 16 * i, 16, 16, 0⟩
def PMON.PLS_MISSING (i : Nat) : Fld := ⟨0xC204 + 16 * i, 0, 16, 0⟩
def PMON.PLS_BLOCKS (i : Nat) : Fld := ⟨0xC208 + 16 * i, 0, 32, 0⟩
def PMON.PLS_DEF (i : Nat) : Fld := ⟨0xC20C + 16 * i, 0, 4, 0⟩
def PMON.PBIN (i : Nat) (j : Nat) : Fld := ⟨0xC300 + 32 * i + 4 * j, 0, 32, 0⟩

/-! Page ACTV (0x0D). -/
def ACTV.STATE : Fld := ⟨0xD040, 28, 4, 0⟩
def ACTV.PROFILE_VALID : Fld := ⟨0xD040, 27, 1, 0⟩
def ACTV.RANGED_FLAG : Fld := ⟨0xD040, 26, 1, 0⟩
def ACTV.POPUP_SEEN : Fld := ⟨0xD040, 25, 1, 0⟩
def ACTV.DG : Fld := ⟨0xD040, 24, 1, 0⟩
def ACTV.LOCKOUT_WHY : Fld := ⟨0xD040, 22, 2, 0⟩
def ACTV.TERM_ID : Fld := ⟨0xD040, 0, 12, 4095⟩
def ACTV.DG_MSG : Fld := ⟨0xD044, 1, 1, 1⟩
def ACTV.EPH_AUTH : Fld := ⟨0xD044, 0, 1, 0⟩
def ACTV.SERIAL : Fld := ⟨0xD048, 0, 64, 0⟩
def ACTV.TO1 : Fld := ⟨0xD050, 16, 16, 4000⟩
def ACTV.TO2 : Fld := ⟨0xD050, 0, 16, 40⟩
def ACTV.LEAD : Fld := ⟨0xD054, 16, 16, 160⟩
def ACTV.LAG : Fld := ⟨0xD054, 0, 16, 40⟩
def ACTV.ROGUE_FILTER : Fld := ⟨0xD058, 0, 16, 40⟩
def ACTV.SN_SEED : Fld := ⟨0xD05C, 0, 32, 1⟩
def ACTV.PRE_LEN : Fld := ⟨0xD060, 24, 8, 0⟩
def ACTV.PRE_LEN_LONG : Fld := ⟨0xD060, 16, 8, 0⟩
def ACTV.GRANT_LEAD : Fld := ⟨0xD060, 8, 3, 0⟩
def ACTV.SN_SLOTS : Fld := ⟨0xD060, 0, 7, 0⟩
def ACTV.PROFILE_PRE : Fld := ⟨0xD064, 0, 32, 0⟩
def ACTV.PROFILE_DELIM : Fld := ⟨0xD068, 0, 64, 0⟩
def ACTV.RANGED_ZONE : Fld := ⟨0xD070, 24, 3, 0⟩
def ACTV.RANGED_EQD : Fld := ⟨0xD070, 0, 22, 0⟩
def ACTV.RANGED_ADVANCE : Fld := ⟨0xD074, 0, 24, 0⟩
def ACTV.BAD_ZONE : Fld := ⟨0xD078, 24, 3, 0⟩
def ACTV.BAD_EQD : Fld := ⟨0xD078, 0, 22, 0⟩
def ACTV.CMD_OP : Fld := ⟨0xD07C, 0, 4, 0⟩
def ACTV.CMD_BUSY : Fld := ⟨0xD080, 31, 1, 0⟩
def ACTV.CMD_CODE : Fld := ⟨0xD080, 0, 8, 0⟩
def ACTV.UPMSG_BODY (i : Nat) : Fld := ⟨0xD090 + 4 * i, 0, 32, 0⟩
def ACTV.UPMSG_TYPE : Fld := ⟨0xD0B0, 8, 8, 0⟩
def ACTV.UPMSG_SEQ : Fld := ⟨0xD0B0, 0, 8, 0⟩
def ACTV.UPMSG_SEND : Fld := ⟨0xD0B4, 0, 1, 0⟩
def ACTV.UPMSG_BUSY : Fld := ⟨0xD0B8, 31, 1, 0⟩
def ACTV.UPMSG_QUEUED : Fld := ⟨0xD0B8, 0, 4, 0⟩
def ACTV.CNT (i : Nat) : Fld := ⟨0xD100 + 4 * i, 0, 32, 0⟩

/-! Page TMGR (0x10). -/
def TMGR.UP_FLAT : Fld := ⟨0x10040, 31, 1, 0⟩
def TMGR.DN_FLAT : Fld := ⟨0x10040, 30, 1, 0⟩
def TMGR.PART_UP : Fld := ⟨0x10044, 0, 17, 32768⟩
def TMGR.PART_DN : Fld := ⟨0x10048, 0, 17, 32768⟩
def TMGR.OCC_UP : Fld := ⟨0x1004C, 0, 17, 0⟩
def TMGR.OCC_DN : Fld := ⟨0x10050, 0, 17, 0⟩
def TMGR.CMD_QUEUE : Fld := ⟨0x10054, 16, 10, 0⟩
def TMGR.CMD_OP : Fld := ⟨0x10054, 0, 4, 0⟩
def TMGR.CMD_BUSY : Fld := ⟨0x10058, 31, 1, 0⟩
def TMGR.CMD_CODE : Fld := ⟨0x10058, 0, 8, 0⟩
def TMGR.USE_VID (i : Nat) : Fld := ⟨0x10080 + 4 * i, 30, 1, 1⟩
def TMGR.USE_PCP (i : Nat) : Fld := ⟨0x10080 + 4 * i, 29, 1, 1⟩
def TMGR.USE_TAG (i : Nat) : Fld := ⟨0x10080 + 4 * i, 28, 1, 0⟩
def TMGR.MISS_DROP (i : Nat) : Fld := ⟨0x10080 + 4 * i, 27, 1, 1⟩
def TMGR.DEFAULT_QUEUE (i : Nat) : Fld := ⟨0x10080 + 4 * i, 16, 10, 0⟩
def TMGR.TAG_OFFSET (i : Nat) : Fld := ⟨0x10080 + 4 * i, 0, 7, 16⟩
def TMGR.SRC_CNT (i : Nat) (j : Nat) : Fld := ⟨0x10100 + 32 * i + 4 * j, 0, 32, 0⟩
def TMGR.FRAMES_OUT (i : Nat) : Fld := ⟨0x10400 + 16 * i, 0, 32, 0⟩
def TMGR.BYTES_OUT (i : Nat) : Fld := ⟨0x10404 + 16 * i, 0, 64, 0⟩

/-! Page CLS (0x11). -/
def CLS.VALID_ENTRIES : Fld := ⟨0x11040, 0, 13, 0⟩
def CLS.LOOKUPS : Fld := ⟨0x11044, 0, 32, 0⟩
def CLS.MISSES : Fld := ⟨0x11048, 0, 32, 0⟩
def CLS.EXHAUSTED_COUNT : Fld := ⟨0x1104C, 0, 32, 0⟩

/-! Page CLSW (0x12). -/
def CLSW.KEY_A (i : Nat) : Fld := ⟨0x12040 + 64 * i, 0, 32, 0⟩
def CLSW.KEY_B (i : Nat) : Fld := ⟨0x12044 + 64 * i, 0, 8, 0⟩
def CLSW.A_DROP (i : Nat) : Fld := ⟨0x12048 + 64 * i, 31, 1, 0⟩
def CLSW.A_PCP_RW_EN (i : Nat) : Fld := ⟨0x12048 + 64 * i, 30, 1, 0⟩
def CLSW.A_PCP_RW (i : Nat) : Fld := ⟨0x12048 + 64 * i, 27, 3, 0⟩
def CLSW.A_QUEUE (i : Nat) : Fld := ⟨0x12048 + 64 * i, 16, 10, 0⟩
def CLSW.A_POLICER (i : Nat) : Fld := ⟨0x12048 + 64 * i, 8, 8, 255⟩
def CLSW.A_PTYPE (i : Nat) : Fld := ⟨0x12048 + 64 * i, 0, 8, 0⟩
def CLSW.W_INDEX (i : Nat) : Fld := ⟨0x1204C + 64 * i, 0, 12, 0⟩
def CLSW.W_CMD (i : Nat) : Fld := ⟨0x12050 + 64 * i, 0, 2, 0⟩
def CLSW.W_BUSY (i : Nat) : Fld := ⟨0x12054 + 64 * i, 31, 1, 0⟩
def CLSW.W_CODE (i : Nat) : Fld := ⟨0x12054 + 64 * i, 0, 8, 0⟩
def CLSW.R_VALID (i : Nat) : Fld := ⟨0x12058 + 64 * i, 31, 1, 0⟩
def CLSW.R_GEN (i : Nat) : Fld := ⟨0x12058 + 64 * i, 16, 8, 0⟩
def CLSW.R_REFCNT (i : Nat) : Fld := ⟨0x12058 + 64 * i, 0, 16, 0⟩
def CLSW.R_HITS (i : Nat) : Fld := ⟨0x1205C + 64 * i, 0, 32, 0⟩

/-! Page GHOST (0x13). -/
def GHOST.IN_USE : Fld := ⟨0x13040, 16, 7, 0⟩
def GHOST.MAX_IN_USE : Fld := ⟨0x13040, 0, 7, 0⟩
def GHOST.GHOST_WARN : Fld := ⟨0x13044, 0, 7, 56⟩
def GHOST.GHOSTS_TAKEN : Fld := ⟨0x13048, 0, 32, 0⟩
def GHOST.G_VALID (i : Nat) : Fld := ⟨0x13100 + 8 * i, 31, 1, 0⟩
def GHOST.G_INDEX (i : Nat) : Fld := ⟨0x13100 + 8 * i, 16, 12, 0⟩
def GHOST.G_GEN (i : Nat) : Fld := ⟨0x13100 + 8 * i, 8, 8, 0⟩
def GHOST.G_REFCNT (i : Nat) : Fld := ⟨0x13104 + 8 * i, 0, 16, 0⟩

/-! Page QUE (0x14–0x17). -/
def QUE.Q_EN (p : Nat) (i : Nat) : Fld := ⟨0x14100 + 0x1000 * p + 12 * i, 31, 1, 0⟩
def QUE.Q_PARENT (p : Nat) (i : Nat) : Fld := ⟨0x14100 + 0x1000 * p + 12 * i, 16, 9, 0⟩
def QUE.Q_QUANTUM (p : Nat) (i : Nat) : Fld := ⟨0x14100 + 0x1000 * p + 12 * i, 0, 16, 1600⟩
def QUE.MAX_DEPTH (p : Nat) (i : Nat) : Fld := ⟨0x14104 + 0x1000 * p + 12 * i, 16, 16, 4096⟩
def QUE.YELLOW_MAX (p : Nat) (i : Nat) : Fld := ⟨0x14104 + 0x1000 * p + 12 * i, 0, 16, 2048⟩
def QUE.Q_QUEUED (p : Nat) (i : Nat) : Fld := ⟨0x14108 + 0x1000 * p + 12 * i, 16, 16, 0⟩
def QUE.Q_STAGED (p : Nat) (i : Nat) : Fld := ⟨0x14108 + 0x1000 * p + 12 * i, 0, 16, 0⟩

/-! Page SCHED (0x18). -/
def SCHED.SUB_EN (i : Nat) : Fld := ⟨0x18100 + 4 * i, 31, 1, 0⟩
def SCHED.SUB_PARENT (i : Nat) : Fld := ⟨0x18100 + 4 * i, 16, 6, 0⟩
def SCHED.SUB_QUANTUM (i : Nat) : Fld := ⟨0x18100 + 4 * i, 0, 16, 1600⟩
def SCHED.SVC_EN (i : Nat) : Fld := ⟨0x18500 + 4 * i, 31, 1, 0⟩
def SCHED.SVC_PARENT (i : Nat) : Fld := ⟨0x18500 + 4 * i, 16, 5, 0⟩
def SCHED.SVC_QUANTUM (i : Nat) : Fld := ⟨0x18500 + 4 * i, 0, 16, 1600⟩
def SCHED.PORT_QUANTUM (i : Nat) : Fld := ⟨0x18600 + 4 * i, 0, 16, 9728⟩

/-! Page DEFIC (0x19). -/
def DEFIC.SUB_DEF (i : Nat) : Fld := ⟨0x19100 + 4 * i, 0, 32, 0⟩
def DEFIC.SVC_DEF (i : Nat) : Fld := ⟨0x19500 + 4 * i, 0, 32, 0⟩
def DEFIC.PORT_DEF (i : Nat) : Fld := ⟨0x19600 + 4 * i, 0, 32, 0⟩

/-! Page SHAPE (0x1A). -/
def SHAPE.SH_KIND : Fld := ⟨0x1A040, 8, 1, 0⟩
def SHAPE.SH_NODE : Fld := ⟨0x1A040, 0, 8, 0⟩
def SHAPE.SH_EN : Fld := ⟨0x1A044, 0, 1, 0⟩
def SHAPE.SH_CIR : Fld := ⟨0x1A048, 0, 32, 0⟩
def SHAPE.SH_CBS : Fld := ⟨0x1A04C, 0, 24, 9728⟩
def SHAPE.SH_PIR : Fld := ⟨0x1A050, 0, 32, 0⟩
def SHAPE.SH_PBS : Fld := ⟨0x1A054, 0, 24, 9728⟩
def SHAPE.SH_TOK_C : Fld := ⟨0x1A058, 0, 32, 9728⟩
def SHAPE.SH_TOK_P : Fld := ⟨0x1A05C, 0, 32, 9728⟩

/-! Page POLICE (0x1B). -/
def POLICE.PL_SEL : Fld := ⟨0x1B040, 0, 8, 0⟩
def POLICE.PL_EN : Fld := ⟨0x1B044, 31, 1, 0⟩
def POLICE.PL_MODE : Fld := ⟨0x1B044, 30, 1, 0⟩
def POLICE.PL_COLOUR_AWARE : Fld := ⟨0x1B044, 29, 1, 0⟩
def POLICE.PL_RED_PASS : Fld := ⟨0x1B044, 28, 1, 0⟩
def POLICE.PL_YELLOW_DROP : Fld := ⟨0x1B044, 27, 1, 0⟩
def POLICE.PL_CIR : Fld := ⟨0x1B048, 0, 32, 0⟩
def POLICE.PL_CBS : Fld := ⟨0x1B04C, 0, 24, 9728⟩
def POLICE.PL_PIR : Fld := ⟨0x1B050, 0, 32, 0⟩
def POLICE.PL_B2 : Fld := ⟨0x1B054, 0, 24, 9728⟩
def POLICE.PL_TOK_1 : Fld := ⟨0x1B058, 0, 32, 9728⟩
def POLICE.PL_TOK_2 : Fld := ⟨0x1B05C, 0, 32, 9728⟩
def POLICE.PL_GREEN : Fld := ⟨0x1B060, 0, 32, 0⟩
def POLICE.PL_YELLOW : Fld := ⟨0x1B064, 0, 32, 0⟩
def POLICE.PL_RED : Fld := ⟨0x1B068, 0, 32, 0⟩

/-! Page TEL (0x1C). -/
def TEL.HIST_BASE : Fld := ⟨0x1C040, 0, 16, 4000⟩
def TEL.SOJ_ALARM : Fld := ⟨0x1C044, 0, 32, 4294967295⟩
def TEL.TEL_CLEAR : Fld := ⟨0x1C048, 31, 1, 0⟩
def TEL.TEL_QUEUE : Fld := ⟨0x1C048, 0, 10, 0⟩
def TEL.DEPTH_Q_LAST : Fld := ⟨0x1C080, 0, 17, 0⟩
def TEL.DEPTH_S_LAST : Fld := ⟨0x1C084, 0, 17, 0⟩
def TEL.DEPTH_Q_MIN : Fld := ⟨0x1C088, 0, 17, 0⟩
def TEL.DEPTH_Q_MAX : Fld := ⟨0x1C08C, 0, 17, 0⟩
def TEL.SOJ_LAST : Fld := ⟨0x1C090, 0, 32, 0⟩
def TEL.SOJ_MIN : Fld := ⟨0x1C094, 0, 32, 0⟩
def TEL.SOJ_MAX : Fld := ⟨0x1C098, 0, 32, 0⟩
def TEL.HIST (i : Nat) : Fld := ⟨0x1C0A0 + 4 * i, 0, 32, 0⟩
def TEL.T_FRAMES_OUT : Fld := ⟨0x1C0C0, 0, 32, 0⟩
def TEL.T_BYTES_OUT : Fld := ⟨0x1C0C4, 0, 32, 0⟩
def TEL.DROPS_FULL : Fld := ⟨0x1C0C8, 0, 32, 0⟩
def TEL.DROPS_YELLOW : Fld := ⟨0x1C0CC, 0, 32, 0⟩
def TEL.DROPS_FLUSH : Fld := ⟨0x1C0D0, 0, 32, 0⟩
def TEL.T_DEFICIT : Fld := ⟨0x1C0D4, 0, 32, 0⟩
def TEL.T_SAMPLES : Fld := ⟨0x1C0D8, 0, 32, 0⟩

/-! Page BB (0x1D). -/
def BB.HIST_FRAMES : Fld := ⟨0x1D040, 0, 8, 8⟩
def BB.PRED (i : Nat) : Fld := ⟨0x1D100 + 32 * i, 30, 2, 0⟩
def BB.PRED_OAM (i : Nat) : Fld := ⟨0x1D100 + 32 * i, 29, 1, 0⟩
def BB.STAGE_CAP (i : Nat) : Fld := ⟨0x1D100 + 32 * i, 0, 18, 0⟩
def BB.STAGE (i : Nat) : Fld := ⟨0x1D104 + 32 * i, 30, 2, 0⟩
def BB.UNIT_BYTES (i : Nat) : Fld := ⟨0x1D104 + 32 * i, 0, 18, 0⟩
def BB.BB_CONFIRMED (i : Nat) : Fld := ⟨0x1D108 + 32 * i, 0, 32, 0⟩
def BB.BB_WITHDRAWN (i : Nat) : Fld := ⟨0x1D10C + 32 * i, 0, 32, 0⟩
def BB.BB_PARTIAL (i : Nat) : Fld := ⟨0x1D110 + 32 * i, 0, 32, 0⟩
def BB.BB_UNSTAGED (i : Nat) : Fld := ⟨0x1D114 + 32 * i, 0, 32, 0⟩
def BB.LAST_WD (i : Nat) : Fld := ⟨0x1D118 + 32 * i, 0, 3, 0⟩

/-! Page DECK (0x20). -/
def DECK.UP_DRAIN : Fld := ⟨0x20040, 0, 1, 0⟩
def DECK.UP_ENC : Fld := ⟨0x20044, 0, 16, 0⟩
def DECK.IN_SERVICE : Fld := ⟨0x20048, 24, 4, 8⟩
def DECK.DEC_BUF : Fld := ⟨0x20048, 0, 19, 0⟩
def DECK.KS_STORE : Fld := ⟨0x2004C, 0, 19, 0⟩
def DECK.BLOCKS (i : Nat) : Fld := ⟨0x20080 + 4 * i, 0, 32, 0⟩
def DECK.DEC_OVERRUN : Fld := ⟨0x20094, 0, 32, 0⟩
def DECK.KS_LATE : Fld := ⟨0x20098, 0, 32, 0⟩
def DECK.UP_FRAME_SKIP : Fld := ⟨0x2009C, 0, 32, 0⟩
def DECK.KEY_MISSING : Fld := ⟨0x200A0, 0, 32, 0⟩

/-! Page DEAL (0x21). -/
def DEAL.STARVE_ROUNDS : Fld := ⟨0x21040, 24, 8, 64⟩
def DEAL.WDOG : Fld := ⟨0x21040, 0, 20, 65536⟩
def DEAL.ROUNDS : Fld := ⟨0x21060, 0, 32, 0⟩
def DEAL.RECLAIMS : Fld := ⟨0x21064, 0, 32, 0⟩
def DEAL.SEAT_MODE (i : Nat) : Fld := ⟨0x21080 + 4 * i, 31, 1, [0, 1, 0, 0, 0].getD i 0⟩
def DEAL.HAND_BLOCKS (i : Nat) : Fld := ⟨0x21080 + 4 * i, 20, 8, [16, 16, 0, 16, 0].getD i 0⟩
def DEAL.MAX_HELD (i : Nat) : Fld := ⟨0x21080 + 4 * i, 16, 4, [5, 3, 1, 2, 1].getD i 0⟩
def DEAL.CEILING (i : Nat) : Fld := ⟨0x21080 + 4 * i, 12, 4, [12, 11, 13, 9, 9].getD i 0⟩
def DEAL.BASE (i : Nat) : Fld := ⟨0x21080 + 4 * i, 8, 4, [10, 11, 8, 3, 6].getD i 0⟩
def DEAL.SEAT_REQ (i : Nat) : Fld := ⟨0x210A0 + 4 * i, 31, 1, 0⟩
def DEAL.SEAT_HINT (i : Nat) : Fld := ⟨0x210A0 + 4 * i, 16, 12, 0⟩
def DEAL.SEAT_LOST (i : Nat) : Fld := ⟨0x210A0 + 4 * i, 12, 4, 0⟩
def DEAL.SEAT_EFF (i : Nat) : Fld := ⟨0x210A0 + 4 * i, 8, 4, [10, 11, 8, 3, 6].getD i 0⟩
def DEAL.SEAT_HELD (i : Nat) : Fld := ⟨0x210A0 + 4 * i, 0, 4, 0⟩
def DEAL.SEAT_WINS (i : Nat) : Fld := ⟨0x210C0 + 4 * i, 0, 32, 0⟩
def DEAL.HELD_CYC (i : Nat) : Fld := ⟨0x21100 + 4 * i, 12, 20, 0⟩
def DEAL.ENG_SEAT (i : Nat) : Fld := ⟨0x21100 + 4 * i, 4, 3, 0⟩
def DEAL.ENG_STATE (i : Nat) : Fld := ⟨0x21100 + 4 * i, 0, 3, [0, 0, 0, 0, 0, 0, 0, 0, 1].getD i 0⟩

/-! Page KEYS (0x22). -/
def KEYS.IMP_SLOT : Fld := ⟨0x22040, 0, 8, 0⟩
def KEYS.IMP_CLEAR : Fld := ⟨0x22044, 31, 1, 0⟩
def KEYS.IMP_SECRET : Fld := ⟨0x22044, 30, 1, 1⟩
def KEYS.IMP_KEYLEN : Fld := ⟨0x22044, 24, 2, 0⟩
def KEYS.IMP_KEK : Fld := ⟨0x22044, 8, 8, 69⟩
def KEYS.IMP_LEN : Fld := ⟨0x22044, 0, 6, 24⟩
def KEYS.IMP_SALT : Fld := ⟨0x22048, 0, 32, 0⟩
def KEYS.IMP_DATA (i : Nat) : Fld := ⟨0x22050 + 4 * i, 0, 32, 0⟩
def KEYS.KEY_OP : Fld := ⟨0x22078, 0, 2, 0⟩
def KEYS.KEY_BUSY : Fld := ⟨0x2207C, 31, 1, 0⟩
def KEYS.KEY_CODE : Fld := ⟨0x2207C, 0, 8, 0⟩
def KEYS.SLOT_SEL : Fld := ⟨0x22080, 0, 8, 0⟩
def KEYS.SLOT_VALID : Fld := ⟨0x22084, 31, 1, 0⟩
def KEYS.SLOT_SECRET : Fld := ⟨0x22084, 30, 1, 0⟩
def KEYS.SLOT_KEYLEN : Fld := ⟨0x22084, 24, 2, 0⟩
def KEYS.SLOT_USE : Fld := ⟨0x22084, 16, 8, 0⟩
def KEYS.SLOT_GEN : Fld := ⟨0x22084, 0, 16, 0⟩
def KEYS.HOST_BANK : Fld := ⟨0x22088, 1, 1, 0⟩
def KEYS.OAM_SET : Fld := ⟨0x22088, 0, 1, 0⟩
def KEYS.ACT_FRAME : Fld := ⟨0x2208C, 0, 64, 0⟩
def KEYS.UP_IV_COUNT (i : Nat) : Fld := ⟨0x220A0 + 8 * i, 0, 64, 0⟩
def KEYS.UPSW_LO (i : Nat) : Fld := ⟨0x22100 + 8 * i, 0, 32, 0⟩
def KEYS.UPSW_PEND (i : Nat) : Fld := ⟨0x22104 + 8 * i, 31, 1, 0⟩
def KEYS.UPSW_PHASE (i : Nat) : Fld := ⟨0x22104 + 8 * i, 30, 1, 0⟩
def KEYS.UPSW_ACT_PHASE (i : Nat) : Fld := ⟨0x22104 + 8 * i, 29, 1, 0⟩
def KEYS.UPSW_FRAME_HI (i : Nat) : Fld := ⟨0x22104 + 8 * i, 0, 16, 0⟩

/-! Page CTXQ (0x23). -/
def CTXQ.JOBS_DONE : Fld := ⟨0x23040, 0, 32, 0⟩
def CTXQ.JOBS_REFUSED : Fld := ⟨0x23044, 0, 32, 0⟩
def CTXQ.JOBS_AUTH : Fld := ⟨0x23048, 0, 32, 0⟩
def CTXQ.JOBS_DEALT_OUT : Fld := ⟨0x2304C, 0, 32, 0⟩
def CTXQ.DESC_BASE (i : Nat) : Fld := ⟨0x23100 + 32 * i, 0, 64, 0⟩
def CTXQ.CPL_BASE (i : Nat) : Fld := ⟨0x23108 + 32 * i, 0, 64, 0⟩
def CTXQ.RING_EN (i : Nat) : Fld := ⟨0x23110 + 32 * i, 31, 1, 0⟩
def CTXQ.RING_SIZE (i : Nat) : Fld := ⟨0x23110 + 32 * i, 0, 4, 4⟩
def CTXQ.RING_HEAD (i : Nat) : Fld := ⟨0x23114 + 32 * i, 16, 12, 0⟩
def CTXQ.RING_TAIL (i : Nat) : Fld := ⟨0x23114 + 32 * i, 0, 12, 0⟩
def CTXQ.RING_DONE (i : Nat) : Fld := ⟨0x23118 + 32 * i, 0, 32, 0⟩

/-! Page AFE (0x30). -/
def AFE.LEGAL_LOCK (i : Nat) : Fld := ⟨0x30040 + 4 * i, 31, 1, 0⟩
def AFE.OPEN_PULL (i : Nat) : Fld := ⟨0x30040 + 4 * i, 30, 1, 0⟩
def AFE.PIN_ROLE (i : Nat) : Fld := ⟨0x30040 + 4 * i, 8, 4, 0⟩
def AFE.PIN_OWNER (i : Nat) : Fld := ⟨0x30040 + 4 * i, 0, 5, 0⟩
def AFE.EXC_EN (i : Nat) : Fld := ⟨0x300C0 + 4 * i, 31, 1, 0⟩
def AFE.EXC_REVERSE (i : Nat) : Fld := ⟨0x300C0 + 4 * i, 30, 1, 0⟩
def AFE.REV_PERIOD (i : Nat) : Fld := ⟨0x300C0 + 4 * i, 16, 8, 100⟩
def AFE.EXC_SENSE (i : Nat) : Fld := ⟨0x300C0 + 4 * i, 8, 1, 0⟩
def AFE.ILIM (i : Nat) : Fld := ⟨0x300C0 + 4 * i, 0, 6, 30⟩
def AFE.EXC_STATE (i : Nat) : Fld := ⟨0x300E0 + 4 * i, 30, 2, 0⟩
def AFE.REVERSED (i : Nat) : Fld := ⟨0x300E0 + 4 * i, 29, 1, 0⟩
def AFE.SENSE_PM (i : Nat) : Fld := ⟨0x300E0 + 4 * i, 16, 10, 0⟩
def AFE.EXC_CURRENT (i : Nat) : Fld := ⟨0x300E0 + 4 * i, 0, 16, 0⟩
def AFE.EXC_FILTER : Fld := ⟨0x30100, 24, 8, 4⟩
def AFE.EXC_TIMEOUT : Fld := ⟨0x30100, 16, 8, 10⟩
def AFE.SNS_MIN : Fld := ⟨0x30100, 8, 8, 90⟩
def AFE.I_MIN : Fld := ⟨0x30100, 0, 8, 1⟩
def AFE.BLANK_GROUP (i : Nat) : Fld := ⟨0x30110 + 4 * i, 0, 18, 0⟩
def AFE.BLANK_POLICY : Fld := ⟨0x30130, 0, 16, 0⟩
def AFE.BLANK_POST : Fld := ⟨0x30134, 24, 8, 0⟩
def AFE.BLANK_PIN_GROUPS : Fld := ⟨0x30134, 0, 8, 0⟩
def AFE.BLANK_FILTER : Fld := ⟨0x30138, 16, 16, 400⟩
def AFE.BLANK_MAX_EDGES : Fld := ⟨0x30138, 8, 8, 20⟩
def AFE.BLANK_TIMEOUT : Fld := ⟨0x30138, 0, 8, 40⟩
def AFE.BLANK_OPEN : Fld := ⟨0x3013C, 16, 8, 0⟩
def AFE.PIN_FILT : Fld := ⟨0x3013C, 1, 1, 0⟩
def AFE.PIN_IGNORED : Fld := ⟨0x3013C, 0, 1, 0⟩
def AFE.CMD_FRAMES : Fld := ⟨0x30140, 16, 16, 0⟩
def AFE.CMD_GROUP : Fld := ⟨0x30140, 8, 3, 0⟩
def AFE.CMD_OP : Fld := ⟨0x30140, 0, 4, 0⟩
def AFE.CMD_BUSY : Fld := ⟨0x30144, 31, 1, 0⟩
def AFE.CMD_CODE : Fld := ⟨0x30144, 0, 8, 0⟩
def AFE.TR_UNIT (i : Nat) : Fld := ⟨0x30150 + 4 * i, 24, 8, 0⟩
def AFE.TR_ACTION (i : Nat) : Fld := ⟨0x30150 + 4 * i, 16, 8, 0⟩
def AFE.TR_ARG (i : Nat) : Fld := ⟨0x30150 + 4 * i, 0, 16, 0⟩
def AFE.TRIG_EDGE0 : Fld := ⟨0x30160, 0, 2, 0⟩
def AFE.TRIG_EDGE1 : Fld := ⟨0x30160, 4, 2, 0⟩
def AFE.TRIG_EDGE2 : Fld := ⟨0x30160, 8, 2, 0⟩
def AFE.TRIG_EDGE3 : Fld := ⟨0x30160, 12, 2, 0⟩
def AFE.TRIG_FILTER : Fld := ⟨0x30164, 16, 16, 40⟩
def AFE.TRIG_MAX_EDGES : Fld := ⟨0x30164, 8, 8, 100⟩
def AFE.SLICE_ROLE (i : Nat) : Fld := ⟨0x30180 + 4 * i, 29, 3, 0⟩
def AFE.SLICE_USER (i : Nat) : Fld := ⟨0x30180 + 4 * i, 24, 5, 0⟩
def AFE.SLICE_SHADOW (i : Nat) : Fld := ⟨0x30180 + 4 * i, 16, 5, 31⟩
def AFE.SWAP_OP : Fld := ⟨0x301D0, 30, 2, 0⟩
def AFE.SWAP_RESULT : Fld := ⟨0x301D0, 28, 2, 0⟩
def AFE.SWAP_A : Fld := ⟨0x301D0, 16, 5, 0⟩
def AFE.SWAP_X : Fld := ⟨0x301D0, 0, 5, 0⟩
def AFE.SWAP_BUSY : Fld := ⟨0x301D4, 31, 1, 0⟩
def AFE.SWAP_CODE : Fld := ⟨0x301D4, 0, 8, 0⟩
def AFE.BLANK_EDGES : Fld := ⟨0x301E0, 0, 32, 0⟩
def AFE.TRIG_EDGES (i : Nat) : Fld := ⟨0x301E4 + 4 * i, 0, 32, 0⟩
def AFE.PIN_REFUSED : Fld := ⟨0x301F4, 0, 32, 0⟩
def AFE.WINDOWS : Fld := ⟨0x301F8, 0, 32, 0⟩

/-! Page SLICE (0x31–0x42). -/
def SLICE.MODE (p : Nat) : Fld := ⟨0x31040 + 0x1000 * p, 29, 3, 0⟩
def SLICE.GAIN (p : Nat) : Fld := ⟨0x31040 + 0x1000 * p, 24, 3, 0⟩
def SLICE.RFB (p : Nat) : Fld := ⟨0x31040 + 0x1000 * p, 20, 2, 0⟩
def SLICE.RATE (p : Nat) : Fld := ⟨0x31040 + 0x1000 * p, 16, 3, 2⟩
def SLICE.PAIR (p : Nat) : Fld := ⟨0x31040 + 0x1000 * p, 12, 3, 0⟩
def SLICE.FILTER (p : Nat) : Fld := ⟨0x31044 + 0x1000 * p, 24, 8, 3⟩
def SLICE.TIMEOUT (p : Nat) : Fld := ⟨0x31044 + 0x1000 * p, 16, 8, 20⟩
def SLICE.OVER_LIM (p : Nat) : Fld := ⟨0x31044 + 0x1000 * p, 0, 16, 30720⟩
def SLICE.HIGH (p : Nat) : Fld := ⟨0x31048 + 0x1000 * p, 16, 16, 3500⟩
def SLICE.LOW (p : Nat) : Fld := ⟨0x31048 + 0x1000 * p, 0, 16, 1500⟩
def SLICE.MATCH_OFFSET (p : Nat) : Fld := ⟨0x3104C + 0x1000 * p, 0, 32, 0⟩
def SLICE.MATCH_GAIN (p : Nat) : Fld := ⟨0x31050 + 0x1000 * p, 0, 32, 0⟩
def SLICE.ST_LEGAL (p : Nat) : Fld := ⟨0x31054 + 0x1000 * p, 31, 1, 0⟩
def SLICE.ST_ROLE (p : Nat) : Fld := ⟨0x31054 + 0x1000 * p, 28, 3, 0⟩
def SLICE.ST_USER (p : Nat) : Fld := ⟨0x31054 + 0x1000 * p, 23, 5, 0⟩
def SLICE.ST_SHADOW (p : Nat) : Fld := ⟨0x31054 + 0x1000 * p, 18, 5, 0⟩
def SLICE.SETTLED (p : Nat) : Fld := ⟨0x31054 + 0x1000 * p, 7, 1, 0⟩
def SLICE.STALL (p : Nat) : Fld := ⟨0x31054 + 0x1000 * p, 4, 1, 0⟩
def SLICE.LOOPIN (p : Nat) : Fld := ⟨0x31054 + 0x1000 * p, 3, 1, 0⟩
def SLICE.CM (p : Nat) : Fld := ⟨0x31054 + 0x1000 * p, 2, 1, 0⟩
def SLICE.OVER (p : Nat) : Fld := ⟨0x31054 + 0x1000 * p, 1, 1, 0⟩
def SLICE.FAULT (p : Nat) : Fld := ⟨0x31054 + 0x1000 * p, 0, 1, 0⟩
def SLICE.SAMPLE (p : Nat) : Fld := ⟨0x31058 + 0x1000 * p, 0, 32, 0⟩
def SLICE.SAMPLE_SC (p : Nat) : Fld := ⟨0x3105C + 0x1000 * p, 0, 64, 0⟩
def SLICE.SAMPLE_FLAGS (p : Nat) : Fld := ⟨0x31064 + 0x1000 * p, 0, 32, 0⟩
def SLICE.CM_NOW (p : Nat) : Fld := ⟨0x31068 + 0x1000 * p, 0, 16, 0⟩
def SLICE.SAMPLES (p : Nat) : Fld := ⟨0x31070 + 0x1000 * p, 0, 32, 0⟩
def SLICE.BLANKED_SAMPLES (p : Nat) : Fld := ⟨0x31074 + 0x1000 * p, 0, 32, 0⟩
def SLICE.REV_DROPPED (p : Nat) : Fld := ⟨0x31078 + 0x1000 * p, 0, 32, 0⟩
def SLICE.GUARD_FAILS (p : Nat) : Fld := ⟨0x3107C + 0x1000 * p, 0, 32, 0⟩
def SLICE.CMP_CLEAR (p : Nat) : Fld := ⟨0x31080 + 0x1000 * p, 0, 1, 0⟩
def SLICE.CMP_COUNT (p : Nat) : Fld := ⟨0x31084 + 0x1000 * p, 0, 32, 0⟩
def SLICE.CMP_SUM (p : Nat) : Fld := ⟨0x31088 + 0x1000 * p, 0, 64, 0⟩
def SLICE.CMP_MAXABS (p : Nat) : Fld := ⟨0x31090 + 0x1000 * p, 0, 32, 0⟩

/-! Page LOOP (0x5C). -/
def LOOP.LOOP_EN (i : Nat) : Fld := ⟨0x5C100 + 64 * i, 31, 1, 0⟩
def LOOP.FAIL_HIGH (i : Nat) : Fld := ⟨0x5C100 + 64 * i, 30, 1, 0⟩
def LOOP.NFT_FAULT (i : Nat) : Fld := ⟨0x5C100 + 64 * i, 29, 1, 1⟩
def LOOP.LOOP_SRC (i : Nat) : Fld := ⟨0x5C100 + 64 * i, 24, 4, 0⟩
def LOOP.SRC_IDX (i : Nat) : Fld := ⟨0x5C100 + 64 * i, 16, 8, 0⟩
def LOOP.LOOP_ZERO (i : Nat) : Fld := ⟨0x5C104 + 64 * i, 0, 64, 0⟩
def LOOP.LOOP_SPAN (i : Nat) : Fld := ⟨0x5C10C + 64 * i, 0, 64, 1⟩
def LOOP.LOOP_HOST (i : Nat) : Fld := ⟨0x5C114 + 64 * i, 0, 64, 0⟩
def LOOP.LOOP_FILTER (i : Nat) : Fld := ⟨0x5C11C + 64 * i, 24, 8, 10⟩
def LOOP.LOOP_STALE (i : Nat) : Fld := ⟨0x5C11C + 64 * i, 16, 8, 40⟩
def LOOP.LOOP_ERR_MAX (i : Nat) : Fld := ⟨0x5C11C + 64 * i, 0, 16, 200⟩
def LOOP.LOOP_STATE (i : Nat) : Fld := ⟨0x5C120 + 64 * i, 29, 3, 0⟩
def LOOP.SETPOINT (i : Nat) : Fld := ⟨0x5C120 + 64 * i, 0, 16, 0⟩
def LOOP.DRV (i : Nat) : Fld := ⟨0x5C124 + 64 * i, 16, 16, 0⟩
def LOOP.LOOP_CURRENT (i : Nat) : Fld := ⟨0x5C124 + 64 * i, 0, 16, 0⟩
def LOOP.LOOP_UPDATES (i : Nat) : Fld := ⟨0x5C128 + 64 * i, 0, 32, 0⟩
def LOOP.LOOP_FAULTS (i : Nat) : Fld := ⟨0x5C12C + 64 * i, 0, 32, 0⟩

/-! Page WGH (0x48). -/
def WGH.SET_EN (i : Nat) : Fld := ⟨0x48100 + 256 * i, 31, 1, 0⟩
def WGH.SET_LEGAL (i : Nat) : Fld := ⟨0x48100 + 256 * i, 30, 1, 0⟩
def WGH.MEMBERS (i : Nat) : Fld := ⟨0x48100 + 256 * i, 0, 16, 0⟩
def WGH.E_MG (i : Nat) : Fld := ⟨0x48104 + 256 * i, 0, 32, 0⟩
def WGH.MAX_E (i : Nat) : Fld := ⟨0x48108 + 256 * i, 16, 16, 0⟩
def WGH.ZERO_RANGE (i : Nat) : Fld := ⟨0x48108 + 256 * i, 8, 8, 4⟩
def WGH.INIT_RANGE (i : Nat) : Fld := ⟨0x48108 + 256 * i, 0, 8, 10⟩
def WGH.ZT_STALE_LIMIT (i : Nat) : Fld := ⟨0x4810C + 256 * i, 16, 16, 3600⟩
def WGH.DRIFT_RATE (i : Nat) : Fld := ⟨0x4810C + 256 * i, 0, 16, 60000⟩
def WGH.MOTION_N (i : Nat) : Fld := ⟨0x48110 + 256 * i, 24, 8, 5⟩
def WGH.MOTION_PCT (i : Nat) : Fld := ⟨0x48110 + 256 * i, 16, 8, 50⟩
def WGH.SET_POLICY (i : Nat) : Fld := ⟨0x48110 + 256 * i, 8, 2, 0⟩
def WGH.FILL_MIN (i : Nat) : Fld := ⟨0x48110 + 256 * i, 0, 8, 90⟩
def WGH.DE_TOL_MEAN (i : Nat) : Fld := ⟨0x48114 + 256 * i, 0, 32, 0⟩
def WGH.DE_TOL_PEAK (i : Nat) : Fld := ⟨0x48118 + 256 * i, 0, 32, 0⟩
def WGH.DE_DWELL (i : Nat) : Fld := ⟨0x4811C + 256 * i, 0, 16, 10000⟩
def WGH.LIN_C (i : Nat) (j : Nat) : Fld := ⟨0x48120 + 256 * i + 8 * j, 0, 64, 0⟩
def WGH.CAL_ZERO (i : Nat) : Fld := ⟨0x48150 + 256 * i, 0, 64, 0⟩
def WGH.SET_OP (i : Nat) : Fld := ⟨0x48158 + 256 * i, 0, 4, 0⟩
def WGH.CMD_ARG (i : Nat) : Fld := ⟨0x4815C + 256 * i, 0, 64, 0⟩
def WGH.SET_BUSY (i : Nat) : Fld := ⟨0x48164 + 256 * i, 31, 1, 0⟩
def WGH.SET_CODE (i : Nat) : Fld := ⟨0x48164 + 256 * i, 0, 8, 0⟩
def WGH.VALUE_FLAGS (i : Nat) : Fld := ⟨0x48170 + 256 * i, 0, 32, 1052676⟩
def WGH.GROSS (i : Nat) : Fld := ⟨0x48174 + 256 * i, 0, 64, 0⟩
def WGH.NET (i : Nat) : Fld := ⟨0x4817C + 256 * i, 0, 64, 0⟩
def WGH.TARE (i : Nat) : Fld := ⟨0x48184 + 256 * i, 0, 64, 0⟩
def WGH.VALUE_SC (i : Nat) : Fld := ⟨0x4818C + 256 * i, 0, 64, 0⟩
def WGH.ZERO_REF (i : Nat) : Fld := ⟨0x48194 + 256 * i, 0, 64, 0⟩
def WGH.STALE_S (i : Nat) : Fld := ⟨0x4819C + 256 * i, 0, 32, 0⟩
def WGH.BOUND_UE (i : Nat) : Fld := ⟨0x481A0 + 256 * i, 0, 32, 0⟩
def WGH.DYN_ZERO (i : Nat) : Fld := ⟨0x481A4 + 256 * i, 0, 64, 0⟩
def WGH.WIN_STATE (i : Nat) : Fld := ⟨0x481AC + 256 * i, 30, 2, 0⟩
def WGH.WIN_REMAIN (i : Nat) : Fld := ⟨0x481AC + 256 * i, 0, 12, 0⟩
def WGH.WIN_FLAGS (i : Nat) : Fld := ⟨0x481B0 + 256 * i, 0, 32, 0⟩
def WGH.WIN_GROSS (i : Nat) : Fld := ⟨0x481B4 + 256 * i, 0, 64, 0⟩
def WGH.WIN_NET (i : Nat) : Fld := ⟨0x481BC + 256 * i, 0, 64, 0⟩
def WGH.WIN_SC (i : Nat) : Fld := ⟨0x481C4 + 256 * i, 0, 64, 0⟩
def WGH.SET_MISSED (i : Nat) : Fld := ⟨0x481CC + 256 * i, 0, 32, 0⟩
def WGH.SET_WINDOWS (i : Nat) : Fld := ⟨0x481D0 + 256 * i, 0, 32, 0⟩

/-! Page WCH (0x49–0x58). -/
def WCH.OUT_RATE (p : Nat) : Fld := ⟨0x49040 + 0x1000 * p, 28, 4, 3⟩
def WCH.AVG_ORDER (p : Nat) : Fld := ⟨0x49040 + 0x1000 * p, 24, 2, 1⟩
def WCH.AVG_LEN (p : Nat) : Fld := ⟨0x49040 + 0x1000 * p, 0, 16, 1000⟩
def WCH.DL_MIN (p : Nat) : Fld := ⟨0x49044 + 0x1000 * p, 0, 32, 0⟩
def WCH.DL_FILTER (p : Nat) : Fld := ⟨0x49048 + 0x1000 * p, 0, 8, 3⟩
def WCH.CORNER (p : Nat) : Fld := ⟨0x4904C + 0x1000 * p, 0, 32, 1073741824⟩
def WCH.N_FENCE_TICKS (p : Nat) : Fld := ⟨0x49050 + 0x1000 * p, 24, 8, 40⟩
def WCH.F_STEP (p : Nat) : Fld := ⟨0x49050 + 0x1000 * p, 16, 8, 5⟩
def WCH.N_FREEZE (p : Nat) : Fld := ⟨0x49050 + 0x1000 * p, 4, 4, 0⟩
def WCH.N_EN (p : Nat) : Fld := ⟨0x49050 + 0x1000 * p, 0, 4, 0⟩
def WCH.CMD_ARG (p : Nat) : Fld := ⟨0x49060 + 0x1000 * p, 16, 16, 0⟩
def WCH.CMD_OP (p : Nat) : Fld := ⟨0x49060 + 0x1000 * p, 0, 16, 0⟩
def WCH.CMD_BUSY (p : Nat) : Fld := ⟨0x49064 + 0x1000 * p, 31, 1, 0⟩
def WCH.CMD_CODE (p : Nat) : Fld := ⟨0x49064 + 0x1000 * p, 0, 8, 0⟩
def WCH.SEAL_FMAX (p : Nat) (i : Nat) : Fld := ⟨0x49080 + 0x1000 * p + 16 * i, 16, 16, 60000⟩
def WCH.SEAL_FMIN (p : Nat) (i : Nat) : Fld := ⟨0x49080 + 0x1000 * p + 16 * i, 0, 16, 50⟩
def WCH.FMAX (p : Nat) (i : Nat) : Fld := ⟨0x49084 + 0x1000 * p + 16 * i, 16, 16, 60000⟩
def WCH.FMIN (p : Nat) (i : Nat) : Fld := ⟨0x49084 + 0x1000 * p + 16 * i, 0, 16, 50⟩
def WCH.NOTCH_W (p : Nat) (i : Nat) : Fld := ⟨0x49088 + 0x1000 * p + 16 * i, 16, 16, 100⟩
def WCH.F_INIT (p : Nat) (i : Nat) : Fld := ⟨0x49088 + 0x1000 * p + 16 * i, 0, 16, 2500⟩
def WCH.N_HELD_NOW (p : Nat) (i : Nat) : Fld := ⟨0x4908C + 0x1000 * p + 16 * i, 31, 1, 0⟩
def WCH.N_HELD_TICKS (p : Nat) (i : Nat) : Fld := ⟨0x4908C + 0x1000 * p + 16 * i, 16, 8, 0⟩
def WCH.NOTCH_F (p : Nat) (i : Nat) : Fld := ⟨0x4908C + 0x1000 * p + 16 * i, 0, 16, 0⟩
def WCH.OUT_RAW (p : Nat) : Fld := ⟨0x49100 + 0x1000 * p, 0, 32, 0⟩
def WCH.OUT_SC (p : Nat) : Fld := ⟨0x49104 + 0x1000 * p, 0, 64, 0⟩
def WCH.DATA_SC (p : Nat) : Fld := ⟨0x4910C + 0x1000 * p, 0, 64, 0⟩
def WCH.OUT_FILL (p : Nat) : Fld := ⟨0x49114 + 0x1000 * p, 16, 7, 0⟩
def WCH.OUT_FLAGS (p : Nat) : Fld := ⟨0x49114 + 0x1000 * p, 0, 6, 0⟩
def WCH.DE_LAST_MEAN (p : Nat) : Fld := ⟨0x49120 + 0x1000 * p, 0, 32, 0⟩
def WCH.DE_LAST_PEAK (p : Nat) : Fld := ⟨0x49124 + 0x1000 * p, 0, 32, 0⟩
def WCH.DE_PASSES (p : Nat) : Fld := ⟨0x49128 + 0x1000 * p, 0, 32, 0⟩
def WCH.DE_FAILS (p : Nat) : Fld := ⟨0x4912C + 0x1000 * p, 0, 32, 0⟩
def WCH.OUTPUTS (p : Nat) : Fld := ⟨0x49130 + 0x1000 * p, 0, 32, 0⟩
def WCH.BLANKED_OUT (p : Nat) : Fld := ⟨0x49134 + 0x1000 * p, 0, 32, 0⟩
def WCH.MARKER_OUT (p : Nat) : Fld := ⟨0x49138 + 0x1000 * p, 0, 32, 0⟩
def WCH.DL_FAULTS (p : Nat) : Fld := ⟨0x4913C + 0x1000 * p, 0, 32, 0⟩

/-! Page USX (0x5A). -/
def USX.DRV_MODE : Fld := ⟨0x5A040, 31, 1, 0⟩
def USX.REPEAT : Fld := ⟨0x5A040, 28, 3, 1⟩
def USX.USX_POLICY : Fld := ⟨0x5A040, 26, 2, 0⟩
def USX.RX_SLICE : Fld := ⟨0x5A040, 16, 5, 31⟩
def USX.SHOT_GAP : Fld := ⟨0x5A044, 0, 32, 80000⟩
def USX.REF_PORT : Fld := ⟨0x5A048, 24, 3, 0⟩
def USX.RTD0 : Fld := ⟨0x5A048, 20, 3, 0⟩
def USX.RTD1 : Fld := ⟨0x5A048, 16, 3, 0⟩
def USX.RTD2 : Fld := ⟨0x5A048, 12, 3, 0⟩
def USX.RTD_EN : Fld := ⟨0x5A048, 0, 3, 0⟩
def USX.CHARGE : Fld := ⟨0x5A04C, 16, 16, 20000⟩
def USX.DIS_TIMEOUT : Fld := ⟨0x5A04C, 0, 16, 16000⟩
def USX.R_REF : Fld := ⟨0x5A050, 0, 32, 1000000⟩
def USX.R0 (i : Nat) : Fld := ⟨0x5A054 + 4 * i, 0, 32, 1000000⟩
def USX.T_MAX : Fld := ⟨0x5A060, 16, 16, 1500⟩
def USX.T_MIN : Fld := ⟨0x5A060, 0, 16, 65036⟩
def USX.T_FILTER : Fld := ⟨0x5A064, 24, 8, 3⟩
def USX.T_HOLD : Fld := ⟨0x5A064, 0, 16, 60⟩
def USX.TEMP (i : Nat) : Fld := ⟨0x5A068 + 4 * i, 0, 32, 0⟩
def USX.T_MED : Fld := ⟨0x5A074, 0, 32, 0⟩
def USX.T_OPEN : Fld := ⟨0x5A078, 4, 3, 0⟩
def USX.T_FAULT : Fld := ⟨0x5A078, 0, 3, 0⟩
def USX.AREA : Fld := ⟨0x5A080, 0, 32, 0⟩
def USX.MF : Fld := ⟨0x5A084, 0, 32, 1073741824⟩
def USX.CUTOFF : Fld := ⟨0x5A088, 0, 32, 0⟩
def USX.QMAX : Fld := ⟨0x5A08C, 0, 32, 4294967295⟩
def USX.GAP_MAX : Fld := ⟨0x5A090, 16, 16, 400⟩
def USX.C_TOL : Fld := ⟨0x5A090, 0, 16, 2000⟩
def USX.FB (i : Nat) : Fld := ⟨0x5A094 + 4 * i, 0, 32, 0⟩
def USX.RUN_LEAD_MAX : Fld := ⟨0x5A0A4, 0, 16, 200⟩
def USX.WEIGH_SET : Fld := ⟨0x5A0B0, 29, 3, 0⟩
def USX.DENS_SIGN : Fld := ⟨0x5A0B0, 28, 1, 0⟩
def USX.EXPECT : Fld := ⟨0x5A0B0, 24, 4, 0⟩
def USX.CLASS_FILTER : Fld := ⟨0x5A0B0, 20, 4, 3⟩
def USX.DMIN_E : Fld := ⟨0x5A0B0, 0, 16, 100⟩
def USX.VMIN_ML : Fld := ⟨0x5A0B4, 0, 32, 10000⟩
def USX.Q : Fld := ⟨0x5A0C0, 0, 32, 0⟩
def USX.C_MEAN : Fld := ⟨0x5A0C4, 0, 32, 0⟩
def USX.RESULT_FLAGS : Fld := ⟨0x5A0C8, 0, 32, 0⟩
def USX.RESULT_SC : Fld := ⟨0x5A0CC, 0, 64, 0⟩
def USX.TOTAL_VOL : Fld := ⟨0x5A0D4, 0, 64, 0⟩
def USX.REV_VOL : Fld := ⟨0x5A0DC, 0, 64, 0⟩
def USX.VOL_PEND : Fld := ⟨0x5A0E4, 0, 64, 0⟩
def USX.FRAC : Fld := ⟨0x5A0EC, 0, 32, 0⟩
def USX.CLASS : Fld := ⟨0x5A0F0, 28, 4, 15⟩
def USX.DEL_CLASS : Fld := ⟨0x5A0F0, 24, 4, 15⟩
def USX.DENS_RESULT : Fld := ⟨0x5A0F0, 22, 2, 0⟩
def USX.NA_WHY : Fld := ⟨0x5A0F0, 20, 2, 0⟩
def USX.MIXED : Fld := ⟨0x5A0F0, 17, 1, 0⟩
def USX.MISMATCH : Fld := ⟨0x5A0F0, 16, 1, 0⟩
def USX.RUN_DENSITY : Fld := ⟨0x5A0F4, 0, 32, 0⟩
def USX.DEL_DENSITY : Fld := ⟨0x5A0F8, 0, 32, 0⟩
def USX.SEQS : Fld := ⟨0x5A0FC, 0, 32, 0⟩
def USX.CMD_ARG : Fld := ⟨0x5A100, 16, 9, 0⟩
def USX.CMD_OP : Fld := ⟨0x5A100, 0, 4, 0⟩
def USX.CMD_BUSY : Fld := ⟨0x5A104, 31, 1, 0⟩
def USX.CMD_CODE : Fld := ⟨0x5A104, 0, 8, 0⟩
def USX.SEQ_OVERRUN : Fld := ⟨0x5A108, 0, 32, 0⟩
def USX.MC (i : Nat) (j : Nat) : Fld := ⟨0x5A400 + 32 * i + 4 * j, 0, 32, 0⟩
def USX.MED_VALID (i : Nat) : Fld := ⟨0x5A410 + 32 * i, 31, 1, 0⟩
def USX.C_BAND (i : Nat) : Fld := ⟨0x5A410 + 32 * i, 0, 16, 0⟩
def USX.MED_D0 (i : Nat) : Fld := ⟨0x5A414 + 32 * i, 0, 32, 0⟩
def USX.MED_D1 (i : Nat) : Fld := ⟨0x5A418 + 32 * i, 0, 32, 0⟩
def USX.MED_D_BAND (i : Nat) : Fld := ⟨0x5A41C + 32 * i, 0, 32, 0⟩

/-! Page USP (0x5B). -/
def USP.P_EN (i : Nat) : Fld := ⟨0x5B100 + 128 * i, 31, 1, 0⟩
def USP.P_LEGAL (i : Nat) : Fld := ⟨0x5B100 + 128 * i, 30, 1, 0⟩
def USP.CYCLES (i : Nat) : Fld := ⟨0x5B100 + 128 * i, 16, 5, 8⟩
def USP.HALF (i : Nat) : Fld := ⟨0x5B100 + 128 * i, 0, 9, 200⟩
def USP.RX_OPEN (i : Nat) : Fld := ⟨0x5B104 + 128 * i, 16, 16, 8000⟩
def USP.NZC (i : Nat) : Fld := ⟨0x5B104 + 128 * i, 10, 5, 4⟩
def USP.THR (i : Nat) : Fld := ⟨0x5B104 + 128 * i, 0, 10, 50⟩
def USP.L_UM (i : Nat) : Fld := ⟨0x5B108 + 128 * i, 0, 32, 0⟩
def USP.X_UM (i : Nat) : Fld := ⟨0x5B10C + 128 * i, 0, 32, 0⟩
def USP.T0 (i : Nat) : Fld := ⟨0x5B110 + 128 * i, 0, 32, 0⟩
def USP.ZERO_DT (i : Nat) : Fld := ⟨0x5B114 + 128 * i, 0, 32, 0⟩
def USP.WEIGHT (i : Nat) : Fld := ⟨0x5B118 + 128 * i, 0, 32, 0⟩
def USP.TOF_MIN (i : Nat) : Fld := ⟨0x5B11C + 128 * i, 0, 32, 0⟩
def USP.TOF_MAX (i : Nat) : Fld := ⟨0x5B120 + 128 * i, 0, 32, 20000000⟩
def USP.AMP_MAX (i : Nat) : Fld := ⟨0x5B124 + 128 * i, 16, 16, 2400⟩
def USP.AMP_MIN (i : Nat) : Fld := ⟨0x5B124 + 128 * i, 0, 16, 100⟩
def USP.P_FILTER (i : Nat) : Fld := ⟨0x5B128 + 128 * i, 24, 8, 5⟩
def USP.PERIOD_TOL (i : Nat) : Fld := ⟨0x5B128 + 128 * i, 16, 8, 10⟩
def USP.TOF_UP (i : Nat) : Fld := ⟨0x5B140 + 128 * i, 0, 32, 0⟩
def USP.TOF_DN (i : Nat) : Fld := ⟨0x5B144 + 128 * i, 0, 32, 0⟩
def USP.AMP_UP (i : Nat) : Fld := ⟨0x5B148 + 128 * i, 16, 16, 0⟩
def USP.AMP_DN (i : Nat) : Fld := ⟨0x5B148 + 128 * i, 0, 16, 0⟩
def USP.C_PATH (i : Nat) : Fld := ⟨0x5B14C + 128 * i, 0, 32, 0⟩
def USP.V_PATH (i : Nat) : Fld := ⟨0x5B150 + 128 * i, 0, 32, 0⟩
def USP.P_FAILED (i : Nat) : Fld := ⟨0x5B154 + 128 * i, 31, 1, 0⟩
def USP.P_REASON (i : Nat) : Fld := ⟨0x5B154 + 128 * i, 0, 4, 0⟩
def USP.TRACK_UP (i : Nat) : Fld := ⟨0x5B158 + 128 * i, 0, 32, 0⟩
def USP.TRACK_DN (i : Nat) : Fld := ⟨0x5B15C + 128 * i, 0, 32, 0⟩
def USP.SHOTS (i : Nat) : Fld := ⟨0x5B160 + 128 * i, 0, 32, 0⟩
def USP.SHOTS_BAD (i : Nat) : Fld := ⟨0x5B164 + 128 * i, 0, 32, 0⟩
def USP.SLIPS (i : Nat) : Fld := ⟨0x5B168 + 128 * i, 0, 32, 0⟩
def USP.SHOTS_BLANKED (i : Nat) : Fld := ⟨0x5B16C + 128 * i, 0, 32, 0⟩

/-! Page LEGL (0x60). -/
def LEGL.SEAL_STATE : Fld := ⟨0x60040, 30, 2, 0⟩
def LEGL.SW_FILT : Fld := ⟨0x60040, 29, 1, 0⟩
def LEGL.TAMPER_FILT : Fld := ⟨0x60040, 28, 1, 0⟩
def LEGL.VRES_OK : Fld := ⟨0x60040, 27, 1, 0⟩
def LEGL.COMMIT_BUSY : Fld := ⟨0x60040, 26, 1, 0⟩
def LEGL.ACTIVE_BANK : Fld := ⟨0x60040, 25, 1, 0⟩
def LEGL.STORE_LOST : Fld := ⟨0x60040, 24, 1, 0⟩
def LEGL.L_PENDING : Fld := ⟨0x60040, 0, 4, 0⟩
def LEGL.SEAL_FILTER : Fld := ⟨0x60044, 24, 8, 8⟩
def LEGL.SEAL_MAX_EDGES : Fld := ⟨0x60044, 16, 8, 10⟩
def LEGL.OPEN_TIMEOUT : Fld := ⟨0x60044, 0, 16, 3600⟩
def LEGL.TAMPER_FILTER : Fld := ⟨0x60048, 16, 16, 4000⟩
def LEGL.TAMPER_HOLD : Fld := ⟨0x60048, 0, 16, 60⟩
def LEGL.VRES_FILTER : Fld := ⟨0x6004C, 24, 8, 4⟩
def LEGL.VRES_TIMEOUT : Fld := ⟨0x6004C, 16, 8, 40⟩
def LEGL.VRES_MAX : Fld := ⟨0x60050, 16, 16, 1300⟩
def LEGL.VRES_MIN : Fld := ⟨0x60050, 0, 16, 1000⟩
def LEGL.VRES_NOW : Fld := ⟨0x60054, 0, 16, 0⟩
def LEGL.SESSION_TIMEOUT : Fld := ⟨0x60058, 16, 16, 900⟩
def LEGL.LOCK_S : Fld := ⟨0x60058, 0, 16, 60⟩
def LEGL.SESSION_SEQ : Fld := ⟨0x6005C, 0, 32, 0⟩
def LEGL.STATION_ID : Fld := ⟨0x60060, 0, 32, 0⟩
def LEGL.OFFICER_ID : Fld := ⟨0x60064, 0, 32, 0⟩
def LEGL.ROM_VERSION : Fld := ⟨0x60070, 0, 32, 0⟩
def LEGL.ROM_CRC : Fld := ⟨0x60074, 0, 32, 0⟩
def LEGL.ID_CRC : Fld := ⟨0x60078, 0, 32, 0⟩
def LEGL.ID_CMAC (i : Nat) : Fld := ⟨0x6007C + 4 * i, 0, 32, 0⟩
def LEGL.ID_VALID : Fld := ⟨0x6008C, 31, 1, 0⟩
def LEGL.ACTIVE_GEN : Fld := ⟨0x60090, 0, 32, 0⟩
def LEGL.INACTIVE_GEN : Fld := ⟨0x60094, 0, 32, 0⟩
def LEGL.TOTALS_SEQ : Fld := ⟨0x60098, 0, 32, 0⟩
def LEGL.LAST_COMMIT_SC : Fld := ⟨0x6009C, 0, 64, 0⟩
def LEGL.COMMITS : Fld := ⟨0x600A4, 0, 32, 0⟩
def LEGL.COMMITS_REFUSED : Fld := ⟨0x600A8, 0, 32, 0⟩
def LEGL.VRES_DEFERRED : Fld := ⟨0x600AC, 0, 32, 0⟩
def LEGL.AUTH_FAILS : Fld := ⟨0x600B0, 0, 32, 0⟩
def LEGL.TAMPER_COUNT : Fld := ⟨0x600B4, 0, 32, 0⟩

/-! Page ALOG (0x61). -/
def ALOG.LOG_FULL : Fld := ⟨0x61040, 31, 1, 0⟩
def ALOG.CAL_BLOCKED : Fld := ⟨0x61040, 30, 1, 0⟩
def ALOG.LOG_USED : Fld := ⟨0x61040, 0, 13, 0⟩
def ALOG.NEXT_SEQ : Fld := ⟨0x61044, 0, 32, 1⟩
def ALOG.UNLOGGED : Fld := ⟨0x61048, 0, 32, 0⟩
def ALOG.EVT_CAL : Fld := ⟨0x61050, 0, 32, 0⟩
def ALOG.EVT_REPAIR : Fld := ⟨0x61054, 0, 32, 0⟩
def ALOG.EVT_SEAL : Fld := ⟨0x61058, 0, 32, 0⟩
def ALOG.EVT_TAMPER : Fld := ⟨0x6105C, 0, 32, 0⟩
def ALOG.READ_POS : Fld := ⟨0x61080, 0, 12, 0⟩
def ALOG.READ_READY : Fld := ⟨0x61084, 31, 1, 0⟩
def ALOG.ENTRY (i : Nat) : Fld := ⟨0x61090 + 4 * i, 0, 32, 0⟩

/-! Page BILL (0x68). -/
def BILL.FRIENDLY : Fld := ⟨0x68040, 31, 1, 0⟩
def BILL.TIME_PROVISIONAL : Fld := ⟨0x68040, 30, 1, 0⟩
def BILL.RATE : Fld := ⟨0x68040, 0, 3, 0⟩
def BILL.RATE_SC : Fld := ⟨0x68044, 0, 64, 0⟩
def BILL.RATE_MASS (i : Nat) : Fld := ⟨0x68050 + 24 * i, 0, 64, 0⟩
def BILL.RATE_VOL (i : Nat) : Fld := ⟨0x68058 + 24 * i, 0, 64, 0⟩
def BILL.RATE_SVC (i : Nat) : Fld := ⟨0x68060 + 24 * i, 0, 64, 0⟩
def BILL.NFT_MASS : Fld := ⟨0x68110, 0, 64, 0⟩
def BILL.NFT_VOL : Fld := ⟨0x68118, 0, 64, 0⟩
def BILL.UNATTR_VOL : Fld := ⟨0x68120, 0, 64, 0⟩
def BILL.PRICE_MASS (i : Nat) : Fld := ⟨0x68140 + 16 * i, 0, 32, 0⟩
def BILL.PRICE_VOL (i : Nat) : Fld := ⟨0x68144 + 16 * i, 0, 32, 0⟩
def BILL.PRICE_SVC (i : Nat) : Fld := ⟨0x68148 + 16 * i, 0, 32, 0⟩
def BILL.ST_PRICE_MASS (i : Nat) : Fld := ⟨0x681C0 + 16 * i, 0, 32, 0⟩
def BILL.ST_PRICE_VOL (i : Nat) : Fld := ⟨0x681C4 + 16 * i, 0, 32, 0⟩
def BILL.ST_PRICE_SVC (i : Nat) : Fld := ⟨0x681C8 + 16 * i, 0, 32, 0⟩
def BILL.STAGED_ACT : Fld := ⟨0x68240, 0, 64, 0⟩
def BILL.STAGED_PEND : Fld := ⟨0x68248, 31, 1, 0⟩
def BILL.ACTIVATIONS : Fld := ⟨0x68248, 0, 16, 0⟩
def BILL.PRICE_SC : Fld := ⟨0x6824C, 0, 64, 0⟩
def BILL.DEL_NO : Fld := ⟨0x68260, 0, 32, 0⟩
def BILL.DEL_OPEN : Fld := ⟨0x68264, 31, 1, 0⟩
def BILL.DEL_STOPPING : Fld := ⟨0x68264, 30, 1, 0⟩
def BILL.DEL_DEFERRED : Fld := ⟨0x68264, 29, 1, 0⟩
def BILL.DEL_SIGN : Fld := ⟨0x68264, 28, 1, 0⟩
def BILL.DEL_BASIS : Fld := ⟨0x68264, 26, 2, 0⟩
def BILL.PRESET_KIND : Fld := ⟨0x68264, 25, 1, 0⟩
def BILL.USE_SET : Fld := ⟨0x68264, 24, 1, 0⟩
def BILL.USE_USX : Fld := ⟨0x68264, 23, 1, 0⟩
def BILL.DEL_RATE : Fld := ⟨0x68264, 20, 3, 0⟩
def BILL.DEL_ACCOUNT : Fld := ⟨0x68264, 17, 3, 0⟩
def BILL.DEL_WSET : Fld := ⟨0x68264, 14, 3, 0⟩
def BILL.DEL_EXPECT : Fld := ⟨0x68264, 10, 4, 0⟩
def BILL.DEL_SVC : Fld := ⟨0x68268, 0, 16, 0⟩
def BILL.START_SC : Fld := ⟨0x68270, 0, 64, 0⟩
def BILL.START_GROSS : Fld := ⟨0x68278, 0, 64, 0⟩
def BILL.PRESET : Fld := ⟨0x68280, 0, 64, 0⟩
def BILL.DEL_VOL : Fld := ⟨0x68288, 0, 64, 0⟩
def BILL.RUN_QTY : Fld := ⟨0x68290, 0, 64, 0⟩
def BILL.RUN_CHARGE : Fld := ⟨0x68298, 0, 64, 0⟩
def BILL.DEL_PRICE_MASS : Fld := ⟨0x682A0, 0, 32, 0⟩
def BILL.DEL_PRICE_VOL : Fld := ⟨0x682A4, 0, 32, 0⟩
def BILL.DEL_PRICE_SVC : Fld := ⟨0x682A8, 0, 32, 0⟩
def BILL.SETTLE_MAX : Fld := ⟨0x682B0, 16, 16, 4000⟩
def BILL.SETTLE : Fld := ⟨0x682B0, 0, 16, 400⟩
def BILL.UNATTR_IDLE : Fld := ⟨0x682B4, 0, 16, 400⟩
def BILL.REC_SEL : Fld := ⟨0x682C0, 0, 5, 0⟩
def BILL.REC_VALID : Fld := ⟨0x682C4, 31, 1, 0⟩
def BILL.REC (i : Nat) : Fld := ⟨0x682D0 + 4 * i, 0, 32, 0⟩

/-! Page TARF (0x69). -/
def TARF.LOCAL_OFFSET : Fld := ⟨0x69040, 16, 16, 0⟩
def TARF.DEFAULT_RATE : Fld := ⟨0x69040, 0, 3, 0⟩
def TARF.TS_SEASON : Fld := ⟨0x69044, 30, 2, 0⟩
def TARF.TS_WEEK : Fld := ⟨0x69044, 24, 3, 0⟩
def TARF.TS_DAYP : Fld := ⟨0x69044, 16, 4, 0⟩
def TARF.TS_SPECIAL : Fld := ⟨0x69044, 8, 7, 127⟩
def TARF.TS_ENTRIES : Fld := ⟨0x69044, 0, 6, 0⟩
def TARF.SEA_VALID (i : Nat) : Fld := ⟨0x69050 + 4 * i, 31, 1, 0⟩
def TARF.SEA_WEEK (i : Nat) : Fld := ⟨0x69050 + 4 * i, 16, 3, 0⟩
def TARF.SEA_MONTH (i : Nat) : Fld := ⟨0x69050 + 4 * i, 8, 4, 0⟩
def TARF.SEA_DAY (i : Nat) : Fld := ⟨0x69050 + 4 * i, 0, 5, 0⟩
def TARF.WEEKP (i : Nat) : Fld := ⟨0x69060 + 4 * i, 0, 28, 0⟩
def TARF.SW_VALID (i : Nat) (j : Nat) : Fld := ⟨0x69100 + 64 * i + 4 * j, 31, 1, 0⟩
def TARF.SW_RATE (i : Nat) (j : Nat) : Fld := ⟨0x69100 + 64 * i + 4 * j, 16, 3, 0⟩
def TARF.SW_MINUTE (i : Nat) (j : Nat) : Fld := ⟨0x69100 + 64 * i + 4 * j, 0, 11, 0⟩
def TARF.SP_VALID (i : Nat) : Fld := ⟨0x69500 + 4 * i, 31, 1, 0⟩
def TARF.SP_RECUR (i : Nat) : Fld := ⟨0x69500 + 4 * i, 30, 1, 0⟩
def TARF.SP_FRIENDLY (i : Nat) : Fld := ⟨0x69500 + 4 * i, 29, 1, 0⟩
def TARF.SP_DAYP (i : Nat) : Fld := ⟨0x69500 + 4 * i, 24, 4, 0⟩
def TARF.SP_YEAR (i : Nat) : Fld := ⟨0x69500 + 4 * i, 16, 8, 0⟩
def TARF.SP_MONTH (i : Nat) : Fld := ⟨0x69500 + 4 * i, 8, 4, 0⟩
def TARF.SP_DAY (i : Nat) : Fld := ⟨0x69500 + 4 * i, 0, 5, 0⟩

/-! Page PREP (0x6A). -/
def PREP.FW_START : Fld := ⟨0x6A040, 16, 11, 0⟩
def PREP.FW_END : Fld := ⟨0x6A040, 0, 11, 0⟩
def PREP.NO_TIME : Fld := ⟨0x6A044, 8, 1, 1⟩
def PREP.FDAYS : Fld := ⟨0x6A044, 0, 7, 0⟩
def PREP.ARM_EN : Fld := ⟨0x6A048, 31, 1, 0⟩
def PREP.ARM_PIN : Fld := ⟨0x6A048, 0, 2, 0⟩
def PREP.A_OPEN (i : Nat) : Fld := ⟨0x6A100 + 64 * i, 31, 1, 0⟩
def PREP.A_ARMED (i : Nat) : Fld := ⟨0x6A100 + 64 * i, 30, 1, 0⟩
def PREP.A_AUTO_EMERG (i : Nat) : Fld := ⟨0x6A100 + 64 * i, 28, 1, 0⟩
def PREP.A_DEFERRED (i : Nat) : Fld := ⟨0x6A100 + 64 * i, 27, 1, 0⟩
def PREP.VOUCHER (i : Nat) : Fld := ⟨0x6A104 + 64 * i, 0, 32, 0⟩
def PREP.BALANCE (i : Nat) : Fld := ⟨0x6A108 + 64 * i, 0, 64, 0⟩
def PREP.EMERG_OUT (i : Nat) : Fld := ⟨0x6A110 + 64 * i, 0, 64, 0⟩
def PREP.LOADED (i : Nat) : Fld := ⟨0x6A118 + 64 * i, 0, 64, 0⟩
def PREP.CONSUMED (i : Nat) : Fld := ⟨0x6A120 + 64 * i, 0, 64, 0⟩
def PREP.EXPIRED (i : Nat) : Fld := ⟨0x6A128 + 64 * i, 0, 64, 0⟩
def PREP.E_AMT (i : Nat) : Fld := ⟨0x6A130 + 64 * i, 0, 64, 0⟩
def PREP.RESIDUE (i : Nat) : Fld := ⟨0x6A138 + 64 * i, 0, 20, 0⟩

/-! Page SWCH (0x70). -/
def SWCH.STATE : Fld := ⟨0x70040, 29, 3, 0⟩
def SWCH.WELDED : Fld := ⟨0x70040, 28, 1, 0⟩
def SWCH.DERATED : Fld := ⟨0x70040, 27, 1, 0⟩
def SWCH.VIN_OK : Fld := ⟨0x70040, 26, 1, 0⟩
def SWCH.WARN_PIN : Fld := ⟨0x70040, 25, 1, 0⟩
def SWCH.WARN_INT : Fld := ⟨0x70040, 24, 1, 0⟩
def SWCH.STOP_WHY : Fld := ⟨0x70040, 20, 4, 0⟩
def SWCH.RETRY_K : Fld := ⟨0x70040, 16, 3, 0⟩
def SWCH.TRIP_WHY : Fld := ⟨0x70040, 12, 4, 0⟩
def SWCH.TRIP_PHASE : Fld := ⟨0x70040, 8, 2, 0⟩
def SWCH.DVDT : Fld := ⟨0x70044, 16, 16, 1000⟩
def SWCH.RAMP_MAX : Fld := ⟨0x70044, 0, 16, 500⟩
def SWCH.PG_DROP : Fld := ⟨0x70048, 16, 16, 500⟩
def SWCH.OFF_TIME : Fld := ⟨0x70048, 0, 8, 100⟩
def SWCH.RETRIES : Fld := ⟨0x7004C, 29, 3, 3⟩
def SWCH.RESET_TICKS : Fld := ⟨0x7004C, 16, 13, 400⟩
def SWCH.BACKOFF : Fld := ⟨0x7004C, 0, 16, 100⟩
def SWCH.TOTAL_LIMIT : Fld := ⟨0x70050, 0, 20, 10000⟩
def SWCH.DERATE_LIMIT : Fld := ⟨0x70054, 0, 20, 0⟩
def SWCH.TOTAL_EFF : Fld := ⟨0x70058, 0, 20, 10000⟩
def SWCH.LOAD_MA : Fld := ⟨0x7005C, 0, 20, 0⟩
def SWCH.VIN_MV : Fld := ⟨0x70060, 0, 16, 0⟩
def SWCH.VOUT_MV : Fld := ⟨0x70064, 0, 16, 0⟩
def SWCH.UV_MV : Fld := ⟨0x70068, 16, 16, 8000⟩
def SWCH.OV_MV : Fld := ⟨0x70068, 0, 16, 40000⟩
def SWCH.WARN_MV : Fld := ⟨0x7006C, 16, 16, 9000⟩
def SWCH.HYST_MV : Fld := ⟨0x7006C, 0, 16, 500⟩
def SWCH.WARN_FILTER : Fld := ⟨0x70070, 24, 8, 40⟩
def SWCH.WARN_MAX_EDGES : Fld := ⟨0x70070, 16, 8, 5⟩
def SWCH.WARN_TIMEOUT : Fld := ⟨0x70070, 0, 16, 400⟩
def SWCH.TRIP_FILTER : Fld := ⟨0x70074, 16, 16, 1000⟩
def SWCH.OPEN_FILTER : Fld := ⟨0x70074, 0, 16, 100⟩
def SWCH.WELD_PCT : Fld := ⟨0x70078, 24, 8, 30⟩
def SWCH.WELD_DELAY : Fld := ⟨0x70078, 8, 16, 40⟩
def SWCH.WELD_FILTER : Fld := ⟨0x70078, 0, 8, 10⟩
def SWCH.STUCK_SAMPLES : Fld := ⟨0x7007C, 16, 16, 10000⟩
def SWCH.CM_MAX : Fld := ⟨0x7007C, 0, 16, 1000⟩
def SWCH.CMD_PHASE : Fld := ⟨0x70080, 8, 2, 0⟩
def SWCH.CMD_OP : Fld := ⟨0x70080, 0, 4, 0⟩
def SWCH.CMD_BUSY : Fld := ⟨0x70084, 31, 1, 0⟩
def SWCH.CMD_CODE : Fld := ⟨0x70084, 0, 8, 0⟩
def SWCH.TRIPS : Fld := ⟨0x70090, 0, 32, 0⟩
def SWCH.FAST_TRIPS : Fld := ⟨0x70094, 0, 32, 0⟩
def SWCH.LATCHES : Fld := ⟨0x70098, 0, 32, 0⟩
def SWCH.DERATES : Fld := ⟨0x7009C, 0, 32, 0⟩
def SWCH.WELDS : Fld := ⟨0x700A0, 0, 32, 0⟩
def SWCH.WARN_ASSERTS : Fld := ⟨0x700A4, 0, 32, 0⟩
def SWCH.RETRIES_DONE : Fld := ⟨0x700A8, 0, 32, 0⟩
def SWCH.PH_EN (i : Nat) : Fld := ⟨0x70100 + 32 * i, 31, 1, 0⟩
def SWCH.RSHUNT (i : Nat) : Fld := ⟨0x70100 + 32 * i, 0, 24, 5000⟩
def SWCH.FAST_UV (i : Nat) : Fld := ⟨0x70104 + 32 * i, 16, 16, 48000⟩
def SWCH.LIMIT_MA (i : Nat) : Fld := ⟨0x70104 + 32 * i, 0, 16, 2500⟩
def SWCH.PH_OPEN (i : Nat) : Fld := ⟨0x70108 + 32 * i, 31, 1, 0⟩
def SWCH.SENSE_LOST (i : Nat) : Fld := ⟨0x70108 + 32 * i, 30, 1, 0⟩
def SWCH.LOST_WHY (i : Nat) : Fld := ⟨0x70108 + 32 * i, 28, 2, 0⟩
def SWCH.I_MA (i : Nat) : Fld := ⟨0x7010C + 32 * i, 0, 32, 0⟩
def SWCH.PHASE_TRIPS (i : Nat) : Fld := ⟨0x70110 + 32 * i, 0, 32, 0⟩

/-! Page PWR (0x78). -/
def PWR.STATE : Fld := ⟨0x78040, 29, 3, 0⟩
def PWR.PRIOR : Fld := ⟨0x78040, 26, 3, 0⟩
def PWR.TRANSIT : Fld := ⟨0x78040, 25, 1, 0⟩
def PWR.STEP : Fld := ⟨0x78040, 21, 4, 0⟩
def PWR.FORCED : Fld := ⟨0x78040, 20, 1, 0⟩
def PWR.CTL_CLK : Fld := ⟨0x78040, 18, 2, 0⟩
def PWR.LAST_ABORT : Fld := ⟨0x78040, 12, 4, 0⟩
def PWR.CMD_TARGET : Fld := ⟨0x78044, 8, 3, 0⟩
def PWR.CMD_OP : Fld := ⟨0x78044, 0, 4, 0⟩
def PWR.CMD_BUSY : Fld := ⟨0x78048, 31, 1, 0⟩
def PWR.CMD_CODE : Fld := ⟨0x78048, 0, 8, 0⟩
def PWR.HOST_WAKE : Fld := ⟨0x7804C, 0, 1, 0⟩
def PWR.QUIESCE_MAX : Fld := ⟨0x78050, 0, 16, 400⟩
def PWR.NAP_SLICES : Fld := ⟨0x78054, 0, 18, 0⟩
def PWR.TH_CRIT : Fld := ⟨0x78058, 16, 16, 1550⟩
def PWR.TH_WARN : Fld := ⟨0x78058, 0, 16, 1450⟩
def PWR.TJ_MAX : Fld := ⟨0x7805C, 16, 16, 0⟩
def PWR.TJ : Fld := ⟨0x7805C, 0, 16, 0⟩
def PWR.RAILS_NOW : Fld := ⟨0x78060, 0, 7, 0⟩
def PWR.RAIL_SEEN : Fld := ⟨0x78064, 0, 7, 0⟩
def PWR.WK_EN (i : Nat) : Fld := ⟨0x78070 + 4 * i, 31, 1, 0⟩
def PWR.WK_POL (i : Nat) : Fld := ⟨0x78070 + 4 * i, 30, 1, 0⟩
def PWR.WK_FILTER (i : Nat) : Fld := ⟨0x78070 + 4 * i, 16, 8, 4⟩
def PWR.WK_MAX_EDGES (i : Nat) : Fld := ⟨0x78070 + 4 * i, 8, 8, 10⟩
def PWR.WK_TIMEOUT (i : Nat) : Fld := ⟨0x78070 + 4 * i, 0, 8, 60⟩
def PWR.RTC : Fld := ⟨0x78078, 0, 48, 0⟩
def PWR.RTC_ALARM : Fld := ⟨0x78080, 0, 48, 0⟩
def PWR.ALARM_EN : Fld := ⟨0x78088, 31, 1, 0⟩
def PWR.MATCH_EN : Fld := ⟨0x78088, 30, 1, 1⟩
def PWR.RAIL_TIMEOUT : Fld := ⟨0x78088, 0, 16, 3277⟩
def PWR.WH_VALID : Fld := ⟨0x78090, 31, 1, 0⟩
def PWR.WH_SRC : Fld := ⟨0x78090, 24, 4, 0⟩
def PWR.WH_QUEUED : Fld := ⟨0x78090, 0, 4, 0⟩
def PWR.WAKE_RTC : Fld := ⟨0x78094, 0, 32, 0⟩
def PWR.WAKE_SC : Fld := ⟨0x78098, 0, 64, 0⟩
def PWR.WAKE_POP : Fld := ⟨0x780A0, 0, 1, 0⟩
def PWR.ENTRIES : Fld := ⟨0x780B0, 0, 32, 0⟩
def PWR.ABORTS : Fld := ⟨0x780B4, 0, 32, 0⟩
def PWR.WAKE_EDGES : Fld := ⟨0x780B8, 0, 32, 0⟩
def PWR.WAKE_REFUSED : Fld := ⟨0x780BC, 0, 32, 0⟩
def PWR.LATCH_LOST : Fld := ⟨0x780C0, 0, 32, 0⟩

/-! Page VREG (0x79). -/
def VREG.V_EN : Fld := ⟨0x79040, 31, 1, 0⟩
def VREG.PEC_EN : Fld := ⟨0x79040, 30, 1, 0⟩
def VREG.ACK_MODE : Fld := ⟨0x79040, 28, 2, 0⟩
def VREG.LOOP_FREEZE : Fld := ⟨0x79040, 27, 1, 0⟩
def VREG.V_ADDR : Fld := ⟨0x79040, 0, 7, 64⟩
def VREG.MODE_OK : Fld := ⟨0x79044, 31, 1, 0⟩
def VREG.MODE_N : Fld := ⟨0x79044, 0, 8, 0⟩
def VREG.SETTLE_US : Fld := ⟨0x79048, 24, 8, 50⟩
def VREG.POLL_US : Fld := ⟨0x79048, 16, 8, 20⟩
def VREG.ACK_TIMEOUT_US : Fld := ⟨0x79048, 0, 16, 2000⟩
def VREG.DOWN_TICKS : Fld := ⟨0x7904C, 24, 8, 40⟩
def VREG.V_HYST : Fld := ⟨0x7904C, 16, 8, 16⟩
def VREG.STEP_MV : Fld := ⟨0x7904C, 8, 8, 5⟩
def VREG.V_FENCE_TICKS : Fld := ⟨0x7904C, 0, 8, 40⟩
def VREG.RUN_VMAX : Fld := ⟨0x79050, 16, 16, 880⟩
def VREG.RUN_VMIN : Fld := ⟨0x79050, 0, 16, 760⟩
def VREG.TRIM_VMAX : Fld := ⟨0x79054, 16, 16, 820⟩
def VREG.TRIM_VMIN : Fld := ⟨0x79054, 0, 16, 720⟩
def VREG.LOW_VMAX : Fld := ⟨0x79058, 16, 16, 760⟩
def VREG.LOW_VMIN : Fld := ⟨0x79058, 0, 16, 720⟩
def VREG.RETRY_MAX : Fld := ⟨0x7905C, 16, 8, 3⟩
def VREG.FIXED_MV : Fld := ⟨0x7905C, 0, 16, 800⟩
def VREG.TARGET_MV : Fld := ⟨0x79060, 16, 16, 0⟩
def VREG.ACK_MV : Fld := ⟨0x79060, 0, 16, 800⟩
def VREG.V_IN_FLIGHT : Fld := ⟨0x79064, 31, 1, 0⟩
def VREG.V_FAILED : Fld := ⟨0x79064, 30, 1, 0⟩
def VREG.FAILS_IN_ROW : Fld := ⟨0x79064, 16, 8, 0⟩
def VREG.LAST_STATUS_WORD : Fld := ⟨0x79064, 0, 16, 0⟩
def VREG.READ_MV : Fld := ⟨0x79068, 0, 16, 0⟩
def VREG.TOL_MV : Fld := ⟨0x7906C, 0, 8, 15⟩
def VREG.ROSC_TARGET (i : Nat) : Fld := ⟨0x79070 + 4 * i, 16, 16, 1000⟩
def VREG.ROSC_COUNT (i : Nat) : Fld := ⟨0x79070 + 4 * i, 0, 16, 0⟩
def VREG.MARGIN : Fld := ⟨0x79090, 16, 16, 0⟩
def VREG.V_HELD_TICKS : Fld := ⟨0x79090, 0, 8, 0⟩
def VREG.REQUESTS : Fld := ⟨0x790A0, 0, 32, 0⟩
def VREG.ACKS : Fld := ⟨0x790A4, 0, 32, 0⟩
def VREG.FAILS : Fld := ⟨0x790A8, 0, 32, 0⟩
def VREG.PGOOD_LOSTS : Fld := ⟨0x790AC, 0, 32, 0⟩

/-! Page HOST (0x80). -/
def HOST.LINK_UP : Fld := ⟨0x80040, 31, 1, 0⟩
def HOST.LINK_SPEED : Fld := ⟨0x80040, 28, 3, 0⟩
def HOST.LINK_WIDTH : Fld := ⟨0x80040, 26, 2, 0⟩
def HOST.DSTATE : Fld := ⟨0x80040, 24, 2, 0⟩
def HOST.RX_DEFAULT : Fld := ⟨0x80044, 0, 3, 0⟩
def HOST.VEC_KIND (i : Nat) : Fld := ⟨0x80080 + 4 * i, 30, 2, 0⟩
def HOST.VEC_RING (i : Nat) : Fld := ⟨0x80080 + 4 * i, 16, 5, 0⟩
def HOST.COAL_COUNT (i : Nat) : Fld := ⟨0x80080 + 4 * i, 8, 8, 1⟩
def HOST.COAL_US (i : Nat) : Fld := ⟨0x80080 + 4 * i, 0, 8, 0⟩
def HOST.VEC_MASK (i : Nat) : Fld := ⟨0x80100 + 4 * i, 0, 32, 0⟩
def HOST.VEC_REARM : Fld := ⟨0x80180, 0, 32, 0⟩
def HOST.DB_BAD : Fld := ⟨0x801C0, 0, 32, 0⟩
def HOST.RX_DISABLED_DROPS : Fld := ⟨0x801C4, 0, 32, 0⟩
def HOST.RX_ABANDONED : Fld := ⟨0x801C8, 0, 32, 0⟩
def HOST.BUS_ERRORS : Fld := ⟨0x801CC, 0, 32, 0⟩
def HOST.RX_FRAMES : Fld := ⟨0x801D0, 0, 32, 0⟩
def HOST.RX_DESC_BASE (i : Nat) : Fld := ⟨0x80200 + 32 * i, 0, 64, 0⟩
def HOST.RX_CPL_BASE (i : Nat) : Fld := ⟨0x80208 + 32 * i, 0, 64, 0⟩
def HOST.RX_EN (i : Nat) : Fld := ⟨0x80210 + 32 * i, 31, 1, 0⟩
def HOST.RX_BUF_SIZE (i : Nat) : Fld := ⟨0x80210 + 32 * i, 8, 8, 0⟩
def HOST.RX_SIZE (i : Nat) : Fld := ⟨0x80210 + 32 * i, 0, 4, 4⟩
def HOST.RX_HEAD (i : Nat) : Fld := ⟨0x80214 + 32 * i, 16, 12, 0⟩
def HOST.RX_TAIL (i : Nat) : Fld := ⟨0x80214 + 32 * i, 0, 12, 0⟩
def HOST.RX_DONE (i : Nat) : Fld := ⟨0x80218 + 32 * i, 0, 32, 0⟩
def HOST.TX_DESC_BASE (i : Nat) : Fld := ⟨0x80300 + 32 * i, 0, 64, 0⟩
def HOST.TX_CPL_BASE (i : Nat) : Fld := ⟨0x80308 + 32 * i, 0, 64, 0⟩
def HOST.TX_EN (i : Nat) : Fld := ⟨0x80310 + 32 * i, 31, 1, 0⟩
def HOST.TX_SIZE (i : Nat) : Fld := ⟨0x80310 + 32 * i, 0, 4, 4⟩
def HOST.TX_HEAD (i : Nat) : Fld := ⟨0x80314 + 32 * i, 16, 12, 0⟩
def HOST.TX_TAIL (i : Nat) : Fld := ⟨0x80314 + 32 * i, 0, 12, 0⟩
def HOST.TX_DONE (i : Nat) : Fld := ⟨0x80318 + 32 * i, 0, 32, 0⟩

/-! Page ETH (0x81–0x82). -/
def ETH.PCS_LOOPBACK (p : Nat) : Fld := ⟨0x81040 + 0x1000 * p, 31, 1, 0⟩
def ETH.TEST_PAT (p : Nat) : Fld := ⟨0x81040 + 0x1000 * p, 1, 2, 0⟩
def ETH.LINK_FILTER (p : Nat) : Fld := ⟨0x81044 + 0x1000 * p, 0, 16, 40⟩
def ETH.E_LINK (p : Nat) : Fld := ⟨0x81048 + 0x1000 * p, 4, 1, 0⟩
def ETH.BLOCK_LOCK (p : Nat) : Fld := ⟨0x81048 + 0x1000 * p, 3, 1, 0⟩
def ETH.HI_BER (p : Nat) : Fld := ⟨0x81048 + 0x1000 * p, 2, 1, 0⟩
def ETH.LOCAL_FAULT (p : Nat) : Fld := ⟨0x81048 + 0x1000 * p, 1, 1, 0⟩
def ETH.REMOTE_FAULT (p : Nat) : Fld := ⟨0x81048 + 0x1000 * p, 0, 1, 0⟩
def ETH.E_RX_FRAMES (p : Nat) : Fld := ⟨0x81080 + 0x1000 * p, 0, 32, 0⟩
def ETH.RX_FCS_ERR (p : Nat) : Fld := ⟨0x81084 + 0x1000 * p, 0, 32, 0⟩
def ETH.RX_PAUSE (p : Nat) : Fld := ⟨0x81088 + 0x1000 * p, 0, 32, 0⟩
def ETH.ERR_BLOCKS (p : Nat) : Fld := ⟨0x8108C + 0x1000 * p, 0, 32, 0⟩
def ETH.BER_COUNT (p : Nat) : Fld := ⟨0x81090 + 0x1000 * p, 0, 32, 0⟩
def ETH.TEST_ERRS (p : Nat) : Fld := ⟨0x81094 + 0x1000 * p, 0, 32, 0⟩
def ETH.E_TX_FRAMES (p : Nat) : Fld := ⟨0x81098 + 0x1000 * p, 0, 32, 0⟩
def ETH.LINKDOWN_DROPS (p : Nat) : Fld := ⟨0x8109C + 0x1000 * p, 0, 32, 0⟩

/-! Page TWIT (0x84). -/
def TWIT.USE_REG : Fld := ⟨0x84040, 31, 1, 0⟩
def TWIT.SCL_TIMEOUT : Fld := ⟨0x84040, 16, 8, 25⟩
def TWIT.TW_PEC : Fld := ⟨0x84040, 12, 1, 0⟩
def TWIT.TW_GLITCH : Fld := ⟨0x84040, 8, 4, 5⟩
def TWIT.ADDR_REG : Fld := ⟨0x84040, 0, 7, 72⟩
def TWIT.STRAP_FLOAT : Fld := ⟨0x84044, 11, 1, 0⟩
def TWIT.STRAPS : Fld := ⟨0x84044, 8, 3, 0⟩
def TWIT.TW_ADDR : Fld := ⟨0x84044, 0, 7, 0⟩
def TWIT.TRANSACTIONS : Fld := ⟨0x84080, 0, 32, 0⟩
def TWIT.BUSY_NACKS : Fld := ⟨0x84084, 0, 32, 0⟩
def TWIT.PAGE_NACKS : Fld := ⟨0x84088, 0, 32, 0⟩
def TWIT.PEC_FAILS : Fld := ⟨0x8408C, 0, 32, 0⟩
def TWIT.SHORT_GROUPS : Fld := ⟨0x84090, 0, 32, 0⟩
def TWIT.TW_TIMEOUTS : Fld := ⟨0x84094, 0, 32, 0⟩

/-! Page TWIC (0x85). -/
def TWIC.STRETCH_MAX : Fld := ⟨0x85040, 8, 8, 100⟩
def TWIC.TC_SPEED : Fld := ⟨0x85040, 0, 2, 2⟩
def TWIC.POLL_EN : Fld := ⟨0x85044, 31, 1, 0⟩
def TWIC.POLL_ADDR : Fld := ⟨0x85044, 24, 7, 0⟩
def TWIC.POLL_REG : Fld := ⟨0x85044, 16, 8, 0⟩
def TWIC.POLL_LEN : Fld := ⟨0x85044, 0, 4, 0⟩
def TWIC.POLL_FILTER : Fld := ⟨0x85048, 16, 8, 3⟩
def TWIC.POLL_TICKS : Fld := ⟨0x85048, 0, 16, 400⟩
def TWIC.MOD_STATUS (i : Nat) : Fld := ⟨0x85050 + 4 * i, 0, 32, 0⟩
def TWIC.MOD_STALE : Fld := ⟨0x85058, 31, 1, 0⟩
def TWIC.MOD_AGE : Fld := ⟨0x85058, 0, 16, 0⟩
def TWIC.TWC_ADDR : Fld := ⟨0x85060, 24, 7, 0⟩
def TWIC.TWC_WLEN : Fld := ⟨0x85060, 8, 4, 0⟩
def TWIC.TWC_RLEN : Fld := ⟨0x85060, 0, 4, 0⟩
def TWIC.TWC_TX (i : Nat) : Fld := ⟨0x85064 + 4 * i, 0, 32, 0⟩
def TWIC.TWC_GO : Fld := ⟨0x8506C, 0, 1, 0⟩
def TWIC.TWC_RX (i : Nat) : Fld := ⟨0x85070 + 4 * i, 0, 32, 0⟩
def TWIC.TWC_BUSY : Fld := ⟨0x85078, 31, 1, 0⟩
def TWIC.TWC_RESULT : Fld := ⟨0x85078, 0, 3, 0⟩

/-! Page QSPI (0x86). -/
def QSPI.READ_CMD : Fld := ⟨0x86040, 24, 8, 3⟩
def QSPI.Q_DUMMY : Fld := ⟨0x86040, 16, 4, 0⟩
def QSPI.Q_MODE : Fld := ⟨0x86040, 8, 2, 0⟩
def QSPI.Q_FREQ : Fld := ⟨0x86040, 0, 8, 25⟩
def QSPI.B_SLOT : Fld := ⟨0x86044, 31, 1, 0⟩
def QSPI.A_VALID : Fld := ⟨0x86044, 30, 1, 0⟩
def QSPI.B_VALID : Fld := ⟨0x86044, 29, 1, 0⟩
def QSPI.B_FAILS : Fld := ⟨0x86044, 0, 4, 0⟩
def QSPI.A_GEN : Fld := ⟨0x86048, 0, 32, 0⟩
def QSPI.B_GEN : Fld := ⟨0x8604C, 0, 32, 0⟩
def QSPI.STC_WDOG : Fld := ⟨0x86050, 16, 16, 400⟩
def QSPI.PREFER : Fld := ⟨0x86050, 8, 2, 0⟩
def QSPI.BOOT_FAILS_MAX : Fld := ⟨0x86050, 0, 4, 3⟩
def QSPI.BOOT_TIMEOUT : Fld := ⟨0x86054, 0, 16, 4000⟩
def QSPI.STC_SLOT : Fld := ⟨0x86058, 8, 1, 0⟩
def QSPI.STC_OP : Fld := ⟨0x86058, 0, 4, 0⟩
def QSPI.STC_KICK : Fld := ⟨0x8605C, 0, 1, 0⟩
def QSPI.HOST_FLASH : Fld := ⟨0x86060, 0, 1, 0⟩
def QSPI.FL_OPCODE : Fld := ⟨0x86080, 24, 8, 0⟩
def QSPI.FL_ADDR_BYTES : Fld := ⟨0x86080, 20, 2, 0⟩
def QSPI.FL_DUMMY : Fld := ⟨0x86080, 16, 4, 0⟩
def QSPI.FL_LEN : Fld := ⟨0x86080, 0, 6, 0⟩
def QSPI.FL_ADDR : Fld := ⟨0x86084, 0, 24, 0⟩
def QSPI.FL_DIR : Fld := ⟨0x86088, 0, 1, 0⟩
def QSPI.FL_DATA (i : Nat) : Fld := ⟨0x86090 + 4 * i, 0, 32, 0⟩
def QSPI.FL_GO : Fld := ⟨0x860B0, 0, 1, 0⟩
def QSPI.FL_BUSY : Fld := ⟨0x860B4, 31, 1, 0⟩
def QSPI.FL_CODE : Fld := ⟨0x860B4, 0, 8, 0⟩

/-! Page RPR (0x90). -/
def RPR.SWEEP_EN : Fld := ⟨0x90040, 31, 1, 1⟩
def RPR.AUTO_ROW : Fld := ⟨0x90040, 30, 1, 1⟩
def RPR.AUTO_ENG : Fld := ⟨0x90040, 29, 1, 1⟩
def RPR.AUTO_COL : Fld := ⟨0x90040, 28, 1, 0⟩
def RPR.SWEEP_ROWS : Fld := ⟨0x90040, 0, 8, 16⟩
def RPR.CE_ROW_MAX : Fld := ⟨0x90044, 24, 8, 4⟩
def RPR.CE_WINDOW : Fld := ⟨0x90044, 0, 24, 24000⟩
def RPR.AGE_LIMIT : Fld := ⟨0x90048, 16, 16, 50000⟩
def RPR.SLACK_MIN : Fld := ⟨0x90048, 8, 8, 100⟩
def RPR.SPARES_WARN : Fld := ⟨0x9004C, 0, 6, 4⟩
def RPR.SW_ACTIVITY : Fld := ⟨0x90050, 24, 8, 0⟩
def RPR.SW_KIND : Fld := ⟨0x90050, 16, 8, 0⟩
def RPR.SW_PASSES : Fld := ⟨0x90050, 0, 16, 0⟩
def RPR.FUSE_USED : Fld := ⟨0x90054, 24, 6, 0⟩
def RPR.FUSE_BAD : Fld := ⟨0x90054, 16, 8, 0⟩
def RPR.APPLIED : Fld := ⟨0x90054, 0, 16, 0⟩
def RPR.CONFLICTS : Fld := ⟨0x90058, 16, 16, 0⟩
def RPR.REJECTED : Fld := ⟨0x90058, 0, 16, 0⟩
def RPR.FLASH_BAD : Fld := ⟨0x9005C, 0, 16, 0⟩
def RPR.REC_VALID : Fld := ⟨0x90060, 31, 1, 0⟩
def RPR.REC_COUNT : Fld := ⟨0x90060, 0, 4, 0⟩
def RPR.REC_WORD : Fld := ⟨0x90064, 0, 32, 0⟩
def RPR.REC_MTAG : Fld := ⟨0x90068, 0, 32, 0⟩
def RPR.REC_POP : Fld := ⟨0x9006C, 0, 1, 0⟩
def RPR.CMD_OP : Fld := ⟨0x90070, 28, 4, 0⟩
def RPR.CMD_KIND : Fld := ⟨0x90070, 24, 4, 0⟩
def RPR.CMD_INSTANCE : Fld := ⟨0x90070, 20, 4, 0⟩
def RPR.CMD_INDEX : Fld := ⟨0x90070, 4, 12, 0⟩
def RPR.CMD_BUSY : Fld := ⟨0x90074, 31, 1, 0⟩
def RPR.CMD_CODE : Fld := ⟨0x90074, 0, 8, 0⟩
def RPR.CE_TOTAL : Fld := ⟨0x90080, 0, 32, 0⟩
def RPR.UE_TOTAL : Fld := ⟨0x90084, 0, 32, 0⟩
def RPR.UE_DROPS : Fld := ⟨0x90088, 0, 32, 0⟩
def RPR.UE_SENT : Fld := ⟨0x9008C, 0, 32, 0⟩
def RPR.TRANSIENTS : Fld := ⟨0x90090, 0, 32, 0⟩
def RPR.ROWS_REMAPPED : Fld := ⟨0x90094, 0, 32, 0⟩
def RPR.ROWS_LOST : Fld := ⟨0x90098, 0, 32, 0⟩
def RPR.ENG_TESTS : Fld := ⟨0x9009C, 0, 32, 0⟩
def RPR.ENG_FAILS : Fld := ⟨0x900A0, 0, 32, 0⟩
def RPR.RECORDS_LOST : Fld := ⟨0x900A4, 0, 32, 0⟩
def RPR.ROWS_LEFT (i : Nat) : Fld := ⟨0x90100 + 4 * i, 16, 6, 32⟩
def RPR.COLS_LEFT (i : Nat) : Fld := ⟨0x90100 + 4 * i, 0, 2, 2⟩
def RPR.SP_DESC : Fld := ⟨0x90140, 24, 3, 4⟩
def RPR.SP_CLS : Fld := ⟨0x90140, 16, 3, 4⟩
def RPR.SP_ALM : Fld := ⟨0x90140, 8, 1, 1⟩
def RPR.SP_KEY : Fld := ⟨0x90140, 0, 1, 1⟩
def RPR.PENDING_RETIRE : Fld := ⟨0x90144, 16, 16, 0⟩
def RPR.ENG_STANDBY : Fld := ⟨0x90144, 8, 1, 1⟩
def RPR.SLICES_SPARE : Fld := ⟨0x90144, 0, 2, 1⟩
def RPR.SLACK_PS (i : Nat) : Fld := ⟨0x90200 + 8 * i, 16, 16, 0⟩
def RPR.SLACK_WORST (i : Nat) : Fld := ⟨0x90200 + 8 * i, 0, 16, 0⟩
def RPR.AGE_PPM (i : Nat) : Fld := ⟨0x90204 + 8 * i, 0, 32, 0⟩

/-! Page MBOX (0xF0). -/
def MBOX.STC_RSP_TIMEOUT : Fld := ⟨0xF0040, 0, 16, 12000⟩
def MBOX.STC_TIMEOUTS : Fld := ⟨0xF0044, 0, 32, 0⟩
def MBOX.REQ_DEST (i : Nat) : Fld := ⟨0xF0100 + 256 * i, 31, 1, 0⟩
def MBOX.REQ_TAG (i : Nat) : Fld := ⟨0xF0100 + 256 * i, 16, 8, 0⟩
def MBOX.REQ_CODE (i : Nat) : Fld := ⟨0xF0100 + 256 * i, 8, 8, 0⟩
def MBOX.REQ_LEN (i : Nat) : Fld := ⟨0xF0100 + 256 * i, 0, 7, 0⟩
def MBOX.REQ_DATA (i : Nat) (j : Nat) : Fld := ⟨0xF0104 + 256 * i + 4 * j, 0, 32, 0⟩
def MBOX.REQ_POST (i : Nat) : Fld := ⟨0xF0144 + 256 * i, 0, 1, 0⟩
def MBOX.RSP_VALID (i : Nat) : Fld := ⟨0xF0180 + 256 * i, 31, 1, 0⟩
def MBOX.RSP_OUT (i : Nat) : Fld := ⟨0xF0180 + 256 * i, 30, 1, 0⟩
def MBOX.RSP_STATUS (i : Nat) : Fld := ⟨0xF0180 + 256 * i, 24, 6, 0⟩
def MBOX.RSP_TAG (i : Nat) : Fld := ⟨0xF0180 + 256 * i, 16, 8, 0⟩
def MBOX.RSP_CODE (i : Nat) : Fld := ⟨0xF0180 + 256 * i, 8, 8, 0⟩
def MBOX.RSP_LEN (i : Nat) : Fld := ⟨0xF0180 + 256 * i, 0, 7, 0⟩
def MBOX.RSP_DATA (i : Nat) (j : Nat) : Fld := ⟨0xF0184 + 256 * i + 4 * j, 0, 32, 0⟩
def MBOX.RSP_ACK (i : Nat) : Fld := ⟨0xF01C4 + 256 * i, 0, 1, 0⟩
def MBOX.IN_DEST (i : Nat) : Fld := ⟨0xF0400 + 256 * i, 31, 1, 0⟩
def MBOX.IN_TAG (i : Nat) : Fld := ⟨0xF0400 + 256 * i, 16, 8, 0⟩
def MBOX.IN_CODE (i : Nat) : Fld := ⟨0xF0400 + 256 * i, 8, 8, 0⟩
def MBOX.IN_LEN (i : Nat) : Fld := ⟨0xF0400 + 256 * i, 0, 7, 0⟩
def MBOX.IN_DATA (i : Nat) (j : Nat) : Fld := ⟨0xF0404 + 256 * i + 4 * j, 0, 32, 0⟩
def MBOX.OUT_WINDOW : Fld := ⟨0xF0600, 30, 2, 0⟩
def MBOX.OUT_STATUS : Fld := ⟨0xF0600, 24, 6, 0⟩
def MBOX.OUT_TAG : Fld := ⟨0xF0600, 16, 8, 0⟩
def MBOX.OUT_CODE : Fld := ⟨0xF0600, 8, 8, 0⟩
def MBOX.OUT_LEN : Fld := ⟨0xF0600, 0, 7, 0⟩
def MBOX.OUT_DATA (i : Nat) : Fld := ⟨0xF0604 + 4 * i, 0, 32, 0⟩
def MBOX.OUT_POST : Fld := ⟨0xF0644, 0, 1, 0⟩
def MBOX.EVT_POST_CODE : Fld := ⟨0xF0700, 0, 8, 0⟩
def MBOX.EVT_POST_DATA (i : Nat) : Fld := ⟨0xF0704 + 4 * i, 0, 32, 0⟩
def MBOX.EVT_VALID : Fld := ⟨0xF0710, 31, 1, 0⟩
def MBOX.EVT_CODE : Fld := ⟨0xF0710, 0, 8, 0⟩
def MBOX.EVT_DATA (i : Nat) : Fld := ⟨0xF0714 + 4 * i, 0, 32, 0⟩
def MBOX.EVT_POP : Fld := ⟨0xF071C, 0, 1, 0⟩
def MBOX.OEV_VALID : Fld := ⟨0xF0740, 31, 1, 0⟩
def MBOX.OEV_ARG : Fld := ⟨0xF0740, 0, 16, 0⟩
def MBOX.OEV_SC : Fld := ⟨0xF0744, 0, 64, 0⟩
def MBOX.OEV_POP : Fld := ⟨0xF074C, 0, 1, 0⟩

def SYS.rows0 : List Row := [
  row SYS.WCH_COUNT .ro,
  row SYS.SLICE_COUNT .ro,
  row SYS.ENG_COUNT .ro,
  row SYS.PHASE_COUNT .ro,
  row SYS.LOOP_COUNT .ro,
  row SYS.USX_PATHS .ro,
  row SYS.VARIANT .ro,
  row SYS.ETH1_PRESENT .ro,
  row SYS.ETH0_PRESENT .ro,
  row SYS.USX_PRESENT .ro,
  row SYS.CORE_SRC .ro,
  row SYS.PLL_LOCK .ro,
  row SYS.FAST_GATED .ro,
  row SYS.TICK_FRAME .ro,
  row SYS.LGC_STATE .ro,
  row SYS.STC_STATE .ro,
  row SYS.STC_IMAGE .ro,
  row SYS.STC_RESTARTS .ro,
  row SYS.REFUSAL_COUNT .ro,
  row SYS.LAST_REFUSAL_WRITER .ro,
  row SYS.LAST_REFUSAL_PAGE .ro,
  row SYS.LAST_REFUSAL_SEQ .ro,
  row SYS.REFUSAL_MASK .rw,
  row SYS.REFUSED .w1c,
  row SYS.LOCK_LEASE .rw,
  row SYS.LOCK_EXP_VALID .w1c,
  row SYS.LOCK_EXP_OWNER .ro,
  row SYS.LOCK_EXP_PAGE .ro]

def ATTN.rows0 : List Row := [
  row ATTN.SUMMARY .ro,
  row ATTN.PIN_MASK .rw,
  row ATTN.STC_MASK .rw,
  row ATTN.EXT_LOW .ro,
  row ATTN.HOLDOFF .ro,
  row ATTN.ASSERTED .ro,
  row ATTN.DRIVE .rw,
  row ATTN.FIRST_VALID .w1c,
  row ATTN.FIRST_BIT .ro,
  row ATTN.FIRST_SC .ro |>.half 1,
  row ATTN.FIRST_SC .ro |>.half 2,
  row ATTN.ASSERT_COUNT .ro,
  row (ATTN.PAGE_PEND 0) .ro |>.arr1 4 8]

def LEDG.rows0 : List Row := [
  row LEDG.CMD_DOMAIN .wo,
  row LEDG.CMD_OP .wo,
  row LEDG.SNAP_PENDING .ro,
  row LEDG.SNAP_HELD .ro,
  row LEDG.SNAP_OWNER .ro,
  row LEDG.GUARANTEE .ro,
  row LEDG.COND_LOST .w1c,
  row LEDG.BREAK .ro,
  row LEDG.SNAP_SEQ .ro,
  row LEDG.SNAP_SC .ro |>.half 1,
  row LEDG.SNAP_SC .ro |>.half 2,
  row LEDG.TRIG_SEL .rw,
  row LEDG.BREAK_TICK .ro |>.half 1,
  row LEDG.BREAK_TICK .ro |>.half 2,
  row LEDG.S_CELLS_FREE .ro,
  row LEDG.S_CELLS_QUEUED .ro,
  row LEDG.S_CELLS_STAGED .ro,
  row LEDG.S_CELLS_QUARANTINED .ro,
  row LEDG.S_DESC_FREE .ro,
  row LEDG.S_DESC_IN_USE .ro,
  row LEDG.S_SPEC_DEBIT .ro |>.half 1,
  row LEDG.S_SPEC_DEBIT .ro |>.half 2,
  row LEDG.S_CONFIRMED .ro |>.half 1,
  row LEDG.S_CONFIRMED .ro |>.half 2,
  row LEDG.S_REFUNDED .ro |>.half 1,
  row LEDG.S_REFUNDED .ro |>.half 2,
  row LEDG.S_CREDIT_PENDING .ro,
  row LEDG.S_NONCE_ALLOCATED .ro |>.half 1,
  row LEDG.S_NONCE_ALLOCATED .ro |>.half 2,
  row LEDG.S_NONCE_TRANSMITTED .ro |>.half 1,
  row LEDG.S_NONCE_TRANSMITTED .ro |>.half 2,
  row LEDG.S_NONCE_BURNED .ro |>.half 1,
  row LEDG.S_NONCE_BURNED .ro |>.half 2,
  row LEDG.S_NONCE_OPEN .ro,
  row LEDG.S_ENG_FITTED .ro,
  row LEDG.S_ENG_POOL .ro,
  row LEDG.S_ENG_STANDBY .ro,
  row LEDG.S_ENG_HELD .ro,
  row LEDG.S_ENG_RETIRED .ro,
  row LEDG.S_ENG_HELD_BY_SEAT .ro]

def LEDG.rows1 : List Row := [
  row LEDG.S_MONEY_LOADED .ro |>.half 1,
  row LEDG.S_MONEY_LOADED .ro |>.half 2,
  row LEDG.S_MONEY_BALANCE .ro |>.half 1,
  row LEDG.S_MONEY_BALANCE .ro |>.half 2,
  row LEDG.S_MONEY_CONSUMED .ro |>.half 1,
  row LEDG.S_MONEY_CONSUMED .ro |>.half 2,
  row LEDG.S_MONEY_EXPIRED .ro |>.half 1,
  row LEDG.S_MONEY_EXPIRED .ro |>.half 2,
  row LEDG.S_MONEY_EMERG_OUT .ro |>.half 1,
  row LEDG.S_MONEY_EMERG_OUT .ro |>.half 2,
  row LEDG.S_MASS_TOTAL .ro |>.half 1,
  row LEDG.S_MASS_TOTAL .ro |>.half 2,
  row LEDG.S_MASS_DELIVERED .ro |>.half 1,
  row LEDG.S_MASS_DELIVERED .ro |>.half 2,
  row LEDG.S_MASS_RESIDUE .ro |>.half 1,
  row LEDG.S_MASS_RESIDUE .ro |>.half 2,
  row LEDG.S_VOL_TOTAL .ro |>.half 1,
  row LEDG.S_VOL_TOTAL .ro |>.half 2,
  row LEDG.S_VOL_DELIVERED .ro |>.half 1,
  row LEDG.S_VOL_DELIVERED .ro |>.half 2,
  row LEDG.S_VOL_RESIDUE .ro |>.half 1,
  row LEDG.S_VOL_RESIDUE .ro |>.half 2,
  row LEDG.S_SRC_ORRY .ro,
  row LEDG.S_SRC_PIN .ro,
  row LEDG.S_SRC_CMD .ro,
  row LEDG.S_EXECUTED .ro,
  row LEDG.S_MERGED .ro,
  row LEDG.S_REFUSED .ro,
  row LEDG.S_PENDING .ro]

def SIDR.rows0 : List Row := [
  row SIDR.SC .ro |>.half 1,
  row SIDR.SC .ro |>.half 2,
  row SIDR.SC_QUALITY .ro,
  row SIDR.WALL_STATE .ro,
  row SIDR.SC_VALID .ro,
  row SIDR.SLEWING .ro,
  row SIDR.LEARN_VALID .ro,
  row SIDR.MAINS_LEARNED .ro,
  row SIDR.MAINS_OK .ro,
  row SIDR.LINE_USABLE .ro,
  row SIDR.STEP_COUNT .ro,
  row SIDR.ADV_VALID .rw,
  rowIn SIDR.ADV_BITS .rw 0 12800000,
  row SIDR.SLEW_REMAIN .ro,
  row SIDR.LEARN_PPB .ro,
  row SIDR.HOLD_PPB .rw,
  row SIDR.MERID_PPB .rw,
  rowIn SIDR.HOLD_LIMIT .rw 4000 40000000,
  row SIDR.SC_UNCERT .ro,
  row SIDR.MERIDIAN_EN .rw,
  rowIn SIDR.MAINS_TIMEOUT .rw 1 32767,
  row SIDR.MAINS_FILTER .rw,
  row SIDR.MAINS_MAX .rw,
  row SIDR.MAINS_MIN .rw,
  row SIDR.MAINS_SPACING .ro,
  row SIDR.MAINS_LAST_ERR .ro,
  rowIn SIDR.EPH_TIMEOUT .rw 1 255,
  row SIDR.EPH_WINDOW .rw,
  rowIn SIDR.EPH_FILTER .rw 1 15,
  row SIDR.EPH_FRAME .ro |>.half 1,
  row SIDR.EPH_FRAME .ro |>.half 2,
  row SIDR.EPH_LEAP .ro,
  row SIDR.EPH_DAY .ro,
  row SIDR.EPH_SOD .ro,
  row SIDR.WALL_LEAP .ro,
  row SIDR.WALL_DAY .ro,
  row SIDR.WALL_SOD .ro,
  row SIDR.WALL_FRAME .ro,
  row SIDR.EPH_REJECTED .ro,
  row SIDR.EPH_ACCEPTED .ro]

def SIDR.rows1 : List Row := [
  row SIDR.STEP_SC .ro |>.half 1,
  row SIDR.STEP_SC .ro |>.half 2,
  row SIDR.STEP_FRAMES .ro,
  row SIDR.TICK_SC .ro |>.half 1,
  row SIDR.TICK_SC .ro |>.half 2]

def ORRY.rows0 : List Row := [
  row ORRY.HOLD_NONLEGAL .rw,
  row ORRY.VALID_ENTRIES .ro,
  row ORRY.DUE .ro,
  row ORRY.FIRED_TOTAL .ro,
  row ORRY.MISSED_TOTAL .ro,
  row ORRY.COND_SKIPPED .ro,
  rowIn ORRY.LATE_MAX .rw 0 0,
  row ORRY.CE_COUNT .ro,
  row ORRY.UE_SEEN .w1c,
  row ORRY.UE_INDEX .ro,
  row ORRY.SENT_SEL .rw,
  row ORRY.SENT_COUNT .ro,
  row ORRY.HOST_EVENT_ARG .ro]

def ALM.rows0 : List Row := [
  row (ALM.W_INDEX 0) .rw |>.arr1 64 3,
  row (ALM.W_TARGET 0) .rw |>.half 1 |>.arr1 64 3,
  row (ALM.W_TARGET 0) .rw |>.half 2 |>.arr1 64 3,
  row (ALM.W_PERIOD 0) .rw |>.arr1 64 3,
  row (ALM.W_OFFSET 0) .rw |>.arr1 64 3,
  row (ALM.W_UNIT 0) .rw |>.arr1 64 3,
  row (ALM.W_ACTION 0) .rw |>.arr1 64 3,
  row (ALM.W_ARG 0) .rw |>.arr1 64 3,
  row (ALM.W_COND 0) .rw |>.arr1 64 3,
  row (ALM.W_TIMEBASE 0) .rw |>.arr1 64 3,
  row (ALM.W_MISS 0) .rw |>.arr1 64 3,
  row (ALM.W_PROTECT 0) .rw |>.arr1 64 3,
  row (ALM.W_CMD 0) .wo |>.arr1 64 3,
  row (ALM.W_BUSY 0) .ro |>.arr1 64 3,
  row (ALM.W_CODE 0) .ro |>.arr1 64 3,
  row (ALM.R_NEXT 0) .ro |>.half 1 |>.arr1 64 3,
  row (ALM.R_NEXT 0) .ro |>.half 2 |>.arr1 64 3,
  row (ALM.R_LAST 0) .ro |>.half 1 |>.arr1 64 3,
  row (ALM.R_LAST 0) .ro |>.half 2 |>.arr1 64 3,
  row (ALM.R_VALID 0) .ro |>.arr1 64 3,
  row (ALM.R_LEGAL 0) .ro |>.arr1 64 3,
  row (ALM.R_OWNER 0) .ro |>.arr1 64 3,
  row (ALM.R_MISSED 0) .ro |>.arr1 64 3,
  row (ALM.R_FIRE_COUNT 0) .ro |>.arr1 64 3]

def LANE.rows0 : List Row := [
  row LANE.RX_PRECODE .rw,
  row LANE.TX_PRECODE .rw,
  row LANE.RX_REVERT .rw,
  row LANE.TX_AUTO .rw,
  row LANE.RX_POL .rw,
  row LANE.TX_POL .rw,
  row LANE.TX_ENABLE .rw,
  row LANE.LINK .ro,
  row LANE.RX_SUBST .ro,
  row LANE.TX_ACTIVE .ro,
  row LANE.TX_RETRAIN .ro,
  row LANE.RXC_OK .ro,
  row LANE.SD_FILT .ro,
  row LANE.TXFLT_FILT .ro,
  row LANE.TXEN_PAD .ro,
  row LANE.TXD1_STATE .ro,
  row LANE.TXD0_STATE .ro,
  row LANE.RXD2_STATE .ro,
  row LANE.RXD1_STATE .ro,
  row LANE.RXD0_STATE .ro,
  row LANE.CMD_LANE .wo,
  row LANE.CMD_OP .wo,
  row LANE.CMD_BUSY .ro,
  row LANE.CMD_CODE .ro,
  row LANE.SD_FILTER .rw,
  rowIn LANE.SD_MAX_EDGES .rw 1 255,
  rowIn LANE.SD_TIMEOUT .rw 1 255,
  row LANE.TXFLT_FILTER .rw,
  rowIn LANE.TXFLT_MAX .rw 1 255,
  rowIn LANE.TXFLT_TIMEOUT .rw 1 65535,
  rowIn LANE.RXC_FILTER .rw 1 255,
  rowIn LANE.RXC_TIMEOUT .rw 1 255,
  rowIn LANE.RXC_RANGE_PPM .rw 1 1000,
  rowIn LANE.RX_FILTER .rw 1 15,
  row LANE.ERR_MAX .rw,
  row LANE.EYE_MIN .rw,
  rowIn LANE.TRAIN_TIMEOUT .rw 1 255,
  row LANE.TX_FILTER .rw,
  row LANE.RTERM_MIN .rw,
  row LANE.RTERM_MAX .rw]

def LANE.rows1 : List Row := [
  rowIn LANE.TX_TIMEOUT .rw 1 255,
  rowIn LANE.RETRY_TICKS .rw 1 65535,
  rowIn LANE.FENCE_TICKS .rw 1 255,
  row LANE.CHECK_MISMATCH .ro,
  row LANE.CHECK_TOTAL .ro,
  row LANE.RXC_PPM .ro,
  row LANE.GRANTS_DECLINED .ro,
  row LANE.BURSTS_ABORTED .ro,
  row LANE.RX_SUBSTS .ro,
  row LANE.TX_SUBSTS .ro,
  row LANE.SD_FAILS .ro,
  row LANE.TXFLT_FAILS .ro,
  row LANE.RXC_FAILS .ro,
  row LANE.TX_FAILS .ro,
  row (LANE.FIR_PRE 0) .tk |>.arr1 4 2,
  row (LANE.FIR_MAIN 0) .tk |>.arr1 4 2,
  row (LANE.FIR_POST 0) .tk |>.arr1 4 2,
  row (LANE.VGA_MAX 0) .tk |>.arr1 64 3,
  row (LANE.VGA_MIN 0) .tk |>.arr1 64 3,
  row (LANE.CTLE_MAX 0) .tk |>.arr1 64 3,
  row (LANE.CTLE_MIN 0) .tk |>.arr1 64 3,
  row (LANE.DFE1_MAX 0) .tk |>.arr1 64 3,
  row (LANE.DFE1_MIN 0) .tk |>.arr1 64 3,
  row (LANE.DFE2_MAX 0) .tk |>.arr1 64 3,
  row (LANE.DFE2_MIN 0) .tk |>.arr1 64 3,
  row (LANE.DFE3_MAX 0) .tk |>.arr1 64 3,
  row (LANE.DFE3_MIN 0) .tk |>.arr1 64 3,
  row (LANE.PHASE_MAX 0) .tk |>.arr1 64 3,
  row (LANE.PHASE_MIN 0) .tk |>.arr1 64 3,
  row (LANE.LIVE_VGA 0) .ro |>.arr1 64 3,
  row (LANE.LIVE_CTLE 0) .ro |>.arr1 64 3,
  row (LANE.LIVE_DFE1 0) .ro |>.arr1 64 3,
  row (LANE.LIVE_DFE2 0) .ro |>.arr1 64 3,
  row (LANE.LIVE_DFE3 0) .ro |>.arr1 64 3,
  row (LANE.LIVE_CENTRE 0) .ro |>.arr1 64 3,
  row (LANE.LIVE_PHASE 0) .ro |>.arr1 64 3,
  row (LANE.HELD_NOW 0) .ro |>.arr1 64 3,
  row (LANE.HELD_TICKS 0) .ro |>.arr1 64 3,
  row (LANE.FREEZE 0) .rw |>.arr1 64 3,
  row (LANE.ERR_LAST 0) .ro |>.arr1 64 3]

def LANE.rows2 : List Row := [
  row (LANE.EYE_LAST 0) .ro |>.arr1 64 3,
  row (LANE.ERR_TOTAL 0) .ro |>.arr1 64 3,
  row (LANE.DOWN_COUNT 0) .ro |>.arr1 64 3]

def FRMD.rows0 : List Row := [
  rowIn FRMD.LOS_SET .rw 1 40000,
  rowIn FRMD.LOS_CLR .rw 1 255,
  rowIn FRMD.LOF_MISS .rw 1 15,
  rowIn FRMD.PSYNC_TOL .rw 0 8,
  rowIn FRMD.LOF_SET .rw 1 255,
  rowIn FRMD.LOF_CLR .rw 1 255,
  rowIn FRMD.LSC_UNREAD .rw 1 15,
  rowIn FRMD.LSC_CLR .rw 1 15,
  rowIn FRMD.SF_SET .rw 1 3200,
  rowIn FRMD.SF_CLR .rw 0 3199,
  rowIn FRMD.SD_SET .rw 1 65535,
  rowIn FRMD.SD_CLR .rw 0 65534,
  rowIn FRMD.PSF_SET .rw 1 100,
  rowIn FRMD.PSF_CLR .rw 0 99,
  rowIn FRMD.PSD_SET .rw 1 10000,
  rowIn FRMD.PSD_CLR .rw 0 9999,
  rowIn FRMD.PLM_SET .rw 1 15,
  rowIn FRMD.PLM_CLR .rw 1 15,
  rowIn FRMD.LOK_SET .rw 1 15,
  rowIn FRMD.LOK_CLR .rw 1 15,
  rowIn FRMD.SF_CLR_WIN .rw 1 255,
  rowIn FRMD.SD_CLR_WIN .rw 1 255,
  row FRMD.DELIN .ro,
  row FRMD.DETECTED .ro,
  row FRMD.DECLARED .ro,
  row FRMD.FC .ro |>.half 1,
  row FRMD.FC .ro |>.half 2,
  row FRMD.SRC_ID .ro,
  row FRMD.GMAP_COUNT .ro,
  row FRMD.OAM_COUNT .ro,
  row FRMD.FRAMES .ro,
  row FRMD.CW_CORR .ro,
  row FRMD.BYTES_CORR .ro,
  row FRMD.CW_UNCORR .ro,
  row FRMD.BIP_VIOL .ro,
  row FRMD.ERR_FRAMES .ro,
  row FRMD.HDR_ERR .ro,
  row FRMD.FC_UNREAD .ro,
  row (FRMD.PATH_EN 0) .rw |>.arr1 4 16,
  row (FRMD.PTYPE_EXP 0) .rw |>.arr1 4 16]

def FRMD.rows1 : List Row := [
  row (FRMD.RX_PTYPE 0) .ro |>.arr1 4 16,
  row (FRMD.P_DETECTED 0) .ro |>.arr1 4 16,
  row (FRMD.P_DECLARED 0) .ro |>.arr1 4 16,
  row (FRMD.PATH_DISCARD 0) .ro |>.arr1 4 16]

def FRMU.rows0 : List Row := [
  row FRMU.SSTAT_EN .rw,
  row FRMU.REI_EN .rw,
  row FRMU.SREI_ACC .ro,
  row FRMU.NEXT_PATH .ro,
  row FRMU.BURSTS_SENT .ro,
  row FRMU.BURSTS_ABORTED .ro,
  row FRMU.CW_SENT .ro,
  row FRMU.BYTES_SENT .ro,
  row FRMU.SREI_SENT .ro,
  row FRMU.REI_RESTORED .ro,
  row (FRMU.PREI_ACC 0) .ro |>.arr1 4 16]

def PMON.rows0 : List Row := [
  rowIn PMON.SES_FRAMES .rw 1 10000,
  rowIn PMON.PM_POLICY .rw 0 2,
  row PMON.SEC_UNAVAIL .ro,
  row PMON.CLOSE15_PEND .ro,
  row PMON.CLOSEDAY_PEND .ro,
  row PMON.HIST15 .ro,
  row PMON.HISTDAY .ro,
  row PMON.PATH_UNAVAIL .ro,
  row PMON.CLEAR_HISTORY .wo,
  row PMON.LS_SC .ro |>.half 1,
  row PMON.LS_SC .ro |>.half 2,
  row PMON.LS_FRAMES .ro,
  row PMON.LS_ERR_FRAMES .ro,
  row PMON.LS_BIP .ro,
  row PMON.LS_CW_CORR .ro,
  row PMON.LS_CW_UNCORR .ro,
  row PMON.LS_DEF .ro,
  row PMON.BIN_KIND .rw,
  row PMON.BIN_INDEX .rw,
  row PMON.BIN_START .ro |>.half 1,
  row PMON.BIN_START .ro |>.half 2,
  row PMON.BIN_END .ro |>.half 1,
  row PMON.BIN_END .ro |>.half 2,
  row PMON.BIN_FLAGS .ro,
  row PMON.BIN_SECONDS .ro,
  row PMON.BIN_ES .ro,
  row PMON.BIN_SES .ro,
  row PMON.BIN_UAS .ro,
  row (PMON.BIN_DEF_S 0) .ro |>.arr1 4 5,
  row PMON.BIP_SUM .ro,
  row PMON.CW_UNCORR_SUM .ro,
  row (PMON.PLS_BIP 0) .ro |>.arr1 16 16,
  row (PMON.PLS_ERR 0) .ro |>.arr1 16 16,
  row (PMON.PLS_MISSING 0) .ro |>.arr1 16 16,
  row (PMON.PLS_BLOCKS 0) .ro |>.arr1 16 16,
  row (PMON.PLS_DEF 0) .ro |>.arr1 16 16,
  row (PMON.PBIN 0 0) .ro |>.arr1 32 16 |>.arr2 4 7]

def ACTV.rows0 : List Row := [
  row ACTV.STATE .ro,
  row ACTV.PROFILE_VALID .ro,
  row ACTV.RANGED_FLAG .ro,
  row ACTV.POPUP_SEEN .ro,
  row ACTV.DG .ro,
  row ACTV.LOCKOUT_WHY .ro,
  row ACTV.TERM_ID .ro,
  row ACTV.DG_MSG .rw,
  row ACTV.EPH_AUTH .rw,
  row ACTV.SERIAL .rw |>.half 1,
  row ACTV.SERIAL .rw |>.half 2,
  rowIn ACTV.TO1 .rw 1 65535,
  rowIn ACTV.TO2 .rw 1 65535,
  rowIn ACTV.LEAD .rw 8 1000,
  rowIn ACTV.LAG .rw 0 400,
  rowIn ACTV.ROGUE_FILTER .rw 1 4000,
  rowIn ACTV.SN_SEED .rw 1 4294967295,
  row ACTV.PRE_LEN .ro,
  row ACTV.PRE_LEN_LONG .ro,
  row ACTV.GRANT_LEAD .ro,
  row ACTV.SN_SLOTS .ro,
  row ACTV.PROFILE_PRE .ro,
  row ACTV.PROFILE_DELIM .ro |>.half 1,
  row ACTV.PROFILE_DELIM .ro |>.half 2,
  row ACTV.RANGED_ZONE .ro,
  row ACTV.RANGED_EQD .ro,
  row ACTV.RANGED_ADVANCE .ro,
  row ACTV.BAD_ZONE .ro,
  row ACTV.BAD_EQD .ro,
  row ACTV.CMD_OP .wo,
  row ACTV.CMD_BUSY .ro,
  row ACTV.CMD_CODE .ro,
  row (ACTV.UPMSG_BODY 0) .rw |>.arr1 4 8,
  rowIn ACTV.UPMSG_TYPE .rw 144 144,
  row ACTV.UPMSG_SEQ .rw,
  row ACTV.UPMSG_SEND .wo,
  row ACTV.UPMSG_BUSY .ro,
  row ACTV.UPMSG_QUEUED .ro,
  row (ACTV.CNT 0) .ro |>.arr1 4 14]

def TMGR.rows0 : List Row := [
  row TMGR.UP_FLAT .rw,
  row TMGR.DN_FLAT .rw,
  row TMGR.PART_UP .rw,
  row TMGR.PART_DN .rw,
  row TMGR.OCC_UP .ro,
  row TMGR.OCC_DN .ro,
  row TMGR.CMD_QUEUE .wo,
  row TMGR.CMD_OP .wo,
  row TMGR.CMD_BUSY .ro,
  row TMGR.CMD_CODE .ro,
  row (TMGR.USE_VID 0) .rw |>.arr1 4 19,
  row (TMGR.USE_PCP 0) .rw |>.arr1 4 19,
  row (TMGR.USE_TAG 0) .rw |>.arr1 4 19,
  row (TMGR.MISS_DROP 0) .rw |>.arr1 4 19,
  row (TMGR.DEFAULT_QUEUE 0) .rw |>.arr1 4 19,
  row (TMGR.TAG_OFFSET 0) .rw |>.arr1 4 19,
  row (TMGR.SRC_CNT 0 0) .ro |>.arr1 32 19 |>.arr2 4 6,
  row (TMGR.FRAMES_OUT 0) .ro |>.arr1 16 19,
  row (TMGR.BYTES_OUT 0) .ro |>.half 1 |>.arr1 16 19,
  row (TMGR.BYTES_OUT 0) .ro |>.half 2 |>.arr1 16 19]

def CLS.rows0 : List Row := [
  row CLS.VALID_ENTRIES .ro,
  row CLS.LOOKUPS .ro,
  row CLS.MISSES .ro,
  row CLS.EXHAUSTED_COUNT .ro]

def CLSW.rows0 : List Row := [
  row (CLSW.KEY_A 0) .rw |>.arr1 64 3,
  row (CLSW.KEY_B 0) .rw |>.arr1 64 3,
  row (CLSW.A_DROP 0) .rw |>.arr1 64 3,
  row (CLSW.A_PCP_RW_EN 0) .rw |>.arr1 64 3,
  row (CLSW.A_PCP_RW 0) .rw |>.arr1 64 3,
  row (CLSW.A_QUEUE 0) .rw |>.arr1 64 3,
  row (CLSW.A_POLICER 0) .rw |>.arr1 64 3,
  row (CLSW.A_PTYPE 0) .rw |>.arr1 64 3,
  row (CLSW.W_INDEX 0) .rw |>.arr1 64 3,
  row (CLSW.W_CMD 0) .wo |>.arr1 64 3,
  row (CLSW.W_BUSY 0) .ro |>.arr1 64 3,
  row (CLSW.W_CODE 0) .ro |>.arr1 64 3,
  row (CLSW.R_VALID 0) .ro |>.arr1 64 3,
  row (CLSW.R_GEN 0) .ro |>.arr1 64 3,
  row (CLSW.R_REFCNT 0) .ro |>.arr1 64 3,
  row (CLSW.R_HITS 0) .ro |>.arr1 64 3]

def GHOST.rows0 : List Row := [
  row GHOST.IN_USE .ro,
  row GHOST.MAX_IN_USE .ro,
  rowIn GHOST.GHOST_WARN .rw 1 64,
  row GHOST.GHOSTS_TAKEN .ro,
  row (GHOST.G_VALID 0) .ro |>.arr1 8 64,
  row (GHOST.G_INDEX 0) .ro |>.arr1 8 64,
  row (GHOST.G_GEN 0) .ro |>.arr1 8 64,
  row (GHOST.G_REFCNT 0) .ro |>.arr1 8 64]

def QUE.rows0 : List Row := [
  row (QUE.Q_EN 0 0) .rw |>.arr1 12 256,
  rowIn (QUE.Q_PARENT 0 0) .rw 0 255 |>.arr1 12 256,
  rowIn (QUE.Q_QUANTUM 0 0) .rw 64 65535 |>.arr1 12 256,
  rowIn (QUE.MAX_DEPTH 0 0) .rw 38 65535 |>.arr1 12 256,
  row (QUE.YELLOW_MAX 0 0) .rw |>.arr1 12 256,
  row (QUE.Q_QUEUED 0 0) .ro |>.arr1 12 256,
  row (QUE.Q_STAGED 0 0) .ro |>.arr1 12 256]

def SCHED.rows0 : List Row := [
  row (SCHED.SUB_EN 0) .rw |>.arr1 4 256,
  row (SCHED.SUB_PARENT 0) .rw |>.arr1 4 256,
  rowIn (SCHED.SUB_QUANTUM 0) .rw 64 65535 |>.arr1 4 256,
  row (SCHED.SVC_EN 0) .rw |>.arr1 4 64,
  rowIn (SCHED.SVC_PARENT 0) .rw 0 18 |>.arr1 4 64,
  rowIn (SCHED.SVC_QUANTUM 0) .rw 64 65535 |>.arr1 4 64,
  rowIn (SCHED.PORT_QUANTUM 0) .rw 64 65535 |>.arr1 4 19]

def DEFIC.rows0 : List Row := [
  row (DEFIC.SUB_DEF 0) .ro |>.arr1 4 256,
  row (DEFIC.SVC_DEF 0) .ro |>.arr1 4 64,
  row (DEFIC.PORT_DEF 0) .ro |>.arr1 4 19]

def SHAPE.rows0 : List Row := [
  row SHAPE.SH_KIND .rw,
  row SHAPE.SH_NODE .rw,
  row SHAPE.SH_EN .rw,
  row SHAPE.SH_CIR .rw,
  rowIn SHAPE.SH_CBS .rw 9728 16777215,
  row SHAPE.SH_PIR .rw,
  rowIn SHAPE.SH_PBS .rw 9728 16777215,
  row SHAPE.SH_TOK_C .ro,
  row SHAPE.SH_TOK_P .ro]

def POLICE.rows0 : List Row := [
  row POLICE.PL_SEL .rw,
  row POLICE.PL_EN .rw,
  row POLICE.PL_MODE .rw,
  row POLICE.PL_COLOUR_AWARE .rw,
  row POLICE.PL_RED_PASS .rw,
  row POLICE.PL_YELLOW_DROP .rw,
  row POLICE.PL_CIR .rw,
  row POLICE.PL_CBS .rw,
  row POLICE.PL_PIR .rw,
  row POLICE.PL_B2 .rw,
  row POLICE.PL_TOK_1 .ro,
  row POLICE.PL_TOK_2 .ro,
  row POLICE.PL_GREEN .ro,
  row POLICE.PL_YELLOW .ro,
  row POLICE.PL_RED .ro]

def TEL.rows0 : List Row := [
  rowIn TEL.HIST_BASE .rw 1 65535,
  row TEL.SOJ_ALARM .rw,
  row TEL.TEL_CLEAR .rw,
  row TEL.TEL_QUEUE .rw,
  row TEL.DEPTH_Q_LAST .ro,
  row TEL.DEPTH_S_LAST .ro,
  row TEL.DEPTH_Q_MIN .ro,
  row TEL.DEPTH_Q_MAX .ro,
  row TEL.SOJ_LAST .ro,
  row TEL.SOJ_MIN .ro,
  row TEL.SOJ_MAX .ro,
  row (TEL.HIST 0) .ro |>.arr1 4 8,
  row TEL.T_FRAMES_OUT .ro,
  row TEL.T_BYTES_OUT .ro,
  row TEL.DROPS_FULL .ro,
  row TEL.DROPS_YELLOW .ro,
  row TEL.DROPS_FLUSH .ro,
  row TEL.T_DEFICIT .ro,
  row TEL.T_SAMPLES .ro]

def BB.rows0 : List Row := [
  rowIn BB.HIST_FRAMES .rw 1 255,
  rowIn (BB.PRED 0) .rw 0 2 |>.arr1 32 16,
  row (BB.PRED_OAM 0) .rw |>.arr1 32 16,
  row (BB.STAGE_CAP 0) .rw |>.arr1 32 16,
  row (BB.STAGE 0) .ro |>.arr1 32 16,
  row (BB.UNIT_BYTES 0) .ro |>.arr1 32 16,
  row (BB.BB_CONFIRMED 0) .ro |>.arr1 32 16,
  row (BB.BB_WITHDRAWN 0) .ro |>.arr1 32 16,
  row (BB.BB_PARTIAL 0) .ro |>.arr1 32 16,
  row (BB.BB_UNSTAGED 0) .ro |>.arr1 32 16,
  row (BB.LAST_WD 0) .ro |>.arr1 32 16]

def DECK.rows0 : List Row := [
  row DECK.UP_DRAIN .rw,
  row DECK.UP_ENC .rw,
  row DECK.IN_SERVICE .ro,
  row DECK.DEC_BUF .ro,
  row DECK.KS_STORE .ro,
  row (DECK.BLOCKS 0) .ro |>.arr1 4 5,
  row DECK.DEC_OVERRUN .ro,
  row DECK.KS_LATE .ro,
  row DECK.UP_FRAME_SKIP .ro,
  row DECK.KEY_MISSING .ro]

def DEAL.rows0 : List Row := [
  rowIn DEAL.STARVE_ROUNDS .rw 1 255,
  row DEAL.WDOG .rw,
  row DEAL.ROUNDS .ro,
  row DEAL.RECLAIMS .ro,
  row (DEAL.SEAT_MODE 0) .tk |>.arr1 4 2 |>.per [0, 1],
  row (DEAL.SEAT_MODE 2) .sl,
  row (DEAL.SEAT_MODE 3) .tk |>.arr1 4 2 |>.per [0, 0],
  row (DEAL.HAND_BLOCKS 0) .tk |>.arr1 4 2 |>.per [16, 16],
  row (DEAL.HAND_BLOCKS 2) .sl,
  row (DEAL.HAND_BLOCKS 3) .tk |>.arr1 4 2 |>.per [16, 0],
  row (DEAL.MAX_HELD 0) .tk |>.arr1 4 2 |>.per [5, 3],
  row (DEAL.MAX_HELD 2) .sl,
  row (DEAL.MAX_HELD 3) .tk |>.arr1 4 2 |>.per [2, 1],
  row (DEAL.CEILING 0) .tk |>.arr1 4 2 |>.per [12, 11],
  row (DEAL.CEILING 2) .sl,
  row (DEAL.CEILING 3) .tk |>.arr1 4 2 |>.per [9, 9],
  row (DEAL.BASE 0) .tk |>.arr1 4 2 |>.per [10, 11],
  row (DEAL.BASE 2) .sl,
  row (DEAL.BASE 3) .tk |>.arr1 4 2 |>.per [3, 6],
  row (DEAL.SEAT_REQ 0) .ro |>.arr1 4 5,
  row (DEAL.SEAT_HINT 0) .ro |>.arr1 4 5,
  row (DEAL.SEAT_LOST 0) .ro |>.arr1 4 5,
  row (DEAL.SEAT_EFF 0) .ro |>.arr1 4 5 |>.per [10, 11, 8, 3, 6],
  row (DEAL.SEAT_HELD 0) .ro |>.arr1 4 5,
  row (DEAL.SEAT_WINS 0) .ro |>.arr1 4 5,
  row (DEAL.HELD_CYC 0) .ro |>.arr1 4 9,
  row (DEAL.ENG_SEAT 0) .ro |>.arr1 4 9,
  row (DEAL.ENG_STATE 0) .ro |>.arr1 4 9 |>.per [0, 0, 0, 0, 0, 0, 0, 0, 1]]

def KEYS.rows0 : List Row := [
  row KEYS.IMP_SLOT .rw,
  row KEYS.IMP_CLEAR .rw,
  row KEYS.IMP_SECRET .rw,
  rowIn KEYS.IMP_KEYLEN .rw 0 2,
  rowIn KEYS.IMP_KEK .rw 69 70,
  row KEYS.IMP_LEN .rw,
  row KEYS.IMP_SALT .rw,
  row (KEYS.IMP_DATA 0) .wo |>.arr1 4 10,
  row KEYS.KEY_OP .wo,
  row KEYS.KEY_BUSY .ro,
  row KEYS.KEY_CODE .ro,
  row KEYS.SLOT_SEL .rw,
  row KEYS.SLOT_VALID .ro,
  row KEYS.SLOT_SECRET .ro,
  row KEYS.SLOT_KEYLEN .ro,
  row KEYS.SLOT_USE .ro,
  row KEYS.SLOT_GEN .ro,
  row KEYS.HOST_BANK .ro,
  row KEYS.OAM_SET .ro,
  row KEYS.ACT_FRAME .ro |>.half 1,
  row KEYS.ACT_FRAME .ro |>.half 2,
  row (KEYS.UP_IV_COUNT 0) .ro |>.half 1 |>.arr1 8 2,
  row (KEYS.UP_IV_COUNT 0) .ro |>.half 2 |>.arr1 8 2,
  row (KEYS.UPSW_LO 0) .rw |>.arr1 8 16,
  row (KEYS.UPSW_PEND 0) .rw |>.arr1 8 16,
  row (KEYS.UPSW_PHASE 0) .rw |>.arr1 8 16,
  row (KEYS.UPSW_ACT_PHASE 0) .ro |>.arr1 8 16,
  row (KEYS.UPSW_FRAME_HI 0) .rw |>.arr1 8 16]

def CTXQ.rows0 : List Row := [
  row CTXQ.JOBS_DONE .ro,
  row CTXQ.JOBS_REFUSED .ro,
  row CTXQ.JOBS_AUTH .ro,
  row CTXQ.JOBS_DEALT_OUT .ro,
  row (CTXQ.DESC_BASE 0) .rw |>.half 1 |>.arr1 32 8,
  row (CTXQ.DESC_BASE 0) .rw |>.half 2 |>.arr1 32 8,
  row (CTXQ.CPL_BASE 0) .rw |>.half 1 |>.arr1 32 8,
  row (CTXQ.CPL_BASE 0) .rw |>.half 2 |>.arr1 32 8,
  row (CTXQ.RING_EN 0) .rw |>.arr1 32 8,
  rowIn (CTXQ.RING_SIZE 0) .rw 4 12 |>.arr1 32 8,
  row (CTXQ.RING_HEAD 0) .ro |>.arr1 32 8,
  row (CTXQ.RING_TAIL 0) .ro |>.arr1 32 8,
  row (CTXQ.RING_DONE 0) .ro |>.arr1 32 8]

def AFE.rows0 : List Row := [
  row (AFE.LEGAL_LOCK 0) .sl |>.arr1 4 32,
  row (AFE.OPEN_PULL 0) .rw |>.arr1 4 32,
  row (AFE.PIN_ROLE 0) .rw |>.arr1 4 32,
  row (AFE.PIN_OWNER 0) .rw |>.arr1 4 32,
  row (AFE.EXC_EN 0) .rw |>.arr1 4 8,
  row (AFE.EXC_REVERSE 0) .rw |>.arr1 4 8,
  rowIn (AFE.REV_PERIOD 0) .rw 2 255 |>.arr1 4 8,
  row (AFE.EXC_SENSE 0) .rw |>.arr1 4 8,
  rowIn (AFE.ILIM 0) .rw 1 60 |>.arr1 4 8,
  row (AFE.EXC_STATE 0) .ro |>.arr1 4 8,
  row (AFE.REVERSED 0) .ro |>.arr1 4 8,
  row (AFE.SENSE_PM 0) .ro |>.arr1 4 8,
  row (AFE.EXC_CURRENT 0) .ro |>.arr1 4 8,
  rowIn AFE.EXC_FILTER .rw 1 255,
  rowIn AFE.EXC_TIMEOUT .rw 1 255,
  rowIn AFE.SNS_MIN .rw 50 99,
  rowIn AFE.I_MIN .rw 0 59,
  row (AFE.BLANK_GROUP 0) .slrw |>.arr1 4 8,
  row AFE.BLANK_POLICY .slrw,
  row AFE.BLANK_POST .rw,
  row AFE.BLANK_PIN_GROUPS .slrw,
  row AFE.BLANK_FILTER .rw,
  row AFE.BLANK_MAX_EDGES .rw,
  rowIn AFE.BLANK_TIMEOUT .rw 1 255,
  row AFE.BLANK_OPEN .ro,
  row AFE.PIN_FILT .ro,
  row AFE.PIN_IGNORED .ro,
  row AFE.CMD_FRAMES .wo,
  row AFE.CMD_GROUP .wo,
  row AFE.CMD_OP .wo,
  row AFE.CMD_BUSY .ro,
  row AFE.CMD_CODE .ro,
  row (AFE.TR_UNIT 0) .rw |>.arr1 4 4,
  row (AFE.TR_ACTION 0) .rw |>.arr1 4 4,
  row (AFE.TR_ARG 0) .rw |>.arr1 4 4,
  row AFE.TRIG_EDGE0 .rw,
  row AFE.TRIG_EDGE1 .rw,
  row AFE.TRIG_EDGE2 .rw,
  row AFE.TRIG_EDGE3 .rw,
  row AFE.TRIG_FILTER .rw]

def AFE.rows1 : List Row := [
  row AFE.TRIG_MAX_EDGES .rw,
  row (AFE.SLICE_ROLE 0) .sl |>.arr1 4 18,
  row (AFE.SLICE_USER 0) .sl |>.arr1 4 18,
  row (AFE.SLICE_SHADOW 0) .sl |>.arr1 4 18,
  row AFE.SWAP_OP .sl,
  row AFE.SWAP_RESULT .sl,
  row AFE.SWAP_A .sl,
  row AFE.SWAP_X .sl,
  row AFE.SWAP_BUSY .ro,
  row AFE.SWAP_CODE .ro,
  row AFE.BLANK_EDGES .ro,
  row (AFE.TRIG_EDGES 0) .ro |>.arr1 4 4,
  row AFE.PIN_REFUSED .ro,
  row AFE.WINDOWS .ro]

def SLICE.rows0 : List Row := [
  rowIn (SLICE.MODE 0) .rw 0 4,
  row (SLICE.GAIN 0) .rw,
  row (SLICE.RFB 0) .rw,
  rowIn (SLICE.RATE 0) .rw 0 5,
  row (SLICE.PAIR 0) .rw,
  row (SLICE.FILTER 0) .rw,
  rowIn (SLICE.TIMEOUT 0) .rw 1 255,
  row (SLICE.OVER_LIM 0) .rw,
  row (SLICE.HIGH 0) .rw,
  row (SLICE.LOW 0) .rw,
  row (SLICE.MATCH_OFFSET 0) .sl,
  row (SLICE.MATCH_GAIN 0) .sl,
  row (SLICE.ST_LEGAL 0) .ro,
  row (SLICE.ST_ROLE 0) .ro,
  row (SLICE.ST_USER 0) .ro,
  row (SLICE.ST_SHADOW 0) .ro,
  row (SLICE.SETTLED 0) .ro,
  row (SLICE.STALL 0) .ro,
  row (SLICE.LOOPIN 0) .ro,
  row (SLICE.CM 0) .ro,
  row (SLICE.OVER 0) .ro,
  row (SLICE.FAULT 0) .ro,
  row (SLICE.SAMPLE 0) .ro,
  row (SLICE.SAMPLE_SC 0) .ro |>.half 1,
  row (SLICE.SAMPLE_SC 0) .ro |>.half 2,
  row (SLICE.SAMPLE_FLAGS 0) .ro,
  row (SLICE.CM_NOW 0) .ro,
  row (SLICE.SAMPLES 0) .ro,
  row (SLICE.BLANKED_SAMPLES 0) .ro,
  row (SLICE.REV_DROPPED 0) .ro,
  row (SLICE.GUARD_FAILS 0) .ro,
  row (SLICE.CMP_CLEAR 0) .sl,
  row (SLICE.CMP_COUNT 0) .ro,
  row (SLICE.CMP_SUM 0) .ro |>.half 1,
  row (SLICE.CMP_SUM 0) .ro |>.half 2,
  row (SLICE.CMP_MAXABS 0) .ro]

def LOOP.rows0 : List Row := [
  row (LOOP.LOOP_EN 0) .rw |>.arr1 64 2,
  row (LOOP.FAIL_HIGH 0) .rw |>.arr1 64 2,
  row (LOOP.NFT_FAULT 0) .rw |>.arr1 64 2,
  rowIn (LOOP.LOOP_SRC 0) .rw 0 4 |>.arr1 64 2,
  row (LOOP.SRC_IDX 0) .rw |>.arr1 64 2,
  row (LOOP.LOOP_ZERO 0) .rw |>.half 1 |>.arr1 64 2,
  row (LOOP.LOOP_ZERO 0) .rw |>.half 2 |>.arr1 64 2,
  row (LOOP.LOOP_SPAN 0) .rw |>.half 1 |>.arr1 64 2,
  row (LOOP.LOOP_SPAN 0) .rw |>.half 2 |>.arr1 64 2,
  row (LOOP.LOOP_HOST 0) .rw |>.half 1 |>.arr1 64 2,
  row (LOOP.LOOP_HOST 0) .rw |>.half 2 |>.arr1 64 2,
  row (LOOP.LOOP_FILTER 0) .rw |>.arr1 64 2,
  rowIn (LOOP.LOOP_STALE 0) .rw 1 255 |>.arr1 64 2,
  row (LOOP.LOOP_ERR_MAX 0) .rw |>.arr1 64 2,
  row (LOOP.LOOP_STATE 0) .ro |>.arr1 64 2,
  row (LOOP.SETPOINT 0) .ro |>.arr1 64 2,
  row (LOOP.DRV 0) .ro |>.arr1 64 2,
  row (LOOP.LOOP_CURRENT 0) .ro |>.arr1 64 2,
  row (LOOP.LOOP_UPDATES 0) .ro |>.arr1 64 2,
  row (LOOP.LOOP_FAULTS 0) .ro |>.arr1 64 2]

def WGH.rows0 : List Row := [
  row (WGH.SET_EN 0) .slrw |>.arr1 256 8,
  row (WGH.SET_LEGAL 0) .sl |>.arr1 256 8,
  row (WGH.MEMBERS 0) .slrw |>.arr1 256 8,
  row (WGH.E_MG 0) .slrw |>.arr1 256 8,
  rowIn (WGH.MAX_E 0) .slrw 100 10000 |>.arr1 256 8,
  row (WGH.ZERO_RANGE 0) .slrw |>.arr1 256 8,
  row (WGH.INIT_RANGE 0) .slrw |>.arr1 256 8,
  rowIn (WGH.ZT_STALE_LIMIT 0) .slrw 60 65535 |>.arr1 256 8,
  row (WGH.DRIFT_RATE 0) .slrw |>.arr1 256 8,
  rowIn (WGH.MOTION_N 0) .slrw 2 255 |>.arr1 256 8,
  rowIn (WGH.MOTION_PCT 0) .slrw 10 100 |>.arr1 256 8,
  rowIn (WGH.SET_POLICY 0) .slrw 0 2 |>.arr1 256 8,
  rowIn (WGH.FILL_MIN 0) .slrw 50 100 |>.arr1 256 8,
  row (WGH.DE_TOL_MEAN 0) .sl |>.arr1 256 8,
  row (WGH.DE_TOL_PEAK 0) .sl |>.arr1 256 8,
  row (WGH.DE_DWELL 0) .sl |>.arr1 256 8,
  row (WGH.LIN_C 0 0) .slrw |>.half 1 |>.arr1 256 8 |>.arr2 8 6,
  row (WGH.LIN_C 0 0) .slrw |>.half 2 |>.arr1 256 8 |>.arr2 8 6,
  row (WGH.CAL_ZERO 0) .slrw |>.half 1 |>.arr1 256 8,
  row (WGH.CAL_ZERO 0) .slrw |>.half 2 |>.arr1 256 8,
  row (WGH.SET_OP 0) .wo |>.arr1 256 8,
  row (WGH.CMD_ARG 0) .rw |>.half 1 |>.arr1 256 8,
  row (WGH.CMD_ARG 0) .rw |>.half 2 |>.arr1 256 8,
  row (WGH.SET_BUSY 0) .ro |>.arr1 256 8,
  row (WGH.SET_CODE 0) .ro |>.arr1 256 8,
  row (WGH.VALUE_FLAGS 0) .sl |>.arr1 256 8,
  row (WGH.GROSS 0) .sl |>.half 1 |>.arr1 256 8,
  row (WGH.GROSS 0) .sl |>.half 2 |>.arr1 256 8,
  row (WGH.NET 0) .sl |>.half 1 |>.arr1 256 8,
  row (WGH.NET 0) .sl |>.half 2 |>.arr1 256 8,
  row (WGH.TARE 0) .sl |>.half 1 |>.arr1 256 8,
  row (WGH.TARE 0) .sl |>.half 2 |>.arr1 256 8,
  row (WGH.VALUE_SC 0) .sl |>.half 1 |>.arr1 256 8,
  row (WGH.VALUE_SC 0) .sl |>.half 2 |>.arr1 256 8,
  row (WGH.ZERO_REF 0) .sl |>.half 1 |>.arr1 256 8,
  row (WGH.ZERO_REF 0) .sl |>.half 2 |>.arr1 256 8,
  row (WGH.STALE_S 0) .sl |>.arr1 256 8,
  row (WGH.BOUND_UE 0) .sl |>.arr1 256 8,
  row (WGH.DYN_ZERO 0) .sl |>.half 1 |>.arr1 256 8,
  row (WGH.DYN_ZERO 0) .sl |>.half 2 |>.arr1 256 8]

def WGH.rows1 : List Row := [
  row (WGH.WIN_STATE 0) .ro |>.arr1 256 8,
  row (WGH.WIN_REMAIN 0) .ro |>.arr1 256 8,
  row (WGH.WIN_FLAGS 0) .sl |>.arr1 256 8,
  row (WGH.WIN_GROSS 0) .sl |>.half 1 |>.arr1 256 8,
  row (WGH.WIN_GROSS 0) .sl |>.half 2 |>.arr1 256 8,
  row (WGH.WIN_NET 0) .sl |>.half 1 |>.arr1 256 8,
  row (WGH.WIN_NET 0) .sl |>.half 2 |>.arr1 256 8,
  row (WGH.WIN_SC 0) .sl |>.half 1 |>.arr1 256 8,
  row (WGH.WIN_SC 0) .sl |>.half 2 |>.arr1 256 8,
  row (WGH.SET_MISSED 0) .ro |>.arr1 256 8,
  row (WGH.SET_WINDOWS 0) .ro |>.arr1 256 8]

def WCH.rows0 : List Row := [
  rowIn (WCH.OUT_RATE 0) .slrw 0 12,
  row (WCH.AVG_ORDER 0) .slrw,
  rowIn (WCH.AVG_LEN 0) .slrw 1 65535,
  row (WCH.DL_MIN 0) .slrw,
  rowIn (WCH.DL_FILTER 0) .slrw 1 255,
  row (WCH.CORNER 0) .slrw,
  row (WCH.N_FENCE_TICKS 0) .slrw,
  row (WCH.F_STEP 0) .slrw,
  row (WCH.N_FREEZE 0) .rw,
  row (WCH.N_EN 0) .slrw,
  row (WCH.CMD_ARG 0) .wo,
  row (WCH.CMD_OP 0) .wo,
  row (WCH.CMD_BUSY 0) .ro,
  row (WCH.CMD_CODE 0) .ro,
  row (WCH.SEAL_FMAX 0 0) .sl |>.arr1 16 4,
  row (WCH.SEAL_FMIN 0 0) .sl |>.arr1 16 4,
  row (WCH.FMAX 0 0) .tk |>.arr1 16 4,
  row (WCH.FMIN 0 0) .tk |>.arr1 16 4,
  row (WCH.NOTCH_W 0 0) .slrw |>.arr1 16 4,
  row (WCH.F_INIT 0 0) .slrw |>.arr1 16 4,
  row (WCH.N_HELD_NOW 0 0) .ro |>.arr1 16 4,
  row (WCH.N_HELD_TICKS 0 0) .ro |>.arr1 16 4,
  row (WCH.NOTCH_F 0 0) .ro |>.arr1 16 4,
  row (WCH.OUT_RAW 0) .ro,
  row (WCH.OUT_SC 0) .ro |>.half 1,
  row (WCH.OUT_SC 0) .ro |>.half 2,
  row (WCH.DATA_SC 0) .ro |>.half 1,
  row (WCH.DATA_SC 0) .ro |>.half 2,
  row (WCH.OUT_FILL 0) .ro,
  row (WCH.OUT_FLAGS 0) .ro,
  row (WCH.DE_LAST_MEAN 0) .ro,
  row (WCH.DE_LAST_PEAK 0) .ro,
  row (WCH.DE_PASSES 0) .ro,
  row (WCH.DE_FAILS 0) .ro,
  row (WCH.OUTPUTS 0) .ro,
  row (WCH.BLANKED_OUT 0) .ro,
  row (WCH.MARKER_OUT 0) .ro,
  row (WCH.DL_FAULTS 0) .ro]

def USX.rows0 : List Row := [
  row USX.DRV_MODE .slrw,
  row USX.REPEAT .slrw,
  rowIn USX.USX_POLICY .slrw 0 2,
  row USX.RX_SLICE .ro,
  rowIn USX.SHOT_GAP .slrw 8000 400000,
  row USX.REF_PORT .slrw,
  row USX.RTD0 .slrw,
  row USX.RTD1 .slrw,
  row USX.RTD2 .slrw,
  row USX.RTD_EN .slrw,
  row USX.CHARGE .slrw,
  rowIn USX.DIS_TIMEOUT .slrw 1 65535,
  row USX.R_REF .slrw,
  row (USX.R0 0) .slrw |>.arr1 4 3,
  row USX.T_MAX .slrw,
  row USX.T_MIN .slrw,
  row USX.T_FILTER .slrw,
  rowIn USX.T_HOLD .slrw 1 65535,
  row (USX.TEMP 0) .sl |>.arr1 4 3,
  row USX.T_MED .sl,
  row USX.T_OPEN .ro,
  row USX.T_FAULT .ro,
  row USX.AREA .slrw,
  row USX.MF .slrw,
  row USX.CUTOFF .slrw,
  row USX.QMAX .slrw,
  row USX.GAP_MAX .slrw,
  row USX.C_TOL .slrw,
  row (USX.FB 0) .slrw |>.arr1 4 4,
  row USX.RUN_LEAD_MAX .slrw,
  row USX.WEIGH_SET .slrw,
  row USX.DENS_SIGN .slrw,
  row USX.EXPECT .slrw,
  row USX.CLASS_FILTER .slrw,
  row USX.DMIN_E .slrw,
  row USX.VMIN_ML .slrw,
  row USX.Q .sl,
  row USX.C_MEAN .sl,
  row USX.RESULT_FLAGS .sl,
  row USX.RESULT_SC .sl |>.half 1]

def USX.rows1 : List Row := [
  row USX.RESULT_SC .sl |>.half 2,
  row USX.TOTAL_VOL .sl |>.half 1,
  row USX.TOTAL_VOL .sl |>.half 2,
  row USX.REV_VOL .sl |>.half 1,
  row USX.REV_VOL .sl |>.half 2,
  row USX.VOL_PEND .sl |>.half 1,
  row USX.VOL_PEND .sl |>.half 2,
  row USX.FRAC .sl,
  row USX.CLASS .sl,
  row USX.DEL_CLASS .sl,
  row USX.DENS_RESULT .sl,
  row USX.NA_WHY .sl,
  row USX.MIXED .sl,
  row USX.MISMATCH .sl,
  row USX.RUN_DENSITY .sl,
  row USX.DEL_DENSITY .sl,
  row USX.SEQS .ro,
  row USX.CMD_ARG .wo,
  row USX.CMD_OP .wo,
  row USX.CMD_BUSY .ro,
  row USX.CMD_CODE .ro,
  row USX.SEQ_OVERRUN .ro,
  row (USX.MC 0 0) .slrw |>.arr1 32 16 |>.arr2 4 4,
  row (USX.MED_VALID 0) .slrw |>.arr1 32 16,
  row (USX.C_BAND 0) .slrw |>.arr1 32 16,
  row (USX.MED_D0 0) .slrw |>.arr1 32 16,
  row (USX.MED_D1 0) .slrw |>.arr1 32 16,
  row (USX.MED_D_BAND 0) .slrw |>.arr1 32 16]

def USP.rows0 : List Row := [
  row (USP.P_EN 0) .slrw |>.arr1 128 4,
  row (USP.P_LEGAL 0) .sl |>.arr1 128 4,
  rowIn (USP.CYCLES 0) .slrw 1 31 |>.arr1 128 4,
  rowIn (USP.HALF 0) .slrw 50 400 |>.arr1 128 4,
  row (USP.RX_OPEN 0) .slrw |>.arr1 128 4,
  rowIn (USP.NZC 0) .slrw 2 16 |>.arr1 128 4,
  rowIn (USP.THR 0) .slrw 1 1000 |>.arr1 128 4,
  row (USP.L_UM 0) .slrw |>.arr1 128 4,
  row (USP.X_UM 0) .slrw |>.arr1 128 4,
  row (USP.T0 0) .slrw |>.arr1 128 4,
  row (USP.ZERO_DT 0) .slrw |>.arr1 128 4,
  row (USP.WEIGHT 0) .slrw |>.arr1 128 4,
  row (USP.TOF_MIN 0) .slrw |>.arr1 128 4,
  row (USP.TOF_MAX 0) .slrw |>.arr1 128 4,
  row (USP.AMP_MAX 0) .slrw |>.arr1 128 4,
  row (USP.AMP_MIN 0) .slrw |>.arr1 128 4,
  row (USP.P_FILTER 0) .slrw |>.arr1 128 4,
  row (USP.PERIOD_TOL 0) .slrw |>.arr1 128 4,
  row (USP.TOF_UP 0) .ro |>.arr1 128 4,
  row (USP.TOF_DN 0) .ro |>.arr1 128 4,
  row (USP.AMP_UP 0) .ro |>.arr1 128 4,
  row (USP.AMP_DN 0) .ro |>.arr1 128 4,
  row (USP.C_PATH 0) .sl |>.arr1 128 4,
  row (USP.V_PATH 0) .sl |>.arr1 128 4,
  row (USP.P_FAILED 0) .ro |>.arr1 128 4,
  row (USP.P_REASON 0) .ro |>.arr1 128 4,
  row (USP.TRACK_UP 0) .ro |>.arr1 128 4,
  row (USP.TRACK_DN 0) .ro |>.arr1 128 4,
  row (USP.SHOTS 0) .ro |>.arr1 128 4,
  row (USP.SHOTS_BAD 0) .ro |>.arr1 128 4,
  row (USP.SLIPS 0) .ro |>.arr1 128 4,
  row (USP.SHOTS_BLANKED 0) .ro |>.arr1 128 4]

def LEGL.rows0 : List Row := [
  row LEGL.SEAL_STATE .ro,
  row LEGL.SW_FILT .ro,
  row LEGL.TAMPER_FILT .ro,
  row LEGL.VRES_OK .ro,
  row LEGL.COMMIT_BUSY .ro,
  row LEGL.ACTIVE_BANK .ro,
  row LEGL.STORE_LOST .ro,
  row LEGL.L_PENDING .ro,
  row LEGL.SEAL_FILTER .sl,
  row LEGL.SEAL_MAX_EDGES .sl,
  rowIn LEGL.OPEN_TIMEOUT .sl 1 65535,
  row LEGL.TAMPER_FILTER .sl,
  row LEGL.TAMPER_HOLD .sl,
  row LEGL.VRES_FILTER .sl,
  rowIn LEGL.VRES_TIMEOUT .sl 1 255,
  row LEGL.VRES_MAX .sl,
  row LEGL.VRES_MIN .sl,
  row LEGL.VRES_NOW .ro,
  rowIn LEGL.SESSION_TIMEOUT .sl 1 65535,
  row LEGL.LOCK_S .sl,
  row LEGL.SESSION_SEQ .ro,
  row LEGL.STATION_ID .ro,
  row LEGL.OFFICER_ID .ro,
  row LEGL.ROM_VERSION .ro,
  row LEGL.ROM_CRC .ro,
  row LEGL.ID_CRC .ro,
  row (LEGL.ID_CMAC 0) .ro |>.arr1 4 4,
  row LEGL.ID_VALID .ro,
  row LEGL.ACTIVE_GEN .ro,
  row LEGL.INACTIVE_GEN .ro,
  row LEGL.TOTALS_SEQ .ro,
  row LEGL.LAST_COMMIT_SC .ro |>.half 1,
  row LEGL.LAST_COMMIT_SC .ro |>.half 2,
  row LEGL.COMMITS .ro,
  row LEGL.COMMITS_REFUSED .ro,
  row LEGL.VRES_DEFERRED .ro,
  row LEGL.AUTH_FAILS .ro,
  row LEGL.TAMPER_COUNT .ro]

def ALOG.rows0 : List Row := [
  row ALOG.LOG_FULL .ro,
  row ALOG.CAL_BLOCKED .ro,
  row ALOG.LOG_USED .ro,
  row ALOG.NEXT_SEQ .ro,
  row ALOG.UNLOGGED .ro,
  row ALOG.EVT_CAL .ro,
  row ALOG.EVT_REPAIR .ro,
  row ALOG.EVT_SEAL .ro,
  row ALOG.EVT_TAMPER .ro,
  row ALOG.READ_POS .rw,
  row ALOG.READ_READY .ro,
  row (ALOG.ENTRY 0) .ro |>.arr1 4 12]

def BILL.rows0 : List Row := [
  row BILL.FRIENDLY .sl,
  row BILL.TIME_PROVISIONAL .sl,
  row BILL.RATE .sl,
  row BILL.RATE_SC .sl |>.half 1,
  row BILL.RATE_SC .sl |>.half 2,
  row (BILL.RATE_MASS 0) .sl |>.half 1 |>.arr1 24 8,
  row (BILL.RATE_MASS 0) .sl |>.half 2 |>.arr1 24 8,
  row (BILL.RATE_VOL 0) .sl |>.half 1 |>.arr1 24 8,
  row (BILL.RATE_VOL 0) .sl |>.half 2 |>.arr1 24 8,
  row (BILL.RATE_SVC 0) .sl |>.half 1 |>.arr1 24 8,
  row (BILL.RATE_SVC 0) .sl |>.half 2 |>.arr1 24 8,
  row BILL.NFT_MASS .sl |>.half 1,
  row BILL.NFT_MASS .sl |>.half 2,
  row BILL.NFT_VOL .sl |>.half 1,
  row BILL.NFT_VOL .sl |>.half 2,
  row BILL.UNATTR_VOL .sl |>.half 1,
  row BILL.UNATTR_VOL .sl |>.half 2,
  row (BILL.PRICE_MASS 0) .sl |>.arr1 16 8,
  row (BILL.PRICE_VOL 0) .sl |>.arr1 16 8,
  row (BILL.PRICE_SVC 0) .sl |>.arr1 16 8,
  row (BILL.ST_PRICE_MASS 0) .sl |>.arr1 16 8,
  row (BILL.ST_PRICE_VOL 0) .sl |>.arr1 16 8,
  row (BILL.ST_PRICE_SVC 0) .sl |>.arr1 16 8,
  row BILL.STAGED_ACT .sl |>.half 1,
  row BILL.STAGED_ACT .sl |>.half 2,
  row BILL.STAGED_PEND .sl,
  row BILL.ACTIVATIONS .sl,
  row BILL.PRICE_SC .sl |>.half 1,
  row BILL.PRICE_SC .sl |>.half 2,
  row BILL.DEL_NO .sl,
  row BILL.DEL_OPEN .sl,
  row BILL.DEL_STOPPING .sl,
  row BILL.DEL_DEFERRED .sl,
  row BILL.DEL_SIGN .sl,
  row BILL.DEL_BASIS .sl,
  row BILL.PRESET_KIND .sl,
  row BILL.USE_SET .sl,
  row BILL.USE_USX .sl,
  row BILL.DEL_RATE .sl,
  row BILL.DEL_ACCOUNT .sl]

def BILL.rows1 : List Row := [
  row BILL.DEL_WSET .sl,
  row BILL.DEL_EXPECT .sl,
  row BILL.DEL_SVC .sl,
  row BILL.START_SC .sl |>.half 1,
  row BILL.START_SC .sl |>.half 2,
  row BILL.START_GROSS .sl |>.half 1,
  row BILL.START_GROSS .sl |>.half 2,
  row BILL.PRESET .sl |>.half 1,
  row BILL.PRESET .sl |>.half 2,
  row BILL.DEL_VOL .sl |>.half 1,
  row BILL.DEL_VOL .sl |>.half 2,
  row BILL.RUN_QTY .sl |>.half 1,
  row BILL.RUN_QTY .sl |>.half 2,
  row BILL.RUN_CHARGE .sl |>.half 1,
  row BILL.RUN_CHARGE .sl |>.half 2,
  row BILL.DEL_PRICE_MASS .sl,
  row BILL.DEL_PRICE_VOL .sl,
  row BILL.DEL_PRICE_SVC .sl,
  row BILL.SETTLE_MAX .sl,
  row BILL.SETTLE .sl,
  row BILL.UNATTR_IDLE .sl,
  row BILL.REC_SEL .rw,
  row BILL.REC_VALID .sl,
  row (BILL.REC 0) .sl |>.arr1 4 16]

def TARF.rows0 : List Row := [
  row TARF.LOCAL_OFFSET .sl,
  row TARF.DEFAULT_RATE .sl,
  row TARF.TS_SEASON .sl,
  row TARF.TS_WEEK .sl,
  row TARF.TS_DAYP .sl,
  row TARF.TS_SPECIAL .sl,
  row TARF.TS_ENTRIES .sl,
  row (TARF.SEA_VALID 0) .sl |>.arr1 4 4,
  row (TARF.SEA_WEEK 0) .sl |>.arr1 4 4,
  row (TARF.SEA_MONTH 0) .sl |>.arr1 4 4,
  row (TARF.SEA_DAY 0) .sl |>.arr1 4 4,
  row (TARF.WEEKP 0) .sl |>.arr1 4 8,
  row (TARF.SW_VALID 0 0) .sl |>.arr1 64 16 |>.arr2 4 12,
  row (TARF.SW_RATE 0 0) .sl |>.arr1 64 16 |>.arr2 4 12,
  rowIn (TARF.SW_MINUTE 0 0) .sl 0 1439 |>.arr1 64 16 |>.arr2 4 12,
  row (TARF.SP_VALID 0) .sl |>.arr1 4 64,
  row (TARF.SP_RECUR 0) .sl |>.arr1 4 64,
  row (TARF.SP_FRIENDLY 0) .sl |>.arr1 4 64,
  row (TARF.SP_DAYP 0) .sl |>.arr1 4 64,
  row (TARF.SP_YEAR 0) .sl |>.arr1 4 64,
  row (TARF.SP_MONTH 0) .sl |>.arr1 4 64,
  row (TARF.SP_DAY 0) .sl |>.arr1 4 64]

def PREP.rows0 : List Row := [
  rowIn PREP.FW_START .sl 0 1439,
  rowIn PREP.FW_END .sl 0 1439,
  row PREP.NO_TIME .sl,
  row PREP.FDAYS .sl,
  row PREP.ARM_EN .sl,
  row PREP.ARM_PIN .sl,
  row (PREP.A_OPEN 0) .sl |>.arr1 64 8,
  row (PREP.A_ARMED 0) .sl |>.arr1 64 8,
  row (PREP.A_AUTO_EMERG 0) .sl |>.arr1 64 8,
  row (PREP.A_DEFERRED 0) .sl |>.arr1 64 8,
  row (PREP.VOUCHER 0) .sl |>.arr1 64 8,
  row (PREP.BALANCE 0) .sl |>.half 1 |>.arr1 64 8,
  row (PREP.BALANCE 0) .sl |>.half 2 |>.arr1 64 8,
  row (PREP.EMERG_OUT 0) .sl |>.half 1 |>.arr1 64 8,
  row (PREP.EMERG_OUT 0) .sl |>.half 2 |>.arr1 64 8,
  row (PREP.LOADED 0) .sl |>.half 1 |>.arr1 64 8,
  row (PREP.LOADED 0) .sl |>.half 2 |>.arr1 64 8,
  row (PREP.CONSUMED 0) .sl |>.half 1 |>.arr1 64 8,
  row (PREP.CONSUMED 0) .sl |>.half 2 |>.arr1 64 8,
  row (PREP.EXPIRED 0) .sl |>.half 1 |>.arr1 64 8,
  row (PREP.EXPIRED 0) .sl |>.half 2 |>.arr1 64 8,
  row (PREP.E_AMT 0) .sl |>.half 1 |>.arr1 64 8,
  row (PREP.E_AMT 0) .sl |>.half 2 |>.arr1 64 8,
  row (PREP.RESIDUE 0) .sl |>.arr1 64 8]

def SWCH.rows0 : List Row := [
  row SWCH.STATE .ro,
  row SWCH.WELDED .ro,
  row SWCH.DERATED .ro,
  row SWCH.VIN_OK .ro,
  row SWCH.WARN_PIN .ro,
  row SWCH.WARN_INT .ro,
  row SWCH.STOP_WHY .ro,
  row SWCH.RETRY_K .ro,
  row SWCH.TRIP_WHY .ro,
  row SWCH.TRIP_PHASE .ro,
  rowIn SWCH.DVDT .rw 100 50000,
  rowIn SWCH.RAMP_MAX .rw 1 65535,
  row SWCH.PG_DROP .rw,
  rowIn SWCH.OFF_TIME .rw 10 200,
  row SWCH.RETRIES .rw,
  rowIn SWCH.RESET_TICKS .rw 1 8191,
  rowIn SWCH.BACKOFF .rw 10 10000,
  row SWCH.TOTAL_LIMIT .rw,
  row SWCH.DERATE_LIMIT .rw,
  row SWCH.TOTAL_EFF .ro,
  row SWCH.LOAD_MA .ro,
  row SWCH.VIN_MV .ro,
  row SWCH.VOUT_MV .ro,
  row SWCH.UV_MV .rw,
  row SWCH.OV_MV .rw,
  row SWCH.WARN_MV .rw,
  row SWCH.HYST_MV .rw,
  row SWCH.WARN_FILTER .rw,
  row SWCH.WARN_MAX_EDGES .rw,
  rowIn SWCH.WARN_TIMEOUT .rw 1 65535,
  rowIn SWCH.TRIP_FILTER .rw 1 65535,
  rowIn SWCH.OPEN_FILTER .rw 1 65535,
  rowIn SWCH.WELD_PCT .rw 10 90,
  rowIn SWCH.WELD_DELAY .rw 1 65535,
  row SWCH.WELD_FILTER .rw,
  row SWCH.STUCK_SAMPLES .rw,
  row SWCH.CM_MAX .rw,
  row SWCH.CMD_PHASE .wo,
  row SWCH.CMD_OP .wo,
  row SWCH.CMD_BUSY .ro]

def SWCH.rows1 : List Row := [
  row SWCH.CMD_CODE .ro,
  row SWCH.TRIPS .ro,
  row SWCH.FAST_TRIPS .ro,
  row SWCH.LATCHES .ro,
  row SWCH.DERATES .ro,
  row SWCH.WELDS .ro,
  row SWCH.WARN_ASSERTS .ro,
  row SWCH.RETRIES_DONE .ro,
  row (SWCH.PH_EN 0) .rw |>.arr1 32 4,
  rowIn (SWCH.RSHUNT 0) .rw 100 1000000 |>.arr1 32 4,
  rowIn (SWCH.FAST_UV 0) .rw 0 50000 |>.arr1 32 4,
  row (SWCH.LIMIT_MA 0) .rw |>.arr1 32 4,
  row (SWCH.PH_OPEN 0) .ro |>.arr1 32 4,
  row (SWCH.SENSE_LOST 0) .ro |>.arr1 32 4,
  row (SWCH.LOST_WHY 0) .ro |>.arr1 32 4,
  row (SWCH.I_MA 0) .ro |>.arr1 32 4,
  row (SWCH.PHASE_TRIPS 0) .ro |>.arr1 32 4]

def PWR.rows0 : List Row := [
  row PWR.STATE .ro,
  row PWR.PRIOR .ro,
  row PWR.TRANSIT .ro,
  row PWR.STEP .ro,
  row PWR.FORCED .ro,
  row PWR.CTL_CLK .ro,
  row PWR.LAST_ABORT .ro,
  row PWR.CMD_TARGET .wo,
  row PWR.CMD_OP .wo,
  row PWR.CMD_BUSY .ro,
  row PWR.CMD_CODE .ro,
  row PWR.HOST_WAKE .wo,
  rowIn PWR.QUIESCE_MAX .rw 1 65535,
  row PWR.NAP_SLICES .sl,
  rowIn PWR.TH_CRIT .rw 0 1600,
  row PWR.TH_WARN .rw,
  row PWR.TJ_MAX .ro,
  row PWR.TJ .ro,
  row PWR.RAILS_NOW .ro,
  row PWR.RAIL_SEEN .w1c,
  row (PWR.WK_EN 0) .rw |>.arr1 4 2,
  row (PWR.WK_POL 0) .rw |>.arr1 4 2,
  rowIn (PWR.WK_FILTER 0) .rw 1 255 |>.arr1 4 2,
  rowIn (PWR.WK_MAX_EDGES 0) .rw 1 255 |>.arr1 4 2,
  rowIn (PWR.WK_TIMEOUT 0) .rw 1 255 |>.arr1 4 2,
  row PWR.RTC .ro |>.half 1,
  row PWR.RTC .ro |>.half 2,
  row PWR.RTC_ALARM .rw |>.half 1,
  row PWR.RTC_ALARM .rw |>.half 2,
  row PWR.ALARM_EN .rw,
  row PWR.MATCH_EN .rw,
  rowIn PWR.RAIL_TIMEOUT .rw 1 65535,
  row PWR.WH_VALID .ro,
  row PWR.WH_SRC .ro,
  row PWR.WH_QUEUED .ro,
  row PWR.WAKE_RTC .ro,
  row PWR.WAKE_SC .ro |>.half 1,
  row PWR.WAKE_SC .ro |>.half 2,
  row PWR.WAKE_POP .wo,
  row PWR.ENTRIES .ro]

def PWR.rows1 : List Row := [
  row PWR.ABORTS .ro,
  row PWR.WAKE_EDGES .ro,
  row PWR.WAKE_REFUSED .ro,
  row PWR.LATCH_LOST .ro]

def VREG.rows0 : List Row := [
  row VREG.V_EN .rw,
  row VREG.PEC_EN .rw,
  rowIn VREG.ACK_MODE .rw 0 2,
  row VREG.LOOP_FREEZE .rw,
  row VREG.V_ADDR .rw,
  row VREG.MODE_OK .ro,
  row VREG.MODE_N .ro,
  row VREG.SETTLE_US .rw,
  row VREG.POLL_US .rw,
  rowIn VREG.ACK_TIMEOUT_US .rw 1 65535,
  row VREG.DOWN_TICKS .rw,
  row VREG.V_HYST .rw,
  rowIn VREG.STEP_MV .rw 1 25,
  row VREG.V_FENCE_TICKS .rw,
  row VREG.RUN_VMAX .tk,
  row VREG.RUN_VMIN .tk,
  row VREG.TRIM_VMAX .tk,
  row VREG.TRIM_VMIN .tk,
  row VREG.LOW_VMAX .tk,
  row VREG.LOW_VMIN .tk,
  row VREG.RETRY_MAX .rw,
  row VREG.FIXED_MV .rw,
  row VREG.TARGET_MV .ro,
  row VREG.ACK_MV .ro,
  row VREG.V_IN_FLIGHT .ro,
  row VREG.V_FAILED .ro,
  row VREG.FAILS_IN_ROW .ro,
  row VREG.LAST_STATUS_WORD .ro,
  row VREG.READ_MV .ro,
  row VREG.TOL_MV .rw,
  row (VREG.ROSC_TARGET 0) .ro |>.arr1 4 8,
  row (VREG.ROSC_COUNT 0) .ro |>.arr1 4 8,
  row VREG.MARGIN .ro,
  row VREG.V_HELD_TICKS .ro,
  row VREG.REQUESTS .ro,
  row VREG.ACKS .ro,
  row VREG.FAILS .ro,
  row VREG.PGOOD_LOSTS .ro]

def HOST.rows0 : List Row := [
  row HOST.LINK_UP .ro,
  row HOST.LINK_SPEED .ro,
  row HOST.LINK_WIDTH .ro,
  row HOST.DSTATE .ro,
  row HOST.RX_DEFAULT .rw,
  rowIn (HOST.VEC_KIND 0) .rw 0 2 |>.arr1 4 32,
  rowIn (HOST.VEC_RING 0) .rw 0 23 |>.arr1 4 32,
  row (HOST.COAL_COUNT 0) .rw |>.arr1 4 32,
  row (HOST.COAL_US 0) .rw |>.arr1 4 32,
  row (HOST.VEC_MASK 0) .rw |>.arr1 4 32,
  row HOST.VEC_REARM .wo,
  row HOST.DB_BAD .ro,
  row HOST.RX_DISABLED_DROPS .ro,
  row HOST.RX_ABANDONED .ro,
  row HOST.BUS_ERRORS .ro,
  row HOST.RX_FRAMES .ro,
  row (HOST.RX_DESC_BASE 0) .rw |>.half 1 |>.arr1 32 8,
  row (HOST.RX_DESC_BASE 0) .rw |>.half 2 |>.arr1 32 8,
  row (HOST.RX_CPL_BASE 0) .rw |>.half 1 |>.arr1 32 8,
  row (HOST.RX_CPL_BASE 0) .rw |>.half 2 |>.arr1 32 8,
  row (HOST.RX_EN 0) .rw |>.arr1 32 8,
  row (HOST.RX_BUF_SIZE 0) .rw |>.arr1 32 8,
  rowIn (HOST.RX_SIZE 0) .rw 4 12 |>.arr1 32 8,
  row (HOST.RX_HEAD 0) .ro |>.arr1 32 8,
  row (HOST.RX_TAIL 0) .ro |>.arr1 32 8,
  row (HOST.RX_DONE 0) .ro |>.arr1 32 8,
  row (HOST.TX_DESC_BASE 0) .rw |>.half 1 |>.arr1 32 8,
  row (HOST.TX_DESC_BASE 0) .rw |>.half 2 |>.arr1 32 8,
  row (HOST.TX_CPL_BASE 0) .rw |>.half 1 |>.arr1 32 8,
  row (HOST.TX_CPL_BASE 0) .rw |>.half 2 |>.arr1 32 8,
  row (HOST.TX_EN 0) .rw |>.arr1 32 8,
  rowIn (HOST.TX_SIZE 0) .rw 4 12 |>.arr1 32 8,
  row (HOST.TX_HEAD 0) .ro |>.arr1 32 8,
  row (HOST.TX_TAIL 0) .ro |>.arr1 32 8,
  row (HOST.TX_DONE 0) .ro |>.arr1 32 8]

def ETH.rows0 : List Row := [
  row (ETH.PCS_LOOPBACK 0) .rw,
  rowIn (ETH.TEST_PAT 0) .rw 0 2,
  rowIn (ETH.LINK_FILTER 0) .rw 1 65535,
  row (ETH.E_LINK 0) .ro,
  row (ETH.BLOCK_LOCK 0) .ro,
  row (ETH.HI_BER 0) .ro,
  row (ETH.LOCAL_FAULT 0) .ro,
  row (ETH.REMOTE_FAULT 0) .ro,
  row (ETH.E_RX_FRAMES 0) .ro,
  row (ETH.RX_FCS_ERR 0) .ro,
  row (ETH.RX_PAUSE 0) .ro,
  row (ETH.ERR_BLOCKS 0) .ro,
  row (ETH.BER_COUNT 0) .ro,
  row (ETH.TEST_ERRS 0) .ro,
  row (ETH.E_TX_FRAMES 0) .ro,
  row (ETH.LINKDOWN_DROPS 0) .ro]

def TWIT.rows0 : List Row := [
  row TWIT.USE_REG .rw,
  rowIn TWIT.SCL_TIMEOUT .rw 1 255,
  row TWIT.TW_PEC .rw,
  row TWIT.TW_GLITCH .rw,
  row TWIT.ADDR_REG .rw,
  row TWIT.STRAP_FLOAT .ro,
  row TWIT.STRAPS .ro,
  row TWIT.TW_ADDR .ro,
  row TWIT.TRANSACTIONS .ro,
  row TWIT.BUSY_NACKS .ro,
  row TWIT.PAGE_NACKS .ro,
  row TWIT.PEC_FAILS .ro,
  row TWIT.SHORT_GROUPS .ro,
  row TWIT.TW_TIMEOUTS .ro]

def TWIC.rows0 : List Row := [
  row TWIC.STRETCH_MAX .rw,
  rowIn TWIC.TC_SPEED .rw 0 2,
  row TWIC.POLL_EN .rw,
  row TWIC.POLL_ADDR .rw,
  row TWIC.POLL_REG .rw,
  row TWIC.POLL_LEN .rw,
  row TWIC.POLL_FILTER .rw,
  row TWIC.POLL_TICKS .rw,
  row (TWIC.MOD_STATUS 0) .ro |>.arr1 4 2,
  row TWIC.MOD_STALE .ro,
  row TWIC.MOD_AGE .ro,
  row TWIC.TWC_ADDR .rws,
  row TWIC.TWC_WLEN .rws,
  row TWIC.TWC_RLEN .rws,
  row (TWIC.TWC_TX 0) .rws |>.arr1 4 2,
  row TWIC.TWC_GO .wos,
  row (TWIC.TWC_RX 0) .ro |>.arr1 4 2,
  row TWIC.TWC_BUSY .ro,
  row TWIC.TWC_RESULT .ro]

def QSPI.rows0 : List Row := [
  row QSPI.READ_CMD .rw,
  row QSPI.Q_DUMMY .rw,
  rowIn QSPI.Q_MODE .rw 0 2,
  rowIn QSPI.Q_FREQ .rw 1 100,
  row QSPI.B_SLOT .ro,
  row QSPI.A_VALID .ro,
  row QSPI.B_VALID .ro,
  row QSPI.B_FAILS .ro,
  row QSPI.A_GEN .ro,
  row QSPI.B_GEN .ro,
  rowIn QSPI.STC_WDOG .rw 1 65535,
  rowIn QSPI.PREFER .rw 0 2,
  row QSPI.BOOT_FAILS_MAX .rw,
  rowIn QSPI.BOOT_TIMEOUT .rw 1 65535,
  row QSPI.STC_SLOT .wo,
  row QSPI.STC_OP .wo,
  row QSPI.STC_KICK .wos,
  row QSPI.HOST_FLASH .rws,
  row QSPI.FL_OPCODE .rw,
  row QSPI.FL_ADDR_BYTES .rw,
  row QSPI.FL_DUMMY .rw,
  rowIn QSPI.FL_LEN .rw 0 32,
  row QSPI.FL_ADDR .rw,
  row QSPI.FL_DIR .rw,
  row (QSPI.FL_DATA 0) .rw |>.arr1 4 8,
  row QSPI.FL_GO .wo,
  row QSPI.FL_BUSY .ro,
  row QSPI.FL_CODE .ro]

def RPR.rows0 : List Row := [
  row RPR.SWEEP_EN .rw,
  row RPR.AUTO_ROW .rw,
  row RPR.AUTO_ENG .rw,
  row RPR.AUTO_COL .rw,
  rowIn RPR.SWEEP_ROWS .rw 1 64,
  rowIn RPR.CE_ROW_MAX .rw 1 255,
  row RPR.CE_WINDOW .rw,
  row RPR.AGE_LIMIT .rw,
  rowIn RPR.SLACK_MIN .rw 10 255,
  row RPR.SPARES_WARN .rw,
  row RPR.SW_ACTIVITY .ro,
  row RPR.SW_KIND .ro,
  row RPR.SW_PASSES .ro,
  row RPR.FUSE_USED .ro,
  row RPR.FUSE_BAD .ro,
  row RPR.APPLIED .ro,
  row RPR.CONFLICTS .ro,
  row RPR.REJECTED .ro,
  row RPR.FLASH_BAD .ro,
  row RPR.REC_VALID .ro,
  row RPR.REC_COUNT .ro,
  row RPR.REC_WORD .ro,
  row RPR.REC_MTAG .ro,
  row RPR.REC_POP .wos,
  row RPR.CMD_OP .wos,
  row RPR.CMD_KIND .wos,
  row RPR.CMD_INSTANCE .wos,
  row RPR.CMD_INDEX .wos,
  row RPR.CMD_BUSY .ro,
  row RPR.CMD_CODE .ro,
  row RPR.CE_TOTAL .ro,
  row RPR.UE_TOTAL .ro,
  row RPR.UE_DROPS .ro,
  row RPR.UE_SENT .ro,
  row RPR.TRANSIENTS .ro,
  row RPR.ROWS_REMAPPED .ro,
  row RPR.ROWS_LOST .ro,
  row RPR.ENG_TESTS .ro,
  row RPR.ENG_FAILS .ro,
  row RPR.RECORDS_LOST .ro]

def RPR.rows1 : List Row := [
  row (RPR.ROWS_LEFT 0) .ro |>.arr1 4 16,
  row (RPR.COLS_LEFT 0) .ro |>.arr1 4 16,
  row RPR.SP_DESC .ro,
  row RPR.SP_CLS .ro,
  row RPR.SP_ALM .ro,
  row RPR.SP_KEY .ro,
  row RPR.PENDING_RETIRE .ro,
  row RPR.ENG_STANDBY .ro,
  row RPR.SLICES_SPARE .ro,
  row (RPR.SLACK_PS 0) .ro |>.arr1 8 16,
  row (RPR.SLACK_WORST 0) .ro |>.arr1 8 16,
  row (RPR.AGE_PPM 0) .ro |>.arr1 8 16]

def MBOX.rows0 : List Row := [
  rowIn MBOX.STC_RSP_TIMEOUT .rw 1 65535,
  row MBOX.STC_TIMEOUTS .ro,
  row (MBOX.REQ_DEST 0) .rw |>.arr1 256 3,
  row (MBOX.REQ_TAG 0) .rw |>.arr1 256 3,
  row (MBOX.REQ_CODE 0) .rw |>.arr1 256 3,
  row (MBOX.REQ_LEN 0) .rw |>.arr1 256 3,
  row (MBOX.REQ_DATA 0 0) .rw |>.arr1 256 3 |>.arr2 4 16,
  row (MBOX.REQ_POST 0) .wo |>.arr1 256 3,
  row (MBOX.RSP_VALID 0) .ro |>.arr1 256 3,
  row (MBOX.RSP_OUT 0) .ro |>.arr1 256 3,
  row (MBOX.RSP_STATUS 0) .ro |>.arr1 256 3,
  row (MBOX.RSP_TAG 0) .ro |>.arr1 256 3,
  row (MBOX.RSP_CODE 0) .ro |>.arr1 256 3,
  row (MBOX.RSP_LEN 0) .ro |>.arr1 256 3,
  row (MBOX.RSP_DATA 0 0) .ro |>.arr1 256 3 |>.arr2 4 16,
  row (MBOX.RSP_ACK 0) .wo |>.arr1 256 3,
  row (MBOX.IN_DEST 0) .ro |>.arr1 256 2,
  row (MBOX.IN_TAG 0) .ro |>.arr1 256 2,
  row (MBOX.IN_CODE 0) .ro |>.arr1 256 2,
  row (MBOX.IN_LEN 0) .ro |>.arr1 256 2,
  row (MBOX.IN_DATA 0 0) .ro |>.arr1 256 2 |>.arr2 4 16,
  row MBOX.OUT_WINDOW .rws,
  row MBOX.OUT_STATUS .rws,
  row MBOX.OUT_TAG .rws,
  row MBOX.OUT_CODE .rws,
  row MBOX.OUT_LEN .rws,
  row (MBOX.OUT_DATA 0) .rws |>.arr1 4 16,
  row MBOX.OUT_POST .wos,
  row MBOX.EVT_POST_CODE .rws,
  row (MBOX.EVT_POST_DATA 0) .rws |>.arr1 4 2,
  row MBOX.EVT_VALID .ro,
  row MBOX.EVT_CODE .ro,
  row (MBOX.EVT_DATA 0) .ro |>.arr1 4 2,
  row MBOX.EVT_POP .wo,
  row MBOX.OEV_VALID .ro,
  row MBOX.OEV_ARG .ro,
  row MBOX.OEV_SC .ro |>.half 1,
  row MBOX.OEV_SC .ro |>.half 2,
  row MBOX.OEV_POP .wos]

/-- The rows of the tables of a page (R73 to R74 and the unit chapters). -/
def pageRows (p : Nat) : List Row :=
  if p = 0x0 then SYS.rows0 else
  if p = 0x1 then ATTN.rows0 else
  if p = 0x2 then LEDG.rows0 ++ LEDG.rows1 else
  if p = 0x3 then SIDR.rows0 ++ SIDR.rows1 else
  if p = 0x4 then ORRY.rows0 else
  if p = 0x5 then ALM.rows0 else
  if p = 0x8 then LANE.rows0 ++ LANE.rows1 ++ LANE.rows2 else
  if p = 0xA then FRMD.rows0 ++ FRMD.rows1 else
  if p = 0xB then FRMU.rows0 else
  if p = 0xC then PMON.rows0 else
  if p = 0xD then ACTV.rows0 else
  if p = 0x10 then TMGR.rows0 else
  if p = 0x11 then CLS.rows0 else
  if p = 0x12 then CLSW.rows0 else
  if p = 0x13 then GHOST.rows0 else
  if 0x14 ≤ p ∧ p ≤ 0x17 then QUE.rows0 else
  if p = 0x18 then SCHED.rows0 else
  if p = 0x19 then DEFIC.rows0 else
  if p = 0x1A then SHAPE.rows0 else
  if p = 0x1B then POLICE.rows0 else
  if p = 0x1C then TEL.rows0 else
  if p = 0x1D then BB.rows0 else
  if p = 0x20 then DECK.rows0 else
  if p = 0x21 then DEAL.rows0 else
  if p = 0x22 then KEYS.rows0 else
  if p = 0x23 then CTXQ.rows0 else
  if p = 0x30 then AFE.rows0 ++ AFE.rows1 else
  if 0x31 ≤ p ∧ p ≤ 0x42 then SLICE.rows0 else
  if p = 0x5C then LOOP.rows0 else
  if p = 0x48 then WGH.rows0 ++ WGH.rows1 else
  if 0x49 ≤ p ∧ p ≤ 0x58 then WCH.rows0 else
  if p = 0x5A then USX.rows0 ++ USX.rows1 else
  if p = 0x5B then USP.rows0 else
  if p = 0x60 then LEGL.rows0 else
  if p = 0x61 then ALOG.rows0 else
  if p = 0x68 then BILL.rows0 ++ BILL.rows1 else
  if p = 0x69 then TARF.rows0 else
  if p = 0x6A then PREP.rows0 else
  if p = 0x70 then SWCH.rows0 ++ SWCH.rows1 else
  if p = 0x78 then PWR.rows0 ++ PWR.rows1 else
  if p = 0x79 then VREG.rows0 else
  if p = 0x80 then HOST.rows0 else
  if 0x81 ≤ p ∧ p ≤ 0x82 then ETH.rows0 else
  if p = 0x84 then TWIT.rows0 else
  if p = 0x85 then TWIC.rows0 else
  if p = 0x86 then QSPI.rows0 else
  if p = 0x90 then RPR.rows0 ++ RPR.rows1 else
  if p = 0xF0 then MBOX.rows0 else
  []

/-- The CAUSE bits the unit of a page defines, bit 31 being the pointer bit of a sub-cause group (R73, R88). -/
def causeBits (p : Nat) : Nat :=
  if p = 0x0 then 0x1 else
  if p = 0x2 then 0x7 else
  if p = 0x3 then 0xFF else
  if p = 0x4 then 0xF else
  if p = 0x8 then 0x7FFFF else
  if p = 0xA then 0x8000007F else
  if p = 0xB then 0x3 else
  if p = 0xC then 0x8000001F else
  if p = 0xD then 0x3FFF else
  if p = 0x10 then 0x3F else
  if p = 0x11 then 0x3 else
  if 0x14 ≤ p ∧ p ≤ 0x17 then 0x80000000 else
  if p = 0x1C then 0x80000000 else
  if p = 0x1D then 0x3 else
  if p = 0x20 then 0x1F else
  if p = 0x21 then 0x3 else
  if p = 0x22 then 0x7 else
  if p = 0x23 then 0x3 else
  if p = 0x30 then 0x7F else
  if 0x31 ≤ p ∧ p ≤ 0x42 then 0x7 else
  if p = 0x5C then 0xF else
  if p = 0x48 then 0x8000003F else
  if 0x49 ≤ p ∧ p ≤ 0x58 then 0x1F else
  if p = 0x5A then 0x1FF else
  if p = 0x5B then 0x80000003 else
  if p = 0x60 then 0xFF else
  if p = 0x61 then 0x1F else
  if p = 0x68 then 0x7F else
  if p = 0x6A then 0x7F else
  if p = 0x70 then 0x3FF else
  if p = 0x78 then 0x3FF else
  if p = 0x79 then 0x1F else
  if p = 0x80 then 0xF else
  if 0x81 ≤ p ∧ p ≤ 0x82 then 0x7 else
  if p = 0x84 then 0x7 else
  if p = 0x85 then 0x7 else
  if p = 0x86 then 0x7 else
  if p = 0x90 then 0xFFF else
  if p = 0xF0 then 0x7F else
  0x0

/-- The number of instances of a page's sub-cause group, 0 where it has none (R90). -/
def subCount (p : Nat) : Nat :=
  if p = 0xA then 16 else
  if p = 0xC then 16 else
  if 0x14 ≤ p ∧ p ≤ 0x17 then 256 else
  if p = 0x1C then 1024 else
  if p = 0x48 then 16 else
  if p = 0x5B then 4 else
  0

/-- 1 where PAGE_CTL.ENABLE is RO and reads 1, 0 where the page defines an enable that resets to 0 (R73). -/
def enableResets (p : Nat) : Nat :=
  if p = 0x0 then 1 else
  if p = 0x1 then 1 else
  if p = 0x2 then 1 else
  if p = 0x3 then 1 else
  if p = 0x4 then 1 else
  if p = 0x5 then 1 else
  if p = 0xB then 1 else
  if p = 0xC then 1 else
  if p = 0x11 then 1 else
  if p = 0x12 then 1 else
  if p = 0x13 then 1 else
  if 0x14 ≤ p ∧ p ≤ 0x17 then 1 else
  if p = 0x18 then 1 else
  if p = 0x19 then 1 else
  if p = 0x1A then 1 else
  if p = 0x1B then 1 else
  if p = 0x1C then 1 else
  if p = 0x1D then 1 else
  if p = 0x20 then 1 else
  if p = 0x21 then 1 else
  if p = 0x22 then 1 else
  if p = 0x23 then 1 else
  if p = 0x48 then 1 else
  if p = 0x5B then 1 else
  if p = 0x60 then 1 else
  if p = 0x61 then 1 else
  if p = 0x68 then 1 else
  if p = 0x69 then 1 else
  if p = 0x6A then 1 else
  if p = 0x78 then 1 else
  if p = 0x79 then 1 else
  if p = 0x80 then 1 else
  if p = 0x84 then 1 else
  if p = 0x85 then 1 else
  if p = 0x86 then 1 else
  if p = 0x90 then 1 else
  if p = 0xF0 then 1 else
  0

/-- The page map lists the page (R70). -/
def pageAssigned (p : Nat) : Bool :=
  decide (p = 0x0 ∨ p = 0x1 ∨ p = 0x2 ∨ p = 0x3 ∨ p = 0x4 ∨ p = 0x5 ∨ p = 0x8 ∨ p = 0xA ∨ p = 0xB ∨ p = 0xC ∨ p = 0xD ∨ p = 0x10 ∨ p = 0x11 ∨ p = 0x12 ∨ p = 0x13 ∨ (0x14 ≤ p ∧ p ≤ 0x17) ∨ p = 0x18 ∨ p = 0x19 ∨ p = 0x1A ∨ p = 0x1B ∨ p = 0x1C ∨ p = 0x1D ∨ p = 0x20 ∨ p = 0x21 ∨ p = 0x22 ∨ p = 0x23 ∨ p = 0x30 ∨ (0x31 ≤ p ∧ p ≤ 0x42) ∨ p = 0x5C ∨ p = 0x48 ∨ (0x49 ≤ p ∧ p ≤ 0x58) ∨ p = 0x5A ∨ p = 0x5B ∨ p = 0x60 ∨ p = 0x61 ∨ p = 0x68 ∨ p = 0x69 ∨ p = 0x6A ∨ p = 0x70 ∨ p = 0x78 ∨ p = 0x79 ∨ p = 0x80 ∨ (0x81 ≤ p ∧ p ≤ 0x82) ∨ p = 0x84 ∨ p = 0x85 ∨ p = 0x86 ∨ p = 0x90 ∨ p = 0xF0)

end Sys2Proof.Machine
end

