-- ==== Sys2Proof/Machine/State.lean ====
section
/-! DEFINITION. The state of the TS44 as plain data: the register file, the state the chapters give without a register,
and the queue of waiting commands; the reasons a step can stop; and the machine right after reset. -/
namespace Sys2Proof.Machine

/-- Where the die stands in the reset sequence of R484 to R487: held in reset, released and running its known-answer tests,
or answering the fabric. -/
inductive Stage where
  | held | released | running
  deriving DecidableEq, Repr

/-- Time: core cycles of 2.5 ns since power-on, the SC counted in phase steps (R26), the commit cycles so far (R16), the
SC of the last commit cycle run, and the value that the last step of the SC left and the one it took (R35). -/
structure Time where
  cycle : Nat := 0
  sc : Nat := 0
  ticks : Nat := 0
  tickSc : Nat := 0
  step : Option (Nat × Nat) := none
  stage : Stage := .running
  deriving DecidableEq, Repr

/-- What is fused at test: the variant, and the words of the repair fuse field (R3, R466). -/
structure Fuse where
  variant : Variant := .ts4410
  repairs : List Nat := []
  deriving DecidableEq, Repr

/-- A pending RWC group of a page: armed or not, the port whose COMMIT armed it and the core cycle in which it did, and the
pending fields (R76, R77). -/
structure RwcGroup where
  page : Nat := 0
  armed : Bool := false
  by_ : Port
  at_ : Nat := 0
  fields : List (Fld × Nat) := []
  deriving DecidableEq, Repr

/-- What the register fabric holds besides the registers: LO writes held apart per port and latched companion registers
(R72), accepted TK writes waiting for their tick, each with its value and the
core cycle of its acceptance (R16, R75), RWC groups (R76), for each locked page the commit cycle count at the
owner's last accepted write (R80), and for each command register the cycle at which its command ends (R49, R81); and of the present
cycle: the bits of W1C fields that events set, by key (R82), the counters that ports wrote, by key (R82), and the cycle and place of
the last turn taken (R81). -/
structure Fab where
  heldLo : List (Port × Nat × Nat) := []
  latches : List (Port × Nat × Nat) := []
  tkPend : List (Fld × Nat × Nat) := []
  rwc : List RwcGroup := []
  leases : List (Nat × Nat) := []
  cmds : List (Nat × Nat) := []
  cmdCount : Nat := 0
  setNow : List (Nat × Nat) := []
  wroteNow : List Nat := []
  turn : Nat × Nat := (0, 0)
  deriving DecidableEq, Repr

/-- The attention logic: SUMMARY in the present cycle and in the one before, PIN_MASK, STC_MASK and the STC-private condition as the
driver stages hold them (R94), the end of the pin's hold-off, the STC's own line (R95 to R97), and whether another device holds the
ball of ATTN_N low (R96). -/
structure Attn where
  sum : Nat := 0
  prev : Nat := 0
  pinMask : Nat := 0
  stcMask : Nat := 0
  priv : Bool := false
  holdEnd : Nat := 0
  extLow : Bool := false
  stcLine : Bool := false
  stcHold : Bool := false
  stcHoldEnd : Nat := 0
  deriving DecidableEq, Repr

/-- The host interface's state that has no register: the MSI-X masks, pending bits and messages sent, the ATTN vectors whose
expression is non-zero, MSI-X and DMA stopped in D3hot (R431, R432); per RING vector the completions not yet announced and the
cycle of the first (R432); the rings from 8 on in an odd pass (R434), the TX ring visited last (R436), and every write the
host DMA has made to host memory as (address, bytes). -/
structure HostU where
  vecMasked : List Nat := List.range 32
  funcMask : Bool := false
  pba : List Nat := []
  msgs : List Nat := []
  vecHigh : List Nat := []
  msixStopped : Bool := false
  coal : List (Nat × Nat × Nat) := []
  wrapped : List Nat := []
  lastTx : Nat := 7
  dma : List (Nat × List Nat) := []
  deriving DecidableEq, Repr

/-- SIDR's state that has no register (R27 to R40): an accepted ADVANCE write waiting for its frame boundary with the cycle
of the write, the received downstream position less the core cycle (R27), a pending step (new SC less held SC, R35), the
pending single step of a small ADVANCE change with the remainder that FRMU takes beside it, and the remainder FRMU applies now
(R27, R28), the SC at which the slew last acted (R34), whether the step tick is still to run (R35); REFCLK learning, its average in
65,536ths of a ppb (R30); the uncertainty in fifths of a step (R31); the mains guard and learning, and the errors that the PLL takes out
over the present crossings, the newest first (R32); the ephemeris run (R38) and the acceptance times (R40). -/
structure Sidr where
  advPend : Option (Bool × Nat × Nat) := none
  rxOff : Option Int := none
  stepE : Option Int := none
  oneStep : Option (Int × Nat) := none
  fine : Nat := 0
  lastAdj : Option Nat := none
  stepTick : Bool := false
  learnSecs : Nat := 0
  learnStarted : Bool := false
  learnAvg : Int := 0
  learnStamp : Nat := 0
  uncFifths : Nat := 0
  uncStamp : Nat := 0
  mainsLast : Option Nat := none
  mainsTimedOut : Bool := false
  mainsRun : Nat := 0
  mainsOkRun : Nat := 0
  mainsSpacings : List Nat := []
  merAnchor : Option Nat := none
  merK : Nat := 0
  merErrs : List Int := []
  ephHave : Bool := false
  ephSince : Bool := false
  ephStamp : Nat := 0
  ephRun : Option (Eph × Nat) := none
  deriving DecidableEq, Repr

/-- A trigger of the Orrery on its way to a unit (R46). -/
structure Trig where
  unit : Nat := 0
  occ : Nat := 0
  fire : Nat := 0
  index : Nat := 0
  action : Nat := 0
  arg : Nat := 0
  quality : Nat := 0
  late : Bool := false
  deriving DecidableEq, Repr

/-- An Almanac entry (R41, "Entry format") with LAST_FIRE and the counts of R53; owner 0 LGC, 1 PCIe, 2 STC, 3 two-wire. -/
structure AEntry where
  target : Nat := 0
  period : Nat := 0
  offset : Nat := 0
  unit : Nat := 0
  action : Nat := 0
  arg : Nat := 0
  cond : Nat := 0
  wall : Bool := false
  late : Bool := false
  protect : Bool := false
  owner : Nat := 0
  lastFire : Option Nat := none
  lastWall : Option (Nat × Nat) := none
  missed : Nat := 0
  fires : Nat := 0
  deriving DecidableEq, Repr

/-- A firing that a step leaves to be sent: the occurrence SC, the index, whether it is a late one, and the core cycle at which the
occurrence came (R45, R47). -/
structure Owed where
  occ : Nat := 0
  index : Nat := 0
  late : Bool := false
  since : Nat := 0
  deriving DecidableEq, Repr

/-- The Orrery's state: the valid entries by rising index, the SENT tallies per unit code and the trigger sent last (R46), the firings
that a step left to be sent, and the cycle in which an entry fired last (R45, R47). -/
structure Orry where
  entries : List (Nat × AEntry) := []
  sent : List (Nat × Nat) := []
  trig : Option Trig := none
  owed : List Owed := []
  firedAt : Option Nat := none
  deriving DecidableEq, Repr

/-- The TRIG tallies of one unit code and whether its break halts it (R54, R63). -/
structure TrigTally where
  orry : Nat := 0
  pin : Nat := 0
  cmd : Nat := 0
  executed : Nat := 0
  merged : Nat := 0
  refused : Nat := 0
  pend : Nat := 0
  halted : Bool := false
  deriving DecidableEq, Repr

/-- The ledger tallies that have no register (R54): CELLS, DESC, CREDIT, NONCE, MASS and VOL, TRIG by unit code, and the
snapshot of the TRIG tallies with the core cycle of the accepted SNAPSHOT (R58). ENGINE is counted from the DEAL page, MONEY from the accounts of PREP. -/
structure Ledger where
  cellsFree : Nat := 65536
  cellsQueued : Nat := 0
  cellsStaged : Nat := 0
  cellsQuar : Nat := 0
  descFree : Nat := 32768
  descInUse : Nat := 0
  specDebit : Nat := 0
  confirmed : Nat := 0
  refunded : Nat := 0
  creditPend : Nat := 0
  allocated : Nat := 0
  transmitted : Nat := 0
  burned : Nat := 0
  nonceOpen : Nat := 0
  massTotal : Int := 0
  massDelivered : Int := 0
  massResidue : Int := 0
  volTotal : Int := 0
  volDelivered : Int := 0
  volResidue : Int := 0
  trig : List (Nat × TrigTally) := []
  snapTrig : List (Nat × TrigTally) := []
  snapAt : Nat := 0
  deriving DecidableEq, Repr

/-- What a receive lane keeps besides its registers: the core cycle it entered its state, the tick it entered PHASE and the
tick it entered DOWN (R107, R109), the runs of passing and failing windows, the last failing window and the start of the
present window (R111, R121), the last update of each adaptive parameter (R119), the updates and held updates of the tick
(R120), whether FENCE_HELD was raised in this episode, and whether a RELEASE has let a rebuilt lane return (R115, R126). -/
structure RxLane where
  entered : Nat := 0
  phaseTick : Nat := 0
  downTick : Nat := 0
  passRun : Nat := 0
  failRun : Nat := 0
  lastFail : Option Nat := none
  winStart : Nat := 0
  updated : List (Nat × Nat) := []
  tickUpd : List (Nat × Nat × Nat) := []
  fenceRaised : Bool := false
  released : Bool := false
  deriving DecidableEq, Repr

/-- A transmit substitution in progress (R116): the new lane, the core cycle of step 2, whether a command started it, and
whether the old lane is faulted. -/
structure TxSwap where
  lane : Nat
  start : Nat
  byCmd : Bool
  faulted : Bool
  deriving DecidableEq, Repr

/-- LANE's state that has no register: the receive lanes, a transmit substitution, the bounds of a retrain of the active
transmit lane, the start of TX training (R110), the MOD_SD guard (R121), the MOD_TXFLT guard (R122), the RXC guard's run of
windows (R123) and the cycle since which LINK reads DOWN or TRAINING (R136). -/
structure LaneU where
  rx0 : RxLane := {}
  rx1 : RxLane := {}
  rx2 : RxLane := {}
  swap : Option TxSwap := none
  retrainStart : Nat := 0
  retrainEnd : Nat := 0
  txTrain : Option Nat := none
  sdEdges : List Nat := []
  sdChatter : Bool := false
  sdIgnored : Bool := false
  sdLowTick : Nat := 0
  sdLowCycle : Nat := 0
  fltTimes : List Nat := []
  fltTick : Nat := 0
  fltGuard : Bool := false
  rxcRun : Nat := 0
  linkBad : Nat := 0
  linkGood : Nat := 0
  deriving DecidableEq, Repr

/-- What one PM second counts for a path: BIP-16 violations, errored frames, frames without a block, blocks, and the defects
detected in it (R141, R147). -/
structure PathSec where
  bip : Nat := 0
  err : Nat := 0
  missing : Nat := 0
  blocks : Nat := 0
  defs : Nat := 0
  deriving DecidableEq, Repr

/-- What one PM second counts (R140 to R144): its number, in the order of time, its start SC and cycle, frames in SYNC, section errored frames, violations, codewords,
detected defects, the bin flags it brings, whether FRMD was enabled throughout, and its paths. -/
structure PmSec where
  no : Nat := 0
  start : Nat := 0
  startCycle : Nat := 0
  frames : Nat := 0
  errFrames : Nat := 0
  bip : Nat := 0
  cwCorr : Nat := 0
  cwUncorr : Nat := 0
  defs : Nat := 0
  flags : Nat := 0
  off : Bool := false
  paths : List (Nat × PathSec) := []
  deriving DecidableEq, Repr

/-- An ended second that is not yet final (R142): its end SC, the SC at which it becomes final, whether it is left unclassified (R140), its counts, and which of section and paths is unavailable. -/
structure PmDone where
  sec : PmSec := {}
  endSc : Nat := 0
  finSc : Nat := 0
  off : Bool := false
  ses : Bool := false
  es : Bool := false
  secUa : Bool := false
  pSes : List Nat := []
  pEs : List Nat := []
  pUa : List Nat := []
  deriving DecidableEq, Repr

/-- A bin (R143, R144, R147): bounds, the number of its first whole second, flags (bit 6 SUSPECT to bit 0 PARTIAL), seconds, section counts, defect seconds, and
the seven counts of each path that has any. -/
structure Bin where
  first : Nat := 0
  start : Nat := 0
  endSc : Nat := 0
  flags : Nat := 1
  seconds : Nat := 0
  es : Nat := 0
  ses : Nat := 0
  uas : Nat := 0
  defS : List Nat := [0, 0, 0, 0, 0]
  bip : Nat := 0
  cwUncorr : Nat := 0
  paths : List (Nat × List Nat) := []
  deriving DecidableEq, Repr

/-- The bins of one kind: the current bin, the bin whose close awaits finality with the number of the second after its last and the SC at which it enters history, and history,
newest first (R143). -/
structure BinSet where
  cur : Bin := {}
  closing : Option Bin := none
  upTo : Nat := 0
  closeFin : Nat := 0
  hist : List Bin := []
  deriving DecidableEq, Repr

/-- PMON's state that has no register: the running second, the ended seconds not yet final (oldest first), the runs toward a
change of availability by section and path, the two bin sets, and a second that a step ends (R140 to R143). -/
structure PmonU where
  sec : PmSec := {}
  done : List PmDone := []
  run : Nat := 0
  pRun : List (Nat × Nat) := []
  bin15 : BinSet := {}
  binDay : BinSet := {}
  stepDue : Bool := false
  deriving DecidableEq, Repr

/-- What FRMD keeps for a path: the runs of PLM and LOK and of their clear conditions, the errored frames of the two running
windows, and the runs of clear windows (R136). -/
structure PathU where
  plmSet : Nat := 0
  plmClr : Nat := 0
  lokSet : Nat := 0
  lokClr : Nat := 0
  errSf : Nat := 0
  errSd : Nat := 0
  clrSf : Nat := 0
  clrSd : Nat := 0
  skipSf : Bool := false
  skipSd : Bool := false
  deriving DecidableEq, Repr

/-- FRMD's state that has no register (R130 to R137): the previous count, missed PSYNCs, the last readable count and the
frames since, the runs of LSC, the cycles at which SYNC was entered and left, the section BIP computed over the previous frame
when it was in SYNC, the sums, skips and clear runs of the SF and SD windows, the paths; and of the last frame whose map or
messages may be used: the grant entries that wait, its count, the cycle of its first symbol, the profile in
force for its map, the OAM messages that wait as (frame count, position, message), the entries for this terminal so far, those used (start and end phase, container), the containers whose entries were
declined or discarded with the reason (R158, R208), and whether its map is still to be staged for. nextAt is the byte position at which the
next PSYNC is expected, counted as eight bytes to a core cycle (R130). detAt holds the cycle at which each standing defect was detected (section defect b at b, path p's at 8 + 4p + b), sfAt
and sdAt the SC of the last windows evaluated. -/
structure LineU where
  nextAt : Nat := 0
  prev : Nat := 0
  miss : Nat := 0
  lastRead : Option Nat := none
  since : Nat := 0
  unread : Nat := 0
  lscRun : Nat := 0
  syncAt : Nat := 0
  outAt : Nat := 0
  bipPrev : Option Nat := none
  sumSf : Nat := 0
  sumSd : Nat := 0
  skipSf : Bool := false
  skipSd : Bool := false
  clrSf : Nat := 0
  clrSd : Nat := 0
  paths : List (Nat × PathU) := []
  grants : List (Nat × List Nat) := []
  oam : List (Nat × Nat × List Nat) := []
  mapFrame : Nat := 0
  mapAt : Nat := 0
  preLen : Nat := 0
  preLong : Nat := 0
  grantLead : Nat := 0
  snSlots : Nat := 0
  prePat : Nat := 0
  delim : Nat := 0
  owned : Nat := 0
  own : List (Nat × Nat × Nat) := []
  declined : List (Nat × Nat) := []
  mapUsed : Bool := false
  detAt : List (Nat × Nat) := []
  sfAt : Option Nat := none
  sdAt : Option Nat := none
  deriving DecidableEq, Repr

/-- A frame in the buffer (R177, R182): its bytes, its source, the classifier entry and generation it names, its PTYPE and
PCP rewrite word for a frame that matched none, the SC of its enqueueing, its colour, and which of its cells lie in rows due for
retirement (R471). -/
structure QFrame where
  data : List Nat := []
  src : Nat := 0
  cls : Option (Nat × Nat) := none
  enq : Nat := 0
  yellow : Bool := false
  bad : List Nat := []
  deriving DecidableEq, Repr

/-- A staged frame (R193): its queue, the deficits (level, child) and the shapers (kind, node) it was debited from. -/
structure SFrame where
  queue : Nat
  frame : QFrame
  defs : List (Nat × Nat) := []
  shapers : List (Nat × Nat) := []
  deriving DecidableEq, Repr

/-- A staged container (R192 to R196): its container, target frame, capacity, message space, frames in order, whether it is
confirmed, the phase it was staged under (R221), the key slot of its encryption, and the keystream blocks still to be produced (R220). -/
structure Staged where
  cont : Nat
  target : Nat
  cap : Nat
  oam : Bool
  frames : List SFrame := []
  confirmed : Bool := false
  phase : Nat := 0
  slot : Option Nat := none
  ksLeft : Nat := 0
  deriving DecidableEq, Repr

/-- What a burst is: a container's data, a serial-number response or a ranging response (R152 to R154, R159). -/
inductive BurstKind where
  | data | serial | ranging
  deriving DecidableEq, Repr

/-- A burst the TS44 has accepted a grant for: its target in phase steps, in SC for a data burst and in RP otherwise; its
preamble length and GRANT_STEPS; whether it carries a message; whether it carries the container that its entry confirmed (R196); the
preamble pattern and delimiter of its map's profile; the REI values its header took (R135): SREI, path, PREI, and
the path to restore; SSTAT, DG and SC_QUALITY when the header was built; the slot r of a serial-number response. -/
structure Plan where
  kind : BurstKind
  cont : Nat
  target : Nat
  pre : Nat
  steps : Nat
  oam : Bool
  full : Bool := false
  pattern : Nat := 0
  delim : Nat := 0
  srei : Nat := 0
  preiPath : Nat := 0
  prei : Nat := 0
  took : Bool := false
  sstat : Nat := 0
  dg : Bool := false
  quality : Nat := 0
  sn : Nat := 0
  deriving DecidableEq, Repr

/-- The burst builder's output: the bursts waiting for their time; the burst in flight, with the cycle at which its last
symbol leaves and the frames still to leave with their cycles; the cycles between which MOD_TXEN is high; the codewords
to count at its end; its fine delay in bit periods (R152); and the last burst's preamble and delimiter, and its coded body (R159 to
R163). -/
structure BurstU where
  plans : List Plan := []
  endCycle : Nat := 0
  txRise : Nat := 0
  txFall : Nat := 0
  frames : List (Nat × Nat × SFrame) := []
  cws : Nat := 0
  fine : Nat := 0
  start : List Nat := []
  body : List Nat := []
  deriving DecidableEq, Repr

/-- ACTV's state that has no register: the ticks at which TO1 and TO2 began (R150), the upstream message queue as (type,
48 bytes), the message whose MIC seat 4 is computing, the outcome of seat 4's check of the first waiting OAM message (R223), the
messages delivered to the STC, the last accepted RANGING_TIME and
POPUP as (SEQ, cycle) (R170), how many serial-number slots were drawn and messages built, whether the pad of
MOD_TXEN was last seen high while driven low, the rise of the high period in which it was seen low (R166), and the core cycle of the last
transition with the state and the TO2 start before the first transition of that cycle (R149). -/
structure ActvU where
  to1 : Option Nat := none
  to2 : Option Nat := none
  upq : List (Nat × List Nat) := []
  micMsg : Option (List Nat) := none
  mic : Option Bool := none
  stcRx : List (List Nat) := []
  lastRang : Option (Nat × Nat) := none
  lastPop : Option (Nat × Nat) := none
  draws : Nat := 0
  built : Nat := 0
  padHigh : Bool := false
  padLow : Option Nat := none
  turn : Option (Nat × Nat × Option Nat) := none
  deriving DecidableEq, Repr

/-- A classifier entry (R182, R183): its key, its action word in the form of W_ACTION, generation, references and hits. -/
structure CEntry where
  key : Nat := 0
  action : Nat := 0
  gen : Nat := 0
  ref : Nat := 0
  hits : Nat := 0
  deriving DecidableEq, Repr

/-- A ghost slot (R183, R203). -/
structure Ghost where
  index : Nat
  gen : Nat
  ref : Nat
  action : Nat
  deriving DecidableEq, Repr

/-- A child of an arbiter: its deficit, and whether its next visit is a new turn (R188, R189). -/
structure Child where
  deficit : Int := 0
  newTurn : Bool := true
  deriving DecidableEq, Repr

/-- A shaper: SH_EN, rates in 16.16 bytes per frame, burst sizes in bytes, and its buckets in units of a byte divided by
40 times 65,536, so that a refill step adds the rate (R186, R191); and the settings that take effect at the next refill step: SH_EN, CIR, CBS,
PIR and PBS (R191). -/
structure Shaper where
  en : Bool := false
  cir : Nat := 0
  cbs : Nat := 9728
  pir : Nat := 0
  pbs : Nat := 9728
  c : Int := 25501368320
  p : Int := 25501368320
  next : Option (Bool × Nat × Nat × Nat × Nat) := none
  deriving DecidableEq, Repr

/-- A policer: PL_CTL, rates, burst sizes, buckets in the units of Shaper, and its counts (R186, R206). -/
structure Policer where
  ctl : Nat := 0
  cir : Nat := 0
  cbs : Nat := 9728
  pir : Nat := 0
  b2 : Nat := 9728
  t1 : Nat := 25501368320
  t2 : Nat := 25501368320
  green : Nat := 0
  yellow : Nat := 0
  red : Nat := 0
  deriving DecidableEq, Repr

/-- The telemetry of a queue (R198, R207); shown holds FRAMES_OUT, BYTES_OUT, DROPS_FULL, DROPS_YELLOW and DROPS_FLUSH as sampled at the
last commit cycle. -/
structure Tel where
  qLast : Nat := 0
  sLast : Nat := 0
  qMin : Nat := 0
  qMax : Nat := 0
  sojLast : Nat := 0
  sojMin : Nat := 0
  sojMax : Nat := 0
  hist : List Nat := [0, 0, 0, 0, 0, 0, 0, 0]
  sojs : Nat := 0
  framesOut : Nat := 0
  bytesOut : Nat := 0
  dropsFull : Nat := 0
  dropsYellow : Nat := 0
  dropsFlush : Nat := 0
  deficit : Int := 0
  samples : Nat := 0
  shown : List Nat := [0, 0, 0, 0, 0]
  deriving DecidableEq, Repr

/-- The traffic manager's state that has no register: the queued frames by queue, oldest first; the arbiters' children by
(level, child) with level 0 queue, 1 subscriber, 2 service node, 3 port; their pointers by (arbiter level, arbiter, committed);
the flat-mode pointers; shapers by (kind, node); policers; classifier entries and ghosts by slot; the staged containers in
order of staging, and the stagings that wait for room in the keystream store as (container, target, capacity, message space) (R220); the
grant maps used and the last usable grant of each container (R192); telemetry; the queues that
dropped a frame in this tick (R204), the last generation of each index used (R183), and the last frame a downstream port sent. -/
structure TmU where
  queues : List (Nat × List QFrame) := []
  children : List ((Nat × Nat) × Child) := []
  pointers : List ((Nat × Nat × Bool) × Nat) := []
  flat : List ((Nat × Nat) × Nat) := []
  shapers : List ((Nat × Nat) × Shaper) := []
  policers : List (Nat × Policer) := []
  entries : List (Nat × CEntry) := []
  ghosts : List (Nat × Ghost) := []
  ghostMax : Nat := 0
  staged : List Staged := []
  waiting : List (Nat × Nat × Nat × Bool) := []
  maps : Nat := 0
  hist : List (Nat × Nat × Nat × Bool) := []
  tel : List (Nat × Tel) := []
  dropped : List Nat := []
  sojAlarm : List Nat := []
  lastRefill : Option Nat := none
  gens : List (Nat × Nat) := []
  lastOut : Option (Nat × List Nat) := none
  deriving DecidableEq, Repr

/-- A key slot (R215): VALID, SECRET, KEYLEN (0 128, 1 192, 2 256), SALT, GEN and the key's bytes. SECRET of a slot never loaded reads 0
(R239, log 218). -/
structure KeySlot where
  valid : Bool := false
  secret : Bool := false
  keylen : Nat := 0
  salt : Nat := 0
  gen : Nat := 0
  key : List Nat := []
  deriving DecidableEq, Repr

/-- An encrypted downstream block in the decrypt buffer (R217 to R219), or one in the clear that waits behind such a block of its path
(R21): its path, key slot, frame count, the offset of its frame bytes in the frame's keystream, its payload, and the cipher blocks
still to do. -/
structure DecBlock where
  path : Nat
  slot : Option Nat
  frame : Nat
  off : Nat
  payload : List Nat
  left : Nat
  deriving DecidableEq, Repr

/-- A host job (R229): its ring, the slot of its descriptor, the 64 descriptor bytes, its key slot, the context record it
restores or its counter block or IV, the cipher blocks still to do, the input that its hands have read, its status once it has ended,
and whether a check at its fetch refused it, and one that JOBS_REFUSED counts (R240). -/
structure Job where
  ring : Nat
  index : Nat
  desc : List Nat
  slot : Nat
  ctx : List Nat := []
  left : Nat := 0
  input : List Nat := []
  ended : Option Nat := none
  refused : Bool := false
  counted : Bool := false
  deriving DecidableEq, Repr

/-- An engine's hand: the cycle of its grant, the cycle at which it is predicted to end, the blocks it does, the key slot it uses, and the
work it is for: path, frame and offset for seat 0, container and target for seat 1, ring and slot for seat 3, the signing of a reply or
the check of a message for seat 4 (R210, R215, R233, R234). -/
structure Hand where
  start : Nat := 0
  endAt : Nat := 0
  blocks : Nat := 0
  slot : Option Nat := none
  work : List Nat := []
  deriving DecidableEq, Repr

/-- The deck's and the Dealer's state that has no register: the key store, the decrypt buffer, the highest target frame used
with each upstream slot's key (R220), the previous OAM set (R224), the jobs fetched in order, the ring visited last, the hands
of held engines, the cycle of each engine's last release and of the last round (R231, R232), the seats that have won, the latest first
(R232), each seat's run of lost rounds and whether STARVED was raised (R236); DRAINED raised for this drain (R222); a record that
waits for seat 2, whether seat 2 has signed it, and how many signings a reclaim failed (R234, R373). -/
structure DeckU where
  slots : List (Nat × KeySlot) := []
  dec : List DecBlock := []
  topFrame : List (Nat × Nat) := []
  prevSet : Nat := 0
  jobs : List Job := []
  lastRing : Nat := 7
  hands : List (Nat × Hand) := []
  freed : List (Nat × Nat) := []
  lastRound : Option Nat := none
  lastWin : List Nat := []
  lostRun : List (Nat × Nat) := []
  starved : List Nat := []
  drained : Bool := false
  signing : Bool := false
  signed : Bool := false
  signFails : Nat := 0
  deriving DecidableEq, Repr

/-- What the guard of an excitation pair keeps (R249, R251): runs of bad and good frames, whether a range failure stands, the run
of frames in current limit, the frame judged last, and the SC of the latest exchange or enable. -/
structure PairU where
  bad : Nat := 0
  good : Nat := 0
  failing : Bool := false
  limit : Nat := 0
  lastFrame : Option Nat := none
  gridFrom : Nat := 0
  deriving DecidableEq, Repr

/-- What a slice keeps besides its registers (R254, R255, R261 to R263): the SC of the first modulator clock after its enable or
latest SLICE_CFG write, the end SC of the latest sample and the cycle it came (or the enable), the runs of the guard, whether a
failure stands and whether STALL was judged, samples since SHADOW began, whether the next sample carries SWAPPED, the end SC of the last
sample that did, and its latest sample with its flags. -/
structure SliceU where
  clockFrom : Nat := 0
  lastEnd : Option Nat := none
  lastCycle : Nat := 0
  bad : Nat := 0
  good : Nat := 0
  failing : Bool := false
  stalled : Bool := false
  shadowed : Nat := 0
  swapped : Bool := false
  swapSc : Nat := 0
  value : Int := 0
  flags : Nat := 0
  deriving DecidableEq, Repr

/-- The BLANK pin's window (R259): the groups it holds, its start, and its end once it closes. -/
structure PinWin where
  groups : Nat
  start : Nat
  endAt : Option Nat := none
  deriving DecidableEq, Repr

/-- The sensor front end's state that has no register: the SC of the last step or change of CORE_SRC (R254); open windows by
group as (start, end) and past windows as (groups, start, end) (R256 to R258); the BLANK pin's window and guard (R259); the
edges of the trigger pins as (pin, cycle) (R260); pins in high impedance after a change of role with the cycle it ends (R245);
reversal instants as (pair, SC), newest first (R249); pairs; slices; a TAKEOVER waiting for its instant: (x, a, RESULT, the
SC of acceptance); and the cycle in which the latest move of the receive slice's TIA pin ends (R263, R312). -/
structure AfeU where
  disturb : Option Nat := none
  windows : List (Nat × Nat × Nat) := []
  past : List (Nat × Nat × Nat) := []
  pinWin : Option PinWin := none
  blankEdges : List Nat := []
  chatter : Bool := false
  stuck : Bool := false
  highTick : Nat := 0
  trigEdges : List (Nat × Nat) := []
  hiz : List (Nat × Nat) := []
  revs : List (Nat × Nat) := []
  pairs : List (Nat × PairU) := []
  slices : List (Nat × SliceU) := []
  takeover : Option (Nat × Nat × Nat × Nat) := none
  rxMoved : Option Nat := none
  deriving DecidableEq, Repr

/-- The state of a loop output that has no register (R265 to R267): frames in a row with a current error, and with an open loop; ticks
since the last update; whether they reached STALE; and the last frame the controller worked in. -/
structure LoopU where
  err : Nat := 0
  open_ : Nat := 0
  idle : Nat := 0
  stale : Bool := false
  frame : Option Nat := none
  deriving DecidableEq, Repr

/-- An input sample of a weigh channel (R276): its end SC, its value, whether it is fed to the chain, and whether it is a marker or
carries FAULT, SETTLING or SWAPPED; open_: what it becomes behind the notches is open (R277). -/
structure Samp where
  endSc : Nat
  value : Int
  fed : Bool
  marker : Bool := false
  fault : Bool := false
  settling : Bool := false
  swapped : Bool := false
  open_ : Bool := false
  deriving DecidableEq, Repr

/-- A notch of a channel (R278): the ticks in a row it was pushed past a bound it stood at, and whether FENCE_HELD was raised in
this run. -/
structure NotchU where
  held : Nat := 0
  raised : Bool := false
  deriving DecidableEq, Repr

/-- What a weigh channel keeps besides its registers: its samples newest first, as far as its support reaches, how many it has
taken since its enable or latest CH_CFG change, the first fed sample since a notch started and whether another differed (R277), the
SC of its enable, the grid point of the latest output, the runs of the dead-load check, an output that no formation has used yet,
whether FAULT stood at the last output, and its notches (R274 to R279). -/
structure WchU where
  hist : List Samp := []
  taken : Nat := 0
  steady : Option Int := none
  varied : Bool := false
  gridFrom : Nat := 0
  lastB : Option Nat := none
  dlLow : Nat := 0
  dlHigh : Nat := 0
  dlFail : Bool := false
  fresh : Bool := false
  faulty : Bool := false
  notches : List (Nat × NotchU) := []
  deriving DecidableEq, Repr

/-- A formation kept for motion and windows: m in units of 2 to the -333 mg, whether it is free of BLANKED, FAULT and SETTLING,
its flags and its b (R282, R290). -/
structure Formed where
  m : Int := 0
  clean : Bool := false
  flags : Nat := 0
  b : Nat := 0
  deriving DecidableEq, Repr

/-- A weighing window that runs (R290): its start t, the first and last b it covers, its output spacing, its formations newest
first, and whether an output of it was a MARKER. -/
structure WWin where
  t : Nat := 0
  first : Nat := 0
  last : Nat := 0
  spacing : Nat := 0
  formed : List Formed := []
  marker : Bool := false
  deriving DecidableEq, Repr

/-- What a weigh set keeps besides its registers (R280 to R294): the last formations newest first, Z and the initial zero in
units of 2 to the -333 mg, T in mg and whether it is a preset, stale time in ticks, the drift bound in units of 1/1,440,000 µe,
the b of the previous formation, the last zero windows as (b, Z), a waiting SET_CMD as (OP, argument, port) and the SC of its
write, the running window, the pending trigger as (ARG, unit), and whether a double-entry mismatch is unresolved. -/
structure SetU where
  last : List Formed := []
  z : Option Int := none
  z0 : Int := 0
  tare : Int := 0
  preset : Bool := false
  stale : Nat := 0
  isStale : Bool := false
  bound : Nat := 0
  lastB : Option Nat := none
  zeros : List (Nat × Int) := []
  cmd : Option (Nat × Int × Port) := none
  cmdSc : Nat := 0
  win : Option WWin := none
  pend : Option (Nat × Nat) := none
  deBad : Bool := false
  deriving DecidableEq, Repr

/-- The LGC's double-entry check (R293, R294): the set and channel under check, the shadowing slice and the slice it shadows,
the SAMPLES count of the shadowing slice when the dwell began, whether the second spare is arbitrating and the dummy it arbitrates
for, the slice checked last, and the tick from which a repeat is due where no second spare exists. -/
structure DeU where
  set : Nat := 0
  chan : Nat := 0
  x : Nat := 0
  a : Nat := 0
  dwell : Option Nat := none
  second : Option Nat := none
  active : Bool := false
  lastA : Option Nat := none
  waitFrom : Option Nat := none
  deriving DecidableEq, Repr

/-- The weighing state that has no register; draws counts the free values drawn. -/
structure WghU where
  chans : List (Nat × WchU) := []
  sets : List (Nat × SetU) := []
  de : DeU := {}
  draws : Nat := 0
  deriving DecidableEq, Repr

/-- A shot sequence in progress (R306): s0, the SC of slot 0 on the SC's present line, the core cycle of its first transmit edge, its path mask, TEMP, the next slot, its good
shots as (path, repeat, direction, TOF in 1/720,720 of a count), the shots lost as (path, discarded), and whether shots were discarded for a blanking window
or a takeover; the discharge times by slot, none where open (R314). -/
structure Seq where
  s0 : Nat := 0
  base : Nat := 0
  start : Nat := 0
  mask : Nat := 0
  temp : Bool := false
  slot : Nat := 0
  good : List (Nat × Nat × Nat × Nat) := []
  lost : List (Nat × Bool) := []
  blanked : Bool := false
  repaired : Bool := false
  times : List (Option Nat) := []
  deriving DecidableEq, Repr

/-- What an ultrasonic path keeps (R311, R313): its last 8 good TOFs per direction, newest first, the runs of failed and good
sequences, and the reason of its last bad shot. -/
structure PathX where
  up : List Nat := []
  dn : List Nat := []
  fails : Nat := 0
  goods : Nat := 0
  reason : Nat := 0
  deriving DecidableEq, Repr

/-- What an RTD port keeps (R315): its last good temperature in m°C, the runs of failures and of good measurements, the cycle its
fault began, and whether T_HOLD has passed since. -/
structure RtdU where
  last : Option Int := none
  fails : Nat := 0
  goods : Nat := 0
  since : Nat := 0
  expired : Bool := false
  deriving DecidableEq, Repr

/-- The ultrasonic unit's state that has no register: the running sequence and the ARG of a pending trigger (R306, R307), the
result queue (R308), paths, RTD ports; the previous result of the run as (Q, first transmit edge) and the cycle of the last SC step
(R321); the class that recent results agree on with their number (R325); whether a sequence with TEMP has given T_MED; whether
VOL_PEND holds volume with NFT, and whether it is in a reverse phase (R323); of the open delivery the classes declared, the sum
and number of T_MED, START gross and whether that value was good, and whether an interval was not integrated (R322, R326, R327);
flags of its results; and how many free values were drawn. -/
structure UsxU where
  seq : Option Seq := none
  pend : Option Nat := none
  results : List Seq := []
  paths : List (Nat × PathX) := []
  rtds : List (Nat × RtdU) := []
  prev : Option (Int × Nat) := none
  stepAt : Nat := 0
  agree : Nat × Nat := (15, 0)
  tKnown : Bool := false
  pendNft : Bool := false
  reverse : Bool := false
  declared : List Nat := []
  tSum : Int := 0
  tNum : Nat := 0
  startGross : Int := 0
  startOk : Bool := false
  delFlags : Nat := 0
  draws : Nat := 0
  deriving DecidableEq, Repr

/-- An audit log entry of 48 bytes (R352), and an event that waits in the buffer, its SEQ 0 and its CHAIN empty. -/
structure LogEntry where
  seq : Nat := 0
  event : Nat := 0
  source : Nat := 0
  flags : Nat := 0
  sc : Nat := 0
  day : Nat := 0
  sod : Nat := 0
  data : List Nat := []
  chain : List Nat := []
  deriving DecidableEq, Repr

/-- A totals slot of a journal (R349): its 1,000 payload bytes, TOTALS_MAC, and the commit word; an erased word is all ones. -/
structure JSlot where
  payload : List Nat := []
  mac : List Nat := []
  word : Nat := 2 ^ 64 - 1
  deriving DecidableEq, Repr

/-- A bank of the sealed store (R344): the words INTENT, COMMIT and DEFER, PARAMS up to its last record, BODY_MAC, and the
journal slots that are not erased. -/
structure Bank where
  intent : Nat := 2 ^ 64 - 1
  commit : Nat := 2 ^ 64 - 1
  defer : Nat := 2 ^ 64 - 1
  params : List Nat := []
  mac : List Nat := []
  journal : List (Nat × JSlot) := []
  deriving DecidableEq, Repr

/-- A mailbox request that waits for the LGC (R453, R454): its window, TAG, CODE and data bytes, and whether seat 2 has checked the VTAG
of a credit message (R369). -/
structure LgcReq where
  win : Nat
  tag : Nat
  code : Nat
  data : List Nat := []
  checked : Bool := false
  deriving DecidableEq, Repr

/-- An answer of the LGC, due in the commit cycle of that number (R333). -/
structure LgcAns where
  win : Nat
  tag : Nat
  code : Nat
  status : Nat := 0
  data : List Nat := []
  due : Nat := 0
  deriving DecidableEq, Repr

/-- The NONCE of a SESSION_START: its bytes, the commit cycle count at which it was given, and who asked (R340). -/
structure Nonce where
  bytes : List Nat
  tick : Nat
  station : Nat
  officer : Nat
  deriving DecidableEq, Repr

/-- A calibration commit (R345, R346): its generation and the one before, how many records changed, its start (none while it waits
for VRES, with the last commit cycle it may wait for), whether step 5 is written, and the request it answers. -/
structure CalRun where
  gen : Nat
  old : Nat
  changed : Nat
  params : List Nat
  start : Option Nat
  waitTo : Nat
  done : Bool := false
  req : LgcReq
  seq : Nat
  deriving DecidableEq, Repr

/-- What a closed delivery books (R373, R375): its record of 64 bytes, account (255 unattributed), rate, the mass booked and where
(0 nowhere, 1 RATE_MASS, 2 NFT_MASS), the volume in µL and where (0 nowhere, 1 RATE_VOL, 2 NFT_VOL, 3 UNATTR_VOL), service units,
the whole charge and the account's new RESIDUE. -/
structure DelBook where
  record : List Nat := []
  account : Nat := 255
  rate : Nat := 0
  mass : Nat := 0
  massTo : Nat := 0
  vol : Nat := 0
  volTo : Nat := 0
  svc : Nat := 0
  charge : Nat := 0
  residue : Nat := 0
  deriving DecidableEq, Repr

/-- A booking: a credit message by OP, an emergency activation, or a delivery (R60, R369, R370, R373). -/
inductive Booking where
  | credit (op account voucher amount : Nat) (auto : Bool)
  | emergency (account : Nat)
  | delivery (d : DelBook)
  deriving DecidableEq, Repr

/-- A totals commit in progress (R349): its slot, SEQ, start, payload, and how many bookings it covers. -/
structure TotRun where
  slot : Nat
  seq : Nat
  start : Nat
  payload : List Nat
  covers : Nat
  deriving DecidableEq, Repr

/-- A slice swap that is logged with the first sample that carries SWAPPED (R357). -/
structure SwapLog where
  a : Nat
  x : Nat
  user : Nat
  result : Nat
  mean : Nat
  deriving DecidableEq, Repr

/-- The legal part's state that has no register: the log and its buffer (R352, R353); the two banks, the edit buffer and STORE
words (R343 to R346); the session's NONCE, the open session's NONCE, runs and counts, the failed responses and the cycle the lock
ends (R337 to R341); the SEAL_SW guard (R338); the cycle of the TAMPER logged last (R339); the VRES run (R347); requests waiting, taken in the commit cycle of an SC, and answers due (R333); a calibration commit, a
ROLLOVER with its start and request; bookings that wait for their commit, whether a commit without a booking is due, the commit in
progress, whether the bookings were deferred (R349 to R351); the tick at which the LEGAL_ID computation began (R334); swaps to log; whether SELFTEST has
ended and whether the LGC has run since the reset (R489); whether the legal units of the AFE and of USX are enabled (R490); the reason
of a halt, kept for the next boot (R25); legal entries an error emptied, to be reinstalled (R50); and the totals
that the Dome has handed back (R62). -/
structure LegU where
  log : List LogEntry := []
  buf : List LogEntry := []
  bankA : Bank := {}
  bankB : Bank := {}
  edit : List Nat := []
  nonce : Option Nonce := none
  sessNonce : List Nat := []
  badTags : Nat := 0
  accepted : Nat := 0
  lastCmd : Nat := 0
  failed : Nat := 0
  lockUntil : Nat := 0
  edges : List Nat := []
  chatter : Bool := false
  rose : Nat := 0
  noSession : Bool := false
  leftLogged : Bool := false
  tamperAt : Option Nat := none
  vresRun : Nat := 0
  queue : List LgcReq := []
  takenSc : Nat := 0
  taken : Nat := 0
  answers : List LgcAns := []
  cal : Option CalRun := none
  roll : Option (Nat × LgcReq × Nat) := none
  bookings : List Booking := []
  due : Bool := false
  tot : Option TotRun := none
  deferred : Bool := false
  idStart : Option Nat := none
  draws : Nat := 0
  swaps : List SwapLog := []
  selfDone : Bool := false
  ran : Bool := false
  afeOn : Bool := false
  usxOn : Bool := false
  haltWhy : Nat := 0
  lost : List (Nat × AEntry) := []
  retained : List Nat := []
  deriving DecidableEq, Repr

/-- A trigger latched for the billing units: unit, action, occurrence SC, and the frame it fired in (R366, R368). -/
structure BillTrig where
  unit : Nat
  action : Nat
  occ : Nat
  frame : Nat
  deriving DecidableEq, Repr

/-- An unattributed delivery (R375): its volume in 1/256 µL, whether any of it carried NFT, its number and START_SC once it is open, the
rate in force then, and the tick in which volume came last. -/
structure Unattr where
  vol : Nat := 0
  nft : Bool := false
  no : Option (Nat × Nat) := none
  rate : Nat := 0
  lastTick : Nat := 0
  deriving DecidableEq, Repr

/-- The billing state that has no register (R363 to R377): latched triggers; WALL_STATE in the last commit cycle and whether an
evaluation is due; the next DEL_NO; of the open delivery: the tick of its stop, its REASON, whether its volume carried NFT, the
flags of its first value, and the cycle it opened; the remainder of the last booked volume; an unattributed delivery; closed
deliveries whose record waits for seat 2; the newest 32 records, newest first; whether the WALL
entries of R365 are installed, and which MONEY, MASS and VOL breaks have been logged (R63). -/
structure BillU where
  queue : List BillTrig := []
  lastWall : Nat := 0
  evalDue : Bool := false
  nextDel : Nat := 1
  stopTick : Nat := 0
  reason : Nat := 0
  volNft : Bool := false
  startFlags : Nat := 0
  openCycle : Nat := 0
  frac : Nat := 0
  unattr : Option Unattr := none
  toSign : List DelBook := []
  records : List (List Nat) := []
  installed : Bool := false
  brk : Nat := 0
  deriving DecidableEq, Repr

/-- What moves the supply switch in one cycle (R397). -/
inductive SwCause where
  | halt | tap | vin | disconnect | derate | trip | connect | retry | on
  deriving DecidableEq, Repr

/-- The switch as it stood before the causes of the present cycle: STATE, STOP_WHY, RETRY_K, LATCHES, RETRIES_DONE, its cause bits,
the cycle its ramp began, the end of its backoff, the cycle its gates were last commanded off, and a stop the LGC has not seen. -/
structure SwBase where
  state : Nat := 0
  why : Nat := 0
  k : Nat := 0
  latches : Nat := 0
  retries : Nat := 0
  cause : Nat := 0
  rampStart : Nat := 0
  waitUntil : Nat := 0
  gatesOff : Nat := 0
  stopped : Bool := false
  deriving DecidableEq, Repr

/-- The supply switch's state that has no register (R382 to R398): the shunt voltages of the last samples in nV, newest first; runs of
samples by condition (0 to 3 sense lost, 4 to 7 open, 8 to 11 phase trip, 12 total trip, 13 VIN in range); the cycles of R385, R388
and R392; commit cycles in ON; the samples of the present frame at or above and below the welded level and those not checked, and the
runs of such frames; a stop the LGC has not seen (R398); the causes of the cycle causeAt with the switch before them (R397); the guard
of PWR_WARN_N (R391); and how many free values were drawn. -/
structure SwchU where
  hist : List (List Int) := []
  runs : List (Nat × Nat) := []
  rampStart : Nat := 0
  waitUntil : Nat := 0
  gatesOff : Nat := 0
  onRun : Nat := 0
  weldAbove : Nat := 0
  weldBelow : Nat := 0
  weldSkip : Nat := 0
  weldUp : Nat := 0
  weldDown : Nat := 0
  stopped : Bool := false
  causeAt : Nat := 0
  causes : List SwCause := []
  base : SwBase := {}
  pinLow : Bool := false
  pinEdges : List Nat := []
  chatter : Bool := false
  stuck : Bool := false
  lowTick : Nat := 0
  draws : Nat := 0
  deriving DecidableEq, Repr

/-- What the Dome keeps of a wake pin (R416): its filtered level, the RTC count since which it stands, the RTC counts of its accepted
edges, and its guard's failures. -/
structure WakePin where
  level : Bool := false
  since : Nat := 0
  edges : List Nat := []
  chatter : Bool := false
  stuck : Bool := false
  deriving DecidableEq, Repr

/-- The Dome (R14, R37, R413): the SC, core cycle, RTC count, wall-time anchor and sealed totals that HIBERNATE entry stored, the wakes it
latched as (source, RTC count), how many it lost, the two-wire address it took at entry (R449), a RAIL_TIMEOUT and a failed wake guard to report at the next exit, and the pins. -/
structure Dome where
  sc : Nat := 0
  rtc : Nat := 0
  wall : List (Fld × Nat) := []
  totals : List Nat := []
  latched : List (Nat × Nat) := []
  lost : Nat := 0
  railLate : Bool := false
  guardLate : Bool := false
  addr : Nat := 0
  pin0 : WakePin := {}
  pin1 : WakePin := {}
  deriving DecidableEq, Repr

/-- The power and voltage state that has no register (R401 to R428): the destination of an entry and what follows a return; the commit
cycle count and the writer of its request (none for a trigger); the cycle E2 began; a wake seen during an entry; an entry that is
being undone; a return under way; quiesced from E2 on, and clocks lowered from E3 on; WAKE_LOG as (source, RTC count, SC), oldest
first; the cycle of the voltage request in flight; ticks in a row with MARGIN above HYST and ticks in a row held at the fence, with
whether FENCE_HELD was raised; the fence of the last commit cycle; runs of temperature samples outside the guarantee and at TH_CRIT,
and whether TJ is above TH_WARN; runs of samples with a rail outside its window; the STC stopped by E3 and the cycle from which it runs again; the
cycle of the wake seen during an entry; the PMBus transactions sent, as (command code, word) (R421); and the RTC count at core cycle 0. -/
structure PwrU where
  target : Option Nat := none
  after : Option Nat := none
  reqTick : Nat := 0
  reqBy : Option Port := none
  quiesceAt : Nat := 0
  wakeSeen : Bool := false
  undoing : Bool := false
  exiting : Bool := false
  quiet : Bool := false
  clocksDown : Bool := false
  wakeLog : List (Nat × Nat × Nat) := []
  reqAt : Nat := 0
  marginRun : Nat := 0
  heldRun : Nat := 0
  heldRaised : Bool := false
  lastFence : Option (Nat × Nat) := none
  thermRun : Nat := 0
  critRun : Nat := 0
  warm : Bool := false
  rails : List Nat := []
  stcStop : Bool := false
  stcFrom : Nat := 0
  wakeAt : Nat := 0
  pmbus : List (Nat × Nat) := []
  rtcBase : Nat := 0
  dome : Dome := {}
  deriving DecidableEq, Repr

/-- A mailbox request that the STC has not answered (R455): window, TAG, CODE, data, and the commit cycle count at its post. -/
structure StcReq where
  win : Nat
  tag : Nat
  code : Nat
  data : List Nat := []
  tick : Nat := 0
  deriving DecidableEq, Repr

/-- An image update in progress (R457): its slot, header, and the body bytes written as (offset, byte). -/
structure Update where
  slot : Nat
  header : List Nat
  body : List (Nat × Nat) := []
  deriving DecidableEq, Repr

/-- The state of the STC, the mailbox, the flash and the two-wire buses that has no register (R439 to R457): requests at the STC; the
queues of STC and Orrery events; whether the loader reads the flash, commit cycles since the boot began and since the last kick, the
boots each slot failed in a row, the slot preferred for one boot, VERSION and GEN of the image in use; the policies of POLICY_SET and
RECORD_FORWARD; the module command that waits for its transaction; an image update; the writes made to the flash as (address, bytes),
an erased slot as (address, []); how many free values were drawn; the tick of the last module poll and the failures in a row; the
cycle up to which the two-wire bridge is busy; the KEY_CONTROL, PRICE and CREDIT messages that the STC has
still to act on, and the CODE and ACT_FRAME of one that it has posted to the LGC (R168, R225); and the word after the last one the two-wire target addressed, as (page, offset). -/
structure StcU where
  waiting : List StcReq := []
  events : List (Nat × Nat × Nat) := []
  oevs : List (Nat × Nat) := []
  loading : Bool := false
  age : Nat := 0
  kickAge : Nat := 0
  failsA : Nat := 0
  failsB : Nat := 0
  prefer : Option Nat := none
  version : Nat := 0
  gen : Nat := 0
  autoTrim : Bool := false
  lineHold : Bool := false
  forward : Bool := false
  modWait : Option (Nat × Nat × Nat) := none
  update : Option Update := none
  flash : List (Nat × List Nat) := []
  draws : Nat := 0
  pollTick : Nat := 0
  pollFails : Nat := 0
  twBusy : Nat := 0
  keyTodo : List (List Nat) := []
  carry : Option (Nat × Nat) := none
  twNext : Nat × Nat := (0, 0)
  deriving DecidableEq, Repr

/-- A row of the table of corrected errors (R469): kind, instance and index, its count and the tick of its first error. -/
structure CeRow where
  row : Nat × Nat × Nat
  n : Nat
  first : Nat
  deriving DecidableEq, Repr

/-- Why a row is retired: corrected errors, an uncorrectable error, RPR_CMD RETIRE, or RPR_CMD TEST (R469, R470, R481). -/
inductive DueWhy where
  | ce | ue | retire | test
  deriving DecidableEq, Repr

/-- How far a row due for retirement has come: its cell is still in use; the sweeper tests or copies it; or it has failed its test
and AUTO_ROW does not remap it (R471, R472). -/
inductive DueStage where
  | held | work | failed
  deriving DecidableEq, Repr

/-- A row that is due (R469 to R472). -/
structure DueRow where
  row : Nat × Nat × Nat
  why : DueWhy
  stage : DueStage
  deriving DecidableEq, Repr

/-- An RPR_CMD that ends with its work (R481). -/
inductive RprOpen where
  | row (row : Nat × Nat × Nat)
  | engine (e : Nat)
  | slice (i : Nat)
  | column (bank col : Nat)
  deriving DecidableEq, Repr

/-- The self-repair state that has no register (R464 to R482): the corrected error table; rows due; rows that a due retirement has
taken once since power-on; rows left without a spare; the record words in force; column copies under way or waiting, as (bank, bit,
rows left), the first being copied; the buffer rows that became due with a failing bit, as (bank, bit, tick); engines due; slices
the LGC retires at its next commit cycle, with whether a test failed; the ACTIVE slice the LGC replaces, as (new, old); the command
that waits for its work; the record queue as (word, MTAG); the SEQ of the next flash entry; the half of the
record region in use and the entries in it (R467); the sweeper's next row; the lane that
TX_ENABLE trains and the receive lanes that start HELD (R468); and for each ageing monitor the ticks in a row below SLACK_MIN, and whether AGE_WARN was raised. -/
structure RprU where
  ce : List CeRow := []
  due : List DueRow := []
  once : List (Nat × Nat × Nat) := []
  lost : List (Nat × Nat × Nat) := []
  records : List Nat := []
  cols : List (Nat × Nat × Nat) := []
  colHist : List (Nat × Nat × Nat) := []
  engDue : List Nat := []
  slices : List (Nat × Bool) := []
  swap : Option (Nat × Nat) := none
  cmd : Option RprOpen := none
  queue : List (Nat × Nat) := []
  nextSeq : Nat := 0
  half : Nat := 0
  entries : List (List Nat) := []
  pos : Nat := 0
  txLane : Nat := 0
  rxHeld : List Nat := []
  low : List (Nat × Nat) := []
  aged : List Nat := []
  deriving DecidableEq, Repr

/-- The whole state; tap says that the TAP executes EXTEST, CLAMP or HIGHZ, or has since not returned to Test-Logic-Reset (R517), testEn
that TEST_EN is high (R55, R503); tapIr is the TAP's instruction register, which holds IDCODE at Test-Logic-Reset (R516). -/
structure State where
  time : Time := {}
  fuse : Fuse := {}
  regs : List (Fld × Nat) := []
  fab : Fab := {}
  attn : Attn := {}
  sidr : Sidr := {}
  lane : LaneU := {}
  line : LineU := {}
  pmon : PmonU := {}
  burst : BurstU := {}
  actv : ActvU := {}
  tm : TmU := {}
  deck : DeckU := {}
  afe : AfeU := {}
  wgh : WghU := {}
  usx : UsxU := {}
  leg : LegU := {}
  bill : BillU := {}
  sw : SwchU := {}
  pwr : PwrU := {}
  stc : StcU := {}
  rpr : RprU := {}
  loops : List (Nat × LoopU) := []
  tap : Bool := false
  tapIr : Nat := 1
  testEn : Bool := false
  orry : Orry := {}
  led : Ledger := {}
  host : HostU := {}
  pending : List Instr := []
  deriving DecidableEq, Repr

/-- The machine never stops with a fault: a detected error raises a cause and the machine goes on (R86, R87). -/
inductive Fault where
  | /-- Raised by no command; safe. -/ none_
  deriving DecidableEq, Repr

/-- The reasons a command is not carried out by the model. -/
inductive Refusal where
  | /-- Raised by the arm of a command that has no meaning yet; safe. -/ notModelled (mnemonic : String)
  deriving DecidableEq, Repr

/-- The machine right after reset: the instant F at which the fabric first answers, with CLK_CORE on the locked PLL and the LGC in
SELFTEST, every other register at the value of its table (R486, R487, log 3). -/
def State.reset : State := { regs := [(SYS.PLL_LOCK, 1), (SYS.CORE_SRC, 1), (SYS.LGC_STATE, 1)] }

end Sys2Proof.Machine
end

