-- ==== Sys2Proof/Machine/Ops.lean ====
section
/-! DEFINITION. The named operations every meaning is built from: reading and writing fields, the passing of time, causes
and attention, the recording of refusals, and the wrapper that each command's effect runs in. -/
namespace Sys2Proof.Machine

/-! ## The register file -/

/-- The content of a field: its listed value, or its reset value where none is listed. -/
def Regs.get (l : List (Fld × Nat)) (f : Fld) : Nat :=
  match l with
  | [] => f.reset
  | (g, v) :: r => if g.key = f.key then v else Regs.get r f

/-- Every entry but the one of field f. -/
def Regs.drop (l : List (Fld × Nat)) (f : Fld) : List (Fld × Nat) :=
  l.filter (fun e => decide (e.1.key ≠ f.key))

/-- Insert an entry at its place in the rising order of keys. -/
def Regs.ins (l : List (Fld × Nat)) (f : Fld) (v : Nat) : List (Fld × Nat) :=
  match l with
  | [] => [(f, v)]
  | (g, u) :: r => if f.key ≤ g.key then (f, v) :: (g, u) :: r else (g, u) :: Regs.ins r f v

/-- Write a field: the value is cut to the field's width, and a field at its reset value is not listed. -/
def Regs.set (l : List (Fld × Nat)) (f : Fld) (v : Nat) : List (Fld × Nat) :=
  if v % 2 ^ f.w = f.reset then Regs.drop l f else Regs.ins (Regs.drop l f) f (v % 2 ^ f.w)

/-- The value of a field. -/
def rd (s : State) (f : Fld) : Nat := Regs.get s.regs f

/-- The signed value of a field. -/
def rdS (s : State) (f : Fld) : Int := toSigned f.w (rd s f)

/-- Write a field. -/
def wr (f : Fld) (v : Nat) (s : State) : State := { s with regs := Regs.set s.regs f v }

/-- Write a signed value into a field. -/
def wrS (f : Fld) (v : Int) (s : State) : State := wr f (ofSigned f.w v) s

/-- Write a Boolean into a one-bit field. -/
def wrB (f : Fld) (b : Bool) (s : State) : State := wr f (b2n b) s

/-- Add to a wrapping counter. -/
def addTo (f : Fld) (n : Nat) (s : State) : State := wr f (rd s f + n) s

/-- Increment a wrapping counter. -/
def inc (f : Fld) (s : State) : State := addTo f 1 s

/-- Increment a counter that saturates at its largest value. -/
def incSat (f : Fld) (s : State) : State := wr f (min (rd s f + 1) f.top) s

/-- Do f when the condition holds. -/
def when (c : Bool) (f : State → State) (s : State) : State := if c then f s else s

/-- The value an association list holds at a key, or d. -/
def aget {κ α : Type} [DecidableEq κ] (l : List (κ × α)) (k : κ) (d : α) : α :=
  match l with
  | [] => d
  | (j, v) :: r => if j = k then v else aget r k d

/-- Put a value at a key of an association list. -/
def aset {κ α : Type} [DecidableEq κ] (l : List (κ × α)) (k : κ) (v : α) : List (κ × α) :=
  (k, v) :: l.filter (fun e => decide (e.1 ≠ k))

/-- Take a key out of an association list. -/
def adel {κ α : Type} [DecidableEq κ] (l : List (κ × α)) (k : κ) : List (κ × α) :=
  l.filter (fun e => decide (e.1 ≠ k))

/-- Do f for each element of a list, in order. -/
def forEach {α : Type} (l : List α) (f : α → State → State) (s : State) : State := l.foldl (fun st a => f a st) s

/-! ## The common page header (R73) -/

/-- CAUSE of a page. -/
def HDR.CAUSE (p : Nat) : Fld := ⟨p * 0x1000 + 0x10, 0, 32, 0⟩
/-- CAUSE_MASK of a page: 1 for each defined bit at reset. -/
def HDR.MASK (p : Nat) : Fld := ⟨p * 0x1000 + 0x14, 0, 32, causeBits p⟩
/-- PAGE_CTL.ENABLE of a page. -/
def HDR.ENABLE (p : Nat) : Fld := ⟨p * 0x1000 + 0x4, 0, 1, enableResets p⟩
/-- PAGE_CTL.LOCK of a page. -/
def HDR.LOCK (p : Nat) : Fld := ⟨p * 0x1000 + 0x4, 31, 1, 0⟩
/-- PAGE_CTL.OWNER of a page. -/
def HDR.OWNER (p : Nat) : Fld := ⟨p * 0x1000 + 0x4, 28, 2, 0⟩
/-- REFUSAL.SEQ of a page. -/
def HDR.REF_SEQ (p : Nat) : Fld := ⟨p * 0x1000 + 0xC, 16, 16, 0⟩
/-- REFUSAL.CODE of a page. -/
def HDR.REF_CODE (p : Nat) : Fld := ⟨p * 0x1000 + 0xC, 12, 4, 0⟩
/-- REFUSAL.OFFSET of a page. -/
def HDR.REF_OFF (p : Nat) : Fld := ⟨p * 0x1000 + 0xC, 0, 12, 0⟩
/-- TICK_COMMIT.GROUP_SEQ of a page. -/
def HDR.GROUP_SEQ (p : Nat) : Fld := ⟨p * 0x1000 + 0x1C, 16, 16, 0⟩
/-- PAGE_STATUS.HALTED of a page. -/
def HDR.HALTED (p : Nat) : Fld := ⟨p * 0x1000 + 0x8, 27, 1, 0⟩
/-- SUB_CAUSE word w of a page (R90). -/
def HDR.SUB_CAUSE (p w : Nat) : Fld := ⟨p * 0x1000 + 0xE00 + 4 * w, 0, 32, 0⟩
/-- SUB_MASK word w of a page (R90). -/
def HDR.SUB_MASK (p w : Nat) : Fld := ⟨p * 0x1000 + 0xE80 + 4 * w, 0, 32, 0⟩

/-! ## The refusal codes of R85 -/

/-- The refusal codes of R85. -/
inductive Code where
  | absent | reserved | width | locked | busy | sealed | conflict | range | order | auth | state | exhausted | ledger | time
  deriving DecidableEq, Repr

/-- The number of a refusal code (R85). -/
def Code.num : Code → Nat
  | .range => 1 | .reserved => 2 | .locked => 3 | .sealed => 4 | .absent => 5 | .busy => 6 | .order => 7 | .state => 8
  | .ledger => 9 | .width => 10 | .exhausted => 11 | .auth => 12 | .time => 13 | .conflict => 14

/-- The code of the first check that fails, the checks being listed in the order of R85 (R48, R85). -/
def firstFail (checks : List (Bool × Code)) : Option Code :=
  match checks with
  | [] => none
  | (c, k) :: r => if c then some k else firstFail r

/-! ## Variants and absent units (R2 to R10) -/

/-- MANIFEST of a variant (R3). -/
def Variant.manifest : Variant → Nat
  | .ts4410 => 0x84A65007
  | .ts4320 => 0x429E4102
  | .ts4210 => 0x21552200

/-- Weigh channels fitted (R2). -/
def Variant.wch : Variant → Nat
  | .ts4410 => 16 | .ts4320 => 8 | .ts4210 => 4
/-- AFE slices fitted, active plus spare (R2, R3). -/
def Variant.slices : Variant → Nat
  | .ts4410 => 18 | .ts4320 => 10 | .ts4210 => 5
/-- Cipher round engines fitted, the spare included (R2, R3). -/
def Variant.engines : Variant → Nat
  | .ts4410 => 9 | .ts4320 => 7 | .ts4210 => 5
/-- Supply switch phases fitted (R2). -/
def Variant.phases : Variant → Nat
  | .ts4210 => 2 | _ => 4
/-- Loop outputs fitted (R2). -/
def Variant.loops : Variant → Nat
  | .ts4210 => 1 | _ => 2
/-- Ultrasonic paths fitted (R2). -/
def Variant.usxPaths : Variant → Nat
  | .ts4410 => 4 | _ => 0

/-- The page is absent on the variant ("Absent units"). -/
def Variant.pageAbsent (v : Variant) (p : Nat) : Bool :=
  match v with
  | .ts4410 => false
  | .ts4320 => decide ((0x3B ≤ p ∧ p ≤ 0x42) ∨ (0x51 ≤ p ∧ p ≤ 0x58) ∨ p = 0x5A ∨ p = 0x5B ∨ p = 0x82)
  | .ts4210 => decide ((0x36 ≤ p ∧ p ≤ 0x42) ∨ (0x4D ≤ p ∧ p ≤ 0x58) ∨ p = 0x5A ∨ p = 0x5B ∨ p = 0x81 ∨ p = 0x82)

/-- The page is assigned by the page map and present on this part (R6, R70). -/
def pagePresent (s : State) (p : Nat) : Bool := pageAssigned p && !Variant.pageAbsent s.fuse.variant p

/-! ## Causes and the attention tree (R88 to R97) -/

/-- The bits of a W1C field that events have set in the present cycle. -/
def setNow (s : State) (f : Fld) : Nat := aget s.fab.setNow f.key 0

/-- An event sets bits of a W1C field: an accepted clear of the same cycle leaves them set, in whichever order the two come (R82). -/
def event (f : Fld) (m : Nat) (s : State) : State :=
  wr f (rd s f ||| m) { s with fab := { s.fab with setNow := aset s.fab.setNow f.key (setNow s f ||| m) } }

/-- An accepted W1C write clears the bits written as 1, but those that an event sets in the same cycle (R82, R98). -/
def w1c (f : Fld) (v : Nat) (s : State) : State := wr f (clearBits (rd s f) (clearBits v (setNow s f))) s

/-- An event sets CAUSE bit b of page p. -/
def raise (p b : Nat) (s : State) : State := event (HDR.CAUSE p) (2 ^ b) s

/-- An event sets the SUB_CAUSE bit of instance n of page p (R90). -/
def raiseSub (p n : Nat) (s : State) : State := event (HDR.SUB_CAUSE p (n / 32)) (2 ^ (n % 32)) s

/-- The pointer bit of a page: some SUB_CAUSE bit is 1 with its SUB_MASK bit 0 (R91). -/
def pointerBit (s : State) (p : Nat) : Bool :=
  (List.range ((subCount p + 31) / 32)).any fun w =>
    clearBits (rd s (HDR.SUB_CAUSE p w)) (rd s (HDR.SUB_MASK p w)) != 0

/-- The STC-private leaves of a page, which never reach SUMMARY (R89, R463). -/
def privateLeaves (p : Nat) : Nat := if p = 0xF0 then 0x28 else 0

/-- The CAUSE leaves and the pointer of a page that reach SUMMARY (R89). -/
def pageReach (s : State) (p : Nat) : Nat :=
  clearBits (clearBits (rd s (HDR.CAUSE p) + (if pointerBit s p then 2 ^ 31 else 0)) (rd s (HDR.MASK p))) (privateLeaves p)

/-- The pages with a listed CAUSE or SUB_CAUSE word: only these can reach SUMMARY, every other leaf reading 0. -/
def leafPages (s : State) : List Nat :=
  s.regs.filterMap fun e =>
    let a := e.1.key / 32
    if a % 4096 = 0x10 ∨ (0xE00 ≤ a % 4096 ∧ a % 4096 < 0xE80) then some (a / 4096) else none

/-- The SUMMARY bit of a page's group (R89); 32 for a page that has none. -/
def summaryGroup (p : Nat) : Nat :=
  if p = 0x00 then 0 else if p = 0x02 then 1 else if p = 0x03 then 2 else if p = 0x04 ∨ p = 0x05 then 3 else
  if p = 0x08 then 4 else if p = 0x0A then 5 else if p = 0x0B then 6 else if p = 0x0C then 7 else if p = 0x0D then 8 else
  if 0x10 ≤ p ∧ p ≤ 0x1D then 9 else if p = 0x20 ∨ p = 0x22 ∨ p = 0x23 then 10 else if p = 0x21 then 11 else
  if 0x30 ≤ p ∧ p ≤ 0x42 then 12 else if 0x48 ≤ p ∧ p ≤ 0x58 then 13 else if p = 0x5A ∨ p = 0x5B then 14 else
  if p = 0x5C then 15 else if p = 0x60 ∨ p = 0x61 then 16 else if 0x68 ≤ p ∧ p ≤ 0x6A then 17 else if p = 0x70 then 18 else
  if p = 0x78 then 19 else if p = 0x79 then 20 else if p = 0x80 ∨ p = 0x86 then 21 else if p = 0x81 ∨ p = 0x82 then 22 else
  if p = 0x84 ∨ p = 0x85 then 23 else if p = 0x90 then 24 else if p = 0xF0 then 25 else 32

/-- PAGE_PEND of a page: some leaf or pointer of it reaches SUMMARY (R101). -/
def pagePend (s : State) (p : Nat) : Bool := pageReach s p != 0

/-- A SUMMARY bit (R89, R99). -/
def summaryBit (s : State) (b : Nat) : Bool :=
  if b = 31 then decide (rd s SYS.REFUSED = 1 ∧ rd s SYS.REFUSAL_MASK = 0)
  else (leafPages s).any fun p => decide (summaryGroup p = b) && pagePend s p

/-- SUMMARY as the leaves stand now; the register takes it one cycle later (R89, R94). -/
def summary (s : State) : Nat :=
  (List.range 32).foldl (fun acc b => acc + (if summaryBit s b then 2 ^ b else 0)) 0

/-- The lowest set bit of a word, 32 where there is none. -/
def lowestBit (v : Nat) : Nat := ((List.range 32).find? (fun b => bit v b)).getD 32

/-- Core cycles to one cycle of the register fabric: the cycle of REFCLK in NAP, the core cycle otherwise (R94). -/
def fabricPeriod (s : State) : Nat := if rd s SYS.CORE_SRC = 3 then 8 else 1

/-- At the end of a cycle FIRST records the lowest bit of SUMMARY that rose in it, with the SC of the cycle, where VALID reads 0; a clear
of VALID in that cycle comes before (R97). -/
def attnFirst (s : State) : State :=
  let rose := clearBits s.attn.sum s.attn.prev
  if rose != 0 && rd s ATTN.FIRST_VALID == 0 then
    s |> wr ATTN.FIRST_VALID 1 |> wr ATTN.FIRST_BIT (lowestBit rose)
      |> wr ATTN.FIRST_SC (scReg (s.time.sc - s.time.cycle % fabricPeriod s))
  else s

/-- The condition of R93, from SUMMARY and PIN_MASK as the driver stage holds them. -/
def pinWants (s : State) : Bool := clearBits s.attn.sum s.attn.pinMask != 0

/-- The ATTN_N driver follows in the cycle that begins at core cycle e: it asserts outside the hold-off, and a release starts the
hold-off of 400 phase steps (R93 to R95). -/
def attnPin (e : Nat) (s : State) : State :=
  if pinWants s && rd s ATTN.ASSERTED == 0 && rd s ATTN.HOLDOFF == 0 then s |> wr ATTN.ASSERTED 1 |> inc ATTN.ASSERT_COUNT
  else if !pinWants s && rd s ATTN.ASSERTED == 1 then
    { (s |> wr ATTN.ASSERTED 0 |> wr ATTN.HOLDOFF 1) with attn := { s.attn with holdEnd := e + 400 } }
  else s

/-- The STC-private condition: an unmasked INBOX or ORRY_EVENT leaf of MBOX (R96, R463). -/
def stcPrivate (s : State) : Bool :=
  (clearBits (rd s (HDR.CAUSE 0xF0)) (rd s (HDR.MASK 0xF0)) &&& 0x28) != 0

/-- The condition of the STC's attention line, as its driver stage holds it (R96). -/
def stcWants (s : State) : Bool := clearBits s.attn.sum s.attn.stcMask != 0 || s.attn.priv

/-- The STC's attention line follows R93 to R95 with STC_MASK and the private MBOX leaves (R96). -/
def attnStc (e : Nat) (s : State) : State :=
  if stcWants s && !s.attn.stcLine && !s.attn.stcHold then { s with attn := { s.attn with stcLine := true } }
  else if !stcWants s && s.attn.stcLine then
    { s with attn := { s.attn with stcLine := false, stcHold := true, stcHoldEnd := e + 400 } }
  else s

/-- Send the message of an MSI-X vector: at once, or pending in the PBA while the vector or the function is masked (R432). -/
def msixSend (v : Nat) (s : State) : State :=
  if s.host.msixStopped then s
  else if s.host.funcMask || s.host.vecMasked.contains v then
    { s with host := { s.host with pba := (v :: s.host.pba.filter (· != v)) } }
  else { s with host := { s.host with msgs := s.host.msgs ++ [v] } }

/-- The expression of ATTN vector v: SUMMARY under VEC_MASK (R432). -/
def vecExpr (s : State) (new v : Nat) : Bool := (new &&& rd s (HOST.VEC_MASK v)) != 0

/-- Each ATTN vector whose expression becomes non-zero sends its message (R432). -/
def attnMsix (s : State) : State :=
  let on := (List.range 32).filter fun v => decide (rd s (HOST.VEC_KIND v) = 1) && vecExpr s s.attn.sum v
  let s' := forEach (on.filter fun v => !s.host.vecHigh.contains v) msixSend s
  { s' with host := { s'.host with vecHigh := on } }

/-- SUMMARY and what the driver stages hold beside it take what the leaves and the masks are at the end of a cycle (R94). -/
def attnTake (s : State) : State :=
  { s with attn := { s.attn with
      prev := s.attn.sum, sum := summary s, pinMask := rd s ATTN.PIN_MASK, stcMask := rd s ATTN.STC_MASK, priv := stcPrivate s } }

/-! ## Time -/

/-- In HIBERNATE every domain but the Dome is disconnected, until an exit has released the resets (R402, R418). -/
def hibernating (s : State) : Bool := decide (rd s PWR.STATE = 4) && !s.pwr.exiting

/-- The SC advances with the core cycles while the die runs outside HIBERNATE (R26, R37). -/
def scRuns (s : State) : Bool := decide (s.time.stage = .running) && !hibernating s

/-- The die answers the fabric: it runs, and it is not in HIBERNATE (R96, R402). -/
def fabricAnswers (s : State) : Bool := decide (s.time.stage = .running) && !hibernating s

/-- The end of a cycle of the register fabric, the next one beginning at core cycle e: the drivers follow what their stages hold, and then
the stages take the leaves and the masks of the cycle (R93 to R97, R432). -/
def attnEdge (e : Nat) (s : State) : State :=
  if fabricAnswers s then attnMsix (attnTake (attnStc e (attnPin e (attnFirst s)))) else s

/-- Core cycles pass: the SC moves with them, and no event or write is of the present cycle any more. -/
def jump (d : Nat) (s : State) : State :=
  { s with
    time := { s.time with cycle := s.time.cycle + d, sc := if scRuns s then s.time.sc + d else s.time.sc }
    fab := { s.fab with setNow := [], wroteNow := [] } }

/-- Time passes to the end of the present cycle of the register fabric, if that comes by core cycle t, else to t. -/
def toEdge (t : Nat) (s : State) : State :=
  let e := (s.time.cycle / fabricPeriod s + 1) * fabricPeriod s
  if e ≤ t then jump (e - s.time.cycle) (attnEdge e s) else jump (t - s.time.cycle) s

/-- Let time pass to core cycle t; a t already past changes nothing. The attention tree settles in two cycles of the fabric (R94). -/
def advanceTo (t : Nat) (s : State) : State :=
  if t ≤ s.time.cycle then s else
  let s := toEdge t (toEdge t s)
  jump (t - s.time.cycle) s

/-! ## Refusals (R83, R84) -/

/-- The record of one refusal (R84): REFUSAL_COUNT, REFUSAL of the written page (of SYS for an absent or unassigned page),
LAST_REFUSAL and REFUSAL_FLAG.REFUSED. -/
def refuse (p : Port) (page off : Nat) (c : Code) (s : State) : State :=
  let n := rd s SYS.REFUSAL_COUNT + 1
  let home := if pagePresent s page then page else 0
  s |> wr SYS.REFUSAL_COUNT n
    |> wr (HDR.REF_SEQ home) (n % 65536) |> wr (HDR.REF_CODE home) c.num |> wr (HDR.REF_OFF home) off
    |> wr SYS.LAST_REFUSAL_WRITER p.code |> wr SYS.LAST_REFUSAL_PAGE page |> wr SYS.LAST_REFUSAL_SEQ (n % 65536)
    |> event SYS.REFUSED 1

/-- A port other than the owner writes a locked page (R79). -/
def lockedOut (s : State) (p : Port) (page : Nat) : Bool :=
  rd s (HDR.OWNER page) != 0 && rd s (HDR.OWNER page) != p.code

/-- Checks 1, 2 and 4 of R85 for a 32-bit write that addresses an assigned offset. -/
def pageChecks (s : State) (p : Port) (page : Nat) : List (Bool × Code) :=
  [(Variant.pageAbsent s.fuse.variant page, .absent), (!pageAssigned page, .reserved), (lockedOut s p page, .locked)]

/-- An accepted write from the owner restarts the lease of its page (R80). -/
def renewLease (p : Port) (page : Nat) (s : State) : State :=
  if rd s (HDR.OWNER page) = p.code then
    { s with fab := { s.fab with leases := (page, s.time.ticks) :: s.fab.leases.filter (fun e => e.1 != page) } }
  else s

/-- A command register is executing a command (R81, R49). -/
def cmdBusy (s : State) (addr : Nat) : Bool :=
  s.fab.cmds.any fun e => e.1 == addr && decide (s.time.cycle < e.2)

/-- A command occupies its register for at most the bound of cycles its rule gives; how many of them is a free value
(log 6). -/
def startCmd (addr bound : Nat) (s : State) : State :=
  let n := min bound (Config.cmdCycles s.fab.cmdCount)
  { s with fab := { s.fab with
      cmds := (addr, s.time.cycle + n) :: s.fab.cmds.filter (fun e => e.1 != addr)
      cmdCount := s.fab.cmdCount + 1 } }

/-- A fabric write of a command register: the checks in the order of R85, the page checks first; refused in full with the
record of R84 and the status CODE (R83, R84), or carried out with CODE NONE. -/
def fabricCmd (p : Port) (page off : Nat) (codeF : Option Fld) (checks : List (Bool × Code)) (act : State → State)
    (s : State) : State :=
  match firstFail (pageChecks s p page ++ checks) with
  | some c =>
    let s := refuse p page off c s
    match codeF with
    | some f => wr f c.num s
    | none => s
  | none =>
    let s := renewLease p page s
    act (match codeF with
      | some f => wr f 0 s
      | none => s)

/-- A write of the LGC, which the page lock and the SL rules do not bind, or of a fabric port, which they do: sealed says whether
the port's write would change an SL field (R73, R79, R85). -/
def writerCmd (w : Writer) (page off : Nat) (codeF : Option Fld) (busy : Bool) (sealed : Bool) (checks : List (Bool × Code))
    (act : State → State) (s : State) : State :=
  match w with
  | .fabric p => fabricCmd p page off codeF ([(busy, .busy), (sealed, .sealed)] ++ checks) act s
  | .lgc =>
    let code := (firstFail ((busy, .busy) :: checks)).map Code.num
    let s := match codeF with
      | some f => wr f (code.getD 0) s
      | none => s
    if code.isSome then s else act s

/-! ## Frames leaving the buffer (R54, R177, R183, R197) -/

/-- Cells a frame of L bytes takes (R177). -/
def cellsOf (f : QFrame) : Nat := (f.data.length + 255) / 256

/-- One reference to an entry's generation ends; a ghost is freed when its last one does (R183). -/
def releaseCls (c : Option (Nat × Nat)) (s : State) : State :=
  match c with
  | none => s
  | some (i, g) =>
    let e := aget s.tm.entries i { ref := 0, gen := 256 }
    if e.gen = g then { s with tm := { s.tm with entries := aset s.tm.entries i { e with ref := e.ref - 1 } } }
    else
      let gs := s.tm.ghosts.filterMap (fun x =>
        if x.2.index = i ∧ x.2.gen = g then
          (if x.2.ref ≤ 1 then none else some (x.1, { x.2 with ref := x.2.ref - 1 }))
        else some x)
      { s with tm := { s.tm with ghosts := gs } }

/-- Ports 0 to 15 form the upstream direction. -/
def upPort (p : Nat) : Bool := decide (p < 16)

/-- The sweeper's work on a row begins: its cell has left the frame that held it (R471). -/
def rowReady (cell : Nat) (s : State) : State :=
  { s with rpr := { s.rpr with due := s.rpr.due.map fun d =>
    if d.row = (1, cell / 4096, cell % 4096) ∧ d.stage = .held then { d with stage := .work } else d } }

/-- A frame's cells and descriptor return to FREE, from QUEUED or from STAGED, its cells in rows due for retirement to QUARANTINED
(R177, R471). -/
def freeFrame (staged : Bool) (f : QFrame) (s : State) : State :=
  let n := cellsOf f
  let k := f.bad.length
  let l := s.led
  let l := { l with cellsFree := l.cellsFree + n - k, cellsQuar := l.cellsQuar + k
                    descFree := l.descFree + 1, descInUse := l.descInUse - 1 }
  let l := if staged then { l with cellsStaged := l.cellsStaged - n } else { l with cellsQueued := l.cellsQueued - n }
  forEach f.bad rowReady (releaseCls f.cls { s with led := l })

/-- A queue's parent node (R187). -/
def queueParent (s : State) (q : Nat) : Nat := rd s (QUE.Q_PARENT (q / 256) (q % 256))

/-- The nodes above a queue in hierarchical mode, by level: the queue, its subscriber, service node and port (R187). -/
def nodeOf (s : State) (q lvl : Nat) : Nat :=
  let sub := queueParent s q
  let svc := rd s (SCHED.SUB_PARENT sub)
  if lvl = 0 then q else if lvl = 1 then sub else if lvl = 2 then svc else rd s (SCHED.SVC_PARENT svc)

/-- The queues that hold a queued or staged frame; a frame of a burst in flight is still staged (R54, R189). -/
def busyQueues (s : State) : List Nat :=
  s.tm.queues.map (·.1) ++ s.tm.staged.flatMap (fun c => c.frames.map (·.queue)) ++ s.burst.frames.map (fun x => x.2.2.queue)

/-- The child of a queue's chain at a level is backlogged (R189). -/
def backlogged (s : State) (lvl node : Nat) : Bool := (busyQueues s).any fun q => decide (nodeOf s q lvl = node)

/-- Each child of a queue's chain that is no longer backlogged has deficit 0, and its next visit is a new turn (R189). -/
def resetIdle (q : Nat) (s : State) : State :=
  { s with tm := { s.tm with children := s.tm.children.filter (fun c =>
    !(decide (nodeOf s q c.1.1 = c.1.2) && !backlogged s c.1.1 c.1.2)) } }

/-- The last byte of a frame leaves a port: its counters, upstream those of FRMU with its payload unit, and its cells and descriptor (R146,
R162, R177, R197). -/
def frameLeaves (port queue : Nat) (staged : Bool) (f : QFrame) (s : State) : State :=
  let t := aget s.tm.tel queue {}
  let t := { t with framesOut := (t.framesOut + 1) % 2 ^ 32, bytesOut := (t.bytesOut + f.data.length) % 2 ^ 32 }
  let s := { s with tm := { s.tm with tel := aset s.tm.tel queue t } }
  let s := when (upPort port) (addTo FRMU.BYTES_SENT ((f.data.length + 3) / 4 * 4 + 4)) s
  freeFrame staged f (s |> inc (TMGR.FRAMES_OUT port) |> addTo (TMGR.BYTES_OUT port) f.data.length)

/-- The part of a burst that has left by now: the frames whose last byte is out, and at its end its codewords (R146, R197). -/
def catchUp (s : State) : State :=
  let out := s.burst.frames.filter fun x => decide (x.1 ≤ s.time.cycle)
  if out = [] ∧ (s.burst.cws = 0 ∨ s.time.cycle < s.burst.endCycle) then s else
  let s := forEach out (fun x s => frameLeaves x.2.1 x.2.2.queue true x.2.2.frame s) s
  let s := { s with burst := { s.burst with frames := s.burst.frames.filter (fun x => decide (s.time.cycle < x.1)) } }
  let s := forEach out (fun x s => resetIdle x.2.2.queue s) s
  if s.time.cycle < s.burst.endCycle then s
  else { addTo FRMU.CW_SENT s.burst.cws s with burst := { s.burst with cws := 0 } }

/-- The outcome type of a step. -/
abbrev Out := Host.Outcome State Fault Refusal

/-- The state that a command at core cycle t meets: time has passed to t, and the part of a burst that has left by then is out. -/
def met (t : Nat) (s : State) : State := catchUp (advanceTo t s)

/-- A command at core cycle t: time passes to t, and the effect takes place while the die runs. -/
def ev (t : Nat) (s : State) (f : State → State) : Out :=
  .next (if fabricAnswers s then f (met t s) else advanceTo t s)

/-- A command of the reset sequence, which takes place in any stage. -/
def evReset (t : Nat) (s : State) (f : State → State) : Out := .next (f (advanceTo t s))

/-! ## The order of one cycle (R71, R81, R98, R179) -/

/-- Who asks the fabric or the buffer for service in a cycle. -/
inductive Comer where
  | ingress (src : Nat) | read | writer (w : Writer)
  deriving DecidableEq, Repr

/-- The place in a cycle at which a comer is served: frames in ascending source number, reads, the LGC, and the ports in the order PCIe,
STC, two-wire (R19, R81, R98, R179, R184). -/
def Comer.place : Comer → Nat
  | .ingress n => n + 1
  | .read => 32
  | .writer .lgc => 33
  | .writer (.fabric p) => 33 + p.code

/-- Each comer but a read has one turn in a cycle. -/
def Comer.late (c : Comer) (place : Nat) : Bool :=
  match c with
  | .read => decide (c.place < place)
  | _ => decide (c.place ≤ place)

/-- The core cycle in which a comer at t is served: one that stands in the queue behind a comer of a later place of that cycle, or behind
its own turn, is a comer of the next cycle (log 193). -/
def serveAt (t : Nat) (c : Comer) (s : State) : Nat :=
  let n := max t s.time.cycle
  if s.fab.turn.1 = n ∧ c.late s.fab.turn.2 = true then n + 1 else n

/-- A comer takes its turn in the present cycle. -/
def takeTurn (c : Comer) (s : State) : State :=
  { s with fab := { s.fab with turn := (s.time.cycle, c.place) } }

/-- The state that a comer at t meets. -/
def metBy (c : Comer) (t : Nat) (s : State) : State := takeTurn c (met (serveAt t c s) s)

/-- A command that takes a turn of its cycle. -/
def evBy (c : Comer) (t : Nat) (s : State) (f : State → State) : Out :=
  .next (if fabricAnswers s then f (metBy c t s) else advanceTo t s)

/-- A write of a fabric port. -/
abbrev evPort (p : Port) (t : Nat) (s : State) (f : State → State) : Out := evBy (.writer (.fabric p)) t s f

/-- The fast plane's frame count (R26). -/
def scFrame (s : State) : Nat := s.time.sc / frameSteps
/-- The phase within the frame (R26). -/
def scPhase (s : State) : Nat := s.time.sc % frameSteps
/-- The present cycle lies on a tick boundary (R15). -/
def onTick (s : State) : Bool := decide (s.time.sc % tickSteps = 0)

/-- CLK_CORE changes its source: 0 FIRC, 1 the PLL on REFCLK, 2 the PLL on the line clock, 3 REFCLK itself; the samples whose support
holds the change are settling (R22, R254). -/
def setCoreSrc (v : Nat) (s : State) : State :=
  if rd s SYS.CORE_SRC = v then s else
  { s with afe := { s.afe with disturb := some s.time.sc } } |> wr SYS.CORE_SRC v |> wrB SYS.PLL_LOCK (decide (v = 1 ∨ v = 2))

/-- The lanes, the framers and the bulk domain run (R403), and no entry to a low-power state has quiesced them (R410). -/
def bulkRuns (s : State) : Bool := decide (rd s PWR.STATE ≤ 1) && !s.pwr.quiet

/-- Core cycles to one cycle of the clock that the traffic manager and the deck count: the bulk clock in RUN and TRIM, FIRC in DOZE and
REFCLK in NAP (R402, R404). -/
def bulkDiv (s : State) : Nat :=
  match rd s PWR.STATE with
  | 0 => 1 | 1 => 2 | 2 => 4 | _ => 8

/-- The STC is stopped: from step E3 of an entry to NAP to 800 phase steps after the wake (R406, R410, R417). -/
def stcStopped (s : State) : Bool := s.pwr.stcStop || decide (s.time.cycle < s.pwr.stcFrom)

/-- The unit of a trigger runs in the present power state (R403, R406). -/
def unitRuns (s : State) (u : Nat) : Bool :=
  (match rd s PWR.STATE with
  | 2 => decide (u ≠ 0x0C)
  | 3 => decide (u ≠ 0x0C ∧ u ≠ 0x5A ∧ u ≠ 0x5C)
  | _ => true) && !(u == 0xF0 && stcStopped s)

/-- A bool holds the ENABLE of a page. -/
def enabled (s : State) (p : Nat) : Bool := decide (rd s (HDR.ENABLE p) = 1)

end Sys2Proof.Machine
end

