-- ==== Sys2Proof/Machine/Burst.lean ====
section
/-! DEFINITION. MOD_TXEN, the burst in flight and its abort (R116, R122, R124, R151, R163), the REI accumulators (R135), what a staged
container holds (R54, R193), and the loss of frame synchronisation (R130). -/
namespace Sys2Proof.Machine

/-! ## Staged containers (R54, R193) -/

/-- The bytes a staged frame debits: its length at each level and bucket of its path (R54). -/
def debitBytes (f : SFrame) : Nat := f.frame.data.length * (f.defs.length + 2 * f.shapers.length)

/-- The sum over staged frames. -/
def sumOf (l : List SFrame) (g : SFrame → Nat) : Nat := (l.map g).foldl (· + ·) 0

/-- The frame bytes of staged frames. -/
def frameBytes (l : List SFrame) : Nat := sumOf l fun f => f.frame.data.length

/-- The counter blocks that n frame bytes take (R193, R217). -/
def blocksOf (n : Nat) : Nat := (n + 15) / 16

/-- The counter blocks a staged container holds. -/
def contBlocks (c : Staged) : Nat := if c.slot.isSome then blocksOf (frameBytes c.frames) else 0

/-- A container leaves the staged ones. -/
def unstage (c : Staged) (s : State) : State :=
  { s with tm := { s.tm with staged := s.tm.staged.filter fun x => !(x.cont == c.cont && x.target == c.target) } }

/-- The confirmed container that a plan carries (R196). -/
def contOf (s : State) (p : Plan) : Option Staged :=
  if p.full then s.tm.staged.find? fun c => c.cont == p.cont && c.target == p.target / frameSteps && c.confirmed else none

/-! ## Transmit lanes (R110, R116) -/

/-- The state field of transmit lane n (0 OFF, 1 TRAIN, 2 MARK, 3 ACTIVE, 6 DOWN). -/
def txStateF (n : Nat) : Fld := if n = 0 then LANE.TXD0_STATE else LANE.TXD1_STATE

/-- TRAIN_SYMS in phase steps: 128 with TX_PRECODE, else 16 (R116). -/
def trainSteps (s : State) : Nat := if rd s LANE.TX_PRECODE = 1 then 128 else 16

/-- The state of transmit lane n: in a substitution the new lane is OFF until step 2 and then in TRAIN, and both lanes are in MARK while
they send the switch marker (R116). -/
def txStateNow (s : State) (n : Nat) : Nat :=
  match s.lane.swap with
  | none => rd s (txStateF n)
  | some w =>
    if w.start + trainSteps s ≤ s.time.cycle then 2
    else if n ≠ w.lane then rd s (txStateF n)
    else if w.start ≤ s.time.cycle then 1 else 0

/-- The transmit lane that is ACTIVE, if one is. -/
def txActive (s : State) : Option Nat :=
  if rd s LANE.TXD0_STATE = 3 then some 0 else if rd s LANE.TXD1_STATE = 3 then some 1 else none

/-- TX_RETRAIN: from step 2 of a substitution to its step 4, and while the active lane resends training (R116, R126). -/
def txRetrain (s : State) : Bool :=
  decide (s.lane.retrainStart ≤ s.time.cycle ∧ s.time.cycle < s.lane.retrainEnd) ||
    (match s.lane.swap with | some w => decide (w.start ≤ s.time.cycle) | none => false)

/-! ## MOD_TXEN (R124, R163) -/

/-- The kind of burst a state sends (R148). -/
def kindOf (st : Nat) : Option BurstKind :=
  if st = 2 then some .serial else if st = 3 then some .ranging else if st = 4 then some .data else none

/-- The state sends no bursts, and no burst that it completes is leaving or in its LAG (R151, R163, R165, R166). -/
def stateSilent (s : State) : Bool :=
  let st := rd s ACTV.STATE
  (kindOf st).isNone && (decide (st = 6 ∨ st = 7) || decide (s.burst.txFall ≤ s.time.cycle))

/-- MOD_TXEN is forced low (R124, R163, R166, R517). -/
def txForcedLow (s : State) : Bool :=
  !enabled s 0x08 || decide (rd s LANE.TX_ENABLE = 0) || s.lane.fltGuard || (txActive s).isNone || txRetrain s || stateSilent s || s.tap

/-- The cycle at which a planned burst's first preamble symbol leaves, in its timing basis (R152). -/
def launchCycle (s : State) (p : Plan) : Int :=
  if p.kind = .data then (p.target : Int) - s.time.sc + s.time.cycle
  else (p.target : Int) - (s.sidr.rxOff.getD 0)

/-- MOD_TXEN has risen for a planned burst: LEAD steps before its first preamble symbol (R163). -/
def leading (s : State) (p : Plan) : Bool := !txForcedLow s && decide (launchCycle s p - rd s ACTV.LEAD ≤ s.time.cycle)

/-- MOD_TXEN as the TS44 drives it: from LEAD steps before a burst's first preamble symbol to LAG steps after its last
symbol (R163). -/
def txenDriven (s : State) : Bool :=
  !txForcedLow s && (decide (s.burst.txRise ≤ s.time.cycle ∧ s.time.cycle < s.burst.txFall) || s.burst.plans.any (leading s))

/-- The cycle of MOD_TXEN's last rise, MOD_TXEN being high (R163). -/
def riseAt (s : State) : Nat :=
  if s.burst.txRise ≤ s.time.cycle ∧ s.time.cycle < s.burst.txFall then s.burst.txRise
  else ((s.burst.plans.filter (leading s)).map fun p => (launchCycle s p - rd s ACTV.LEAD).toNat).foldl min s.time.cycle

/-- TXEN_PAD: the level the TS44 drives; or the high level seen on the pad while driven low, and the low level seen in the present high
period (R124, R166). -/
def txenPad (s : State) : Bool :=
  if txenDriven s then decide (s.actv.padLow ≠ some (riseAt s)) else s.actv.padHigh

/-- A change after which MOD_TXEN may be low: the cycle of a fall is kept (R163, R166). -/
def noteFall (f : State → State) (s : State) : State :=
  let s' := f s
  if txenDriven s && !txenDriven s' then { s' with burst := { s'.burst with txFall := s'.time.cycle } } else s'

/-! ## The burst in flight and its abort (R116, R122, R151) -/

/-- The cycle at which the bursts in flight are over: that of the last body symbol of the burst that is leaving, or of one for which
MOD_TXEN has risen (R116, R135, R159). -/
def flightEnd (s : State) : Nat :=
  ((s.burst.plans.filter (leading s)).map fun p => (launchCycle s p).toNat + p.pre + 2 + p.steps).foldl max s.burst.endCycle

/-- A burst is in flight: MOD_TXEN has risen for it, and its last symbol has not left (R135). -/
def inFlight (s : State) : Bool := decide (s.time.cycle < flightEnd s)

/-- An aborted burst is counted (R116). -/
def countAbort (s : State) : State := s |> inc FRMU.BURSTS_ABORTED |> incSat LANE.BURSTS_ABORTED

/-- Frames of an aborted burst are lost, with their cells and descriptors (R116, R177, log 14). -/
def loseFrames (l : List SFrame) (s : State) : State :=
  forEach l (fun f s => resetIdle f.queue (freeFrame true f.frame s)) s

/-- The abort of a burst that MOD_TXEN has risen for: its counter blocks are TRANSMITTED and what its header took is not restored (R116,
R135). -/
def abortLead (p : Plan) (s : State) : State :=
  let s := countAbort { s with burst := { s.burst with plans := s.burst.plans.filter fun x => decide (x ≠ p) } }
  match contOf s p with
  | none => s
  | some c =>
    let b := contBlocks c
    let s := unstage c { s with led := { s.led with nonceOpen := s.led.nonceOpen - b, transmitted := s.led.transmitted + b } }
    loseFrames c.frames s

/-- The abort of the burst that is leaving: its counter blocks count as TRANSMITTED already, and the frames that had not left are lost
(R116). -/
def abortSent (s : State) : State :=
  if s.burst.endCycle ≤ s.time.cycle then s else
  let l := s.burst.frames
  let s := countAbort { s with burst := { s.burst with endCycle := s.time.cycle, frames := [], cws := 0 } }
  loseFrames (l.map (·.2.2)) s

/-- What waits for the end of a burst waits no longer (R116 step 1). -/
def startWaiting (s : State) : State :=
  let now := s.time.cycle
  let l := s.lane
  { s with lane := { l with
    swap := l.swap.map fun w => { w with start := if now < w.start then now else w.start }
    retrainStart := min l.retrainStart now
    retrainEnd := if now < l.retrainStart then now + (l.retrainEnd - l.retrainStart) else l.retrainEnd } }

/-- MOD_TXEN falls, and a burst in flight is aborted and counted (R116, R122). -/
def abortBurst (s : State) : State :=
  let s' := startWaiting (forEach (s.burst.plans.filter (leading s)) abortLead (abortSent s))
  { s' with burst := { s'.burst with txFall := if txenDriven s then s.time.cycle else s'.burst.txFall } }

/-! ## Remote error indication (R135, R146) -/

/-- Violations are added to the section's accumulator, with saturation. -/
def addSrei (v : Nat) (s : State) : State :=
  let old := rd s FRMU.SREI_ACC
  let new := min 65535 (old + v)
  let s := wr FRMU.SREI_ACC new s
  when (decide (old < 65535 ∧ new = 65535)) (raise 0x0B 0) s

/-- Violations are added to a path's accumulator, with saturation. -/
def addPrei (p v : Nat) (s : State) : State :=
  let old := rd s (FRMU.PREI_ACC p)
  let new := min 65535 (old + v)
  let s := wr (FRMU.PREI_ACC p) new s
  when (decide (old < 65535 ∧ new = 65535)) (raise 0x0B 1) s

/-- A burst that loses its grant gives back what its header took (R135). -/
def restoreRei (p : Plan) (s : State) : State :=
  if !p.took then s else
  s |> addSrei p.srei |> addPrei p.preiPath p.prei |> wr FRMU.NEXT_PATH p.preiPath |> inc FRMU.REI_RESTORED

/-! ## Delineation -/

/-- The runs of PLM and LOK end where frames are missed: they count consecutive frames (R136). -/
def PathU.endRuns (u : PathU) : PathU := { u with plmSet := 0, plmClr := 0, lokSet := 0, lokClr := 0 }

/-- Delineation falls to HUNT; the moment SYNC was left is kept for LOF (R130, R136). -/
def dropSync (s : State) : State :=
  let was := rd s FRMD.DELIN
  let s := wr FRMD.DELIN 0 s
  if was = 2 then
    { s with line := { s.line with
      outAt := s.time.cycle, miss := 0, bipPrev := none, paths := s.line.paths.map fun x => (x.1, x.2.endRuns) } }
  else s

end Sys2Proof.Machine
end

