-- ==== Sys2Proof/Machine/Sidr.lean ====
section
/-! DEFINITION. Sidereal time (R26 to R40): the quality of the SC, its correction by slew and step, REFCLK learning, the
mains guard, the ephemeris guard and wall time. The Orrery and the Almanac stand in Almanac.lean and Orrery.lean. -/
namespace Sys2Proof.Machine

/-- SC_QUALITY values (R29). -/
def qLOCKED : Nat := 0
/-- SC_QUALITY values (R29). -/
def qHOLDOVER : Nat := 1
/-- SC_QUALITY values (R29). -/
def qMERIDIAN : Nat := 2
/-- SC_QUALITY values (R29). -/
def qFREE : Nat := 3

/-- SC_QUALITY now. -/
def quality (s : State) : Nat := rd s SIDR.SC_QUALITY

/-! ## Wall time (R39, R40) -/

/-- Seconds in a day with the given LEAP (R39). -/
def dayLen (leap : Nat) : Int := if leap = 1 then 86401 else if leap = 2 then 86399 else 86400

/-- Wall time at a frame as an ephemeris gives it: day, second of day, frame in the second, LEAP pending (R39). -/
def wallFrom (e : Eph) (frame : Int) : Int × Int × Int × Nat :=
  let d := frame - e.frame
  let sec := (e.sod : Int) + d / 10000
  let len := dayLen e.leap
  if sec < 0 then ((e.day : Int) + sec / 86400, sec % 86400, d % 10000, 0)
  else if sec < len then (e.day, sec, d % 10000, e.leap)
  else ((e.day : Int) + 1 + (sec - len) / 86400, (sec - len) % 86400, d % 10000, 0)

/-- The last accepted ephemeris, as the EPH registers hold it. -/
def lastEph (s : State) : Eph := ⟨rd s SIDR.EPH_FRAME, rd s SIDR.EPH_DAY, rd s SIDR.EPH_SOD, rd s SIDR.EPH_LEAP⟩

/-- Wall time now (R39). -/
def wallNow (s : State) : Int × Int × Int × Nat := wallFrom (lastEph s) (scFrame s)

/-- The frame at which second sod of a day begins, by an ephemeris (the inverse of R39). -/
def wallToFrame (e : Eph) (day sod : Int) : Int :=
  let dd := day - e.day
  let off := if dd ≤ 0 then dd * 86400 else dayLen e.leap + (dd - 1) * 86400
  (e.frame : Int) + (off + sod - e.sod) * 10000

/-- WALL_STATE by R40: 0 NONE, 1 PROVISIONAL, 2 VALID. -/
def wallStateOf (s : State) : Nat :=
  if !s.sidr.ephHave then 0
  else if s.sidr.ephSince &&
      ((quality s = qLOCKED && decide (s.time.cycle ≤ s.sidr.ephStamp + rd s SIDR.EPH_TIMEOUT * secondSteps))
        || quality s = qHOLDOVER || quality s = qMERIDIAN) then 2
  else 1

/-- WALL_STATE follows R40; a change raises WALL_STATE_CHANGE. -/
def updateWall (s : State) : State :=
  let w := wallStateOf s
  if w = rd s SIDR.WALL_STATE then s else s |> wr SIDR.WALL_STATE w |> raise 0x03 3

/-! ## Marks in the running PM second (R140, R144) -/

/-- Flags of a bin, SUSPECT among them where QUALITY, SC_STEP, WALL_STEP or EPH_CHANGE stands (R144). -/
def suspectOf (fl : Nat) : Nat := if fl &&& 0b0111100 ≠ 0 then fl ||| 2 ^ 6 else fl

/-- A bin that began within the running second takes a mark itself, since that second lies in no bin (R142, R144). -/
def Bin.markNow (no b : Nat) (x : Bin) : Bin := if no < x.first then { x with flags := suspectOf (x.flags ||| 2 ^ b) } else x

/-- A mark in the running PM second, by its bit in FLAGS: 5 QUALITY, 4 SC_STEP, 3 WALL_STEP, 2 EPH_CHANGE, 1 LEAP_SECOND,
0 PARTIAL (R144). -/
def pmMark (b : Nat) (s : State) : State :=
  let x := s.pmon
  { s with pmon := { x with
    sec := { x.sec with flags := x.sec.flags ||| 2 ^ b }
    bin15 := { x.bin15 with cur := x.bin15.cur.markNow x.sec.no b }
    binDay := { x.binDay with cur := x.binDay.cur.markNow x.sec.no b } } }

/-- A bin that begins now otherwise than at a close: PARTIAL, and QUALITY where the SC is not LOCKED (R144). -/
def freshBin (s : State) : Bin :=
  { first := if s.pmon.sec.startCycle < s.time.cycle then s.pmon.sec.no + 1 else s.pmon.sec.no
    start := s.time.sc, flags := if quality s = qLOCKED then 1 else suspectOf 0b100001 }

/-- The frames from one frame to another contain an inserted second, or pass a deleted one (R39, R144). -/
def leapIn (e : Eph) (a b : Int) : Bool :=
  let x := wallFrom e a
  let y := wallFrom e b
  decide ((e.leap = 1 ∧ (x.2.1 = 86400 ∨ y.2.1 = 86400)) ∨ (e.leap = 2 ∧ (wallFrom e (a - 1)).1 ≤ (e.day : Int) ∧ (e.day : Int) < y.1))

/-- An inserted or deleted second lies between an SC and now, by the ephemeris in force (R39). -/
def leapSince (s : State) (start : Nat) : Bool :=
  s.sidr.ephHave && leapIn (lastEph s) (start / frameSteps : Nat) ((s.time.sc - 1) / frameSteps : Nat)

/-- A bin that began within the running second takes a leap of the rest of it. -/
def Bin.leapNow (s : State) (x : Bin) : Bin :=
  if s.pmon.sec.no < x.first ∧ leapSince s x.start = true then { x with flags := x.flags ||| 2 } else x

/-- An inserted or deleted second of the running PM second marks it, and the bins that began within it before the leap (R144). -/
def leapMark (s : State) : State :=
  let x := s.pmon
  if leapSince s x.sec.start then
    { s with pmon := { x with
      sec := { x.sec with flags := x.sec.flags ||| 2 }
      bin15 := { x.bin15 with cur := x.bin15.cur.leapNow s }, binDay := { x.binDay with cur := x.binDay.cur.leapNow s } } }
  else s

/-! ## SC_QUALITY (R29) -/

/-- A quality transition: the value, the cause, SC_UNCERT zeroed on entry to LOCKED and its growth timed from the exit,
the learning count restarted on leaving LOCKED (R29, R30, R31). -/
def setQuality (q : Nat) (s : State) : State :=
  if quality s = q then s else
  let was := quality s
  let s := pmMark 5 s
  let s := s |> wr SIDR.SC_QUALITY q |> raise 0x03 0
  let s := if q = qLOCKED then
      { wr SIDR.SC_UNCERT 0 s with sidr := { s.sidr with uncFifths := 0, learnStamp := s.time.cycle } }
    else s
  let s := if was = qLOCKED then { s with sidr := { s.sidr with learnSecs := 0, uncStamp := s.time.cycle } } else s
  let s := { s with sidr := { s.sidr with merAnchor := none, merK := 0, merErrs := [] } }
  updateWall s

/-- LOCKED is left when the line stops being usable: to MERIDIAN, HOLDOVER or FREE (R29). -/
def leaveLocked (s : State) : State :=
  if quality s ≠ qLOCKED then s
  else if rd s SIDR.MERIDIAN_EN = 1 ∧ rd s SIDR.MAINS_LEARNED = 1 ∧ rd s SIDR.MAINS_OK = 1 then setQuality qMERIDIAN s
  else if rd s SIDR.LEARN_VALID = 1 then setQuality qHOLDOVER s
  else setQuality qFREE s

/-- MERIDIAN is left when MAINS_OK falls (R29). -/
def leaveMeridian (s : State) : State :=
  if quality s ≠ qMERIDIAN then s
  else if rd s SIDR.LEARN_VALID = 1 ∧ rd s SIDR.SC_UNCERT ≤ rd s SIDR.HOLD_LIMIT then setQuality qHOLDOVER s
  else setQuality qFREE s

/-! ## Slew and step (R33 to R35) -/

/-- The remaining slew, signed. -/
def slewRem (s : State) : Int := rdS s SIDR.SLEW_REMAIN

/-- The slew ends: SLEW_DONE, and SC_QUALITY becomes LOCKED (R33, R34). -/
def slewDone (s : State) : State :=
  let s := s |> wr SIDR.SLEWING 0 |> raise 0x03 7
  if rd s SIDR.LINE_USABLE = 1 then setQuality qLOCKED s else s

/-- A correction of E phase steps begins: a slew when |E| is at most one frame and SC_VALID is 1, else a step (R33, R34). A slew
of 0 ends at once (the worked case of spec/08_activation_and_bursts.md), and a new correction takes the place of any that still ran. -/
def beginCorrection (e : Int) (s : State) : State :=
  if e.natAbs ≤ frameSteps ∧ rd s SIDR.SC_VALID = 1 then
    let s := { s with sidr := { s.sidr with stepE := none } } |> wrS SIDR.SLEW_REMAIN e
    if e = 0 then slewDone s else wr SIDR.SLEWING 1 s
  else
    let s := s |> wr SIDR.SLEW_REMAIN 0 |> wr SIDR.SLEWING 0
    { s with sidr := { s.sidr with stepE := some e } }

/-- What remains of a correction is abandoned when the line stops being usable (R33). -/
def abandonCorrection (s : State) : State :=
  let s := s |> wr SIDR.SLEW_REMAIN 0 |> wr SIDR.SLEWING 0
  { s with sidr := { s.sidr with stepE := none, oneStep := none } }

/-- E: the head-end-derived SC less the held SC, from the received position of the last frame and ADVANCE (R27, R33). -/
def correctionE (s : State) : Int :=
  match s.sidr.rxOff with
  | some o => (s.time.cycle : Int) + o + (rd s SIDR.ADV_BITS / 64 : Nat) - s.time.sc
  | none => 0

/-- The line is usable for time: none of LOS, LOF and LSC declared, ADVANCE_VALID 1, and in a state that receives the line
(R29). -/
def lineUsableNow (s : State) : Bool :=
  decide (rd s FRMD.DECLARED % 8 = 0) && decide (rd s SIDR.ADV_VALID = 1) && decide (rd s PWR.STATE ≤ 2)
    && s.sidr.rxOff.isSome

/-- LINE_USABLE follows its condition; becoming usable begins the correction, ceasing abandons it and leaves LOCKED
(R29, R33). -/
def updateUsable (s : State) : State :=
  let now := lineUsableNow s
  let was := rd s SIDR.LINE_USABLE = 1
  if now && !was then
    let s := wr SIDR.LINE_USABLE 1 s
    beginCorrection (correctionE s) s
  else if !now && was then
    leaveLocked (abandonCorrection (wr SIDR.LINE_USABLE 0 s))
  else s

/-- SIDR ADVANCE is written: refused with RANGE above five frames; an accepted write waits for the next frame boundary
(R28). -/
def advanceCmd (p : Port) (v : Nat) (s : State) : State :=
  fabricCmd p 0x03 0x04C none
    [(bits v 30 24 != 0, .reserved), (decide (12800000 < bits v 23 0), .range)]
    (fun s => { s with sidr := { s.sidr with advPend := some (bit v 31, bits v 23 0, s.time.cycle) } }) s

/-- ADVANCE_WRITE, with the word written. -/
def execAdvanceWrite (t : Nat) (p : Port) (v : Nat) (s : State) : Out := evPort p t s (advanceCmd p v)

/-- At the frame boundary after an ADVANCE write BITS and ADVANCE_VALID take the written values, and FRMU the new remainder. A change of
at most 64 bit periods that moves floor(ADVANCE / 64) by one moves the SC by one step at phase 1,000 of the frame, and FRMU takes the
remainder with it; a larger change while the line stays usable is a correction (R27, R28, R33). -/
def applyAdvance (valid : Bool) (b : Nat) (s : State) : State :=
  let old := rd s SIDR.ADV_BITS
  let s := s |> wr SIDR.ADV_BITS b |> wrB SIDR.ADV_VALID valid
  let kept := s.sidr.fine
  let s := { s with sidr := { s.sidr with advPend := none, fine := b % 64 } }
  let dFloor : Int := (b / 64 : Nat) - (old / 64 : Nat)
  let small : Bool := decide ((b : Int) - old ≤ 64) && decide ((old : Int) - b ≤ 64)
  let wasUsable := rd s SIDR.LINE_USABLE = 1
  let s := updateUsable s
  if wasUsable && rd s SIDR.LINE_USABLE = 1 then
    if small then
      if dFloor = 0 then s else { s with sidr := { s.sidr with oneStep := some (dFloor, b % 64), fine := kept } }
    else beginCorrection (correctionE s) s
  else s

/-- ADVANCE_APPLY: due at phase 0 of a frame after the write (R28). -/
def execAdvanceApply (t : Nat) (s : State) : Out :=
  ev t s fun s =>
    match s.sidr.advPend with
    | some (valid, b, at_) => if scPhase s = 0 ∧ at_ < s.time.cycle then applyAdvance valid b s else s
    | none => s

/-- The exponential average of LEARN_PPB with a time constant of 256 s, one measurement a second, in 65,536ths of a ppb (R30). DESIGN
CHOICE: the new average takes 1/256 of the difference, rounded down, and LEARN_PPB shows the nearest whole ppb (log 7). -/
def learnAverage (avg ppb : Int) : Int := avg + (65536 * ppb - avg) / 256

/-- REFCLK is measured against the recovered line clock, once per second while LOCKED (R30). DESIGN CHOICE: LEARN_LOST is raised where
a measurement out of range clears a LEARN_VALID that was 1 (R51, log 195). -/
def execLearnMeasurement (t : Nat) (ppb : Int) (s : State) : Out :=
  ev t s fun s =>
    if quality s ≠ qLOCKED ∨ s.time.cycle < s.sidr.learnStamp + secondSteps then s
    else
      let s := { s with sidr := { s.sidr with learnStamp := s.time.cycle } }
      if ppb < -100000 ∨ 100000 < ppb then
        let lost := rd s SIDR.LEARN_VALID = 1
        let s := { wr SIDR.LEARN_VALID 0 s with sidr := { s.sidr with learnSecs := 0, learnStarted := false } }
        when lost (raise 0x03 6) s
      else
        let avg := if s.sidr.learnStarted then learnAverage s.sidr.learnAvg ppb else 65536 * ppb
        let n := s.sidr.learnSecs + 1
        let s := { wrS SIDR.LEARN_PPB ((avg + 32768) / 65536) s with
          sidr := { s.sidr with learnSecs := n, learnStarted := true, learnAvg := avg } }
        when (decide (256 ≤ n)) (wr SIDR.LEARN_VALID 1) s

/-- The bound in ppb that SC_UNCERT grows by (R31). -/
def uncertBound (s : State) : Nat := if quality s = qMERIDIAN then rd s SIDR.MERID_PPB else rd s SIDR.HOLD_PPB

/-- HOLDOVER falls to FREE once SC_UNCERT exceeds HOLD_LIMIT (R29). -/
def holdLimit (s : State) : State :=
  if quality s = qHOLDOVER ∧ rd s SIDR.HOLD_LIMIT < rd s SIDR.SC_UNCERT then setQuality qFREE s else s

/-- Once per second outside LOCKED SC_UNCERT grows by the bound times 0.4 steps, kept in fifths of a step and shown rounded
down; HOLDOVER falls to FREE past HOLD_LIMIT (R29, R31). -/
def execUncertGrowth (t : Nat) (s : State) : Out :=
  ev t s fun s =>
    if quality s = qLOCKED ∨ s.time.cycle < s.sidr.uncStamp + secondSteps then s
    else
      let f := s.sidr.uncFifths + 2 * uncertBound s
      holdLimit { wr SIDR.SC_UNCERT (min (f / 5) 0xFFFFFFFF) s with
        sidr := { s.sidr with uncFifths := f, uncStamp := s.time.cycle } }

/-- The mains guard fails: MAINS_OK falls, MAINS_GUARD is raised and MERIDIAN is left (R32). -/
def mainsFail (s : State) : State :=
  let s := s |> wr SIDR.MAINS_OK 0 |> raise 0x03 5
  leaveMeridian { s with sidr := { s.sidr with mainsRun := 0, mainsOkRun := 0 } }

/-- While LOCKED a crossing within the guard is learned: the mean spacing of the last 256 (R32). DESIGN CHOICE: the mean is rounded down
to a whole step (log 196). -/
def mainsLearn (spacing : Nat) (s : State) : State :=
  if quality s ≠ qLOCKED then s else
  let l := (spacing :: s.sidr.mainsSpacings).take 256
  let s := { s with sidr := { s.sidr with mainsSpacings := l } }
  let s := wr SIDR.MAINS_SPACING (l.foldl (· + ·) 0 / l.length) s
  when (decide (256 ≤ l.length)) (wr SIDR.MAINS_LEARNED 1) s

/-- In MERIDIAN the first crossing, at SC x, is the anchor; the error of crossing k is reported, and the PLL removes it over the following
16 crossings (R32). -/
def mainsSteer (x : Nat) (s : State) : State :=
  if quality s ≠ qMERIDIAN then s else
  match s.sidr.merAnchor with
  | none => { s with sidr := { s.sidr with merAnchor := some x, merK := 0 } }
  | some a =>
    let k := s.sidr.merK + 1
    let err : Int := (x : Int) - (a + k * rd s SIDR.MAINS_SPACING : Nat)
    { wrS SIDR.MAINS_LAST_ERR err s with sidr := { s.sidr with merK := k, merErrs := (err :: s.sidr.merErrs).take 16 } }

/-- What the core PLL applies to the clock that the SC counts: LEARN_PPB in HOLDOVER, in ppb, and in MERIDIAN the sixteenths of a step that
it takes out of the interval to the next crossing, a sixteenth of each of the last 16 errors (R30, R32, log 73). -/
def pllTrim (s : State) : Int × Int :=
  (if quality s = qHOLDOVER then rdS s SIDR.LEARN_PPB else 0, if quality s = qMERIDIAN then -(s.sidr.merErrs.foldl (· + ·) 0) else 0)

/-- MERIDIAN is entered from HOLDOVER or FREE once MAINS_OK has been 1 for 50 consecutive mains cycles (R29). -/
def mainsEnter (s : State) : State :=
  if (quality s = qHOLDOVER ∨ quality s = qFREE) ∧ rd s SIDR.MERIDIAN_EN = 1 ∧ rd s SIDR.MAINS_LEARNED = 1
      ∧ rd s SIDR.MAINS_OK = 1 ∧ 50 ≤ s.sidr.mainsOkRun then setQuality qMERIDIAN s
  else s

/-- What follows a write of the SIDR settings: the quality and WALL_STATE take what their conditions give in this cycle (R29, R40). -/
def sidrWritten (s : State) : State := updateWall (mainsEnter (holdLimit s))

/-- A filtered rising MAINS_SENSE crossing, timestamped with the SC at which the input rose, FILTER phase steps before (R32). -/
def execMainsCrossing (t : Nat) (s : State) : Out :=
  ev t s fun s =>
    let x := s.time.sc - rd s SIDR.MAINS_FILTER
    match s.sidr.mainsLast with
    | none => { s with sidr := { s.sidr with mainsLast := some x, mainsTimedOut := false } }
    | some l =>
      let spacing := x - l
      let s := { s with sidr := { s.sidr with mainsLast := some x, mainsTimedOut := false } }
      if spacing < rd s SIDR.MAINS_MIN * frameSteps ∨ rd s SIDR.MAINS_MAX * frameSteps < spacing then mainsFail s
      else
        let n := s.sidr.mainsRun + 1
        let ok := rd s SIDR.MAINS_OK = 1
        let s := { s with sidr := { s.sidr with mainsRun := n, mainsOkRun := if ok then s.sidr.mainsOkRun + 1 else 0 } }
        let s := when (decide (50 ≤ n)) (wr SIDR.MAINS_OK 1) s
        s |> mainsLearn spacing |> mainsSteer x |> mainsEnter

/-- No crossing within TIMEOUT frames of the last one (R32). -/
def execMainsTimeout (t : Nat) (s : State) : Out :=
  ev t s fun s =>
    match s.sidr.mainsLast with
    | some l =>
      if !s.sidr.mainsTimedOut && decide (l + rd s SIDR.MAINS_TIMEOUT * frameSteps ≤ s.time.sc) then
        mainsFail { s with sidr := { s.sidr with mainsTimedOut := true } }
      else s
    | none => s

/-- Move the SC by one step. -/
def moveSc (d : Int) (s : State) : State :=
  { s with time := { s.time with sc := ((s.time.sc : Int) + d).toNat } }

/-- The single step of a small ADVANCE change, with FRMU's new remainder, at phase 1,000 of its frame (R28). -/
def stepOne (s : State) : State :=
  match s.sidr.oneStep with
  | some (d, f) => moveSc d { s with sidr := { s.sidr with oneStep := none, fine := f } }
  | none => s

/-- One adjustment of a slew that runs (R34). -/
def slewStep (s : State) : State :=
  let r := slewRem s
  if r = 0 then s else
  let d : Int := if 0 < r then 1 else -1
  let s := moveSc d (wrS SIDR.SLEW_REMAIN (r - d) s)
  if r - d = 0 then slewDone s else s

/-- SLEW_ADJUSTMENT: due once at each phase that is a non-zero multiple of 1,000 while a slew runs; the single step of a
small ADVANCE change takes place at phase 1,000 in the same way, without a cause (R28, R34). -/
def execSlewAdjustment (t : Nat) (s : State) : Out :=
  ev t s fun s =>
    let one := scPhase s = 1000 && s.sidr.oneStep.isSome
    if scPhase s = 0 ∨ scPhase s % 1000 ≠ 0 ∨ s.sidr.lastAdj = some s.time.sc ∨ (slewRem s = 0 ∧ one = false) then s
    else
      let u := { s with sidr := { s.sidr with lastAdj := some s.time.sc } }
      when one stepOne (slewStep u)

/-! ## The ephemeris guard (R38, R40, R492) -/

/-- A message agrees with an ephemeris: the same day and second, frame-in-second 0, at its EPH_FRAME (R38). -/
def ephAgrees (e m : Eph) : Bool :=
  let w := wallFrom e m.frame
  decide (w.1 = m.day) && decide (w.2.1 = m.sod) && decide (w.2.2.1 = 0)

/-- A message within the range of the guard (R38). -/
def ephInRange (s : State) (m : Eph) : Bool :=
  decide (((m.frame : Int) - scFrame s).natAbs ≤ rd s SIDR.EPH_WINDOW) && decide (m.sod ≤ 86400) && decide (m.leap ≠ 3)

/-- A message is rejected: counted, EPH_REJECT raised (R38). -/
def ephReject (s : State) : State := s |> incSat SIDR.EPH_REJECTED |> raise 0x03 4

/-- A message is accepted as the ephemeris that wall time is derived from (R39, R40). -/
def ephAccept (m : Eph) (s : State) : State :=
  let s := s |> wr SIDR.EPH_FRAME m.frame |> wr SIDR.EPH_DAY m.day |> wr SIDR.EPH_SOD m.sod |> wr SIDR.EPH_LEAP m.leap
    |> incSat SIDR.EPH_ACCEPTED
  updateWall { s with sidr := { s.sidr with ephHave := true, ephSince := true, ephStamp := s.time.cycle, ephRun := none } }

/-- The length of the run the message belongs to once it is counted (R38). -/
def ephRunLen (s : State) (m : Eph) : Nat :=
  match s.sidr.ephRun with
  | some (r, n) => if ephAgrees r m then n + 1 else 1
  | none => 1

/-- No accepted ephemeris within TIMEOUT seconds while LOCKED (R40). -/
def execEphTimeout (t : Nat) (s : State) : Out := ev t s updateWall

end Sys2Proof.Machine
end

