-- ==== Sys2Proof/Machine/Line.lean ====
section
/-! DEFINITION. The line's byte formats as pure functions: the scrambler, the Reed-Solomon code, the CRCs, section and path
BIP, the downstream frame (R127 to R134), the grant entry (R156), the burst body and header (R160, R161), OAM messages (R167)
and payload units (R162). -/
namespace Sys2Proof.Machine

/-! ## Bytes -/

/-- n bytes of a list from position a. -/
def slice (l : List Nat) (a n : Nat) : List Nat := (l.drop a).take n

/-- A big-endian number. -/
def be (l : List Nat) : Nat := l.foldl (fun a b => a * 256 + b % 256) 0

/-- A little-endian number. -/
def le (l : List Nat) : Nat := l.foldr (fun b a => a * 256 + b % 256) 0

/-- The n bytes of a number, most significant first. -/
def toBe (n v : Nat) : List Nat := (List.range n).map fun i => v / 256 ^ (n - 1 - i) % 256

/-- The n bytes of a number, least significant first. -/
def toLe (n v : Nat) : List Nat := (List.range n).map fun i => v / 256 ^ i % 256

/-- The number of 1 bits below 2 to the n. -/
def popcount (n v : Nat) : Nat := ((List.range n).filter fun b => bit v b).length

/-- n zero bytes. -/
def zeros (n : Nat) : List Nat := List.replicate n 0

/-- A list cut or filled with zeros to n bytes. -/
def fit (n : Nat) (l : List Nat) : List Nat := l.take n ++ zeros (n - l.length)

/-- The XOR of two byte lists, over the length of the first. -/
def xorBytes (a b : List Nat) : List Nat := a.zipIdx.map fun x => x.1 ^^^ b.getD x.2 0

/-! ## CRCs (R129, R156) -/

/-- One bit of a CRC of width w with polynomial poly, most significant bit first. -/
def crcBit (w poly acc : Nat) (b : Bool) : Nat :=
  let top := bit acc (w - 1)
  let sh := acc * 2 % 2 ^ w
  if top != b then sh ^^^ poly else sh

/-- One byte of a CRC, most significant bit first. -/
def crcByte (w poly acc byte : Nat) : Nat :=
  [7, 6, 5, 4, 3, 2, 1, 0].foldl (fun a i => crcBit w poly a (bit byte i)) acc

/-- The CRC-16 of R129: x^16 + x^12 + x^5 + 1 from 0xFFFF. -/
def crc16 (l : List Nat) : Nat := l.foldl (crcByte 16 0x1021) 0xFFFF

/-- The CRC-8 of R156: x^8 + x^2 + x + 1 from 0. -/
def crc8 (l : List Nat) : Nat := l.foldl (crcByte 8 0x07) 0

/-! ## The scrambler (R127) -/

/-- One step of the PRBS23 generator x^23 + x^18 + 1: the bit put out and the next state. The bit put out is that of the last
stage (log 15). -/
def prbsBit (g : Nat) : Nat × Nat :=
  (b2n (bit g 22), g * 2 % 2 ^ 23 + (b2n (bit g 22) ^^^ b2n (bit g 17)))

/-- One keystream byte, first bit in bit 7, and the next state. -/
def prbsByte (g : Nat) : Nat × Nat :=
  (List.range 8).foldl (fun a _ => let (b, g') := prbsBit a.2; (a.1 * 2 + b, g')) (0, g)

/-- Bytes XORed with the keystream from a generator state. -/
def scrambleFrom (g : Nat) (l : List Nat) : List Nat :=
  match l with
  | [] => []
  | b :: r => let (k, g') := prbsByte g; (b ^^^ k) :: scrambleFrom g' r

/-- Bytes XORed with the keystream from all ones. -/
def scramble (l : List Nat) : List Nat := scrambleFrom (2 ^ 23 - 1) l

/-! ## The Reed-Solomon code (R128) -/

/-- The product by x in GF(2^8) with field polynomial 0x11D. -/
def gfDouble (a : Nat) : Nat := if 128 ≤ a then (a * 2) ^^^ 0x11D else a * 2

/-- The product in GF(2^8). -/
def gfMul (a b : Nat) : Nat :=
  [7, 6, 5, 4, 3, 2, 1, 0].foldl (fun r i => if bit b i then gfDouble r ^^^ a else gfDouble r) 0

/-- A power in GF(2^8). -/
def gfPow (a n : Nat) : Nat := (List.range n).foldl (fun r _ => gfMul r a) 1

/-- The inverse in GF(2^8): the 254th power. -/
def gfInv (a : Nat) : Nat :=
  let a2 := gfMul a a
  let a4 := gfMul a2 a2
  let a8 := gfMul a4 a4
  let a16 := gfMul a8 a8
  let a32 := gfMul a16 a16
  let a64 := gfMul a32 a32
  let a128 := gfMul a64 a64
  gfMul a128 (gfMul a64 (gfMul a32 (gfMul a16 (gfMul a8 (gfMul a4 a2)))))

/-- A polynomial, highest power first, at a point. -/
def gfEval (p : List Nat) (x : Nat) : Nat := p.foldl (fun r c => gfMul r x ^^^ c) 0

/-- The 16 syndromes of a codeword, at alpha^0 to alpha^15. -/
def syndromes (cw : List Nat) : List Nat := (List.range 16).map fun j => gfEval cw (gfPow 2 j)

/-- The parity of data bytes: the remainder by the generator polynomial with roots alpha^0 to alpha^15. -/
def rsParity (data : List Nat) : List Nat :=
  let g := (List.range 16).foldl (fun g j =>
    let r := gfPow 2 j
    (g ++ [0]).zipIdx.map fun x => x.1 ^^^ (if x.2 = 0 then 0 else gfMul r (g.getD (x.2 - 1) 0))) [1]
  data.foldl (fun reg b =>
    let f := b ^^^ reg.getD 0 0
    (List.range 16).map fun i => reg.getD (i + 1) 0 ^^^ gfMul f (g.getD (i + 1) 0)) (zeros 16)

/-- A codeword of the data. -/
def rsEncode (data : List Nat) : List Nat := data ++ rsParity data

/-- The state of the search for the error locator: locator, previous locator (lowest power first), its length, the gap and
the last discrepancy. -/
structure Bm where
  c : List Nat
  b : List Nat
  len : Nat
  gap : Nat
  last : Nat

/-- One step of the search for the shortest error locator that the syndromes obey. -/
def bmStep (syn : List Nat) (x : Bm) (n : Nat) : Bm :=
  let d := (List.range (x.len + 1)).foldl (fun a i => a ^^^ gfMul (x.c.getD i 0) (syn.getD (n - i) 0)) 0
  if d = 0 then { x with gap := x.gap + 1 }
  else
    let k := gfMul d (gfInv x.last)
    let sh := zeros x.gap ++ x.b.map (gfMul k)
    let c' := (List.range (max x.c.length sh.length)).map fun i => x.c.getD i 0 ^^^ sh.getD i 0
    if 2 * x.len ≤ n then { c := c', b := x.c, len := n + 1 - x.len, gap := 1, last := d }
    else { x with c := c', gap := x.gap + 1 }

/-- The value of a polynomial, lowest power first. -/
def gfEvalLow (p : List Nat) (x : Nat) : Nat := gfEval p.reverse x

/-- Correct a codeword of at most eight byte errors: the corrected word and the number of bytes corrected; none where it is
uncorrectable (R128). -/
def rsDecode (cw : List Nat) : Option (List Nat × Nat) :=
  let syn := syndromes cw
  if syn.all (· == 0) then some (cw, 0) else
  let m := (List.range 16).foldl (bmStep syn) ⟨[1], [1], 0, 1, 1⟩
  if 8 < m.len then none else
  let n := cw.length
  let omega := (List.range 16).map fun i =>
    (List.range (i + 1)).foldl (fun a j => a ^^^ gfMul (m.c.getD j 0) (syn.getD (i - j) 0)) 0
  let fixed := cw.zipIdx.map fun x =>
    let loc := gfPow 2 (n - 1 - x.2)
    let inv := gfInv loc
    if gfEvalLow m.c inv = 0 then
      let der := (List.range m.c.length).foldl (fun a i =>
        if i % 2 = 1 then a ^^^ gfMul (m.c.getD i 0) (gfPow inv (i - 1)) else a) 0
      (x.1 ^^^ gfMul loc (gfMul (gfEvalLow omega inv) (gfInv der)), 1)
    else (x.1, 0)
  let out := fixed.map (·.1)
  let cnt := (fixed.map (·.2)).foldl (· + ·) 0
  if cnt = m.len ∧ (syndromes out).all (· == 0) = true then some (out, cnt) else none

/-! ## The downstream frame (R127 to R132) -/

/-- A frame as delineation, descrambling and decoding leave it: bit errors in PSYNC, the readable count, the corrected data
stream, the bytes corrected in each codeword, and the uncorrectable codewords. -/
structure RxFrame where
  psErrors : Nat := 0
  count : Option Nat := none
  data : List Nat := []
  corrected : List Nat := []
  bad : List Nat := []

/-- PSYNC (R129). -/
def psync : Nat := 0xC5E87A123D9B4F06

/-- The readable count of a descrambled PSB: FC_A where its CRC holds, else FC_B (R129). -/
def frameCount (psb : List Nat) : Option Nat :=
  if crc16 (slice psb 8 6) = be (slice psb 14 2) then some (be (slice psb 8 6))
  else if crc16 (slice psb 16 6) = be (slice psb 22 2) then some (be (slice psb 16 6))
  else none

/-- The frame received in 320,000 bytes that begin at a candidate PSYNC (R127 to R129). -/
def rxFrame (bytes : List Nat) : RxFrame :=
  let d := bytes.take 8 ++ scramble (bytes.drop 8)
  let cws := (List.range 1290).map fun k =>
    let w := slice d (80 + 248 * k) 248
    match rsDecode w with
    | some (c, n) => (c.take 232, n, false)
    | none => (w.take 232, 0, true)
  { psErrors := popcount 64 (be (bytes.take 8) ^^^ psync), count := frameCount d
    data := cws.flatMap (·.1), corrected := cws.map (·.2.1)
    bad := (cws.zipIdx.filter (fun x => x.1.2.2)).map (·.2) }

/-- Some byte of n from a of the data stream lies in an uncorrectable codeword (R139). -/
def touchesBad (f : RxFrame) (a n : Nat) : Bool := f.bad.any fun k => decide (0 < n ∧ 232 * k < a + n ∧ a < 232 * k + 232)

/-- The data stream's length (R127). -/
def streamLen : Nat := 299280

/-- The section overhead's fields (R131). -/
structure Soh where
  sbip : Nat
  srcId : Nat
  gmap : Nat
  oam : Nat
  payLen : Nat
  bad : Bool

/-- The section overhead, with its header error (R131). -/
def soh (d : List Nat) : Soh :=
  let g := be (slice d 8 2)
  let o := d.getD 10 0
  let p := be (slice d 12 4)
  { sbip := be (slice d 0 4), srcId := be (slice d 4 2), gmap := g, oam := o, payLen := p
    bad := decide (crc16 (slice d 4 26) ≠ be (slice d 30 2)) || decide (d.getD 6 0 ≠ 1) || decide (512 < g)
      || decide (64 < o) || decide (streamLen < 32 + 8 * g + 48 * o + p) }

/-- The XOR of the big-endian words of n bytes (R133, R134); a short last word is filled with zeros. -/
def bip (n : Nat) (l : List Nat) : Nat :=
  (List.range ((l.length + n - 1) / n)).foldl (fun a k => a ^^^ be (fit n (slice l (n * k) n))) 0

/-- A path block (R132): the position of its header in the data stream, its header fields and its payload. -/
structure Block where
  pos : Nat
  term : Nat
  path : Nat
  ptype : Nat
  enc : Bool
  phase : Nat
  pbip : Nat
  header : List Nat
  payload : List Nat

/-- The block whose header begins at a position. -/
def blockAt (d : List Nat) (pos : Nat) : Block :=
  let h := slice d pos 8
  let n := be (slice h 2 2)
  { pos := pos, term := be (slice h 0 2) / 16, path := be (slice h 0 2) % 16, ptype := h.getD 4 0
    enc := bit (h.getD 5 0) 7, phase := b2n (bit (h.getD 5 0) 6), pbip := be (slice h 6 2), header := h.take 6
    payload := slice d (pos + 8) n }

/-- The path blocks from a position to the end of the region, and whether a block that would end beyond it ended the walk
(R132). The first argument bounds the walk: a block takes at least its header. -/
def blocksFrom (fuel : Nat) (d : List Nat) (pos stop : Nat) : List Block × Bool :=
  match fuel with
  | 0 => ([], false)
  | fuel + 1 =>
    if stop ≤ pos then ([], false)
    else
      let n := be (slice d (pos + 2) 2)
      if stop < pos + 8 + n then ([], true)
      else
        let (r, e) := blocksFrom fuel d (pos + 8 + n) stop
        (blockAt d pos :: r, e)

/-- The BIP-16 violations of a block: header bytes 0 to 5 and the payload (R134). -/
def blockViol (b : Block) : Nat := popcount 16 (bip 2 (b.header ++ b.payload) ^^^ b.pbip)

/-! ## The grant entry (R156) -/

/-- A grant entry. -/
structure Grant where
  term : Nat
  cont : Nat
  start : Nat
  steps : Nat
  flags : Nat
  crcOk : Bool

/-- The grant entry in 8 bytes. -/
def grantOf (l : List Nat) : Grant :=
  { term := be (slice l 0 2) / 16, cont := be (slice l 0 2) % 16, start := be (slice l 2 2), steps := be (slice l 4 2)
    flags := l.getD 6 0, crcOk := decide (crc8 (l.take 7) = l.getD 7 0) }

/-! ## The burst (R160 to R162) -/

/-- The data capacity of a body of GRANT_STEPS (R160). -/
def capacity (steps : Nat) : Nat :=
  let n := 4 * steps / 248
  let r := 4 * steps - 248 * n
  232 * n + (if 17 ≤ r then r - 16 else 0)

/-- The coded body of a burst from its data bytes: whole codewords, a shortened one or zeros, then the scrambler (R160). -/
def burstBody (steps : Nat) (data : List Nat) : List Nat :=
  let n := 4 * steps / 248
  let r := 4 * steps - 248 * n
  let d := fit (capacity steps) data
  let whole := (List.range n).flatMap fun k => rsEncode (slice d (232 * k) 232)
  let tail := if 17 ≤ r then rsEncode (slice d (232 * n) (r - 16)) else zeros r
  scramble (whole ++ tail)

/-- The burst header of R161 from its fields. -/
def burstHeader (term cont srei flags prei tstat len key : Nat) : List Nat :=
  let h := toBe 2 (term * 16 + cont) ++ toBe 2 srei ++ [flags] ++ toBe 2 prei ++ [tstat] ++ toBe 4 len ++ [key, 0]
  h ++ toBe 2 (crc16 h)

/-- The bytes a frame's payload unit takes (R162, R193). -/
def unitLen (l : Nat) : Nat := (l + 3) / 4 * 4 + 4

/-- The payload unit of a frame (R162). -/
def unitOf (ptype : Nat) (frame : List Nat) : List Nat :=
  toBe 2 frame.length ++ [ptype, 0] ++ fit ((frame.length + 3) / 4 * 4) frame

/-- The frames of a block's payload units, and whether a malformed unit ended the block (R175). -/
def unitsOf (fuel : Nat) (l : List Nat) : List (List Nat) × Bool :=
  match fuel with
  | 0 => ([], false)
  | fuel + 1 =>
    if l.length < 4 then ([], decide (l ≠ []))
    else
      let n := be (slice l 0 2)
      if n < 64 ∨ 9728 < n ∨ l.length < unitLen n then ([], true)
      else
        let (r, e) := unitsOf fuel (l.drop (unitLen n))
        (slice l 4 n :: r, e)

/-- The whole message of type, SEQ and body from an ID (R167), with a zero MIC. -/
def oamMessage (term type seq : Nat) (body : List Nat) : List Nat :=
  toBe 2 (term * 16) ++ [type, seq] ++ fit 32 body ++ zeros 12

end Sys2Proof.Machine
end

