-- ==== Sys2Proof/Machine/Symbol.lean ====
section
/-! DEFINITION. The symbols of the module link: how line bits lie on the lanes, the Gray map, precoding, polarity, the transmit patterns,
and the lane that a corrected bit or a check mismatch is charged to (R102, R104 to R106, R110, R112). -/
namespace Sys2Proof.Machine

/-! ## Bits and level indices (R102, R104) -/

/-- The level index of a pair of bits, the earlier first (R104). -/
def grayLevel (a b : Bool) : Nat := if a then 3 - b2n b else b2n b

/-- The pair of bits of a level index (R104). -/
def grayBits (k : Nat) : Bool × Bool := (decide (2 ≤ k % 4), decide (k % 4 = 1 ∨ k % 4 = 2))

/-- The four bit pairs of a byte as level indices, in order of transmission: bit 7 goes first (R102). -/
def bytePairs (b : Nat) : List Nat := [6, 4, 2, 0].map fun i => grayLevel (bit b (i + 1)) (bit b i)

/-- A byte from its four level indices in order of transmission. -/
def pairsByte (l : List Nat) : Nat := l.foldl (fun a k => 4 * a + 2 * b2n (grayBits k).1 + b2n (grayBits k).2) 0

/-- The level indices of RXD0, RXD1 and RXD2 for line bytes: line bits 4j and 4j + 1 on RXD0, 4j + 2 and 4j + 3 on RXD1, their sum
modulo 4 on RXD2 (R102). -/
def downLevels (bytes : List Nat) : List Nat × List Nat × List Nat :=
  let l := bytes.map bytePairs
  (l.flatMap fun p => [p.getD 0 0, p.getD 2 0], l.flatMap fun p => [p.getD 1 0, p.getD 3 0],
   l.flatMap fun p => [(p.getD 0 0 + p.getD 1 0) % 4, (p.getD 2 0 + p.getD 3 0) % 4])

/-- The line bytes of the level indices of RXD0 and RXD1, two symbols of each to a byte (R102). -/
def bytesOfLevels (x0 x1 : List Nat) : List Nat :=
  match x0, x1 with
  | a :: b :: r, c :: d :: q => pairsByte [a, c, b, d] :: bytesOfLevels r q
  | _, _ => []

/-- The level indices of upstream bytes: upstream bits 2j and 2j + 1 in symbol j (R102). -/
def upLevels (bytes : List Nat) : List Nat := bytes.flatMap bytePairs

/-- A rebuilt active lane: the symbols of RXD2 less those of the other active lane, modulo 4 (R103). -/
def rebuilt (x2 other : List Nat) : List Nat := x2.zipIdx.map fun x => (x.1 + 4 - other.getD x.2 0 % 4) % 4

/-! ## Precoding and polarity (R105, R106) -/

/-- A precoder, y being the symbol it sent last (R105). -/
def precode (y : Nat) (l : List Nat) : List Nat :=
  match l with
  | [] => []
  | x :: r => (x + 4 - y % 4) % 4 :: precode ((x + 4 - y % 4) % 4) r

/-- A decoder, y being the symbol it received last (R105). -/
def unprecode (y : Nat) (l : List Nat) : List Nat :=
  match l with
  | [] => []
  | x :: r => (x + y) % 4 :: unprecode x r

/-- Polarity inversion of a lane's level indices (R106). -/
def invert (on : Bool) (l : List Nat) : List Nat := if on then l.map fun k => 3 - k % 4 else l

/-- A receive lane's symbols from the levels at its pins, the level received last before them first: the inversion comes before the
decoding (R105, R106). -/
def rxSymbols (s : State) (n : Nat) (l : List Nat) : List Nat :=
  match invert (bit (rd s LANE.RX_POL) n) l with
  | [] => []
  | y :: k => if rd s LANE.RX_PRECODE = 1 then unprecode y k else k

/-- The line bytes of the levels at the receive lanes, a lane that RX_SUBST names being rebuilt (R102, R103, R114). -/
def lineBytes (s : State) (x0 x1 x2 : List Nat) : List Nat :=
  let x0 := rxSymbols s 0 x0
  let x1 := rxSymbols s 1 x1
  let x2 := rxSymbols s 2 x2
  if rd s LANE.RX_SUBST = 1 then bytesOfLevels (rebuilt x2 x1) x1
  else if rd s LANE.RX_SUBST = 2 then bytesOfLevels x0 (rebuilt x2 x0) else bytesOfLevels x0 x1

/-- The levels at a transmit lane's pins: the inversion comes after the precoding (R105, R106). -/
def txSymbols (s : State) (n y : Nat) (l : List Nat) : List Nat :=
  invert (bit (rd s LANE.TX_POL) n) (if rd s LANE.TX_PRECODE = 1 then precode y l else l)

/-! ## Transmit patterns (R110) -/

/-- The output bit and the next state of a PRBS generator of n stages whose feedback takes the stages listed. -/
def prbsStep (n : Nat) (taps : List Nat) (g : Nat) : Nat × Nat :=
  (b2n (bit g (n - 1)), g * 2 % 2 ^ n + taps.foldl (fun a k => a ^^^ b2n (bit g (k - 1))) 0)

/-- n bits of a PRBS from a generator state. -/
def prbsBits (w : Nat) (taps : List Nat) (g n : Nat) : List Bool :=
  match n with
  | 0 => []
  | n + 1 => let (b, g') := prbsStep w taps g; decide (b = 1) :: prbsBits w taps g' n

/-- Bits two to a symbol (R104). -/
def grayPairs (l : List Bool) : List Nat :=
  match l with
  | a :: b :: r => grayLevel a b :: grayPairs r
  | _ => []

/-- n symbols of the training pattern, PRBS13 x^13 + x^12 + x^2 + x + 1 (R110), from a generator state that no rule gives (log 200). -/
def trainingPattern (n : Nat) : List Nat := grayPairs (prbsBits 13 [13, 12, 2, 1] (Config.prbsSeed 13) (2 * n))

/-- n symbols of the idle pattern, PRBS31 x^31 + x^28 + 1 (R110, log 200). -/
def idlePattern (n : Nat) : List Nat := grayPairs (prbsBits 31 [31, 28] (Config.prbsSeed 31) (2 * n))

/-- The switch marker: 16 repetitions of 3, 3, 0, 0 (R110). -/
def switchMarker : List Nat := (List.range 16).flatMap fun _ => [3, 3, 0, 0]

/-! ## Attribution of errors (R112) -/

/-- The receive lane that carries a line bit of a frame (R102). -/
def laneOfBit (b : Nat) : Nat := if b % 4 < 2 then 0 else 1

/-- The codeword that holds a symbol of a frame, none in the PSB (R102, R127). -/
def codewordOf (sym : Nat) : Option Nat := if sym / 2 < 80 then none else some ((sym / 2 - 80) / 248)

/-- A mismatch that is charged to RXD2: FRMD corrected nothing at its symbol, and could correct its codeword (R112). -/
def chargesCheck (corrected : List Nat) (x : CheckSeen) (sym : Nat) : Bool :=
  !(corrected.any fun b => decide (b / 4 = sym)) && !(x.uncorrectable.any fun k => decide (codewordOf sym = some k))

/-- The errors of a window attributed to a lane: the bits that FRMD corrected to the lane that carries them, a check mismatch where FRMD
corrected nothing to RXD2, and none within a codeword that FRMD could not correct (R112). -/
def attributed (corrected : List Nat) (x : CheckSeen) (lane : Nat) : Nat :=
  if lane = 2 then (x.mismatches.filter (chargesCheck corrected x)).length else (corrected.filter fun b => decide (laneOfBit b = lane)).length

end Sys2Proof.Machine
end

