-- ==== Sys2Proof/Machine/Lane.lean ====
section
/-! DEFINITION. The module link (R102 to R126): receive lane training, the lane guard, LINK, spare substitution, the
equalizer fences, and the guards of MOD_SD, MOD_TXFLT and RXC. -/
namespace Sys2Proof.Machine

/-! ## Lane states -/

/-- The state field of receive lane n (R107: 0 OFF, 1 PHASE, 2 ADAPT, 3 DESKEW, 4 CHECK, 5 UP, 6 DOWN, 7 HELD). -/
def rxStateF (n : Nat) : Fld := if n = 0 then LANE.RXD0_STATE else if n = 1 then LANE.RXD1_STATE else LANE.RXD2_STATE

/-- The state of receive lane n. -/
def rxState (s : State) (n : Nat) : Nat := rd s (rxStateF n)

/-- What receive lane n keeps. -/
def rxOf (s : State) (n : Nat) : RxLane := if n = 0 then s.lane.rx0 else if n = 1 then s.lane.rx1 else s.lane.rx2

/-- Change what receive lane n keeps. -/
def modRx (n : Nat) (f : RxLane → RxLane) (s : State) : State :=
  if n = 0 then { s with lane := { s.lane with rx0 := f s.lane.rx0 } }
  else if n = 1 then { s with lane := { s.lane with rx1 := f s.lane.rx1 } }
  else { s with lane := { s.lane with rx2 := f s.lane.rx2 } }

/-- How many receive lanes are UP. -/
def lanesUp (s : State) : Nat := ((List.range 3).filter fun n => rxState s n == 5).length

/-- Some receive lane is in PHASE to CHECK. -/
def someTraining (s : State) : Bool := (List.range 3).any fun n => decide (1 ≤ rxState s n ∧ rxState s n ≤ 4)

/-! ## LINK (R113) -/

/-- The level of MOD_SD that the link follows: low under SD_CHATTER, which takes precedence; ignored, so high, under
SD_CONTRADICT (R121). -/
def sdLevel (s : State) : Bool :=
  if s.lane.sdChatter then false else if s.lane.sdIgnored then true else decide (rd s LANE.SD_FILT = 1)

/-- LINK's value now: 0 DOWN, 1 UP, 2 UNPROTECTED, 3 TRAINING (R113). Two lanes DOWN or HELD beside one in PHASE to CHECK give TRAINING:
R114's "LINK is DOWN" is read as R113's case without a lane in PHASE to CHECK (log 203). -/
def linkNow (s : State) : Nat :=
  if !enabled s 0x08 || decide (rd s LANE.RXC_OK = 0) || !sdLevel s then 0
  else if lanesUp s < 2 then (if someTraining s then 3 else 0)
  else if lanesUp s = 3 ∧ txStateNow s 0 = 3 ∧ txStateNow s 1 = 0 then 1
  else 2

/-- LINK reads DOWN or TRAINING, which FRMD treats as loss of signal (R113). -/
def linkLost (l : Nat) : Bool := decide (l = 0 ∨ l = 3)

/-- LINK follows R113; LINK_DOWN and LINK_UP are raised on each change into and out of DOWN; delineation falls to HUNT while
LINK reads DOWN or TRAINING; CLK_CORE returns to the line clock when the RXC guard holds and LINK is up (R103). -/
def updateLink (s : State) : State :=
  let old := rd s LANE.LINK
  let new := linkNow s
  let s := wr LANE.LINK new s
  let s := if old ≠ 0 ∧ new = 0 then raise 0x08 4 s else if old = 0 ∧ new ≠ 0 then raise 0x08 5 s else s
  let s := if !linkLost old && linkLost new then
      { dropSync s with lane := { s.lane with linkBad := s.time.cycle } }
    else if linkLost old && !linkLost new then { s with lane := { s.lane with linkGood := s.time.cycle } } else s
  if rd s LANE.RXC_OK = 1 ∧ (new = 1 ∨ new = 2) ∧ rd s SYS.CORE_SRC = 1 ∧ rd s PWR.STATE ≤ 1 then
    setCoreSrc 2 s
  else s

/-! ## Substitution of a receive lane (R114, R115) -/

/-- The lane among RXD0 and RXD1 that is lost while RXD2 and the other are UP, so that it is to be rebuilt: it is DOWN or HELD, whichever
of the three changed last (R114, log 199). -/
def lostLane (s : State) : Option Nat :=
  if rxState s 2 ≠ 5 then none
  else [0, 1].find? fun n => decide (rxState s (1 - n) = 5 ∧ 6 ≤ rxState s n)

/-- The rebuilding of a lane begins (R114). -/
def rebuild (n : Nat) (s : State) : State :=
  if rd s LANE.RX_SUBST = n + 1 then s else s |> wr LANE.RX_SUBST (n + 1) |> incSat LANE.RX_SUBSTS |> raise 0x08 3

/-- A lost lane is rebuilt (R114); a lane that left UP for PHASE under RETRAIN is rebuilt as well (the hard case of a planned retrain). -/
def rxSubstitute (n was : Nat) (s : State) : State :=
  match lostLane s with
  | some k => rebuild k s
  | none =>
    if n < 2 ∧ was = 5 ∧ rxState s n ≠ 5 ∧ rxState s 2 = 5 ∧ rxState s (1 - n) = 5 then rebuild n s else s

/-- A receive lane takes a state, with the stamps of R107 and R109: TRAIN_TIMEOUT counts from the entry to PHASE out of OFF, UP, DOWN or
HELD, not from a return of an unfinished training (log 202). A lane that becomes DOWN raises its cause and counts, whatever took it there
(R111, log 201). -/
def rxPlace (n st : Nat) (s : State) : State :=
  let was := rxState s n
  let s := wr (rxStateF n) st s
  let s := modRx n (fun x => { x with
    entered := s.time.cycle, passRun := 0, failRun := 0, winStart := s.time.cycle
    released := x.released && decide (st ≠ 5 ∧ st ≠ 7)
    phaseTick := if st = 1 ∧ (was = 0 ∨ 5 ≤ was) then s.time.ticks else x.phaseTick
    downTick := if st = 6 then s.time.ticks else x.downTick }) s
  if st = 6 ∧ was ≠ 6 then s |> incSat (LANE.DOWN_COUNT n) |> raise 0x08 n else s

/-- A receive lane enters a state; the substitution and LINK follow. -/
def rxEnter (n st : Nat) (s : State) : State := updateLink (rxSubstitute n (rxState s n) (rxPlace n st s))

/-- A lane reaches UP: a rebuilt lane ends the rebuilding; under RX_REVERT = 0 it goes to HELD, and ends it once a RELEASE has let it
return (R115, log 199). -/
def rxReachUp (n : Nat) (s : State) : State :=
  if rd s LANE.RX_SUBST = n + 1 then
    if rd s LANE.RX_REVERT = 1 ∨ (rxOf s n).released = true then rxEnter n 5 (s |> wr LANE.RX_SUBST 0 |> raise 0x08 3)
    else rxEnter n 7 s
  else rxEnter n 5 s

/-! ## Training (R107 to R110) -/

/-- Bounds of an adaptive parameter of a lane: (MIN, MAX), signed (R119, R126). -/
def fenceOf (s : State) (n param : Nat) : Int × Int :=
  if param = 0 then (rd s (LANE.CTLE_MIN n), rd s (LANE.CTLE_MAX n))
  else if param = 1 then (rd s (LANE.VGA_MIN n), rd s (LANE.VGA_MAX n))
  else if param = 2 then (rdS s (LANE.DFE1_MIN n), rdS s (LANE.DFE1_MAX n))
  else if param = 3 then (rdS s (LANE.DFE2_MIN n), rdS s (LANE.DFE2_MAX n))
  else if param = 4 then (rdS s (LANE.DFE3_MIN n), rdS s (LANE.DFE3_MAX n))
  else (rdS s (LANE.PHASE_MIN n), rdS s (LANE.PHASE_MAX n))

/-- The live register of an adaptive parameter. -/
def liveF (n param : Nat) : Fld :=
  if param = 0 then LANE.LIVE_CTLE n else if param = 1 then LANE.LIVE_VGA n else if param = 2 then LANE.LIVE_DFE1 n
  else if param = 3 then LANE.LIVE_DFE2 n else if param = 4 then LANE.LIVE_DFE3 n else LANE.LIVE_PHASE n

/-- The value of an adaptive parameter in force. -/
def liveOf (s : State) (n param : Nat) : Int := if param ≤ 1 then rd s (liveF n param) else rdS s (liveF n param)

/-- A value moved into a closed interval. -/
def clampI (lo hi v : Int) : Int := if v < lo then lo else if hi < v then hi else v

/-- The six parameters start from the centre of their fences (R107), rounded down between two codes (log 12); a frozen lane keeps its values
(R119). -/
def presetEq (n : Nat) (s : State) : State :=
  if rd s (LANE.FREEZE n) = 1 then s
  else forEach (List.range 6) (fun k s => let (lo, hi) := fenceOf s n k; wrS (liveF n k) ((lo + hi) / 2) s) s

/-- PHASE ends after 4,096 phase steps, centred on the widest eye (R107). -/
def execLanePhaseDone (t : Nat) (lane centre : Nat) (s : State) : Out :=
  ev t s fun s =>
    if lane < 3 ∧ rxState s lane = 1 ∧ (rxOf s lane).entered + 4096 ≤ s.time.cycle then
      s |> wr (LANE.LIVE_CENTRE lane) centre |> presetEq lane |> rxEnter lane 2
    else s

/-- ADAPT ends after 16,384 phase steps (R107). -/
def execLaneAdaptDone (t : Nat) (lane : Nat) (s : State) : Out :=
  ev t s fun s =>
    if lane < 3 ∧ rxState s lane = 2 ∧ (rxOf s lane).entered + 16384 ≤ s.time.cycle then rxEnter lane 3 s else s

/-- A lane is in DESKEW or has passed it, so that it takes part in an alignment (R108, log 208). -/
def inDeskew (s : State) (n : Nat) : Bool := decide (3 ≤ rxState s n ∧ rxState s n ≤ 5)

/-- DESKEW uses the check lane: RXD2 and at least one other lane take part (R108). -/
def byCheckLane (s : State) : Bool := inDeskew s 2 && (inDeskew s 0 || inDeskew s 1)

/-- The candidates of a full search: every pair of 33 offsets with the check lane; 33 for the frame method and for a lane that joins two
lanes in service, which are not moved (R108, log 208). -/
def fullSearch (s : State) : Nat := if byCheckLane s && decide (lanesUp s < 2) then 33 * 33 else 33

/-- The phase steps that a number of candidates takes: 256 symbols each with the check lane, three frames each with the frame method
(R108). -/
def searchSteps (s : State) (cand : Nat) : Nat := if byCheckLane s then 16 * cand else 3 * frameSteps * cand

/-- The last candidate aligns the lane: within 16 UI of RXD0, and the sum held for at least 255 of 256 symbols; or, with the frame method,
which needs RXD0 and RXD1, FRMD found its frame twice in a row (R108, R130, log 208). -/
def aligns (s : State) (lane : Nat) (off : Int) (hits : Nat) : Bool :=
  decide (off.natAbs ≤ 16) && (if byCheckLane s then decide (255 ≤ hits) else decide (lane < 2 ∧ 2 ≤ hits))

/-- The deskew search ends: aligned to CHECK, or after a full search back to PHASE (R108). -/
def execLaneDeskewDone (t : Nat) (lane : Nat) (x : DeskewSeen) (s : State) : Out :=
  ev t s fun s =>
    if lane < 3 ∧ rxState s lane = 3 ∧ 1 ≤ x.cand ∧ x.cand ≤ fullSearch s
        ∧ (rxOf s lane).entered + searchSteps s x.cand ≤ s.time.cycle then
      if aligns s lane x.off x.hits then rxEnter lane 4 s else if x.cand = fullSearch s then rxEnter lane 1 s else s
    else s

/-- A window fails under the lane guard (R111). -/
def windowFails (s : State) (errors eye : Nat) (ampOk : Bool) : Bool :=
  decide (rd s LANE.ERR_MAX < errors) || decide (eye < rd s LANE.EYE_MIN) || !ampOk

/-- The judgement of one window of a lane in CHECK or UP: FILTER consecutive passes in CHECK make it UP, FILTER consecutive
failures make it DOWN (R111; a lane in CHECK falls to DOWN as the worked case shows, log 13). -/
def judgeWindow (lane : Nat) (fails : Bool) (s : State) : State :=
  let n := max 1 (rd s LANE.RX_FILTER)
  let x := rxOf s lane
  if fails then
    let s := modRx lane (fun x => { x with failRun := x.failRun + 1, passRun := 0, lastFail := some s.time.cycle }) s
    if n ≤ x.failRun + 1 then rxEnter lane 6 s else s
  else
    let s := modRx lane (fun x => { x with passRun := x.passRun + 1, failRun := 0 }) s
    if rxState s lane = 4 ∧ n ≤ x.passRun + 1 then rxReachUp lane s else s

/-- All mismatches of a window, whatever caused them; they are counted at the windows of the check lane, RXD2 (R126, log 207). -/
def countMismatches (lane n : Nat) (s : State) : State :=
  if lane = 2 then s |> wr LANE.CHECK_MISMATCH n |> addTo LANE.CHECK_TOTAL n else s

/-- A window of 65,536 symbols (4,096 phase steps) of a lane in CHECK or UP ends, with the errors attributed to the lane (R111, R112). -/
def execLaneWindow (t : Nat) (lane : Nat) (corrected : List Nat) (eye : Nat) (ampOk : Bool) (x : CheckSeen) (s : State) : Out :=
  ev t s fun s =>
    let errors := attributed corrected x lane
    if lane < 3 ∧ (rxState s lane = 4 ∨ rxState s lane = 5) ∧ (rxOf s lane).winStart + 4096 ≤ s.time.cycle then
      let s := s |> wr (LANE.ERR_LAST lane) (min errors 0xFFFF) |> wr (LANE.EYE_LAST lane) eye
        |> addTo (LANE.ERR_TOTAL lane) errors |> countMismatches lane x.mismatches.length
      let s := modRx lane (fun x => { x with winStart := s.time.cycle }) s
      judgeWindow lane (windowFails s errors eye ampOk) s
    else s

/-- A lane not UP TRAIN_TIMEOUT ticks after it entered PHASE is DOWN (R109). -/
def execTrainTimeout (t : Nat) (lane : Nat) (s : State) : Out :=
  ev t s fun s =>
    if lane < 3 ∧ 1 ≤ rxState s lane ∧ rxState s lane ≤ 4
        ∧ (rxOf s lane).phaseTick + rd s LANE.TRAIN_TIMEOUT ≤ s.time.ticks then
      rxEnter lane 6 (raise 0x08 16 s)
    else s

/-- A DOWN lane re-enters PHASE after RETRY_TICKS, the RXC guard being satisfied (R107). -/
def execLaneRetry (t : Nat) (lane : Nat) (s : State) : Out :=
  ev t s fun s =>
    if lane < 3 ∧ rxState s lane = 6 ∧ rd s LANE.RXC_OK = 1
        ∧ (rxOf s lane).downTick + rd s LANE.RETRY_TICKS ≤ s.time.ticks then rxEnter lane 1 s else s

/-! ## Equalizer adaptation and fences (R119, R120) -/

/-- The entry of a parameter in an association list. -/
def assocN (l : List (Nat × Nat)) (k : Nat) : Option Nat := (l.find? (fun x => x.1 == k)).map (·.2)

/-- At least n cycles have passed since an earlier event, if there was one. -/
def spacedBy (last : Option Nat) (n now : Nat) : Bool :=
  match last with
  | some c => decide (c + n ≤ now)
  | none => true

/-- A parameter's updates and held updates of the tick. -/
def tickUpdOf (x : RxLane) (param : Nat) : Nat × Nat :=
  match x.tickUpd.find? (fun e => e.1 == param) with
  | some e => e.2
  | none => (0, 0)

/-- An update of an adaptive parameter: at most once every 256 phase steps, in ADAPT, CHECK and UP, not while frozen, never
outside its fence; an ask past the bound it stands at counts as held (R119, R120). -/
def execEqUpdate (t : Nat) (lane param : Nat) (ask : Int) (s : State) : Out :=
  ev t s fun s =>
    let x := rxOf s lane
    if lane < 3 ∧ param < 6 ∧ (rxState s lane = 2 ∨ rxState s lane = 4 ∨ rxState s lane = 5) ∧ rd s (LANE.FREEZE lane) = 0
        ∧ spacedBy (assocN x.updated param) 256 s.time.cycle = true then
      let (lo, hi) := fenceOf s lane param
      let cur := liveOf s lane param
      let held := decide ((cur = hi ∧ hi < ask) ∨ (cur = lo ∧ ask < lo))
      let (n, h) := tickUpdOf x param
      s |> wrS (liveF lane param) (clampI lo hi ask) |> modRx lane (fun x => { x with
        updated := (param, s.time.cycle) :: x.updated.filter (fun e => e.1 != param)
        tickUpd := (param, n + 1, h + b2n held) :: x.tickUpd.filter (fun e => e.1 != param) })
    else s

/-- The fence work of a commit cycle for one lane: HELD.NOW and HELD.TICKS from the updates of the tick; a frozen lane is
never held (R120). -/
def laneTick (n : Nat) (s : State) : State :=
  let x := rxOf s n
  let heldNow := if rd s (LANE.FREEZE n) = 1 then 0 else
    (List.range 6).foldl (fun a k => let (u, h) := tickUpdOf x k; if 0 < u ∧ u = h then a + 2 ^ k else a) 0
  let s := wr (LANE.HELD_NOW n) heldNow s
  let s := if heldNow = 0 then wr (LANE.HELD_TICKS n) 0 s else incSat (LANE.HELD_TICKS n) s
  modRx n (fun x => { x with tickUpd := [], fenceRaised := x.fenceRaised && heldNow != 0 }) s

/-- In the commit cycle in which a fence takes effect a parameter outside it moves to the nearer bound (R119). -/
def laneClamp (n : Nat) (s : State) : State :=
  forEach (List.range 6) (fun k s => let (lo, hi) := fenceOf s n k; wrS (liveF n k) (clampI lo hi (liveOf s n k)) s) s

/-- A lane held for FENCE_TICKS consecutive ticks raises FENCE_HELD once per episode (R120). -/
def execFenceHeld (t : Nat) (lane : Nat) (s : State) : Out :=
  ev t s fun s =>
    if lane < 3 ∧ rd s LANE.FENCE_TICKS ≤ rd s (LANE.HELD_TICKS lane) ∧ (rxOf s lane).fenceRaised = false
        ∧ 0 < rd s (LANE.HELD_TICKS lane) then
      raise 0x08 (13 + lane) (modRx lane (fun x => { x with fenceRaised := true }) s)
    else s

/-! ## Transmit lanes (R110, R116 to R118) -/

/-- MOD_TXEN is low from a cycle on, so that a LAG that runs then is cut short (R124). -/
def txLowFrom (c : Nat) (s : State) : State := { s with burst := { s.burst with txFall := min s.burst.txFall c } }

/-- Start a substitution to a lane: a command waits for the end of a burst in flight, which a fault has aborted (R116). A lane that was in
its first training begins step 2 like any other. -/
def startSwap (new : Nat) (byCmd faulted : Bool) (s : State) : State :=
  let start := max s.time.cycle (flightEnd s)
  let s := s |> when (rd s (txStateF new) == 1) (wr (txStateF new) 0) |> wr LANE.CMD_BUSY 1 |> incSat LANE.TX_SUBSTS |> txLowFrom start
  updateLink { s with lane := { s.lane with
    swap := some ⟨new, start, byCmd, faulted⟩, txTrain := if s.rpr.txLane = new then none else s.lane.txTrain } }

/-- A running substitution ends with LANE's or the transmit lanes' enable: its command completes as an abandoned one does (R125, R126,
log 209). -/
def dropSwap (s : State) : State :=
  match s.lane.swap with
  | none => s
  | some w =>
    let s := s |> wr LANE.CMD_BUSY 0 |> wr LANE.CMD_CODE Code.state.num |> when w.byCmd (raise 0x08 18)
    { s with lane := { s.lane with swap := none } }

/-- The active lane's self-monitor fails: its FAULT cause, the abort of a burst, and the automatic substitution; without
one, TX_AUTO being 0 or the spare not OFF, the lane is DOWN and TX_DOWN is raised as in R118 (R116, log 204). The grants it costs are
declined in Actv.lean. -/
def driverFault (s : State) : State :=
  match txActive s with
  | none => s
  | some a =>
    let s := s |> raise 0x08 (10 + a) |> incSat LANE.TX_FAILS |> abortBurst
    match s.lane.swap with
    | some w => { s with lane := { s.lane with swap := some { w with faulted := true } } }
    | none =>
      if rd s LANE.TX_AUTO = 1 ∧ rd s (txStateF (1 - a)) = 0 then startSwap (1 - a) false true s
      else s |> wr (txStateF a) 6 |> raise 0x08 17 |> txLowFrom s.time.cycle |> updateLink

/-- A substitution ends with the new lane ACTIVE: the old lane is OFF if sound, DOWN if faulted (R116 step 4). -/
def finishSwap (w : TxSwap) (s : State) : State :=
  let old := 1 - w.lane
  let s := s |> wr (txStateF w.lane) 3 |> wr (txStateF old) (if w.faulted then 6 else 0) |> wr LANE.TX_ACTIVE w.lane
    |> wr LANE.CMD_BUSY 0 |> wr LANE.CMD_CODE 0 |> raise 0x08 12
  let s := when w.byCmd (raise 0x08 18) s
  updateLink { s with lane := { s.lane with swap := none, txTrain := none } }

/-- A substitution is abandoned: the new lane is DOWN, and with the old lane faulted no lane is ACTIVE (R118). -/
def abandonSwap (w : TxSwap) (s : State) : State :=
  let old := 1 - w.lane
  let s := s |> wr (txStateF w.lane) 6 |> raise 0x08 (10 + w.lane) |> incSat LANE.TX_FAILS |> wr LANE.CMD_BUSY 0
    |> wr LANE.CMD_CODE Code.state.num
  let s := when w.byCmd (raise 0x08 18) s
  let s := if w.faulted then s |> wr (txStateF old) 6 |> raise 0x08 17 else s
  updateLink { s with lane := { s.lane with swap := none } }

/-- Steps 2 to 4 end once training and the switch marker (4 phase steps) are sent, and within TIMEOUT ticks; a failing
self-monitor abandons the substitution (R116, R118). -/
def execTxSwapDone (t : Nat) (selfOk : Bool) (s : State) : Out :=
  ev t s fun s =>
    match s.lane.swap with
    | none => s
    | some w =>
      if s.time.cycle < w.start then s
      else if !selfOk || decide (w.start + rd s LANE.TX_TIMEOUT * tickSteps < s.time.cycle) then abandonSwap w s
      else if w.start + trainSteps s + 4 ≤ s.time.cycle then finishSwap w s
      else s

/-- TX_ENABLE starts TXC and the training of TXD0, or of the lane that a repair record names (R110, R468). -/
def startTx (s : State) : State :=
  { wr (txStateF s.rpr.txLane) 1 s with lane := { s.lane with txTrain := some s.time.cycle } }

/-- After 4,096 phase steps of training the lane sends the idle pattern (R110). -/
def execTxTrainingDone (t : Nat) (s : State) : Out :=
  ev t s fun s =>
    match s.lane.txTrain with
    | some c =>
      if c + 4096 ≤ s.time.cycle then
        updateLink { (s |> wr (txStateF s.rpr.txLane) 3 |> wr LANE.TX_ACTIVE s.rpr.txLane) with lane := { s.lane with txTrain := none } }
      else s
    | none => s

/-! ## Commands (R126) -/

/-- The BAR0 address of LANE_CMD. -/
def laneCmdAddr : Nat := 0x8048

/-- A lane command with its STATE check; receive commands complete within 4 cycles and raise CMD_DONE (R126). -/
def laneCmd (p : Port) (badLane badState : Bool) (act : State → State) (s : State) : State :=
  fabricCmd p 0x08 0x048 (some LANE.CMD_CODE)
    [(cmdBusy s laneCmdAddr || decide (rd s LANE.CMD_BUSY = 1), .busy), (badLane, .range), (badState, .state)] act s

/-- A command that completes at once: BUSY for at most 4 cycles, then CMD_DONE. -/
def laneDone (s : State) : State := raise 0x08 18 (startCmd laneCmdAddr 4 s)

/-- LANE names a receive lane: 0b000 to 0b010. -/
def isRxLane (n : Nat) : Bool := decide (n < 3)

/-- LANE names a transmit lane: 0b100 or 0b101. -/
def isTxLane (n : Nat) : Bool := decide (n = 4 ∨ n = 5)

/-- Taking the lane out of service would leave fewer than two receive lanes UP (R126). -/
def leavesTooFew (s : State) (n : Nat) : Bool :=
  isRxLane n && decide ((if rxState s n = 5 then lanesUp s - 1 else lanesUp s) < 2)

/-- RETRAIN: a receive lane re-enters PHASE; an OFF or DOWN transmit lane runs its self-monitor and goes to OFF if it
passes, and else stays as it is and raises nothing; an ACTIVE one resends training under R117, once the bursts in flight have ended (R126,
log 205). -/
def retrainCmd (p : Port) (lane : Nat) (selfOk : Bool) (s : State) : State :=
  laneCmd p (!isRxLane lane && !isTxLane lane) (!enabled s 0x08 || leavesTooFew s lane)
    (fun s =>
      let s := laneDone s
      if isRxLane lane then rxEnter lane 1 s
      else
        let f := txStateF (lane - 4)
        if rd s f = 3 then
          let start := max s.time.cycle (flightEnd s)
          txLowFrom start { s with lane := { s.lane with retrainStart := start, retrainEnd := start + trainSteps s } }
        else if (rd s f = 0 ∨ rd s f = 6) ∧ selfOk then updateLink (wr f 0 s)
        else s) s

/-- HOLD: a receive lane goes to HELD (R126). -/
def holdCmd (p : Port) (lane : Nat) (s : State) : State :=
  laneCmd p (!isRxLane lane) (!enabled s 0x08 || leavesTooFew s lane || decide (rxState s lane = 7))
    (fun s => rxEnter lane 7 (laneDone s)) s

/-- HOLD from a fabric port. -/
def execLaneHold (t : Nat) (p : Port) (lane : Nat) (s : State) : Out := evPort p t s (holdCmd p lane)

/-- RELEASE: a HELD receive lane re-enters PHASE, also while the RXC guard has failed (R126, log 206); it ends a rebuilding that
RX_REVERT = 0 kept when the lane is UP again (R115). -/
def releaseLaneCmd (p : Port) (lane : Nat) (s : State) : State :=
  laneCmd p (!isRxLane lane) (!enabled s 0x08 || decide (rxState s lane ≠ 7))
    (fun s => modRx lane (fun x => { x with released := true }) (rxEnter lane 1 (laneDone s))) s

/-- RELEASE from a fabric port. -/
def execLaneRelease (t : Nat) (p : Port) (lane : Nat) (s : State) : Out := evPort p t s (releaseLaneCmd p lane)

/-- TX_SWAP: substitution to the named transmit lane; its completion is TX_SWAP_DONE (R116, R126). -/
def txSwapCmd (p : Port) (lane : Nat) (s : State) : State :=
  laneCmd p (!isTxLane lane)
    (!enabled s 0x08 || decide (rd s (txStateF (lane - 4)) = 3 ∨ rd s (txStateF (lane - 4)) = 6) || txRetrain s)
    (startSwap (lane - 4) true false) s

/-- TXFLT_CLEAR ends the TXFLT guard substitute; refused with STATE with MOD_TXFLT high or no guard failure (R122, R126). -/
def txfltClearCmd (p : Port) (lane : Nat) (pin : Bool) (s : State) : State :=
  laneCmd p (decide (lane ≠ 0)) (!enabled s 0x08 || pin || !s.lane.fltGuard)
    (fun s => laneDone { s with lane := { s.lane with fltGuard := false } }) s

/-- TXFLT_CLEAR from a fabric port, with the filtered level of the pin. -/
def execTxfltClear (t : Nat) (p : Port) (lane : Nat) (pin : Bool) (s : State) : Out :=
  evPort p t s fun s => txfltClearCmd p lane pin (wrB LANE.TXFLT_FILT pin s)

/-! ## Module status pins (R121, R122) -/

/-- The events of the last second, the present one included (R519). -/
def inSecond (now : Nat) (l : List Nat) : List Nat := l.filter fun c => decide (now < c + secondSteps)

/-- A filtered MOD_SD edge: the level, and the chatter guard (R121, R519). -/
def execModSdEdge (t : Nat) (level : Bool) (s : State) : Out :=
  ev t s fun s =>
    let edges := inSecond s.time.cycle (s.time.cycle :: s.lane.sdEdges)
    let s := wrB LANE.SD_FILT level s
    let s := { s with lane := { s.lane with
      sdEdges := edges
      sdLowTick := if level then s.lane.sdLowTick else s.time.ticks
      sdLowCycle := if level then s.lane.sdLowCycle else s.time.cycle
      sdIgnored := s.lane.sdIgnored && !level } }
    let s := if decide (rd s LANE.SD_MAX_EDGES < edges.length) && !s.lane.sdChatter then
        { (s |> incSat LANE.SD_FAILS |> raise 0x08 7) with lane := { s.lane with sdChatter := true } }
      else s
    updateLink s

/-- SD_CHATTER recovers at the first instant the count over the last second is at or below MAX_EDGES (R121, R519). -/
def sdRecover (s : State) : State :=
  if s.lane.sdChatter && decide ((inSecond s.time.cycle s.lane.sdEdges).length ≤ rd s LANE.SD_MAX_EDGES) then
    updateLink { s with lane := { s.lane with sdChatter := false, sdEdges := inSecond s.time.cycle s.lane.sdEdges } }
  else s

/-- A receive lane has passed every window since a cycle. -/
def passedSince (s : State) (n c : Nat) : Bool :=
  decide (rxState s n = 5) && (match (rxOf s n).lastFail with | some f => decide (f < c) | none => true)

/-- MOD_SD low for TIMEOUT ticks while two or more lanes pass every window: the pin is ignored (R121). -/
def execSdContradict (t : Nat) (s : State) : Out :=
  ev t s fun s =>
    if rd s LANE.SD_FILT = 0 ∧ s.lane.sdIgnored = false ∧ s.lane.sdLowTick + rd s LANE.SD_TIMEOUT ≤ s.time.ticks
        ∧ 2 ≤ ((List.range 3).filter fun n => passedSince s n s.lane.sdLowCycle).length then
      let s := s |> incSat LANE.SD_FAILS |> raise 0x08 7
      updateLink { s with lane := { s.lane with sdIgnored := true } }
    else s

/-- The TXFLT guard fails: its cause, and MOD_TXEN held low until TXFLT_CLEAR (R122). -/
def txfltFail (s : State) : State :=
  if s.lane.fltGuard then s
  else { (s |> incSat LANE.TXFLT_FAILS |> raise 0x08 9) with lane := { s.lane with fltGuard := true } }

/-- The tick from which TXFLT_GUARD.TIMEOUT counts: MOD_TXEN falls in the cycle after the assertion; where it was low already, the tick of
the assertion (R122, log 210). -/
def fallTick (s : State) : Nat :=
  if txenDriven s && decide ((s.time.sc + 1) % tickSteps = 0) then s.time.ticks + 1 else s.time.ticks

/-- A filtered MOD_TXFLT assertion: MOD_TXEN falls, a burst is aborted, TXFLT is raised, and the count per second is guarded
(R122). What ACTV does of it follows in Actv.lean. -/
def txfltAssert (s : State) : State :=
  let times := inSecond s.time.cycle (s.time.cycle :: s.lane.fltTimes)
  let tick := fallTick s
  let s := s |> wr LANE.TXFLT_FILT 1 |> abortBurst |> raise 0x08 8
  let s := { s with lane := { s.lane with fltTimes := times, fltTick := tick } }
  if rd s LANE.TXFLT_MAX < times.length then txfltFail s else s

/-! ## The RXC guard (R103, R123) -/

/-- The RXC guard fails: RXC_GUARD, every lane that is not OFF or HELD goes DOWN, and CLK_CORE leaves the line clock in the
same cycle (R103, R123). -/
def rxcFail (s : State) : State :=
  let s := s |> wr LANE.RXC_OK 0 |> incSat LANE.RXC_FAILS |> raise 0x08 6
  let s := { s with lane := { s.lane with rxcRun := 0 } }
  let s := if rd s SYS.CORE_SRC = 2 then setCoreSrc 1 s else s
  updateLink (forEach [0, 1, 2] (fun n s => if rxState s n = 0 ∨ 6 ≤ rxState s n then s else rxPlace n 6 s) s)

/-- RXC shows no edge for TIMEOUT REFCLK periods (R123). -/
def execRxcTimeout (t : Nat) (s : State) : Out :=
  ev t s fun s => if rd s LANE.RXC_OK = 1 then rxcFail s else { s with lane := { s.lane with rxcRun := 0 } }

/-- The RXC guard recovers: while LANE is enabled every lane but a HELD one returns to PHASE (R107, R123). -/
def rxcRecover (s : State) : State :=
  let s := wr LANE.RXC_OK 1 s
  let s := if enabled s 0x08 then
      forEach [0, 1, 2] (fun n s => if rxState s n = 7 then s else rxEnter n 1 s) s
    else s
  updateLink s

/-- A measurement window of 2^20 REFCLK cycles ends (R123). -/
def execRxcWindow (t : Nat) (ppm : Int) (s : State) : Out :=
  ev t s fun s =>
    let s := wrS LANE.RXC_PPM ppm s
    if rd s LANE.RXC_RANGE_PPM < ppm.natAbs then
      if rd s LANE.RXC_OK = 1 then rxcFail s else { s with lane := { s.lane with rxcRun := 0 } }
    else
      let n := s.lane.rxcRun + 1
      let s := { s with lane := { s.lane with rxcRun := n } }
      if rd s LANE.RXC_OK = 0 ∧ max 1 (rd s LANE.RXC_FILTER) ≤ n then rxcRecover s else s

/-! ## Page enable (R125) -/

/-- The transmit lanes stop: both are OFF, MOD_TXEN is low, and a burst in flight ends as an aborted one (R124, R125, log 209). -/
def txOff (s : State) : State :=
  let s := dropSwap (abortBurst s) |> wr LANE.TXD0_STATE 0 |> wr LANE.TXD1_STATE 0
  updateLink { s with lane := { s.lane with txTrain := none, retrainStart := 0, retrainEnd := 0 } }

/-- LANE's ENABLE changes: 1 starts the lanes at PHASE once the RXC guard holds, those that a repair record names HELD; 0 turns every
lane OFF and stops TXC (R107, R125, R468). -/
def laneEnable (on : Bool) (s : State) : State :=
  if on then
    let s := forEach s.rpr.rxHeld (rxEnter · 7) s
    let s := if rd s LANE.RXC_OK = 1 then forEach ([0, 1, 2].filter fun n => !s.rpr.rxHeld.contains n) (rxEnter · 1) s else s
    updateLink (if rd s LANE.TX_ENABLE = 1 then startTx s else s)
  else
    let s := forEach [0, 1, 2] (fun n s => modRx n (fun x => { x with released := false }) (wr (rxStateF n) 0 s)) s
    txOff (wr LANE.RX_SUBST 0 s)

/-- TX_ENABLE changes while LANE is enabled (R110, R124). -/
def txEnable (on : Bool) (s : State) : State :=
  if on then (if enabled s 0x08 then startTx s else s)
  else txOff s

end Sys2Proof.Machine
end

