-- ==== Sys2Proof/Machine/Cipher.lean ====
section
/-! DEFINITION. The round engines' cipher and the modes of R211: AES (FIPS 197), GHASH and GCM tags (SP 800-38D), CMAC
(SP 800-38B) and KW (SP 800-38F). A 16-byte block is a number, its first byte the most significant. -/
namespace Sys2Proof.Machine

/-! ## AES (FIPS 197) -/

/-- Multiplication by x in GF(2^8). -/
def xtime (b : Nat) : Nat := if b < 128 then 2 * b else ((2 * b) ^^^ 0x11B) % 256

/-- Multiplication in GF(2^8). -/
def gmul (a b : Nat) : Nat :=
  ((List.range 8).foldl (fun (z : Nat × Nat) i => (if bit b i then z.1 ^^^ z.2 else z.1, xtime z.2)) (0, a)).1

/-- The inverse in GF(2^8), a to the power 254; 0 for 0. -/
def ginv (a : Nat) : Nat :=
  let a2 := gmul a a
  let a4 := gmul a2 a2
  let a8 := gmul a4 a4
  let a16 := gmul a8 a8
  let a32 := gmul a16 a16
  let a64 := gmul a32 a32
  let a128 := gmul a64 a64
  gmul a2 (gmul a4 (gmul a8 (gmul a16 (gmul a32 (gmul a64 a128)))))

/-- A byte rotated left. -/
def rotl8 (a n : Nat) : Nat := (a * 2 ^ n + a / 2 ^ (8 - n)) % 256

/-- SubBytes of one byte. -/
def sbox (a : Nat) : Nat :=
  let i := ginv a
  i ^^^ rotl8 i 1 ^^^ rotl8 i 2 ^^^ rotl8 i 3 ^^^ rotl8 i 4 ^^^ 0x63

/-- InvSubBytes of one byte. -/
def sboxInv (a : Nat) : Nat := ginv (rotl8 a 1 ^^^ rotl8 a 3 ^^^ rotl8 a 6 ^^^ 0x05)

/-- The key schedule: words of 4 bytes, latest first, n more to make; i counts the words and rc is the round constant. -/
def expandKey (n nk i rc : Nat) (ws : List (List Nat)) : List (List Nat) :=
  match n with
  | 0 => ws.reverse
  | n + 1 =>
    let t := ws.headD []
    let u := if i % nk = 0 then xorBytes ((t.drop 1 ++ t.take 1).map sbox) [rc, 0, 0, 0]
      else if 6 < nk ∧ i % nk = 4 then t.map sbox else t
    expandKey n nk (i + 1) (if i % nk = 0 then xtime rc else rc) (xorBytes (ws.getD (nk - 1) []) u :: ws)

/-- The round keys of a key of 16, 24 or 32 bytes, 16 bytes each. -/
def roundKeys (key : List Nat) : List (List Nat) :=
  let nk := key.length / 4
  let ws := (List.range nk).map fun i => (key.drop (4 * i)).take 4
  let all := expandKey (4 * (nk + 7) - nk) nk nk 1 ws.reverse
  (List.range (nk + 7)).map fun r => ((all.drop (4 * r)).take 4).flatten

/-- ShiftRows: row r of column c comes from column c + r. -/
def shiftRows (s : List Nat) : List Nat := (List.range 16).map fun k => s.getD ((k + 4 * (k % 4)) % 16) 0
/-- InvShiftRows. -/
def shiftRowsInv (s : List Nat) : List Nat := (List.range 16).map fun k => s.getD ((k + 12 * (k % 4)) % 16) 0

/-- A column transform with the first row of a circulant matrix. -/
def mixWith (m : List Nat) (s : List Nat) : List Nat :=
  (List.range 16).map fun k =>
    (List.range 4).foldl (fun a j => a ^^^ gmul (s.getD (k / 4 * 4 + j) 0) (m.getD ((j + 4 - k % 4) % 4) 0)) 0

/-- The rounds of the cipher over the remaining round keys; the last has no MixColumns. -/
def aesRounds (s : List Nat) (ks : List (List Nat)) : List Nat :=
  match ks with
  | [] => s
  | [k] => xorBytes (shiftRows (s.map sbox)) k
  | k :: r => aesRounds (xorBytes (mixWith [2, 3, 1, 1] (shiftRows (s.map sbox))) k) r

/-- The rounds of the inverse cipher over the remaining round keys, the last first. -/
def aesRoundsInv (s : List Nat) (ks : List (List Nat)) : List Nat :=
  match ks with
  | [] => s
  | [k] => xorBytes ((shiftRowsInv s).map sboxInv) k
  | k :: r => aesRoundsInv (mixWith [14, 11, 13, 9] (xorBytes ((shiftRowsInv s).map sboxInv) k)) r

/-- AES of one block in the forward direction (R209). -/
def aesBlock (key : List Nat) (b : Nat) : Nat :=
  match roundKeys key with
  | k :: r => be (aesRounds (xorBytes (toBe 16 b) k) r)
  | [] => 0

/-- AES of one block in the inverse direction (R209). -/
def aesBlockInv (key : List Nat) (b : Nat) : Nat :=
  match (roundKeys key).reverse with
  | k :: r => be (aesRoundsInv (xorBytes (toBe 16 b) k) r)
  | [] => 0

/-- A block takes 10, 12 or 14 cycles by KEYLEN (R209). -/
def blockCycles (keylen : Nat) : Nat := 10 + 2 * keylen

/-! ## Modes (R211) -/

/-- A message cut into blocks of n bytes, the last one possibly short. -/
def blocksBy (fuel n : Nat) (l : List Nat) : List (List Nat) :=
  match fuel with
  | 0 => []
  | fuel + 1 => if l = [] then [] else l.take n :: blocksBy fuel n (l.drop n)

/-- A block padded with zeros to 16 bytes, as a number. -/
def padZero (l : List Nat) : Nat := be l * 256 ^ (16 - l.length)

/-- Bytes through the CTR keystream from a counter block, incremented modulo 2^128 (R211). -/
def ctrBytes (key : List Nat) (ctr : Nat) (l : List Nat) : List Nat :=
  ((blocksBy l.length 16 l).zipIdx).flatMap fun x =>
    xorBytes x.1 (toBe 16 (aesBlock key ((ctr + x.2) % 2 ^ 128)))

/-- A counter block plus n in its low 32 bits, as GCM increments it. -/
def inc32 (ctr n : Nat) : Nat := ctr / 2 ^ 32 * 2 ^ 32 + (ctr + n) % 2 ^ 32

/-- Bytes through the GCM keystream from a counter block. -/
def gctrBytes (key : List Nat) (ctr : Nat) (l : List Nat) : List Nat :=
  ((blocksBy l.length 16 l).zipIdx).flatMap fun x => xorBytes x.1 (toBe 16 (aesBlock key (inc32 ctr x.2)))

/-- Multiplication in GF(2^128) as GHASH defines it. -/
def ghMul (x y : Nat) : Nat :=
  ((List.range 128).foldl (fun (z : Nat × Nat) i =>
    (if bit x (127 - i) then z.1 ^^^ z.2 else z.1, if z.2 % 2 = 1 then z.2 / 2 ^^^ 0xE1 * 2 ^ 120 else z.2 / 2)) (0, y)).1

/-- GHASH goes on from an accumulator over bytes, each partial last block padded with zeros. -/
def ghash (h acc : Nat) (l : List Nat) : Nat :=
  (blocksBy l.length 16 l).foldl (fun a b => ghMul (a ^^^ padZero b) h) acc

/-- The 128-bit GCM tag from an accumulator that holds the whole AAD and ciphertext. -/
def gcmFinal (key : List Nat) (iv acc aadLen payLen : Nat) : Nat :=
  let h := aesBlock key 0
  ghMul (acc ^^^ (8 * aadLen * 2 ^ 64 + 8 * payLen)) h ^^^ aesBlock key (iv % 2 ^ 96 * 2 ^ 32 + 1)

/-- The 128-bit GCM tag of AAD and ciphertext under a 96-bit IV. -/
def gcmTag (key : List Nat) (iv : Nat) (aad payload : List Nat) : Nat :=
  let h := aesBlock key 0
  gcmFinal key iv (ghash h (ghash h 0 aad) payload) aad.length payload.length

/-- Doubling in GF(2^128), for the CMAC subkeys. -/
def cmacDbl (v : Nat) : Nat := (2 * v) % 2 ^ 128 ^^^ (if v / 2 ^ 127 = 1 then 0x87 else 0)

/-- The CMAC chaining value goes on over full blocks. -/
def cmacChain (key : List Nat) (acc : Nat) (bs : List (List Nat)) : Nat :=
  bs.foldl (fun a b => aesBlock key (a ^^^ be b)) acc

/-- The last block of a CMAC: a full one under K1, a partial one padded under K2. -/
def cmacLast (key : List Nat) (acc : Nat) (b : List Nat) : Nat :=
  let k1 := cmacDbl (aesBlock key 0)
  if b.length = 16 then aesBlock key (acc ^^^ be b ^^^ k1)
  else aesBlock key (acc ^^^ padZero (b ++ [0x80]) ^^^ cmacDbl k1)

/-- The 128-bit CMAC of a message. -/
def cmac (key : List Nat) (l : List Nat) : Nat :=
  let bs := blocksBy l.length 16 l
  cmacLast key (cmacChain key 0 bs.dropLast) (bs.getLastD [])

/-- One step of the KW wrap of SP 800-38F: step t over semi-block i. -/
def kwStep (key : List Nat) (a : Nat) (t r : Nat) : Nat × Nat :=
  let b := aesBlock key (a * 2 ^ 64 + r)
  (b / 2 ^ 64 ^^^ t, b % 2 ^ 64)

/-- One pass of the wrap over the semi-blocks; t counts the steps. -/
def kwPass (key : List Nat) (a t : Nat) (rs : List Nat) : Nat × List Nat :=
  match rs with
  | [] => (a, [])
  | r :: rest =>
    let (a, r) := kwStep key a t r
    let (a, rest) := kwPass key a (t + 1) rest
    (a, r :: rest)

/-- KW wrap: 8 more bytes than its input. -/
def kwWrap (key : List Nat) (l : List Nat) : List Nat :=
  let rs := (blocksBy l.length 8 l).map be
  let (a, rs) := (List.range 6).foldl (fun (x : Nat × List Nat) j => kwPass key x.1 (j * rs.length + 1) x.2)
    (0xA6A6A6A6A6A6A6A6, rs)
  toBe 8 a ++ rs.flatMap (toBe 8)

/-- One pass of the unwrap over the semi-blocks, the last first; t counts the steps down. -/
def kwPassInv (key : List Nat) (a t : Nat) (rs : List Nat) : Nat × List Nat :=
  match rs with
  | [] => (a, [])
  | r :: rest =>
    let b := aesBlockInv key ((a ^^^ t) * 2 ^ 64 + r)
    let (a, rest) := kwPassInv key (b / 2 ^ 64) (t - 1) rest
    (a, b % 2 ^ 64 :: rest)

/-- KW unwrap; none where the integrity check fails. -/
def kwUnwrap (key : List Nat) (l : List Nat) : Option (List Nat) :=
  match (blocksBy l.length 8 l).map be with
  | [] => none
  | a :: rs =>
    let (a, rs) := (List.range 6).foldl (fun (x : Nat × List Nat) j => kwPassInv key x.1 ((6 - j) * rs.length) x.2)
      (a, rs.reverse)
    if a = 0xA6A6A6A6A6A6A6A6 ∧ l.length % 8 = 0 ∧ 24 ≤ l.length then some (rs.reverse.flatMap (toBe 8)) else none

/-- CRC-32 of IEEE 802.3. -/
def crc32 (l : List Nat) : Nat :=
  (l.foldl (fun c b => (List.range 8).foldl (fun c _ => if c % 2 = 1 then c / 2 ^^^ 0xEDB88320 else c / 2) (c ^^^ b))
    0xFFFFFFFF) ^^^ 0xFFFFFFFF

end Sys2Proof.Machine
end

