-- ==== Sys2Proof/Machine/Ledger.lean ====
section
/-! DEFINITION. The conservation ledgers (R54 to R68): the tallies of a trigger, the balances, breaks and halts, and the
snapshot bank. -/
namespace Sys2Proof.Machine

/-! ## The guarantee (R55, R56) -/

/-- A COND_LOST bit latches: 0 SUPPLY, 1 THERMAL, 2 UE, 3 TEST. GUARANTEE clears, and the cause is raised on a change from 0
to 1 (R56). -/
def condLost (b : Nat) (s : State) : State :=
  if bit (rd s LEDG.COND_LOST) b then s
  else s |> wr LEDG.COND_LOST (rd s LEDG.COND_LOST + 2 ^ b) |> wr LEDG.GUARANTEE 0 |> raise 0x02 2

/-! ## TRIG tallies (R46, R54) -/

/-- The TRIG tallies of a unit. -/
def tallyOf (l : List (Nat × TrigTally)) (u : Nat) : TrigTally :=
  match l.find? (fun x => x.1 == u) with
  | some x => x.2
  | none => {}

/-- Change the TRIG tallies of a unit. -/
def modTally (u : Nat) (f : TrigTally → TrigTally) (s : State) : State :=
  { s with led := { s.led with trig := (u, f (tallyOf s.led.trig u)) :: s.led.trig.filter (fun x => x.1 != u) } }

/-- A trigger reaches a unit: it counts under its source (R54). -/
def countSrc (src : TrigSrc) (u : Nat) (s : State) : State :=
  modTally u (fun x => match src with
    | .orry => { x with orry := x.orry + 1 }
    | .pin => { x with pin := x.pin + 1 }
    | .cmd => { x with cmd := x.cmd + 1 }) s

/-- A trigger is executed. -/
def trigExec (u : Nat) (s : State) : State := modTally u (fun x => { x with executed := x.executed + 1 }) s
/-- A trigger is merged. -/
def trigMerge (u : Nat) (s : State) : State := modTally u (fun x => { x with merged := x.merged + 1 }) s
/-- A trigger is refused. -/
def trigRefuse (u : Nat) (s : State) : State := modTally u (fun x => { x with refused := x.refused + 1 }) s
/-- A trigger becomes the one that is pending. -/
def trigPend (u : Nat) (s : State) : State := modTally u (fun x => { x with pend := x.pend + 1 }) s
/-- The pending trigger is executed. -/
def trigUnpend (u : Nat) (s : State) : State :=
  modTally u (fun x => { x with pend := x.pend - 1, executed := x.executed + 1 }) s
/-- The pending trigger is refused (a unit that stops with one pending). -/
def trigDropPend (u : Nat) (s : State) : State :=
  modTally u (fun x => { x with pend := x.pend - 1, refused := x.refused + 1 }) s
/-- A TRIG break halts the unit (R63). -/
def unitHalted (s : State) (u : Nat) : Bool := (tallyOf s.led.trig u).halted

/-- A trigger arrives at a unit: it counts under its source, an Orrery trigger in SENT too (R46, R54); a halted unit, and one
that does not run in the power state, refuses it (R63, R403). -/
def arrive (src : TrigSrc) (u : Nat) (act : State → State) (s : State) : State :=
  let s := countSrc src u s
  let s := if src = .orry then { s with orry := { s.orry with sent := aset s.orry.sent u (aget s.orry.sent u 0 + 1) } } else s
  if unitHalted s u || !unitRuns s u then trigRefuse u s else act s

/-! ## The ENGINE tallies, counted from the DEAL page (R54, R209) -/

/-- Engines in a state of R238: 0 POOL, 1 STANDBY, 2 HELD, 3 RETIRED. -/
def enginesIn (s : State) (st : Nat) : Nat :=
  ((List.range (Variant.engines s.fuse.variant)).filter fun e => decide (rd s (DEAL.ENG_STATE e) = st)).length

/-- Engines a seat holds. -/
def heldBy (s : State) (seat : Nat) : Nat :=
  ((List.range (Variant.engines s.fuse.variant)).filter fun e =>
    decide (rd s (DEAL.ENG_STATE e) = 2 ∧ rd s (DEAL.ENG_SEAT e) = seat)).length

/-! ## Balances, breaks and halts (R54, R57, R63) -/

/-- The balance of one unit's TRIG tallies, modulo 2^32 (R54). -/
def trigBalanced (x : TrigTally) : Bool :=
  decide ((x.orry + x.pin + x.cmd) % 2 ^ 32 = (x.executed + x.merged + x.refused + x.pend) % 2 ^ 32)

/-- The MONEY balance of one account, in 64-bit arithmetic (R54, R361). -/
def accountBalanced (s : State) (a : Nat) : Bool :=
  decide ((rd s (PREP.BALANCE a) + rd s (PREP.CONSUMED a) + rd s (PREP.EXPIRED a) + rd s (PREP.EMERG_OUT a)) % 2 ^ 64
    = rd s (PREP.LOADED a))

/-- A MONEY tally: the sum over the accounts (R361). -/
def moneySum (s : State) (f : Nat → Fld) : Nat := (List.range 8).foldl (fun v a => v + rd s (f a)) 0

/-- The balance of a domain holds: 0 CELLS, 1 DESC, 2 CREDIT, 3 TRIG, 4 NONCE, 5 ENGINE, 6 MONEY, 7 MASS, 8 VOL (R54). -/
def balanced (s : State) (d : Nat) : Bool :=
  let l := s.led
  match d with
  | 0 => decide (l.cellsFree + l.cellsQueued + l.cellsStaged + l.cellsQuar = 65536)
  | 1 => decide (l.descFree + l.descInUse = 32768)
  | 2 => decide (l.specDebit = l.confirmed + l.refunded + l.creditPend)
  | 3 => l.trig.all fun x => trigBalanced x.2
  | 4 => decide (l.allocated = l.transmitted + l.burned + l.nonceOpen)
  | 5 => decide (enginesIn s 0 + enginesIn s 1 + enginesIn s 2 + enginesIn s 3 = Variant.engines s.fuse.variant)
  | 6 => (List.range 8).all (accountBalanced s)
  | 7 => decide (l.massTotal = l.massDelivered + l.massResidue)
  | 8 => decide (l.volTotal = l.volDelivered + l.volResidue)
  | _ => true

/-- The BREAK bit of a domain. -/
def broken (s : State) (d : Nat) : Bool := bit (rd s LEDG.BREAK) d

/-- The traffic manager is halted by a CELLS, DESC or CREDIT break (R63). -/
def tmHalted (s : State) : Bool := broken s 0 || broken s 1 || broken s 2

/-- The LGC billing service is halted by a MONEY, MASS or VOL break (R63). -/
def billHalted (s : State) : Bool := broken s 6 || broken s 7 || broken s 8

/-- The page of a unit code (R41, R63). -/
def unitPage (u : Nat) : Nat := if u = 0xF1 then 0x04 else u

/-- The halt of a page by a break of a domain that its unit owns (R63). -/
def domainHalt (s : State) (page : Nat) : Bool :=
  (decide (page = 0x10) && tmHalted s) || (decide (page = 0x20) && broken s 4) || (decide (page = 0x21) && broken s 5)
    || (decide (page = 0x68) && billHalted s)

/-- The pages whose HALTED shows the breaks: those of the domains and those of the units with TRIG tallies (R63). -/
def haltPages (s : State) : List Nat := [0x10, 0x20, 0x21, 0x68] ++ s.led.trig.map fun x => unitPage x.1

/-- PAGE_STATUS.HALTED of the pages that the breaks halt (R63). -/
def showHalts (s : State) : State :=
  forEach (haltPages s) (fun g => wrB (HDR.HALTED g)
    (domainHalt s g || s.led.trig.any fun x => decide (unitPage x.1 = g) && x.2.halted)) s

/-- The check of every balance in a commit cycle: BREAK, BREAK_TICK and LEDGER_BREAK, and the TRIG halts (R57, R63). -/
def checkBalances (s : State) : State :=
  let bad := (List.range 9).filter fun d => !balanced s d
  let fresh := bad.filter fun d => !broken s d
  let newUnit := s.led.trig.any fun x => !trigBalanced x.2 && !x.2.halted
  if bad = [] then s else
  let s := if rd s LEDG.BREAK = 0 then wr LEDG.BREAK_TICK (scReg s.time.sc) s else s
  let s := wr LEDG.BREAK (fresh.foldl (fun a d => a + 2 ^ d) (rd s LEDG.BREAK)) s
  let s := { s with led := { s.led with
    trig := s.led.trig.map fun x => (x.1, { x.2 with halted := x.2.halted || !trigBalanced x.2 }) } }
  let s := when (fresh != [] || newUnit) (raise 0x02 1) s
  showHalts s

/-! ## The snapshot bank (R58, R59, R68) -/

/-- Copy every tally into the bank (R58, R68). -/
def copyTallies (s : State) : State :=
  let l := s.led
  let seats := (List.range 5).foldl (fun a k => a + heldBy s k * 16 ^ k) 0
  { s with led := { s.led with snapTrig := s.led.trig } }
    |> wr LEDG.S_CELLS_FREE l.cellsFree |> wr LEDG.S_CELLS_QUEUED l.cellsQueued
    |> wr LEDG.S_CELLS_STAGED l.cellsStaged |> wr LEDG.S_CELLS_QUARANTINED l.cellsQuar
    |> wr LEDG.S_DESC_FREE l.descFree |> wr LEDG.S_DESC_IN_USE l.descInUse
    |> wr LEDG.S_SPEC_DEBIT l.specDebit |> wr LEDG.S_CONFIRMED l.confirmed |> wr LEDG.S_REFUNDED l.refunded
    |> wr LEDG.S_CREDIT_PENDING l.creditPend |> wr LEDG.S_NONCE_ALLOCATED l.allocated
    |> wr LEDG.S_NONCE_TRANSMITTED l.transmitted |> wr LEDG.S_NONCE_BURNED l.burned |> wr LEDG.S_NONCE_OPEN l.nonceOpen
    |> wr LEDG.S_ENG_FITTED (Variant.engines s.fuse.variant)
    |> wr LEDG.S_ENG_POOL (enginesIn s 0 + enginesIn s 1) |> wr LEDG.S_ENG_STANDBY (enginesIn s 1)
    |> wr LEDG.S_ENG_HELD (enginesIn s 2) |> wr LEDG.S_ENG_RETIRED (enginesIn s 3)
    |> wr LEDG.S_ENG_HELD_BY_SEAT seats
    |> wr LEDG.S_MONEY_LOADED (moneySum s PREP.LOADED) |> wr LEDG.S_MONEY_BALANCE (moneySum s PREP.BALANCE)
    |> wr LEDG.S_MONEY_CONSUMED (moneySum s PREP.CONSUMED) |> wr LEDG.S_MONEY_EXPIRED (moneySum s PREP.EXPIRED)
    |> wr LEDG.S_MONEY_EMERG_OUT (moneySum s PREP.EMERG_OUT)
    |> wrS LEDG.S_MASS_TOTAL l.massTotal |> wrS LEDG.S_MASS_DELIVERED l.massDelivered
    |> wrS LEDG.S_MASS_RESIDUE l.massResidue |> wrS LEDG.S_VOL_TOTAL l.volTotal
    |> wrS LEDG.S_VOL_DELIVERED l.volDelivered |> wrS LEDG.S_VOL_RESIDUE l.volResidue

/-- The snapshot of a commit cycle: SNAP_SEQ, SNAP_SC, SNAP_HELD and SNAP_READY (R58). -/
def takeSnapshot (s : State) : State :=
  copyTallies s |> wr LEDG.SNAP_PENDING 0 |> wr LEDG.SNAP_HELD 1 |> inc LEDG.SNAP_SEQ
    |> wr LEDG.SNAP_SC (scReg s.time.sc) |> raise 0x02 0

/-- The code of a writer in SNAP_OWNER: the LGC is owner 0 (R59, R67). -/
def Writer.code : Writer → Nat
  | .lgc => 0
  | .fabric p => p.code

/-- The bank is held (R59). -/
def snapshotTaken (s : State) : Bool := decide (rd s LEDG.SNAP_HELD = 1)

/-- SNAPSHOT: its writer becomes owner, or it merges with a pending one, or it is refused with BUSY (R59). -/
def snapshotCmd (w : Writer) (s : State) : State :=
  writerCmd w 0x02 0x040 none (snapshotTaken s) false []
    (fun s => if rd s LEDG.SNAP_PENDING = 1 then s
      else { s with led := { s.led with snapAt := s.time.cycle } } |> wr LEDG.SNAP_PENDING 1 |> wr LEDG.SNAP_OWNER (Writer.code w)) s

/-- SNAPSHOT from a fabric port, or from the LGC through its own path (R19, R59). -/
def execSnapshot (t : Nat) (w : Writer) (s : State) : Out := evBy (.writer w) t s (snapshotCmd w)

/-- A snapshot accepted before the present cycle waits (R58). -/
def snapshotDue (s : State) : Bool := decide (rd s LEDG.SNAP_PENDING = 1 ∧ s.led.snapAt < s.time.cycle)

/-- SNAPSHOT_COPY: due in a commit cycle, a step tick included (R58). -/
def execSnapshotCopy (t : Nat) (s : State) : Out :=
  ev t s fun s => if snapshotDue s && (onTick s || s.sidr.stepTick) then takeSnapshot s else s

/-- The bank is held by another writer (R59). -/
def notOwner (w : Writer) (s : State) : Bool := decide (rd s LEDG.SNAP_HELD = 1 ∧ rd s LEDG.SNAP_OWNER ≠ Writer.code w)

/-- RELEASE: LOCKED from a writer that is not the owner, STATE with nothing held (R59). -/
def releaseCmd (w : Writer) (s : State) : State :=
  writerCmd w 0x02 0x040 none false false [(notOwner w s, .locked), (decide (rd s LEDG.SNAP_HELD = 0), .state)] (wr LEDG.SNAP_HELD 0) s

/-- RELEASE from a fabric port or the LGC. -/
def execSnapshotRelease (t : Nat) (w : Writer) (s : State) : Out := evBy (.writer w) t s (releaseCmd w)

/-- A domain's BREAK bit and its halts end (R64). -/
def endBreak (d : Nat) (s : State) : State :=
  let s := if broken s d then wr LEDG.BREAK (rd s LEDG.BREAK - 2 ^ d) s else s
  let s := if d = 3 then { s with led := { s.led with trig := s.led.trig.map fun x => (x.1, { x.2 with halted := false }) } }
    else s
  showHalts s

/-- CLEAR_BREAK from a fabric port: SEALED for MONEY, MASS and VOL, RANGE above 8, LEDGER while the balance fails
(R64, R67). -/
def clearBreakCmd (p : Port) (d : Nat) (s : State) : State :=
  fabricCmd p 0x02 0x040 none
    [(decide (6 ≤ d ∧ d ≤ 8), .sealed), (decide (8 < d), .range), (!balanced s d, .ledger)] (endBreak d) s

/-- CLEAR_BREAK from a fabric port. -/
def execClearBreak (t : Nat) (p : Port) (domain : Nat) (s : State) : Out := evPort p t s (clearBreakCmd p domain)

end Sys2Proof.Machine
end

