-- ==== Sys2Proof/Machine/Sched.lean ====
section
/-! DEFINITION. The traffic manager's arbiters (R187 to R191): which frame a port's hierarchy or a flat direction takes next,
what its commit debits, and the refill of the token buckets. -/
namespace Sys2Proof.Machine

/-! ## Queues and their ports (R187) -/

/-- Insert a number into a rising list without repeats. -/
def insSorted (l : List Nat) (n : Nat) : List Nat :=
  match l with
  | [] => [n]
  | x :: r => if n < x then n :: x :: r else if n = x then x :: r else x :: insSorted r n

/-- A list as a rising list without repeats. -/
def sortDedup (l : List Nat) : List Nat := l.foldl insSorted []

/-- The queues that hold a queued frame. -/
def fullQueues (s : State) : List Nat := sortDedup (s.tm.queues.map (·.1))

/-- A queue's direction works in flat mode. With one direction flat, a queue's PARENT is read as that direction's port where it
names one and its hierarchical chain does not lead to the other direction (log 18). -/
def flatQueue (s : State) (q : Nat) : Bool :=
  let up := rd s TMGR.UP_FLAT = 1
  let dn := rd s TMGR.DN_FLAT = 1
  let par := queueParent s q
  let h := nodeOf s q 3
  if up ∧ dn then true
  else if up then decide (h < 16 ∧ par < 16)
  else if dn then decide (16 ≤ par ∧ par ≤ 18)
  else false

/-- The port a queue leads to. -/
def queuePort (s : State) (q : Nat) : Nat := if flatQueue s q then queueParent s q else nodeOf s q 3

/-- The chain of a queue is enabled: in flat mode the queue alone. -/
def chainOn (s : State) (q : Nat) : Bool :=
  decide (rd s (QUE.Q_EN (q / 256) (q % 256)) = 1)
    && (flatQueue s q || (decide (rd s (SCHED.SUB_EN (nodeOf s q 1)) = 1) && decide (rd s (SCHED.SVC_EN (nodeOf s q 2)) = 1)))

/-- The queues in service that lead to a port and hold a queued frame. -/
def servedQueues (s : State) (port : Nat) : List Nat :=
  (fullQueues s).filter fun q => chainOn s q && decide (queuePort s q = port)

/-- The oldest queued frame of a queue. -/
def headFrame (s : State) (q : Nat) : Option QFrame := (aget s.tm.queues q []).head?

/-! ## Shapers (R188, R191) -/

/-- The units of a byte in a bucket: 40 refill steps a frame of 16.16 rates. -/
def byteUnits : Nat := 2621440

/-- Whether a child is committed (0), excess (1) or not eligible (2) at a level; queues and ports are never shaped (R188). -/
def shapeClass (s : State) (lvl node : Nat) : Nat :=
  if lvl = 1 ∨ lvl = 2 then
    let sh := aget s.tm.shapers (lvl - 1, node) {}
    if !sh.en then 0 else if 0 < sh.c then 0 else if 0 < sh.p then 1 else 2
  else 0

/-- The quantum of a child at a level. -/
def quantumOf (s : State) (lvl node : Nat) : Nat :=
  if lvl = 0 then rd s (QUE.Q_QUANTUM (node / 256) (node % 256)) else if lvl = 1 then rd s (SCHED.SUB_QUANTUM node)
  else if lvl = 2 then rd s (SCHED.SVC_QUANTUM node) else rd s (SCHED.PORT_QUANTUM node)

/-! ## Deficit round robin (R188) -/

/-- The children visited in turn until one's deficit covers its head frame: the children's new state and the child chosen.
Each entry of the order gives child, head length and quantum; fuel bounds the visits. -/
def drrLoop (fuel lvl : Nat) (order rest : List (Nat × Nat × Nat)) (ch : List ((Nat × Nat) × Child)) :
    Option (List ((Nat × Nat) × Child) × Nat) :=
  match fuel with
  | 0 => none
  | fuel + 1 =>
    match (if rest = [] then order else rest) with
    | [] => none
    | (c, len, quantum) :: r =>
      let x := aget ch (lvl, c) {}
      let x := if x.newTurn then { deficit := x.deficit + quantum, newTurn := false } else x
      if (len : Int) ≤ x.deficit then some (aset ch (lvl, c) x, c)
      else drrLoop fuel lvl order r (aset ch (lvl, c) { x with newTurn := true })

/-- The order of visits: from the pointer on, wrapping (R188). -/
def rotateFrom (p : Nat) (l : List (Nat × Nat × Nat)) : List (Nat × Nat × Nat) :=
  l.filter (fun x => decide (p ≤ x.1)) ++ l.filter (fun x => decide (x.1 < p))

/-- The children of an arbiter at level lvl + 1 among the queues that may be served. -/
def kidsOf (s : State) (qs : List Nat) (lvl node : Nat) : List Nat :=
  sortDedup ((qs.filter fun q => lvl = 3 || decide (nodeOf s q (lvl + 1) = node)).map fun q => nodeOf s q lvl)

/-- What an arbiter chooses among queues: level 1 a subscriber, 2 a service node, 3 a port, 4 an engine. The state that
results carries the visits of the arbiters on the path, which only a commit keeps (R188). -/
def pickAt (lvl : Nat) (qs : List Nat) (node : Nat) (s : State) : Option (State × Nat × QFrame) :=
  match lvl with
  | 0 => (headFrame s node).map fun f => (s, node, f)
  | lvl + 1 =>
    let heads := (kidsOf s qs lvl node).filterMap fun k =>
      (pickAt lvl qs k s).map fun x => (k, x.2.2.data.length, quantumOf s lvl k)
    let com := heads.filter fun x => decide (shapeClass s lvl x.1 = 0)
    let exc := heads.filter fun x => decide (shapeClass s lvl x.1 = 1)
    let set := if com = [] then exc else com
    let ptr := (lvl + 1, node, decide (com ≠ []))
    let order := rotateFrom (aget s.tm.pointers ptr 0) set
    match drrLoop (160 * set.length) lvl order order s.tm.children with
    | none => none
    | some (ch, c) =>
      pickAt lvl qs c { s with tm := { s.tm with children := ch, pointers := aset s.tm.pointers ptr c } }

/-- The next number after p in a rising list, wrapping (R190). -/
def nextAfter (p : Option Nat) (l : List Nat) : Option Nat :=
  match p with
  | none => l.head?
  | some p => (l.find? fun x => decide (p < x)).orElse fun _ => l.head?

/-- A flat port's next queue, round robin (R190). -/
def pickFlat (s : State) (port : Nat) : Option (State × Nat × QFrame) :=
  let last := (s.tm.flat.find? fun x => decide (x.1 = (0, port))).map (·.2)
  match nextAfter last (servedQueues s port) with
  | none => none
  | some q => (headFrame s q).map fun f => ({ s with tm := { s.tm with flat := aset s.tm.flat (0, port) q } }, q, f)

/-- What a frame is debited from: each level's child and each shaped node on its path; nothing in flat mode (R188, R190). -/
def debitsOf (s : State) (q : Nat) : List (Nat × Nat) × List (Nat × Nat) :=
  if flatQueue s q then ([], [])
  else ((List.range 4).map fun l => (l, nodeOf s q l),
        ([(0, nodeOf s q 1), (1, nodeOf s q 2)]).filter fun k => (aget s.tm.shapers k {}).en)

/-- The port above a child at a level in the hierarchy (R187). -/
def childPort (s : State) (lvl node : Nat) : Nat :=
  if lvl = 0 then nodeOf s node 3 else if lvl = 1 then rd s (SCHED.SVC_PARENT (rd s (SCHED.SUB_PARENT node)))
  else if lvl = 2 then rd s (SCHED.SVC_PARENT node) else node

/-- A port's direction works in flat mode. -/
def flatPort (s : State) (port : Nat) : Bool := decide (rd s (if upPort port then TMGR.UP_FLAT else TMGR.DN_FLAT) = 1)

/-- No arbiter of a direction in flat mode keeps deficits or shaper state (R190). -/
def clearFlat (s : State) : State :=
  { s with tm := { s.tm with
    children := s.tm.children.filter fun x => !flatPort s (childPort s x.1.1 x.1.2)
    shapers := s.tm.shapers.map fun x =>
      if flatPort s (childPort s (x.1.1 + 1) x.1.2) then (x.1, { x.2 with c := x.2.cbs * byteUnits, p := x.2.pbs * byteUnits }) else x } }

/-- Add bytes to the deficits and buckets of a path; a commit subtracts, a refund adds; nothing is kept for a direction that has become flat
(R188, R190, R195). -/
def creditPath (defs shapers : List (Nat × Nat)) (n : Int) (s : State) : State :=
  let defs := defs.filter fun k => !flatPort s (childPort s k.1 k.2)
  let shapers := shapers.filter fun k => !flatPort s (childPort s (k.1 + 1) k.2)
  let s := forEach defs (fun k s =>
    let c := aget s.tm.children k {}
    { s with tm := { s.tm with children := aset s.tm.children k { c with deficit := c.deficit + n } } }) s
  forEach shapers (fun k s =>
    let x := aget s.tm.shapers k {}
    { s with tm := { s.tm with shapers := aset s.tm.shapers k { x with c := x.c + n * byteUnits, p := x.p + n * byteUnits } } }) s

/-- The oldest frame is taken out of its queue. -/
def popQueue (q : Nat) (s : State) : State :=
  let r := (aget s.tm.queues q []).drop 1
  { s with tm := { s.tm with queues := if r = [] then adel s.tm.queues q else aset s.tm.queues q r } }

/-- The port a flat engine serves next among ports, one frame at a time in turn (R190). -/
def pickFlatEngine (s : State) (ports : List Nat) : Option (State × Nat × QFrame) :=
  let full := sortDedup (ports.filter fun p => !(servedQueues s p).isEmpty)
  let dir := if ports.all upPort then 0 else 1
  match nextAfter ((s.tm.flat.find? fun x => decide (x.1 = (1, dir))).map (·.2)) full with
  | none => none
  | some p => pickFlat { s with tm := { s.tm with flat := aset s.tm.flat (1, dir) p } } p

/-- The frame the engine of a direction takes next for ports of that direction that can take one: its debits, and the state
after its commit (R187, R188, R190, R193). -/
def takeFrame (s : State) (ports : List Nat) : Option (State × SFrame) :=
  let qs := ports.flatMap (servedQueues s)
  let up := ports.all upPort
  let flat := decide (rd s (if up then TMGR.UP_FLAT else TMGR.DN_FLAT) = 1)
  match (if flat then pickFlatEngine s ports else pickAt 4 qs (if up then 0 else 1) s) with
  | none => none
  | some (s, q, f) =>
    let (d, sh) := debitsOf s q
    some (popQueue q (creditPath d sh (-(f.data.length : Int)) s), ⟨q, f, d, sh⟩)

/-! ## Refill (R186, R191) -/

/-- One refill step of a bucket: it stops at its size, and one above its size keeps its value (R191). -/
def refill (b rate size : Int) : Int := if size ≤ b then b else min (b + rate) size

/-- The settings of a shaper that wait for the next refill step take effect (R191). -/
def Shaper.settle (x : Shaper) : Shaper :=
  match x.next with
  | some (en, cir, cbs, pir, pbs) => { x with en := en, cir := cir, cbs := cbs, pir := pir, pbs := pbs, next := none }
  | none => x

/-- One refill step of a shaper, a change of its settings taking effect (R191). -/
def refillShaper (x : Shaper) : Shaper :=
  let x := x.settle
  { x with c := refill x.c x.cir (x.cbs * byteUnits), p := refill x.p x.pir (x.pbs * byteUnits) }

/-- One refill step of a policer: MODE 0 passes the C bucket's overflow to the E bucket, MODE 1 fills both (R186). -/
def refillPolicer (x : Policer) : Policer :=
  if bit x.ctl 30 then
    { x with t1 := min (x.t1 + x.cir) (max x.t1 (x.cbs * byteUnits)), t2 := min (x.t2 + x.pir) (max x.t2 (x.b2 * byteUnits)) }
  else
    let room := x.cbs * byteUnits - x.t1
    let spill := x.cir - min x.cir room
    { x with t1 := x.t1 + min x.cir room, t2 := min (x.t2 + spill) (max x.t2 (x.b2 * byteUnits)) }

/-- TOKEN_REFILL: due once at each phase that is a multiple of 1,000 (R186). -/
def execTokenRefill (t : Nat) (s : State) : Out :=
  ev t s fun s =>
    if bulkRuns s = true ∧ scPhase s % 1000 = 0 ∧ s.tm.lastRefill ≠ some s.time.sc then
      { s with tm := { s.tm with
          lastRefill := some s.time.sc
          shapers := s.tm.shapers.map fun x => (x.1, refillShaper x.2)
          policers := s.tm.policers.map fun x => (x.1, refillPolicer x.2) } }
    else s

end Sys2Proof.Machine
end

