-- ==== Sys2Proof/Machine/Classify.lean ====
section
/-! DEFINITION. Ingress (R175 to R186, R200): the classifier, the policers, admission to a queue, and the classifier windows. -/
namespace Sys2Proof.Machine

/-! ## The classifier (R180 to R184) -/

/-- A frame carries a VLAN tag (R176). -/
def isTagged (d : List Nat) : Bool := decide (be (slice d 12 2) = 0x8100 ∨ be (slice d 12 2) = 0x88A8)

/-- VID, PCP and DEI of a frame (R176). -/
def vlanOf (d : List Nat) : Nat × Nat × Nat :=
  if isTagged d then let t := be (slice d 14 2); (t % 4096, t / 8192, t / 4096 % 2) else (0xFFF, 0, 0)

/-- The frame ends before its TAG (R180). -/
def tagShort (s : State) (src : Nat) (d : List Nat) : Bool := decide (d.length < rd s (TMGR.TAG_OFFSET src) + 2)

/-- The lookup key of a frame: the fields its source's KEY_MODE names (R180). -/
def lookupKey (s : State) (src : Nat) (d : List Nat) : Nat :=
  let (vid, pcp, _) := vlanOf d
  let tag := if tagShort s src d then 0 else be (slice d (rd s (TMGR.TAG_OFFSET src)) 2)
  src * 2 ^ 35 + rd s (TMGR.USE_PCP src) * pcp * 2 ^ 32 + rd s (TMGR.USE_VID src) * vid * 2 ^ 20
    + rd s (TMGR.USE_TAG src) * tag * 2 ^ 4

/-- The bucket of a key (R181). -/
def bucketOf (key : Nat) : Nat := crc16 (toBe 5 key) % 1024

/-- The entry that holds a key. -/
def findKey (s : State) (key : Nat) : Option (Nat × CEntry) := s.tm.entries.find? fun x => decide (x.2.key = key)

/-- Put an entry, or empty its index; VALID_ENTRIES follows (R201). -/
def setEntry (i : Nat) (e : Option CEntry) (s : State) : State :=
  let l := match e with | some e => aset s.tm.entries i e | none => adel s.tm.entries i
  wr CLS.VALID_ENTRIES l.length { s with tm := { s.tm with entries := l } }

/-- The lowest free ghost slot (R183). -/
def freeGhost (s : State) : Option Nat := (List.range 64).find? fun g => !s.tm.ghosts.any fun x => x.1 == g

/-- The old action of a referenced entry moves to a ghost slot (R183, R201, R203). -/
def toGhost (i : Nat) (e : CEntry) (s : State) : State :=
  if e.ref = 0 then s else
  match freeGhost s with
  | none => s
  | some g =>
    let gs := (g, ⟨i, e.gen, e.ref, e.action⟩) :: s.tm.ghosts
    let s := { s with tm := { s.tm with ghosts := gs, ghostMax := max s.tm.ghostMax gs.length } }
    let s := inc GHOST.GHOSTS_TAKEN s
    when (decide (gs.length = rd s GHOST.GHOST_WARN)) (raise 0x11 1) s

/-- The action word of a generation of an index (R182). -/
def actionOf (s : State) (c : Option (Nat × Nat)) : Nat :=
  match c with
  | none => 0
  | some (i, g) =>
    match s.tm.entries.find? fun x => decide (x.1 = i ∧ x.2.gen = g) with
    | some x => x.2.action
    | none => match s.tm.ghosts.find? fun x => decide (x.2.index = i ∧ x.2.gen = g) with
      | some x => x.2.action
      | none => 0

/-- A frame as ports 16 to 18 send it: the PCP of a tagged frame rewritten under its generation's action (R182). -/
def rewritten (s : State) (f : QFrame) : List Nat :=
  let a := actionOf s f.cls
  if bit a 30 && isTagged f.data then
    f.data.set 14 (bits a 29 27 * 32 + f.data.getD 14 0 % 32)
  else f.data

/-- PTYPE of a frame's payload unit (R181, R182). -/
def ptypeOf (s : State) (f : QFrame) : Nat := actionOf s f.cls % 256

/-! ## Policing (R186) -/

/-- The colour of a frame of n bytes, 0 green, 1 yellow, 2 red, and the policer after metering it. -/
def meter (x : Policer) (n dei : Nat) : Nat × Policer :=
  let b := n * byteUnits
  let inYellow := bit x.ctl 29 && dei == 1
  if !bit x.ctl 31 then (0, { x with green := (x.green + 1) % 2 ^ 32 })
  else
    let (col, t1, t2) :=
      if bit x.ctl 30 then
        if x.t2 < b then (2, x.t1, x.t2)
        else if inYellow || decide (x.t1 < b) then (1, x.t1, x.t2 - b)
        else (0, x.t1 - b, x.t2 - b)
      else if !inYellow && decide (b ≤ x.t1) then (0, x.t1 - b, x.t2)
      else if b ≤ x.t2 then (1, x.t1, x.t2 - b)
      else (2, x.t1, x.t2)
    (col, { x with t1 := t1, t2 := t2
                   green := if col = 0 then (x.green + 1) % 2 ^ 32 else x.green
                   yellow := if col = 1 then (x.yellow + 1) % 2 ^ 32 else x.yellow
                   red := if col = 2 then (x.red + 1) % 2 ^ 32 else x.red })

/-! ## Admission (R177 to R179) -/

/-- A drop at a source's counter: 1 DROP_ERR, 2 DROP_CLS, 3 DROP_POLICE, 4 DROP_FULL (R178, R200). -/
def dropAt (src k : Nat) (s : State) : State := inc (TMGR.SRC_CNT src k) s

/-- Queued and staged cells of a queue (R178, R204). -/
def queuedCells (s : State) (q : Nat) : Nat := ((aget s.tm.queues q []).map cellsOf).foldl (· + ·) 0
/-- Staged cells of a queue (R204). -/
def stagedCells (s : State) (q : Nat) : Nat :=
  (((s.tm.staged.flatMap (·.frames) ++ s.burst.frames.map (·.2.2)).filter fun f => f.queue == q).map
    fun f => cellsOf f.frame).foldl (· + ·) 0

/-- A frame dropped for a full queue: DROPS_FULL and DROPS_YELLOW of the queue, and its DROPPED sub-cause in the next commit
cycle (R178, R204, R207). -/
def dropFull (q : Nat) (byYellow : Bool) (s : State) : State :=
  let t := aget s.tm.tel q {}
  let t := { t with dropsFull := (t.dropsFull + 1) % 2 ^ 32, dropsYellow := (t.dropsYellow + b2n byYellow) % 2 ^ 32 }
  { s with tm := { s.tm with tel := aset s.tm.tel q t, dropped := insSorted s.tm.dropped q } }

/-- A frame enters its queue: cells from FREE to QUEUED, a descriptor, a reference to its generation (R54, R177, R183). -/
def enqueue (q : Nat) (f : QFrame) (s : State) : State :=
  let n := cellsOf f
  let l := s.led
  let l := { l with cellsFree := l.cellsFree - n, cellsQueued := l.cellsQueued + n, descFree := l.descFree - 1
                    descInUse := l.descInUse + 1 }
  let es := match f.cls with
    | some (i, _) => let e := aget s.tm.entries i {}; aset s.tm.entries i { e with ref := e.ref + 1 }
    | none => s.tm.entries
  { s with led := l, tm := { s.tm with
    entries := es, queues := aset s.tm.queues q (aget s.tm.queues q [] ++ [f]) } }

/-- The cells of a list of frames. -/
def cellSum (l : List QFrame) : Nat := (l.map cellsOf).foldl (· + ·) 0

/-- The cells that a partition holds, queued and staged: those of the queues that lead to its ports (R178). -/
def occOf (s : State) (up : Bool) : Nat :=
  let mine (q : Nat) : Bool := upPort (queuePort s q) == up
  cellSum ((s.tm.queues.filter fun x => mine x.1).flatMap (·.2))
    + cellSum (((s.tm.staged.flatMap (·.frames) ++ s.burst.frames.map (·.2.2)).filter fun f => mine f.queue).map (·.frame))

/-- Checks 4 to 7 of R178, and the enqueueing. -/
def takeIn (src q : Nat) (f : QFrame) (s : State) : State :=
  let n := cellsOf f
  let depth := queuedCells s q + stagedCells s q + n
  let up := upPort (queuePort s q)
  let tooDeep := decide (rd s (QUE.MAX_DEPTH (q / 256) (q % 256)) < depth)
  let overY := f.yellow && decide (rd s (QUE.YELLOW_MAX (q / 256) (q % 256)) < depth)
  if rd s (QUE.Q_EN (q / 256) (q % 256)) = 0 then dropAt src 2 s
  else if tooDeep || overY then s |> dropAt src 4 |> dropFull q !tooDeep
  else if rd s (if up then TMGR.PART_UP else TMGR.PART_DN) < occOf s up + n then
    s |> dropAt src 4 |> raise 0x10 (if up then 2 else 3)
  else if s.led.cellsFree < n then s |> dropAt src 4 |> raise 0x10 0
  else if s.led.descFree = 0 then s |> dropAt src 4 |> raise 0x10 1
  else enqueue q f s

/-- Metering and the policer's drop, then admission (R178 check 3, R186). -/
def policed (src q pol dei : Nat) (f : QFrame) (s : State) : State :=
  if pol = 0xFF then takeIn src q f s else
  let (col, x) := meter (aget s.tm.policers pol {}) f.data.length dei
  let s := { s with tm := { s.tm with policers := aset s.tm.policers pol x } }
  if (col = 2 ∧ bit x.ctl 28 = false) ∨ (col = 1 ∧ bit x.ctl 27 = true) then dropAt src 3 s
  else takeIn src q { f with yellow := decide (0 < col) } s

/-- A frame completes at a source: checked, classified, metered and admitted or dropped (R176 to R186, R200); while the
traffic manager is disabled or halted every frame is discarded and counted (R63, R200). -/
def ingress (src : Nat) (d : List Nat) (s : State) : State :=
  let s := inc (TMGR.SRC_CNT src 0) s
  if rd s (HDR.ENABLE 0x10) = 0 ∨ tmHalted s = true ∨ bulkRuns s = false then dropAt src 1 s
  else if d.length < 64 ∨ 9728 < d.length then s |> dropAt src 1 |> raise 0x10 4
  else
    let s := when (tagShort s src d) (inc (TMGR.SRC_CNT src 5)) s
    let s := inc CLS.LOOKUPS s
    let (_, _, dei) := vlanOf d
    match findKey s (lookupKey s src d) with
    | none =>
      let s := inc CLS.MISSES s
      if rd s (TMGR.MISS_DROP src) = 1 then dropAt src 2 s
      else takeIn src (rd s (TMGR.DEFAULT_QUEUE src)) { data := d, src := src, enq := s.time.sc } s
    | some (i, e) =>
      let s := { s with tm := { s.tm with entries := aset s.tm.entries i { e with hits := (e.hits + 1) % 2 ^ 32 } } }
      if bit e.action 31 then dropAt src 2 s
      else policed src (bits e.action 25 16) (bits e.action 15 8) dei
        { data := d, src := src, cls := some (i, e.gen), enq := s.time.sc } s

/-- The source is fitted on the variant (R2, R8). -/
def sourceFitted (v : Variant) (src : Nat) : Bool :=
  decide (src < 19) && (match v with | .ts4410 => true | .ts4320 => decide (src ≠ 17) | .ts4210 => decide (src ≠ 16 ∧ src ≠ 17))

/-- A frame's last four bytes are its FCS (R176, R437). -/
def fcsHolds (d : List Nat) : Bool :=
  decide (4 ≤ d.length ∧ le (d.drop (d.length - 4)) = crc32 (d.take (d.length - 4)))

/-- A frame at an Ethernet port: nothing is received while LINK is 0; the MAC checks the FCS, and discards PAUSE and PFC frames
(R437, R438). -/
def ethIngress (src : Nat) (d : List Nat) (s : State) : State :=
  let p := src - 16
  if rd s (ETH.E_LINK p) = 0 then s
  else if !fcsHolds d then inc (ETH.RX_FCS_ERR p) s
  else if be (slice d 12 2) = 0x8808 then inc (ETH.RX_PAUSE p) s
  else ingress src d (inc (ETH.E_RX_FRAMES p) s)

/-- INGRESS_FRAME: the bytes of a whole frame complete at a source. -/
def execIngressFrame (t : Nat) (src : Nat) (d : List Nat) (s : State) : Out :=
  evBy (.ingress src) t s fun s =>
    if !sourceFitted s.fuse.variant src then s
    else if src = 16 ∨ src = 17 then ethIngress src d s else ingress src d s

/-- A malformed unit ends a block: the rest is counted at the source (R175, R178). -/
def malformed (src : Nat) (s : State) : State := s |> dropAt src 1 |> raise 0x10 4

/-! ## The classifier windows (R183, R185, R202) -/

/-- The key in a window. -/
def windowKey (s : State) (w : Nat) : Nat := rd s (CLSW.KEY_B w) * 2 ^ 32 + rd s (CLSW.KEY_A w)

/-- The action word in a window. -/
def windowAction (s : State) (w : Nat) : Nat :=
  rd s (CLSW.A_DROP w) * 2 ^ 31 + rd s (CLSW.A_PCP_RW_EN w) * 2 ^ 30 + rd s (CLSW.A_PCP_RW w) * 2 ^ 27
    + rd s (CLSW.A_QUEUE w) * 2 ^ 16 + rd s (CLSW.A_POLICER w) * 2 ^ 8 + rd s (CLSW.A_PTYPE w)

/-- Check 3 of R185: SRC above 18, low bits set, or a field that the source's KEY_MODE leaves out. -/
def keyRange (s : State) (key : Nat) : Bool :=
  let src := key / 2 ^ 35
  decide (18 < src) || decide (key % 16 ≠ 0)
    || decide (rd s (TMGR.USE_PCP src) = 0 ∧ bits key 34 32 ≠ 0) || decide (rd s (TMGR.USE_VID src) = 0 ∧ bits key 31 20 ≠ 0)
    || decide (rd s (TMGR.USE_TAG src) = 0 ∧ bits key 19 4 ≠ 0)

/-- The index an INSTALL uses: that of the key, or the lowest free way of its bucket (R183). -/
def installIndex (s : State) (key : Nat) : Option Nat :=
  match findKey s key with
  | some (i, _) => some i
  | none => ((List.range 4).map fun w => bucketOf key * 4 + w).find? fun i => !s.tm.entries.any fun x => x.1 == i

/-- A change of a key's entry needs a ghost slot and none is free (R183). -/
def noGhost (s : State) (key : Nat) : Bool :=
  match findKey s key with
  | some (_, e) => decide (0 < e.ref) && (freeGhost s).isNone
  | none => false

/-- A classifier window's command; a refusal with EXHAUSTED is counted and raised (R185, R201). -/
def clsCmd (p : Port) (checks : List (Bool × Code)) (exhausted : Bool) (act : State → State) (s : State) : State :=
  let w := p.window
  let addr := 0x12050 + 64 * w
  let all := (cmdBusy s addr, Code.busy) :: checks ++ [(exhausted, Code.exhausted)]
  let ex := firstFail (pageChecks s p 0x12 ++ all) = some .exhausted
  let s := fabricCmd p 0x12 (0x50 + 64 * w) (some (CLSW.W_CODE w)) all (fun s => act (startCmd addr 4 s)) s
  if ex then s |> inc CLS.EXHAUSTED_COUNT |> raise 0x11 0 else s

/-- The generation the next entry at an index takes (R183). -/
def nextGen (s : State) (i : Nat) : Nat :=
  match s.tm.gens.find? fun x => x.1 == i with
  | some x => (x.2 + 1) % 256
  | none => 0

/-- INSTALL of the window's key and action (R183). -/
def clsInstallCmd (p : Port) (s : State) : State :=
  let w := p.window
  let key := windowKey s w
  clsCmd p [(decide (key / 2 ^ 35 ≤ 18) && !sourceFitted s.fuse.variant (key / 2 ^ 35), .absent), (keyRange s key, .range)]
    ((installIndex s key).isNone || noGhost s key)
    (fun s =>
      match installIndex s key with
      | none => s
      | some i =>
        let s := match findKey s key with | some (i, e) => toGhost i e s | none => s
        let g := nextGen s i
        let hits := match findKey s key with | some (_, e) => e.hits | none => 0
        let s := setEntry i (some ⟨key, windowAction s w, g, 0, hits⟩) s
        wr (CLSW.W_INDEX w) i { s with tm := { s.tm with gens := aset s.tm.gens i g } }) s

/-- CLS_INSTALL from a fabric port. -/
def execClsInstall (t : Nat) (p : Port) (s : State) : Out := evPort p t s (clsInstallCmd p)

/-- REMOVE of the window's key (R183). -/
def clsRemoveCmd (p : Port) (s : State) : State :=
  let key := windowKey s p.window
  clsCmd p [(decide (key / 2 ^ 35 ≤ 18) && !sourceFitted s.fuse.variant (key / 2 ^ 35), .absent), (keyRange s key, .range),
      ((findKey s key).isNone, .state)] (noGhost s key)
    (fun s => match findKey s key with
      | some (i, e) => setEntry i none (toGhost i e s)
      | none => s) s

/-- CLS_REMOVE from a fabric port. -/
def execClsRemove (t : Nat) (p : Port) (s : State) : Out := evPort p t s (clsRemoveCmd p)

/-- The window's registers of an entry; an empty one reads 0 throughout (R202). -/
def loadCls (w : Nat) (e : Option CEntry) (s : State) : State :=
  let x := e.getD {}
  let a := x.action
  s |> wr (CLSW.KEY_A w) (x.key % 2 ^ 32) |> wr (CLSW.KEY_B w) (x.key / 2 ^ 32) |> wr (CLSW.A_DROP w) (bits a 31 31)
    |> wr (CLSW.A_PCP_RW_EN w) (bits a 30 30) |> wr (CLSW.A_PCP_RW w) (bits a 29 27) |> wr (CLSW.A_QUEUE w) (bits a 25 16)
    |> wr (CLSW.A_POLICER w) (bits a 15 8) |> wr (CLSW.A_PTYPE w) (a % 256) |> wrB (CLSW.R_VALID w) e.isSome
    |> wr (CLSW.R_GEN w) x.gen |> wr (CLSW.R_REFCNT w) (min x.ref 0xFFFF) |> wr (CLSW.R_HITS w) x.hits

/-- READ of the entry at W_INDEX (R185, R202). -/
def clsReadCmd (p : Port) (s : State) : State :=
  let w := p.window
  clsCmd p [] false (fun s =>
    loadCls w ((s.tm.entries.find? fun x => x.1 == rd s (CLSW.W_INDEX w)).map (·.2)) s) s

/-- CLS_READ from a fabric port. -/
def execClsRead (t : Nat) (p : Port) (s : State) : Out := evPort p t s (clsReadCmd p)

end Sys2Proof.Machine
end

