-- ==== Sys2Proof/Machine/Keys.lean ====
section
/-! DEFINITION. The key store and what uses its keys (R214 to R225): imports, line keystreams, upstream phases, OAM MICs and
the activations of unit 0x22. -/
namespace Sys2Proof.Machine

/-! ## The key store (R214 to R216) -/

/-- The key slot at an index; slots 68 and 69 and the LGC's slots 72 to 76 are derived at reset from the fused device secret or fixed
(R214, R332). -/
def keySlot (s : State) (n : Nat) : KeySlot :=
  if n = 68 ∨ n = 69 then { valid := true, secret := true, keylen := 2, key := Config.deviceKey n }
  else if 72 ≤ n ∧ n ≤ 76 then { valid := true, secret := true, keylen := Config.lgcKeylen n % 3, key := Config.deviceKey n }
  else aget s.deck.slots n {}

/-- Put a slot into the key store. -/
def setSlot (n : Nat) (k : KeySlot) (s : State) : State :=
  { s with deck := { s.deck with slots := aset s.deck.slots n k } }

/-- USE: the decrypt blocks, staged containers whose keystream is incomplete, jobs and hands that are using the key (R215). -/
def slotUse (s : State) (n : Nat) : Nat :=
  (s.deck.dec.filter fun b => b.slot == some n).length + (s.tm.staged.filter fun c => c.slot == some n && 0 < c.ksLeft).length
    + (s.deck.jobs.filter fun j => j.slot == n).length + (s.deck.hands.filter fun h => h.2.slot == some n).length

/-- Bytes of a key of a KEYLEN. -/
def keyBytes (keylen : Nat) : Nat := 16 + 8 * keylen

/-- The slot is one of the host banks (R214). -/
def hostSlot (n : Nat) : Bool := decide (96 ≤ n ∧ n ≤ 255)

/-- The slot accepts the key length (R214). -/
def slotAccepts (n keylen : Nat) : Bool :=
  if n ≤ 67 then decide (keylen = 0) else if n = 70 then decide (keylen = 0 ∨ keylen = 2) else hostSlot n && decide (keylen < 3)

/-- The bytes in IMP_DATA. -/
def impBytes (s : State) : List Nat :=
  ((List.range 10).flatMap fun k => toLe 4 (rd s (KEYS.IMP_DATA k))).take (rd s KEYS.IMP_LEN)

/-- The key an import would load; none where the unwrap fails (R216). -/
def impKey (s : State) : Option (List Nat) :=
  if rd s KEYS.IMP_CLEAR = 1 then some (impBytes s)
  else if (keySlot s (rd s KEYS.IMP_KEK)).valid then
    kwUnwrap (keySlot s (rd s KEYS.IMP_KEK)).key (impBytes s)
  else none

/-- Check 3 of R216; slot 70 is imported under slot 69 alone (R214). -/
def impRange (s : State) (n : Nat) : Bool :=
  let clear := rd s KEYS.IMP_CLEAR = 1
  let kl := rd s KEYS.IMP_KEYLEN
  decide (n = 71) || !slotAccepts n kl || decide (rd s KEYS.IMP_KEK ≠ 69 ∧ (rd s KEYS.IMP_KEK ≠ 70 ∨ n = 70))
    || decide (rd s KEYS.IMP_LEN ≠ keyBytes kl + (if clear then 0 else 8))
    || (decide clear && (!hostSlot n || decide (rd s KEYS.IMP_SECRET = 1)))

/-- The slot's key is one of the upstream line keys (R222). -/
def upSlot (n : Nat) : Bool := decide (32 ≤ n ∧ n ≤ 63)

/-- The BAR0 address of KEY_CMD. -/
def keyCmdAddr : Nat := 0x22078

/-- What every accepted import and erase does besides the slot: an upstream line key change zeroes the NONCE tallies and
forgets the frames used with the key (R62, R220, R222); the command is done within 40 cycles. -/
def keyChanged (n : Nat) (s : State) : State :=
  let s := startCmd keyCmdAddr 40 (raise 0x22 0 s)
  if upSlot n then
    { s with led := { s.led with allocated := 0, transmitted := 0, burned := 0, nonceOpen := 0 }
             deck := { s.deck with topFrame := adel s.deck.topFrame n } }
  else s

/-- IMPORT loads the slot in IMP_SLOT (R216, R222, R223). -/
def keyImportCmd (p : Port) (s : State) : State :=
  let n := rd s KEYS.IMP_SLOT
  let unwrapFails := (impKey s).isNone
  let s' := fabricCmd p 0x22 0x078 (some KEYS.KEY_CODE)
    [(cmdBusy s keyCmdAddr || decide (0 < slotUse s n), .busy),
     (decide (n = 68 ∨ n = 69 ∨ (72 ≤ n ∧ n ≤ 95)), .sealed), (impRange s n, .range), (unwrapFails, .auth),
     (upSlot n && decide (s.led.nonceOpen ≠ 0), .ledger)]
    (fun s =>
      let old := keySlot s n
      let s := setSlot n { valid := true, secret := !hostSlot n || decide (rd s KEYS.IMP_SECRET = 1)
                           keylen := rd s KEYS.IMP_KEYLEN, salt := rd s KEYS.IMP_SALT, gen := (old.gen + 1) % 2 ^ 32
                           key := (impKey s).getD [] } s
      let s := if n = 64 then wr (KEYS.UP_IV_COUNT 0) 0 s else if n = 66 then wr (KEYS.UP_IV_COUNT 1) 0 s else s
      keyChanged n s) s
  if rd s' KEYS.KEY_CODE = Code.auth.num ∧ unwrapFails = true then raise 0x22 1 s' else s'

/-- IMPORT from a fabric port. -/
def execKeyImport (t : Nat) (p : Port) (s : State) : Out := evPort p t s (keyImportCmd p)

/-- ERASE empties the slot in IMP_SLOT; SECRET keeps the value of the last import (R215, R216, R222). -/
def keyEraseCmd (p : Port) (s : State) : State :=
  let n := rd s KEYS.IMP_SLOT
  fabricCmd p 0x22 0x078 (some KEYS.KEY_CODE)
    [(cmdBusy s keyCmdAddr || decide (0 < slotUse s n), .busy),
     (decide (n = 68 ∨ n = 69 ∨ (72 ≤ n ∧ n ≤ 95)), .sealed), (decide (n = 71), .range),
     (upSlot n && decide (s.led.nonceOpen ≠ 0), .ledger)]
    (fun s => keyChanged n (setSlot n { secret := (keySlot s n).secret, gen := ((keySlot s n).gen + 1) % 2 ^ 32 } s)) s

/-- ERASE from a fabric port. -/
def execKeyErase (t : Nat) (p : Port) (s : State) : Out := evPort p t s (keyEraseCmd p)

/-! ## Line keystreams (R217, R218) -/

/-- The line counter block (R218). -/
def lineBlock (salt term path dir frame index : Nat) : Nat :=
  salt % 2 ^ 32 * 2 ^ 96 + term % 2 ^ 12 * 2 ^ 84 + path % 16 * 2 ^ 80 + dir * 2 ^ 79 + frame % 2 ^ 48 * 2 ^ 16
    + index % 2 ^ 16

/-- n bytes of a CTR keystream from a byte offset, block i being the cipher of ctr i. -/
def keystream (key : List Nat) (ctr : Nat → Nat) (off n : Nat) : List Nat :=
  (((List.range ((off + n + 15) / 16)).flatMap fun i => toBe 16 (aesBlock key (ctr i))).drop off).take n

/-- The frame bytes of units put through the keystream from an offset, the unit headers and pad bytes staying as they are
(R217): the units' bytes after it, and the offset after them. -/
def cryptUnits (fuel : Nat) (key : List Nat) (ctr : Nat → Nat) (off : Nat) (l : List Nat) : List Nat × Nat :=
  match fuel with
  | 0 => (l, off)
  | fuel + 1 =>
    let n := be (slice l 0 2)
    if l.length < 4 ∨ n < 64 ∨ 9728 < n ∨ l.length < unitLen n then (l, off)
    else
      let body := xorBytes (slice l 4 n) (keystream key ctr off n)
      let (r, o) := cryptUnits fuel key ctr (off + n) (l.drop (unitLen n))
      (l.take 4 ++ body ++ slice l (4 + n) (unitLen n - 4 - n) ++ r, o)

/-- The frame bytes in units, which the keystream's offset advances by (R217). -/
def unitBytes (l : List Nat) : Nat := ((unitsOf l.length l).1.map List.length).foldl (· + ·) 0

/-! ## Upstream phases (R220, R221) -/

/-- The phase a staging of a container for a target frame uses (R221). -/
def stagePhase (s : State) (c target : Nat) : Nat :=
  if rd s (KEYS.UPSW_PEND c) = 1 ∧ rd s (KEYS.UPSW_FRAME_HI c) * 2 ^ 32 + rd s (KEYS.UPSW_LO c) ≤ target then
    rd s (KEYS.UPSW_PHASE c)
  else rd s (KEYS.UPSW_ACT_PHASE c)

/-- The first staging at or above the armed frame makes the switch, whether it is encrypted or not (R221). -/
def stageSwitch (c target : Nat) (s : State) : State :=
  if rd s (KEYS.UPSW_PEND c) = 1 ∧ rd s (KEYS.UPSW_FRAME_HI c) * 2 ^ 32 + rd s (KEYS.UPSW_LO c) ≤ target then
    s |> wr (KEYS.UPSW_ACT_PHASE c) (rd s (KEYS.UPSW_PHASE c)) |> wr (KEYS.UPSW_PEND c) 0 |> raise 0x22 2
  else s

/-- UPSW_HI of a container is written with its LO: BUSY while a switch is pending (R221). -/
def upswCmd (p : Port) (c lo hi : Nat) (s : State) : State :=
  fabricCmd p 0x22 (0x104 + 8 * c) none
    [(decide (rd s (KEYS.UPSW_PEND c) = 1), .busy), (decide (bits hi 28 16 ≠ 0), .reserved),
     (decide (bits hi 29 29 ≠ rd s (KEYS.UPSW_ACT_PHASE c)), .range)]
    (fun s => s |> wr (KEYS.UPSW_LO c) lo |> wr (KEYS.UPSW_PEND c) (bits hi 31 31) |> wr (KEYS.UPSW_PHASE c) (bits hi 30 30)
      |> wr (KEYS.UPSW_FRAME_HI c) (bits hi 15 0)) s

/-- UPSW_ARM from a fabric port. -/
def execUpswArm (t : Nat) (p : Port) (cont lo hi : Nat) (s : State) : Out :=
  evPort p t s fun s => if cont < 16 then upswCmd p cont lo hi s else s

/-- DRAINED in the first cycle in which NONCE.OPEN reads 0 while UP_DRAIN is 1 (R222). -/
def drainCheck (s : State) : State :=
  if rd s DECK.UP_DRAIN = 1 then
    if s.led.nonceOpen = 0 ∧ s.deck.drained = false then
      { raise 0x20 3 s with deck := { s.deck with drained := true } }
    else s
  else { s with deck := { s.deck with drained := false } }

/-- DRAINED: due once the last open block is sent or burned (R222). -/
def execDrained (t : Nat) (s : State) : Out := ev t s drainCheck

/-! ## OAM MICs (R223, R224) -/

/-- The OAM set a downstream message of a frame is checked under (R224). -/
def oamSetFor (s : State) (frame : Nat) : Nat :=
  if frame < rd s KEYS.ACT_FRAME then s.deck.prevSet else rd s KEYS.OAM_SET

/-- The MIC of 36 message bytes under a slot and the first 8 IV bytes (R223). -/
def micOf (k : KeySlot) (iv : List Nat) (msg : List Nat) : Nat :=
  gcmTag k.key (be (iv ++ toBe 4 k.salt)) (msg.take 36) [] / 2 ^ 32

/-- The slot of the key a downstream message of a frame is checked under: the set's broadcast key for ID 0xFFF, else its unicast key
(R223). -/
def micSlot (s : State) (frame : Nat) (msg : List Nat) : Nat :=
  64 + 2 * oamSetFor s frame + (if be (slice msg 0 2) / 16 = 0xFFF then 1 else 0)

/-- The MIC of a downstream message at a position of a frame's OAM region holds (R223). -/
def micHolds (s : State) (frame pos : Nat) (msg : List Nat) : Bool :=
  let k := keySlot s (micSlot s frame msg)
  k.valid && decide (micOf k (toBe 6 frame ++ [0, pos]) msg = be (slice msg 36 12))

/-- An STC_REPLY with UP_IV_COUNT in bytes 30 to 35 and its MIC; the counter then increments (R223). -/
def signReply (msg : List Nat) (s : State) : List Nat × State :=
  let set := rd s KEYS.OAM_SET
  let n := rd s (KEYS.UP_IV_COUNT set)
  let m := msg.take 30 ++ toBe 6 n
  (m ++ toBe 12 (micOf (keySlot s (64 + 2 * set)) (toBe 6 n ++ [1, 0]) m), inc (KEYS.UP_IV_COUNT set) s)

/-! ## Unit 0x22 (R224) -/

/-- An OAM set activation records the SC frame of the firing (R224). -/
def oamActivate (arg : Nat) (s : State) : State :=
  let s := { s with deck := { s.deck with prevSet := rd s KEYS.OAM_SET } }
  trigExec 0x22 (s |> wr KEYS.OAM_SET (arg % 2) |> wr KEYS.ACT_FRAME (scFrame s))

/-- A host bank activation applies to jobs fetched after it (R224). -/
def bankActivate (arg : Nat) (s : State) : State := trigExec 0x22 (wr KEYS.HOST_BANK (arg % 2) s)

/-- A trigger of unit 0x22 with action 0x01 arrives (R224). -/
def execOamSetActivate (t : Nat) (src : TrigSrc) (arg : Nat) (s : State) : Out := ev t s (arrive src 0x22 (oamActivate arg))

/-- A trigger of unit 0x22 with action 0x02 arrives (R224). -/
def execHostBankActivate (t : Nat) (src : TrigSrc) (arg : Nat) (s : State) : Out := ev t s (arrive src 0x22 (bankActivate arg))

end Sys2Proof.Machine
end

