-- ==== Sys2Proof/Machine/Seats.lean ====
section
/-! DEFINITION. The work of the Dealer's five seats (R210, R220, R223, R229, R231): what waits for an engine, which seats request one, and
what a seat that stops requesting loses (R233). -/
namespace Sys2Proof.Machine

/-! ## Work that waits for an engine (R210, R231) -/

/-- Hands that seats hold for a piece of work: (engine, hand). -/
def handsFor (s : State) (seat : Nat) (work : List Nat) : List (Nat × Hand) :=
  s.deck.hands.filter fun h => decide (h.2.work = work ∧ rd s (DEAL.ENG_SEAT h.1) = seat)

/-- Blocks of a piece of work that no hand has taken. -/
def freeBlocks (s : State) (seat : Nat) (work : List Nat) (left : Nat) : Nat :=
  left - ((handsFor s seat work).map (·.2.blocks)).foldl (· + ·) 0

/-- The key of a decrypt block's work. -/
def decWork (b : DecBlock) : List Nat := [b.path, b.frame, b.off]
/-- The key of a staged container's work. -/
def stWork (c : Staged) : List Nat := [c.cont, c.target]
/-- The key of a job's work. -/
def jobWork (j : Job) : List Nat := [j.ring, j.index]
/-- The key of the work of signing a reply (R223). -/
def replyWork : List Nat := [0]
/-- The key of the work of checking the first waiting message (R223). -/
def checkWork : List Nat := [1]

/-- The keystream bytes held for staged containers (R220, R237). -/
def ksHeld (s : State) : Nat := ((s.tm.staged.map fun c => 16 * (contBlocks c - c.ksLeft)).foldl (· + ·) 0)

/-- The keystream store's size (R220). -/
def ksSize : Nat := 262144

/-- Blocks of keystream for which the store has room beside those that hands are producing (R220). -/
def ksRoom (s : State) : Nat :=
  (ksSize - ksHeld s) / 16
    - ((s.deck.hands.filter fun h => decide (rd s (DEAL.ENG_SEAT h.1) = 1)).map (·.2.blocks)).foldl (· + ·) 0

/-- The message carries a MIC that its type requires: the S-class messages, and EPHEMERIS where EPH_AUTH says so (R168). -/
def needsMic (s : State) (m : List Nat) : Bool :=
  decide (0x10 ≤ m.getD 2 0 ∧ m.getD 2 0 ≤ 0x14) || (decide (m.getD 2 0 = 8) && decide (rd s ACTV.EPH_AUTH = 1))

/-- The first waiting message, where seat 4 has still to check its MIC (R223). -/
def toCheck (s : State) : Option (Nat × Nat × List Nat) :=
  match s.line.oam with
  | x :: _ => if needsMic s x.2.2 && s.actv.mic.isNone then some x else none
  | [] => none

/-- The key of the work of checking the VTAG of a credit message (R369). -/
def voucherWork : List Nat := [1]

/-- The first credit message that waits for seat 2 to check its VTAG, while the LGC runs (R369). -/
def toVerify (s : State) : Option LgcReq :=
  if rd s SYS.LGC_STATE = 2 then s.leg.queue.find? (fun r => decide (r.code = 0x88 ∧ r.checked = false)) else none

/-- The first credit message that waits is checked. -/
def markChecked (l : List LgcReq) : List LgcReq :=
  match l with
  | [] => []
  | r :: q => if r.code = 0x88 ∧ r.checked = false then { r with checked := true } :: q else r :: markChecked q

/-- What seat 2 would take an engine for: the VTAG of a credit message, then the record of a closed delivery (R369, R373). -/
def lgcWork2 (s : State) : Option (List Nat × Nat) :=
  if 0 < heldBy s 2 then none
  else if (toVerify s).isSome then some (voucherWork, 75)
  else if s.deck.signing && !s.deck.signed then some ([], 74) else none

/-- Work that a seat would take an engine for: its key, the blocks still free, KEYLEN, and the key slot. -/
structure SeatWork where
  work : List Nat := []
  blocks : Nat := 0
  keylen : Nat := 0
  slot : Option Nat := none

/-- The decrypt blocks (R219). -/
def decryptWork (s : State) : List SeatWork :=
  s.deck.dec.map fun b => { work := decWork b, blocks := freeBlocks s 0 (decWork b) b.left, slot := b.slot }

/-- The keystream of staged containers, as far as the store has room; a NONCE break halts it (R63, R220). -/
def encryptWork (s : State) : List SeatWork :=
  if broken s 4 then [] else
  (s.tm.staged.filter fun c => c.slot.isSome).map fun c =>
    { work := stWork c, blocks := min (freeBlocks s 1 (stWork c) c.ksLeft) (ksRoom s), slot := c.slot }

/-- The jobs that no engine works on: one engine each (R229). -/
def jobsWork (s : State) : List SeatWork :=
  (s.deck.jobs.filter fun j => j.ended.isNone && decide (handsFor s 3 (jobWork j) = [])).map fun j =>
    { work := jobWork j, blocks := j.left, keylen := (keySlot s j.slot).keylen, slot := some j.slot }

/-- The MICs that ACTV computes and checks, one engine each (R223). -/
def micWork (s : State) : List SeatWork :=
  let reply : List SeatWork := if s.actv.micMsg.isSome then [{ work := replyWork, slot := some (64 + 2 * rd s KEYS.OAM_SET) }] else []
  let check : List SeatWork := match toCheck s with
    | some (f, _, m) => [{ work := checkWork, slot := some (micSlot s f m) }]
    | none => []
  (reply ++ check).filter fun w => decide (handsFor s 4 w.work = [])

/-- The work a seat would take an engine for, oldest first. Seat 0 decrypts, seat 1 encrypts, seat 2 checks a VTAG or signs a record, seat 3 runs jobs,
seat 4 computes and checks MICs (R231). -/
def seatWork (s : State) (seat : Nat) : Option SeatWork :=
  match seat with
  | 0 => (decryptWork s).find? fun w => decide (0 < w.blocks)
  | 1 => (encryptWork s).find? fun w => decide (0 < w.blocks)
  | 2 => (lgcWork2 s).map fun w => { work := w.1, slot := some w.2 }
  | 3 => (jobsWork s).find? fun w => decide (0 < w.blocks)
  | 4 => (micWork s).head?
  | _ => none

/-- The seats that may take an engine: every seat in RUN and TRIM until an entry quiesces seats 0, 1 and 3; seats 2 and 4 in DOZE, seat 2
in NAP (R403, R410). -/
def seatRuns (s : State) (seat : Nat) : Bool :=
  if bulkRuns s then true else if rd s PWR.STATE = 3 then decide (seat = 2) else decide (seat = 2 ∨ seat = 4)

/-- A seat requests: it has work ready and holds fewer than MAX_HELD engines (R231). -/
def seatRequests (s : State) (seat : Nat) : Bool :=
  seatRuns s seat && (seatWork s seat).isSome && decide (heldBy s seat < rd s (DEAL.MAX_HELD seat))

/-- A seat that does not request has LOST 0 and no run of lost rounds (R233, R236). -/
def seatIdle (seat : Nat) (s : State) : State :=
  if seatRequests s seat then s
  else wr (DEAL.SEAT_LOST seat) 0 { s with deck := { s.deck with lostRun := adel s.deck.lostRun seat } }

/-- LOST of every seat that stopped requesting (R233). -/
def seatsIdle (s : State) : State := forEach (List.range 5) seatIdle s

end Sys2Proof.Machine
end

