-- ==== Sys2Proof/Machine/Staging.lean ====
section
/-! DEFINITION. Run-ahead staging (R192 to R197), the withdrawal of containers, the traffic manager's commands (R199), and
queue telemetry (R198, R207). -/
namespace Sys2Proof.Machine

/-! ## Credit and counter blocks (R54, R193) -/

/-- The payload unit bytes of staged frames (R193). -/
def contUnits (l : List SFrame) : Nat := sumOf l fun f => unitLen f.frame.data.length

/-- The room for payload units in a capacity (R193). -/
def roomOf (cap : Nat) (oam : Bool) : Nat := cap - 16 - (if oam then 48 else 0)

/-! ## Staging (R192, R193, R220) -/

/-- Take frames from a container's port while their units fit (R193). -/
def stageFrames (fuel port room : Nat) (s : State) : State × List SFrame :=
  match fuel with
  | 0 => (s, [])
  | fuel + 1 =>
    match takeFrame s [port] with
    | none => (s, [])
    | some (s', f) =>
      let u := unitLen f.frame.data.length
      if room < u then (s, [])
      else
        let n := cellsOf f.frame
        let l := s'.led
        let s' := { s' with led := { l with
          cellsQueued := l.cellsQueued - n, cellsStaged := l.cellsStaged + n
          specDebit := l.specDebit + debitBytes f, creditPend := l.creditPend + debitBytes f } }
        let (s'', r) := stageFrames fuel port (room - u) s'
        (s'', f :: r)

/-- Stage a container for a target frame: R220's cases that leave it unstaged, then its frames; while the keystream store is full an
encrypted staging waits (R193, R220, R221). -/
def stageContainer (c target cap : Nat) (oam : Bool) (s : State) : State :=
  let enc := bit (rd s DECK.UP_ENC) c
  let slot := 32 + 2 * c + stagePhase s c target
  if enc && broken s 4 then s
  else if enc && !(keySlot s slot).valid then s |> raise 0x20 2 |> inc DECK.KEY_MISSING
  else if enc && decide (target ≤ aget s.deck.topFrame slot 0) && s.deck.topFrame.any (fun x => x.1 == slot) then
    inc DECK.UP_FRAME_SKIP s
  else if enc && decide (ksSize ≤ ksHeld s) then
    { s with tm := { s.tm with waiting := s.tm.waiting ++ [(c, target, cap, oam)] } }
  else
    let phase := stagePhase s c target
    let s := stageSwitch c target s
    let (s, fs) := stageFrames (cap / 68 + 1) c (roomOf cap oam) s
    if fs = [] then s else
    let st : Staged := { cont := c, target := target, cap := cap, oam := oam, frames := fs
                         phase := phase, slot := if enc then some slot else none }
    let st := { st with ksLeft := contBlocks st }
    { s with
      tm := { s.tm with staged := s.tm.staged ++ [st] }
      deck := if enc then { s.deck with topFrame := aset s.deck.topFrame slot target } else s.deck
      led := { s.led with allocated := s.led.allocated + contBlocks st, nonceOpen := s.led.nonceOpen + contBlocks st } }

/-! ## Withdrawal (R195) -/

/-- A staged frame returns to the head of its queue with its credit (R195); its cells move back to QUEUED. -/
def returnFrame (confirmed : Bool) (f : SFrame) (s : State) : State :=
  let n := cellsOf f.frame
  let d := debitBytes f
  let l := s.led
  let l := { l with cellsStaged := l.cellsStaged - n, cellsQueued := l.cellsQueued + n, refunded := l.refunded + d }
  let l := if confirmed then { l with confirmed := l.confirmed - d } else { l with creditPend := l.creditPend - d }
  creditPath f.defs f.shapers f.frame.data.length
    { s with led := l, tm := { s.tm with queues := aset s.tm.queues f.queue (f.frame :: aget s.tm.queues f.queue []) } }

/-- The planned burst that carries a confirmed container is given up (R135, R195). -/
def dropPlan (c target : Nat) (s : State) : State :=
  let (out, keep) := s.burst.plans.partition fun p => p.full && decide (p.cont = c ∧ p.target / frameSteps = target)
  forEach out restoreRei { s with burst := { s.burst with plans := keep } }

/-- One container is withdrawn with its reason (R195, R208). -/
def withdrawOne (why : Nat) (c : Staged) (s : State) : State :=
  let s := forEach c.frames.reverse (returnFrame c.confirmed) s
  let b := contBlocks c
  let s := unstage c { s with led := { s.led with nonceOpen := s.led.nonceOpen - b, burned := s.led.burned + b } }
  let s := s |> inc (BB.BB_WITHDRAWN c.cont) |> wr (BB.LAST_WD c.cont) why |> raise 0x1D 0
  when c.confirmed (dropPlan c.cont c.target) s

/-- LOST of seat 1 where a withdrawal ends its request (R233). -/
def withdrawDone (s : State) : State := seatIdle 1 s

/-- A container is withdrawn with every later staged container of its port, the last first, so that order in each queue is
kept (R195); with a cascade LAST_WD reads the cascade's reason, which follows from the first's (R208, log 212). -/
def withdraw (why cont target : Nat) (s : State) : State :=
  let hit := s.tm.staged.filter fun x => x.cont == cont && decide (target ≤ x.target)
  if hit.any (fun x => x.target == target) then
    forEach hit.reverse (withdrawOne why) s |> wr (BB.LAST_WD cont) (if 1 < hit.length then 6 else why) |> withdrawDone
  else s

/-- Every staged and confirmed container whose burst has not begun is withdrawn (R151). -/
def withdrawAll (why : Nat) (s : State) : State :=
  withdrawDone (forEach s.tm.staged.reverse (withdrawOne why) { s with tm := { s.tm with waiting := [] } })

/-! ## Confirmation (R194) -/

/-- The frames whose units fit a room, and the rest (R194). -/
def splitFit (room : Nat) (l : List SFrame) : List SFrame × List SFrame :=
  match l with
  | [] => ([], [])
  | f :: r =>
    let u := unitLen f.frame.data.length
    if room < u then ([], f :: r) else let (a, b) := splitFit (room - u) r; (f :: a, b)

/-- A usable own entry confirms a staged container: the frames that fit are kept, the others withdrawn with their credit and
blocks, and the kept credit passes to CONFIRMED (R194, R196). -/
def confirm (c : Staged) (cap : Nat) (oam : Bool) (s : State) : State :=
  let (kept, rest) := splitFit (roomOf cap oam) c.frames
  let s := forEach rest.reverse (returnFrame false) s
  let all := contBlocks c
  let c' := { c with frames := kept, cap := cap, oam := oam, confirmed := true }
  let b := contBlocks c'
  let c' := { c' with ksLeft := c.ksLeft - (all - b) }
  let d := sumOf kept debitBytes
  let s := { s with
    led := { s.led with creditPend := s.led.creditPend - d, confirmed := s.led.confirmed + d
                        nonceOpen := s.led.nonceOpen - (all - b), burned := s.led.burned + (all - b) }
    tm := { s.tm with staged := s.tm.staged.map fun x => if x.cont == c.cont && x.target == c.target then c' else x } }
  let s := inc (BB.BB_CONFIRMED c.cont) s
  when (decide (rest ≠ [])) (inc (BB.BB_PARTIAL c.cont)) s

/-! ## The end of a grant map (R158, R192) -/

/-- What PRED stages for a container: its capacity and message space (R192). -/
def predOf (s : State) (c : Nat) : Option (Nat × Bool) :=
  let pred := rd s (BB.PRED c)
  if pred = 0 then
    match s.tm.hist.find? fun h => h.1 == c with
    | some h => if s.tm.maps - h.2.1 < rd s BB.HIST_FRAMES then some (h.2.2.1, h.2.2.2) else none
    | none => none
  else if pred = 1 then some (rd s (BB.STAGE_CAP c), decide (rd s (BB.PRED_OAM c) = 1))
  else none

/-- Staged containers that the maps received so far did not confirm in time are withdrawn: their entry was declined or discarded, or they
had none (R158, R194, R208). -/
def endOfMap (s : State) : State :=
  forEach (s.tm.staged.filter fun c => !c.confirmed && decide (c.target ≤ s.line.mapFrame + s.line.grantLead))
    (fun c => withdraw (aget s.line.declined c.cont 1) c.cont c.target) s

/-- Stagings begin: in OPERATION, with the traffic manager running and enabled, and no drain, in power state RUN (R192, R222, R404). -/
def stagingRuns (s : State) : Bool :=
  decide (rd s ACTV.STATE = 4 ∧ rd s PWR.STATE = 0) && !s.pwr.quiet && !tmHalted s && decide (rd s (HDR.ENABLE 0x10) = 1 ∧ rd s DECK.UP_DRAIN = 0)

/-- The stagings that wait are tried again in their order; one whose grant map is over is dropped (R158, R220). -/
def stageWaiting (s : State) : State :=
  if s.tm.waiting = [] ∨ stagingRuns s = false then s
  else
    let l := s.tm.waiting.filter fun w => decide (s.line.mapFrame + s.line.grantLead < w.2.1)
    forEach l (fun w => stageContainer w.1 w.2.1 w.2.2.1 w.2.2.2) { s with tm := { s.tm with waiting := [] } }

/-- Staging after a used map (R192). -/
def stageAll (s : State) : State :=
  if stagingRuns s = false then s
  else
    forEach (List.range 16) (fun c s =>
      match predOf s c with
      | some (cap, oam) => stageContainer c (s.line.mapFrame + s.line.grantLead + 1) cap oam s
      | none => s) (stageWaiting s)

/-- STAGING: due once every entry of a used map is processed (R192). -/
def execStaging (t : Nat) (s : State) : Out :=
  ev t s fun s =>
    if s.line.mapUsed = true ∧ s.line.grants = [] then
      stageAll (endOfMap { s with line := { s.line with mapUsed := false } })
    else s

/-! ## Commands (R199) -/

/-- The BAR0 address of TM_CMD. -/
def tmCmdAddr : Nat := 0x10054

/-- The frames of a queue that a flush or reset drops are counted and freed; the others stay (R199). -/
def flushQueue (drops : QFrame → Bool) (q : Nat) (s : State) : State :=
  let (fs, rest) := (aget s.tm.queues q []).partition drops
  let tl := aget s.tm.tel q {}
  let tl := { tl with dropsFlush := (tl.dropsFlush + fs.length) % 2 ^ 32 }
  let qs := if rest = [] then adel s.tm.queues q else aset s.tm.queues q rest
  resetIdle q (forEach fs (freeFrame false) { s with tm := { s.tm with queues := qs, tel := aset s.tm.tel q tl } })

/-- The cells in rows due for retirement that frames hold (R471). -/
def badCells (s : State) : List Nat :=
  s.tm.queues.flatMap (fun q => q.2.flatMap (·.bad)) ++ s.tm.staged.flatMap (fun c => c.frames.flatMap (·.frame.bad))
    ++ s.burst.frames.flatMap (fun x => x.2.2.frame.bad)

/-- RESET reinitialises CELLS, DESC and CREDIT, the deficits, buckets and ghosts; a cell in a row due for retirement is
QUARANTINED (R62, R199, R471). -/
def tmReinit (s : State) : State :=
  let bad := badCells s
  let s := forEach bad rowReady s
  let l := { s.led with cellsQuar := s.led.cellsQuar + bad.length }
  let s := { s with
    led := { l with cellsFree := 65536 - l.cellsQuar, cellsQueued := 0, cellsStaged := 0, descFree := 32768, descInUse := 0
                    specDebit := 0, confirmed := 0, refunded := 0, creditPend := 0 }
    burst := { s.burst with frames := [] }
    tm := { s.tm with
      children := [], ghosts := [], queues := [], staged := [], waiting := []
      entries := s.tm.entries.map fun x => (x.1, { x.2 with ref := 0 })
      shapers := s.tm.shapers.map fun x => (x.1, { x.2 with c := x.2.cbs * byteUnits, p := x.2.pbs * byteUnits })
      policers := s.tm.policers.map fun x => (x.1, { x.2 with t1 := x.2.cbs * byteUnits, t2 := x.2.b2 * byteUnits }) } }
  s

/-- TM_CMD RESET: accepted only while ENABLE is 0 (R199). -/
def tmResetCmd (p : Port) (s : State) : State :=
  fabricCmd p 0x10 0x054 (some TMGR.CMD_CODE)
    [(cmdBusy s tmCmdAddr, .busy), (decide (rd s (HDR.ENABLE 0x10) = 1), .state)]
    (fun s =>
      let s := withdrawAll 5 s
      let s := forEach (fullQueues s) (flushQueue fun _ => true) s
      raise 0x10 5 (startCmd tmCmdAddr tickSteps (tmReinit s))) s

/-- TM_RESET from a fabric port. -/
def execTmReset (t : Nat) (p : Port) (s : State) : Out := evPort p t s (tmResetCmd p)

/-- TM_CMD FLUSH_QUEUE: LEDGER while the queue holds staged frames; a frame enqueued in this cycle stays (R199). -/
def flushQueueCmd (p : Port) (q : Nat) (s : State) : State :=
  fabricCmd p 0x10 0x054 (some TMGR.CMD_CODE)
    [(cmdBusy s tmCmdAddr, .busy), (decide (1023 < q), .range), (decide (0 < stagedCells s q), .ledger)]
    (fun s => raise 0x10 5 (startCmd tmCmdAddr 16 (flushQueue (fun f => f.enq != s.time.sc) q s))) s

/-- FLUSH_QUEUE from a fabric port. -/
def execFlushQueue (t : Nat) (p : Port) (q : Nat) (s : State) : Out := evPort p t s (flushQueueCmd p q)

/-! ## Telemetry (R198, R204, R207) -/

/-- The enabled queues, as the listed QCFG_A registers show them. -/
def enabledQueues (s : State) : List Nat :=
  s.regs.filterMap fun e =>
    let p := e.1.page
    let o := e.1.off - 0x100
    if 0x14 ≤ p ∧ p ≤ 0x17 ∧ 0x100 ≤ e.1.off ∧ e.1.lo = 31 ∧ o % 12 = 0 ∧ e.2 = 1 then some (256 * (p - 0x14) + o / 12)
    else none

/-- The histogram bin of a sojourn (R198). -/
def sojournBin (base v : Nat) : Nat := ((List.range 7).filter fun k => decide (base * 2 ^ k ≤ v)).length

/-- The enqueue SC of a queue's oldest frame, queued or staged. -/
def oldestOf (s : State) (q : Nat) : Option Nat :=
  let l := (aget s.tm.queues q []).map (·.enq)
    ++ ((s.tm.staged.flatMap (·.frames) ++ s.burst.frames.map (·.2.2)).filter fun f => f.queue == q).map (·.frame.enq)
  match l with
  | [] => none
  | x :: r => some (r.foldl min x)

/-- One queue's sample of a commit cycle (R198). -/
def sampleQueue (q : Nat) (s : State) : State :=
  let x := aget s.tm.tel q {}
  let dq := queuedCells s q
  let x := { x with qLast := dq, sLast := stagedCells s q
                    qMin := if x.samples = 0 then dq else min x.qMin dq
                    qMax := if x.samples = 0 then dq else max x.qMax dq
                    samples := x.samples + 1, deficit := (aget s.tm.children (0, q) {}).deficit }
  match oldestOf s q with
  | none => { s with tm := { s.tm with tel := aset s.tm.tel q x } }
  | some e =>
    let v := min (s.time.sc - e) 0xFFFFFFFF
    let b := sojournBin (rd s TEL.HIST_BASE) v
    let x := { x with sojLast := v
                      sojMin := if x.sojs = 0 then v else min x.sojMin v
                      sojMax := if x.sojs = 0 then v else max x.sojMax v
                      hist := x.hist.zipIdx.map (fun h => if h.2 = b then (h.1 + 1) % 2 ^ 32 else h.1), sojs := x.sojs + 1 }
    let s := { s with tm := { s.tm with tel := aset s.tm.tel q x } }
    when (decide (rd s TEL.SOJ_ALARM < v)) (raiseSub 0x1C q) s

/-- The counts that the telemetry window shows, as they stand (R207). -/
def Tel.sampleCounts (x : Tel) : Tel := { x with shown := [x.framesOut, x.bytesOut, x.dropsFull, x.dropsYellow, x.dropsFlush] }

/-- The telemetry of a commit cycle: the samples, and the DROPPED sub-causes of the tick just ended (R198, R204, R207). -/
def telTick (s : State) : State :=
  let s := forEach s.tm.dropped (fun q => raiseSub (0x14 + q / 256) (q % 256)) s
  let s := forEach (enabledQueues s) sampleQueue { s with tm := { s.tm with dropped := [] } }
  { s with tm := { s.tm with tel := s.tm.tel.map fun x => (x.1, x.2.sampleCounts) } }

/-- Copy a queue's telemetry into the window (R207). -/
def loadTel (x : Tel) (s : State) : State :=
  let s := s |> wr TEL.DEPTH_Q_LAST x.qLast |> wr TEL.DEPTH_S_LAST x.sLast |> wr TEL.DEPTH_Q_MIN x.qMin
    |> wr TEL.DEPTH_Q_MAX x.qMax |> wr TEL.SOJ_LAST x.sojLast |> wr TEL.SOJ_MIN x.sojMin |> wr TEL.SOJ_MAX x.sojMax
    |> wr TEL.T_FRAMES_OUT (x.shown.getD 0 0) |> wr TEL.T_BYTES_OUT (x.shown.getD 1 0) |> wr TEL.DROPS_FULL (x.shown.getD 2 0)
    |> wr TEL.DROPS_YELLOW (x.shown.getD 3 0) |> wr TEL.DROPS_FLUSH (x.shown.getD 4 0) |> wrS TEL.T_DEFICIT x.deficit
    |> wr TEL.T_SAMPLES x.samples
  forEach (List.range 8) (fun k => wr (TEL.HIST k) (x.hist.getD k 0)) s

/-- A write to TEL_SEL selects, copies, and with CLEAR restarts MIN, MAX, the histogram and SAMPLES (R207). -/
def telSelCmd (p : Port) (v : Nat) (s : State) : State :=
  fabricCmd p 0x1C 0x048 none [(decide (bits v 30 10 ≠ 0), .reserved)]
    (fun s =>
      let q := bits v 9 0
      let x := aget s.tm.tel q {}
      let s := loadTel x (s |> wr TEL.TEL_QUEUE q |> wr TEL.TEL_CLEAR (bits v 31 31))
      if bit v 31 then
        { s with tm := { s.tm with tel := aset s.tm.tel q { x with
            qMin := 0, qMax := 0, sojMin := 0, sojMax := 0, hist := [0, 0, 0, 0, 0, 0, 0, 0], sojs := 0, samples := 0 } } }
      else s) s

/-- TEL_SEL from a fabric port, with the word written. -/
def execTelSel (t : Nat) (p : Port) (v : Nat) (s : State) : Out := evPort p t s (telSelCmd p v)

end Sys2Proof.Machine
end

