-- ==== Sys2Proof/Machine/Actv.lean ====
section
/-! DEFINITION. Activation (R148 to R174): the states and their transitions, the grant map's entries, the bursts they launch,
dying gasp, LOCKOUT, and the commands of the ACTV page. OAM messages stand in Oam.lean. -/
namespace Sys2Proof.Machine

/-! ## The state machine (R148, R149, R151) -/

/-- The bursts that a new state does not send are given up, the newest first, so that NEXT_PATH returns to the oldest's (R135, R151). -/
def dropPlans (st : Nat) (s : State) : State :=
  let (keep, out) := s.burst.plans.partition fun p => decide (kindOf st = some p.kind)
  forEach out.reverse restoreRei { s with burst := { s.burst with plans := keep } }

/-- A transition of the activation state with everything R149 to R151 attach to it. -/
def goState (st : Nat) : State → State := noteFall fun s =>
  let was := rd s ACTV.STATE
  if was = st then s else
  let s := dropPlans st s
  let s := if was = 4 then withdrawAll 5 s else s
  let s := if st = 6 ∨ st = 7 then abortBurst s else s
  let s := { s with actv := { s.actv with turn := match s.actv.turn with
    | some (c, x) => if c = s.time.cycle then some (c, x) else some (s.time.cycle, was, s.actv.to2)
    | none => some (s.time.cycle, was, s.actv.to2) } }
  let s := s |> wr ACTV.STATE st |> raise 0x0D 0
  let s := if st = 3 ∨ st = 4 ∨ st = 5 then s else wr ACTV.TERM_ID 0xFFF s
  let s := if st = 1 then wr ACTV.PROFILE_VALID 0 s else s
  let s := if st = 4 ∨ st = 5 then s else s |> wr ACTV.RANGED_FLAG 0 |> wr ACTV.POPUP_SEEN 0
  let s := when (decide (st = 6)) (raise 0x0D 6) s
  { s with actv := { s.actv with
      to1 := if st = 2 then some s.time.ticks else if st = 3 then s.actv.to1 else none
      to2 := if st = 5 then some s.time.ticks else none } }

/-- INITIAL is left when ENABLE is 1, delineation is in SYNC and none of LOS, LOF and LSC is declared (R149). -/
def tryStandby (s : State) : State :=
  if rd s ACTV.STATE = 0 ∧ enabled s 0x0D = true ∧ rd s FRMD.DELIN = 2 ∧ rd s FRMD.DECLARED % 8 = 0 then goState 1 s else s

/-- The state before the first transition of the present cycle, or the state (R149). -/
def startState (s : State) : Nat :=
  match s.actv.turn with
  | some (c, st, _) => if c = s.time.cycle then st else rd s ACTV.STATE
  | none => rd s ACTV.STATE

/-- What a change of the declared section defects does to the state: in one cycle with a transition out of STANDBY, SERIAL or RANGING the
target INITIAL comes first (R149). -/
def actvLine (s : State) : State :=
  let st := rd s ACTV.STATE
  let was := startState s
  let s := if rd s FRMD.DECLARED % 4 ≠ 0 then
      (if 1 ≤ st ∧ st ≤ 5 ∧ 1 ≤ was ∧ was ≤ 3 then goState 0 s else if st = 4 then goState 5 s else if 1 ≤ st ∧ st ≤ 3 then goState 0 s else s)
    else s
  tryStandby s

/-- A return to INITIAL, from every state but INITIAL, HALTED and LOCKOUT (R149). -/
def toInitial (s : State) : State :=
  let st := rd s ACTV.STATE
  if st = 0 ∨ st = 6 ∨ st = 7 then s else tryStandby (goState 0 s)

/-- ACTV's ENABLE changes (R149, R172). -/
def actvEnable (on : Bool) (s : State) : State := if on then tryStandby s else toInitial s

/-- LOCKOUT is entered with its reason: 1 pad, 2 idle fault, 3 guard (R166). A DISABLE accepted in the same cycle counts as ignored, since
LOCKOUT comes first (R149 and its hard case). -/
def lockout (why : Nat) (s : State) : State :=
  let st := rd s ACTV.STATE
  if st = 7 then s
  else
    let s := if st = 6 ∧ startState s ≠ 6 then s |> wr (ACTV.CNT 7) (rd s (ACTV.CNT 7) + 0xFFFFFFFF) |> inc (ACTV.CNT 9) else s
    goState 7 s |> wr ACTV.LOCKOUT_WHY why |> inc (ACTV.CNT 13) |> raise 0x0D 5

/-! ## Declined and withdrawn grants (R117, R158) -/

/-- The burst of an accepted grant is given up: its container is withdrawn, or its REI values return (R135, R195). -/
def giveUp (why : Nat) (p : Plan) (s : State) : State :=
  match contOf s p with
  | some c => withdraw why c.cont c.target s
  | none => restoreRei p { s with burst := { s.burst with plans := s.burst.plans.filter fun x => decide (x ≠ p) } }

/-- The cycle from which a transmit lane is ACTIVE again, none while no lane can be (R116 to R118). -/
def activeFrom (s : State) : Option Nat :=
  match s.lane.swap with
  | some w => some (w.start + trainSteps s + 4)
  | none => if (txActive s).isNone then none else some s.lane.retrainEnd

/-- The burst is declined: TX_RETRAIN is 1 and its first preamble symbol would fall before a lane is ACTIVE; or no lane can be (R117,
R118). -/
def fallsInRetrain (s : State) (p : Plan) : Bool :=
  match activeFrom s with
  | some c => txRetrain s && decide (launchCycle s p < c)
  | none => true

/-- Every accepted grant that a lane's retraining costs is declined (R117). -/
def declinePlans (s : State) : State :=
  forEach (s.burst.plans.filter (fallsInRetrain s)) (fun p s => incSat LANE.GRANTS_DECLINED (giveUp 4 p s)) s

/-- TX_SWAP from a fabric port (R116, R117, R126). -/
def execTxSwap (t : Nat) (p : Port) (lane : Nat) (s : State) : Out :=
  evPort p t s (noteFall fun s => declinePlans (txSwapCmd p lane s))

/-- The active transmit lane's self-monitor fails (R116 to R118). -/
def execTxDriverFault (t : Nat) (s : State) : Out := ev t s (noteFall fun s => declinePlans (driverFault s))

/-- RETRAIN from a fabric port (R117, R126). -/
def execRetrain (t : Nat) (p : Port) (lane : Nat) (selfOk : Bool) (s : State) : Out :=
  evPort p t s (noteFall fun s => declinePlans (retrainCmd p lane selfOk s))

/-- What a transmit lane sends (R110, R116, R166). -/
inductive TxSends where
  | electricalIdle | training | switchMarker | idlePattern | burst
  deriving DecidableEq, Repr

/-- What transmit lane n sends now: in LOCKOUT both are at electrical idle (R166); a lane in TRAIN or one that retrains sends training, one
in MARK the switch marker, and an ACTIVE one a burst or the idle pattern (R110, R116, R126). -/
def txSends (s : State) (n : Nat) : TxSends :=
  if rd s ACTV.STATE = 7 then .electricalIdle
  else match txStateNow s n with
    | 1 => .training
    | 2 => .switchMarker
    | 3 =>
      if s.lane.swap.isNone && txRetrain s then .training
      else if s.time.cycle < s.burst.endCycle then .burst else .idlePattern
    | _ => .electricalIdle

/-- The levels at a transmit lane's pins for the whole of the last burst: preamble, delimiter and body, in the order of the line (R102, R105,
R106, R159). -/
def burstLevels (s : State) (n : Nat) : List Nat := txSymbols s n (Config.lastLevel s.burst.endCycle % 4) (upLevels (s.burst.start ++ s.burst.body))

/-! ## REI values (R135) -/

/-- The next enabled path after n, wrapping from 15 to 0 (R135). -/
def nextPath (s : State) (n : Nat) : Nat :=
  ((List.range 16).map fun k => (n + 1 + k) % 16).find? (fun p => decide (rd s (FRMD.PATH_EN p) = 1)) |>.getD n

/-- A data burst's header takes the REI values (R135, R161). -/
def takeRei (p : Plan) (s : State) : State × Plan :=
  let st := rd s FRMD.DETECTED
  let p := { p with sstat := if rd s FRMU.SSTAT_EN = 0 then 0 else if bit st 3 then 2 else if bit st 4 then 1 else 0 }
  if rd s FRMU.REI_EN = 0 then (s, { p with preiPath := rd s FRMU.NEXT_PATH }) else
  let n := rd s FRMU.NEXT_PATH
  (s |> wr FRMU.SREI_ACC 0 |> wr (FRMU.PREI_ACC n) 0 |> wr FRMU.NEXT_PATH (nextPath s n),
   { p with took := true, srei := rd s FRMU.SREI_ACC, preiPath := n, prei := rd s (FRMU.PREI_ACC n) })

/-! ## Grant entries (R153 to R158) -/

/-- Phase steps from the frame's first symbol to the last bit of entry k of its map (R158). -/
def entryArrival (k : Nat) : Nat :=
  let last := 32 + 8 * k + 7
  (80 + 248 * (last / 232) + last % 232 + 8) / 8

/-- The plan an entry stands for in the present state (R153, R154, R156, R159). -/
def planOf (s : State) (g : Grant) : Plan :=
  let st := rd s ACTV.STATE
  let tgt := (s.line.mapFrame + s.line.grantLead) * frameSteps + g.start
  let dg := decide (rd s ACTV.DG = 1)
  let q := rd s SIDR.SC_QUALITY
  if st = 2 then
    let r := if s.line.snSlots = 0 then 0 else Config.snDraw (rd s ACTV.SN_SEED) s.actv.draws % s.line.snSlots
    { kind := .serial, cont := 0, target := tgt + r * 256, pre := s.line.preLong, steps := 20, oam := true, sn := r
      pattern := s.line.prePat, delim := s.line.delim, dg := dg, quality := q }
  else if st = 3 then
    { kind := .ranging, cont := 0, target := tgt, pre := s.line.preLong, steps := 20, oam := true
      pattern := s.line.prePat, delim := s.line.delim, dg := dg, quality := q }
  else
    { kind := .data, cont := g.cont, target := tgt, pre := if bit g.flags 5 then s.line.preLong else s.line.preLen
      steps := g.steps, oam := bit g.flags 7, pattern := s.line.prePat, delim := s.line.delim, dg := dg, quality := q }

/-- The phases a plan's burst occupies: from its first preamble symbol to after its last body symbol (R159). -/
def planSpan (s : State) (p : Plan) : Nat × Nat :=
  let a := p.target - (s.line.mapFrame + s.line.grantLead) * frameSteps
  (a, a + p.pre + 2 + p.steps)

/-- R153: a serial-number burst would end after the entry's window or after phase 39,999. -/
def snTooLate (s : State) (g : Grant) (p : Plan) : Bool :=
  let e := (planSpan s p).2
  decide (g.start + s.line.preLong + 2 + g.steps < e) || decide (40000 < e)

/-- R157: the entry is for this terminal but discarded; entries for it are counted whether used or not. -/
def entryBad (s : State) (g : Grant) (p : Plan) : Bool :=
  let st := rd s ACTV.STATE
  let (a, e) := planSpan s p
  decide (g.flags % 32 ≠ 0) || decide (39999 < g.start) || decide (g.steps < 8 ∨ 40000 < g.steps)
    || decide (capacity g.steps < 16 + (if bit g.flags 7 then 48 else 0))
    || (decide (st ≠ 2) && decide (40000 < e))
    || (bit g.flags 6 != decide (st = 3))
    || s.line.own.any (fun o => decide (a < o.2.1 ∧ o.1 < e))
    || decide (16 < s.line.owned)

/-- The entry's first preamble symbol falls less than 1,600 phase steps after its last bit arrives, both in the timing basis
of the state (R158). -/
def entryLate (s : State) (k : Nat) (p : Plan) : Bool :=
  let arr : Int := (s.line.mapAt : Int) + entryArrival k
  let basis : Int := if p.kind = .data then (s.time.sc : Int) - s.time.cycle else s.sidr.rxOff.getD 0
  decide ((p.target : Int) < arr + basis + 1600)

/-- In OPERATION an entry that is declined or discarded withdraws the container staged for its frame, unless another entry of the map
confirms it; which is known at the end of the map (R158, R194, log 213). -/
def noteDeclined (s : State) (why : Nat) (g : Grant) : State :=
  if rd s ACTV.STATE = 4 then { s with line := { s.line with declined := aset s.line.declined g.cont why } } else s

/-- A usable data entry: the container staged for it is confirmed, or the burst is idle (R194, R196); its header takes the REI
values (R135). -/
def useData (g : Grant) (p : Plan) (s : State) : State :=
  let f := s.line.mapFrame + s.line.grantLead
  let cap := capacity g.steps
  let again := s.line.own.any fun o => o.2.2 == g.cont
  let st := s.tm.staged.find? fun c => c.cont == g.cont && c.target == f && !c.confirmed
  let full := st.isSome && !again
  let s := match st with
    | some c => if again then s |> inc (BB.BB_UNSTAGED g.cont) |> raise 0x1D 1 else confirm c cap p.oam s
    | none => s |> inc (BB.BB_UNSTAGED g.cont) |> raise 0x1D 1
  let s := { s with tm := { s.tm with
    hist := (g.cont, s.tm.maps, cap, p.oam) :: s.tm.hist.filter (fun h => h.1 != g.cont) } }
  let (s, p) := takeRei { p with full := full } s
  { s with burst := { s.burst with plans := s.burst.plans ++ [p] } }

/-- An own entry that is not discarded: counted, declined, or used (R153, R154, R157, R158). -/
def useEntry (k : Nat) (g : Grant) (p : Plan) (s : State) : State :=
  let s := inc (ACTV.CNT 0) s
  let (a, e) := planSpan s p
  if entryLate s k p then noteDeclined (inc (ACTV.CNT 2) s) 2 g
  else if fallsInRetrain s p then noteDeclined (incSat LANE.GRANTS_DECLINED s) 4 g
  else
    let s' := if p.kind = .data then useData g p s else { s with burst := { s.burst with plans := s.burst.plans ++ [p] } }
    { s' with line := { s'.line with own := (a, e, if p.kind = .data then g.cont else 16) :: s'.line.own } }

/-- An entry is checked for this terminal (R157). -/
def grantEntry (k : Nat) (g : Grant) (s : State) : State :=
  let st := rd s ACTV.STATE
  if !g.crcOk then inc (ACTV.CNT 4) s
  else if (kindOf st).isNone ∨ g.term ≠ (if st = 2 then 0xFFF else rd s ACTV.TERM_ID) then s
  else
    let p := planOf s g
    let s := if st = 2 then { s with actv := { s.actv with draws := s.actv.draws + 1 } } else s
    let s := { s with line := { s.line with owned := s.line.owned + 1 } }
    if entryBad s g p || (decide (st = 2) && snTooLate s g p) then noteDeclined (s |> inc (ACTV.CNT 3) |> raise 0x0D 11) 3 g
    else useEntry k g p s

/-- GRANT_ENTRY: the next waiting entry of the last usable map (R156 to R158). -/
def execGrantEntry (t : Nat) (s : State) : Out :=
  ev t s fun s =>
    match s.line.grants with
    | [] => s
    | (k, b) :: r => grantEntry k (grantOf b) { s with line := { s.line with grants := r } }

/-! ## Bursts (R159 to R163, R169) -/

/-- MANIFEST and SERIAL as messages carry them. -/
def snBody (s : State) (r : Nat) : List Nat := toBe 8 (rd s ACTV.SERIAL) ++ [r] ++ toBe 4 (Variant.manifest s.fuse.variant)

/-- A message that ACTV builds of its own, with its SEQ (R167, R169, log 20). -/
def ownMessage (type : Nat) (body : List Nat) (s : State) : List Nat × State :=
  (oamMessage (rd s ACTV.TERM_ID) type (Config.upSeq s.actv.built % 256) body,
   { s with actv := { s.actv with built := s.actv.built + 1 } })

/-- The message a burst carries: the serial-number or ranging response, or the head of the queue, or IDLE (R169). -/
def burstMessage (p : Plan) (s : State) : List Nat × State :=
  match p.kind with
  | .serial => ownMessage 0x81 (snBody s p.sn) s
  | .ranging => ownMessage 0x82 (toBe 8 (rd s ACTV.SERIAL)) s
  | .data =>
    match s.actv.upq with
    | (_, m) :: r => (m, { s with actv := { s.actv with upq := r } })
    | [] => ownMessage 0x80 [] s

/-- Bytes of body before the byte after data byte n, as phase steps, rounded up (R160, R159). -/
def bodySteps (n : Nat) : Nat := (248 * ((n - 1) / 232) + (n - 1) % 232 + 1 + 3) / 4

/-- The frames of a burst with the phase steps from the first body symbol to each one's last byte. -/
def frameEnds (off : Nat) (l : List SFrame) : List (Nat × SFrame) :=
  match l with
  | [] => []
  | f :: r =>
    let n := f.frame.data.length
    (bodySteps (off + 4 + n), f) :: frameEnds (off + unitLen n) r

/-- The payload units of a container, encrypted under its slot (R162, R217, R218). -/
def payloadOf (s : State) (c : Staged) : List Nat :=
  let l := c.frames.flatMap fun f => unitOf (ptypeOf s f.frame) f.frame.data
  match c.slot with
  | none => l
  | some n =>
    let k := keySlot s n
    (cryptUnits (c.frames.length + 1) k.key
      (fun i => lineBlock k.salt (rd s ACTV.TERM_ID) c.cont 1 c.target i) 0 l).1

/-- The burst's first preamble symbol leaves, in OPERATION delayed by ADVANCE mod 64 bit periods (R135, R146, R152, R158, R159, R161, R163):
its preamble and delimiter go out, its header, message and units go to the coder, its counter blocks are TRANSMITTED, and its frames leave
one after another until its end. -/
def sendBurst (p : Plan) (s : State) : State :=
  let st := contOf s p
  let pay := match st with | some c => payloadOf s c | none => []
  let key := match st with | some c => 128 * b2n c.slot.isSome + 64 * (c.phase % 2) | none => 0
  let flags := (if p.kind = .data then p.preiPath * 16 + p.sstat * 4 + b2n p.dg * 2 else 0) + b2n p.oam
  let hdr := burstHeader (rd s ACTV.TERM_ID) p.cont p.srei flags p.prei (p.quality * 64) pay.length key
  let (msg, s) := if p.oam then (let x := burstMessage p s; (x.1, raise 0x0D 12 x.2)) else ([], s)
  let body0 := s.time.cycle + p.pre + 2
  let off := 16 + msg.length
  let ends := match st with | some c => (frameEnds off c.frames).map fun x => (body0 + x.1, p.cont, x.2) | none => []
  let blocks := match st with | some c => contBlocks c | none => 0
  let n := 4 * p.steps / 248
  let s := s |> inc FRMU.BURSTS_SENT |> addTo FRMU.SREI_SENT p.srei
    |> inc (ACTV.CNT (match p.kind with | .serial => 5 | .ranging => 6 | .data => 1))
  { s with
    led := { s.led with nonceOpen := s.led.nonceOpen - blocks, transmitted := s.led.transmitted + blocks }
    tm := match st with | some c => (unstage c s).tm | none => s.tm
    burst := { s.burst with
      plans := s.burst.plans.filter fun x => decide (x ≠ p)
      endCycle := body0 + p.steps
      txRise := if s.time.cycle - rd s ACTV.LEAD < s.burst.txFall then s.burst.txRise else s.time.cycle - rd s ACTV.LEAD
      txFall := body0 + p.steps + rd s ACTV.LAG
      frames := s.burst.frames ++ ends
      cws := n + (if 17 ≤ 4 * p.steps - 248 * n then 1 else 0)
      fine := if p.kind = .data then s.sidr.fine else 0
      start := (List.range p.pre).flatMap (fun _ => toBe 4 p.pattern) ++ toBe 8 p.delim
      body := burstBody p.steps (hdr ++ msg ++ pay) } }

/-- A planned burst whose time has come: declined while MOD_TXEN is forced low (R117, R124), withdrawn where its keystream is
incomplete (R220), else sent. -/
def launch (p : Plan) (s : State) : State :=
  if txForcedLow s then incSat LANE.GRANTS_DECLINED (giveUp 4 p s)
  else if ((contOf s p).any fun c => decide (0 < c.ksLeft)) = true then
    s |> inc DECK.KS_LATE |> raise 0x20 1 |> giveUp 2 p
  else sendBurst p s

/-- The earlier of two planned bursts. -/
def sooner (s : State) (a : Option Plan) (p : Plan) : Option Plan :=
  match a with
  | none => some p
  | some q => if launchCycle s p < launchCycle s q then some p else some q

/-- BURST_LAUNCH: the earliest planned burst, once its first preamble symbol is due (R152, R159). -/
def execBurstLaunch (t : Nat) (s : State) : Out :=
  ev t s fun s =>
    match (s.burst.plans.filter fun p => decide (launchCycle s p ≤ s.time.cycle)).foldl (sooner s) none with
    | some p => noteFall (fun s => stageWaiting (launch p s)) s
    | none => s

/-! ## Timers, rogue detection, dying gasp (R150, R164, R166) -/

/-- TO1 expires: SERIAL or RANGING to STANDBY (R150). -/
def execTo1Expire (t : Nat) (s : State) : Out :=
  ev t s fun s =>
    match s.actv.to1 with
    | some k => if k + rd s ACTV.TO1 ≤ s.time.ticks then goState 1 (raise 0x0D 8 s) else s
    | none => s

/-- When TO2 began, as it stood before a transition of the present cycle: INITIAL comes before OPERATION (R149). -/
def to2Start (s : State) : Option Nat :=
  match s.actv.turn with
  | some (c, 5, k) => if c = s.time.cycle ∧ rd s ACTV.STATE = 4 then k else s.actv.to2
  | _ => s.actv.to2

/-- TO2 expires: INTERMITTENT to INITIAL (R150). -/
def execTo2Expire (t : Nat) (s : State) : Out :=
  ev t s fun s =>
    match to2Start s with
    | some k => if k + rd s ACTV.TO2 ≤ s.time.ticks then tryStandby (goState 0 (raise 0x0D 9 s)) else s
    | none => s

/-- TXEN_PAD reads high for FILTER phase steps while MOD_TXEN is driven low (R166). -/
def execRoguePad (t : Nat) (s : State) : Out :=
  ev t s fun s =>
    if txenDriven s = false ∧ s.burst.txFall + rd s ACTV.ROGUE_FILTER ≤ s.time.cycle then
      lockout 1 { s with actv := { s.actv with padHigh := true } }
    else s

/-- TXEN_PAD reads low for 4,000 phase steps while MOD_TXEN is driven high (R166). -/
def execTxenLow (t : Nat) (s : State) : Out :=
  ev t s fun s =>
    if txenDriven s = true ∧ riseAt s + 4000 ≤ s.time.cycle then
      raise 0x0D 13 { s with actv := { s.actv with padHigh := false, padLow := some (riseAt s) } }
    else s

/-- A filtered edge of MOD_TXFLT: an assertion gives LOCKOUT while MOD_TXEN is driven low, or when the guard fails (R122, R166); a release
ends what TXFLT_FILT reads. -/
def execModTxfltAssert (e : PinAt) (s : State) : Out :=
  ev e.t s fun s =>
    if !e.high then wr LANE.TXFLT_FILT 0 s else
    let low := !txenDriven s
    let s := txfltAssert s
    if low then lockout 2 s else if s.lane.fltGuard then lockout 3 s else s

/-- MOD_TXFLT is still asserted TIMEOUT ticks after MOD_TXEN fell: the TXFLT guard fails (R122, R166). -/
def execTxfltTimeout (t : Nat) (s : State) : Out :=
  ev t s fun s =>
    if rd s LANE.TXFLT_FILT = 1 ∧ s.lane.fltTick + rd s LANE.TXFLT_TIMEOUT ≤ s.time.ticks ∧ s.lane.fltGuard = false then
      lockout 3 (txfltFail (abortBurst s))
    else s

/-- The class of an upstream message in the queue's order: DYING_GASP, ACK, STC_REPLY (R169). -/
def upClass (type : Nat) : Nat := if type = 0x84 then 0 else if type = 0x83 then 1 else 2

/-- A message enters the upstream queue behind those of its class and before the next; the queue holds 8, and the last one is
lost where a new one does not fit (R169, log 19). -/
def queueUp (type : Nat) (m : List Nat) (s : State) : State :=
  let l := s.actv.upq
  let a := l.filter fun x => decide (upClass x.1 ≤ upClass type)
  let b := l.filter fun x => decide (upClass type < upClass x.1)
  { s with actv := { s.actv with upq := (a ++ (type, m) :: b).take 8 } }

/-- PWR_WARN_N's filtered level: DG, its count and its message (R164). -/
def dyingGasp (on : Bool) (s : State) : State :=
  if on then
    let s := s |> wr ACTV.DG 1 |> inc (ACTV.CNT 12) |> raise 0x0D 7
    if rd s ACTV.DG_MSG = 1 then
      let (m, s) := ownMessage 0x84 (toBe 8 (scReg s.time.sc)) s
      queueUp 0x84 m s
    else s
  else wr ACTV.DG 0 s

/-! ## Commands (R173, R174) -/

/-- The BAR0 address of ACTV_CMD. -/
def actvCmdAddr : Nat := 0xD07C

/-- An ACTV_CMD with its STATE condition; it completes within 4 cycles (R173). -/
def actvCmd (p : Port) (bad : Bool) (act : State → State) (s : State) : State :=
  fabricCmd p 0x0D 0x07C (some ACTV.CMD_CODE) [(cmdBusy s actvCmdAddr, .busy), (bad, .state)]
    (fun s => act (startCmd actvCmdAddr 4 s)) s

/-- GO_OPERATION's condition fails (R173). -/
def goOperationBad (s : State) : Bool :=
  !(decide (rd s ACTV.STATE = 3 ∧ rd s ACTV.RANGED_FLAG = 1) || decide (rd s ACTV.STATE = 5 ∧ rd s ACTV.POPUP_SEEN = 1))
    || decide (rd s SIDR.ADV_VALID = 0) || decide (rd s SIDR.ADV_BITS ≠ rd s ACTV.RANGED_ADVANCE)

/-- GO_OPERATION from a fabric port. -/
def goOperationCmd (p : Port) (s : State) : State := actvCmd p (goOperationBad s) (goState 4) s

/-- GO_OPERATION from a fabric port. -/
def execGoOperation (t : Nat) (p : Port) (s : State) : Out := evPort p t s (goOperationCmd p)

/-- CLEAR_LOCKOUT, with the level of the pad (R173). -/
def clearLockoutCmd (p : Port) (pad : Bool) (s : State) : State :=
  let s := { s with actv := { s.actv with padHigh := pad && !txenDriven s } }
  actvCmd p (decide (rd s ACTV.STATE ≠ 7) || pad || s.lane.fltGuard) (fun s => tryStandby (goState 0 s)) s

/-- CLEAR_LOCKOUT from a fabric port. -/
def execClearLockout (t : Nat) (p : Port) (pad : Bool) (s : State) : Out := evPort p t s (clearLockoutCmd p pad)

/-- REJOIN (R173). -/
def rejoinCmd (p : Port) (s : State) : State :=
  actvCmd p (decide (rd s ACTV.STATE = 0 ∨ rd s ACTV.STATE = 6 ∨ rd s ACTV.STATE = 7)) toInitial s

/-- REJOIN from a fabric port. -/
def execRejoin (t : Nat) (p : Port) (s : State) : Out := evPort p t s (rejoinCmd p)

/-- The body bytes the UPMSG registers hold. -/
def upmsgBody (s : State) : List Nat := (List.range 8).flatMap fun k => toBe 4 (rd s (ACTV.UPMSG_BODY k))

/-- SEND: seat 4 computes the MIC of the message, which then enters the queue (R174). -/
def upmsgSendCmd (p : Port) (s : State) : State :=
  fabricCmd p 0x0D 0x0B4 none
    [(s.actv.micMsg.isSome, .busy), (decide (rd s ACTV.UPMSG_TYPE ≠ 0x90), .range),
     (decide (rd s ACTV.STATE ≠ 4), .state), (decide (8 ≤ s.actv.upq.length), .exhausted)]
    (fun s => { s with actv := { s.actv with
      micMsg := some (oamMessage (rd s ACTV.TERM_ID) 0x90 (rd s ACTV.UPMSG_SEQ) (upmsgBody s)) } }) s

/-- UPMSG_SEND from a fabric port. -/
def execUpmsgSend (t : Nat) (p : Port) (s : State) : Out := evPort p t s (upmsgSendCmd p)

end Sys2Proof.Machine
end

