-- ==== Sys2Proof/Machine/Almanac.lean ====
section
/-! DEFINITION. The Almanac (R41 to R50, R53): the occurrences of an entry, the legality of unit and action, and the
commands of the three access windows. -/
namespace Sys2Proof.Machine

/-! ## Occurrences (R42, R43) -/

/-- The first frame not below f in the grid f mod period = offset (R42). -/
def gridFrame (period offset f : Nat) : Nat := f + (offset + period - f % period) % period

/-- The first occurrence of an SC entry at or above the bound: the SC in phase steps (R42). -/
def scOcc (e : AEntry) (bound : Nat) : Option Nat :=
  let tgt := scSteps e.target
  let ph := e.target % 65536
  let b := max tgt bound
  if e.period = 0 then (if bound ≤ tgt then some tgt else none)
  else some (gridFrame e.period e.offset ((b - ph + frameSteps - 1) / frameSteps) * frameSteps + ph)

/-- The fields of a WALL target: day, second of day, frame in the second, phase ("Entry format"). -/
def wallTarget (e : AEntry) : Nat × Nat × Nat × Nat :=
  (e.target / 2 ^ 47, bits e.target 46 30, bits e.target 29 16, e.target % 65536)

/-- The first matching second not before (day, sod): second of day mod PERIOD = OFFSET, an inserted second never matching
(R43). -/
def wallGrid (period offset : Nat) (day sod : Int) : Int × Int :=
  let s' := sod + ((offset : Int) - sod) % period
  if s' ≤ 86399 then (day, s') else (day + 1, offset)

/-- The SC of a WALL entry's occurrence in a given second; on a deleted second it is that of second 0 of the next day
(R43). -/
def wallOccSc (s : State) (e : AEntry) (day sod : Int) : Int :=
  let (_, _, fr, ph) := wallTarget e
  (wallToFrame (lastEph s) day sod + fr) * frameSteps + ph

/-- The first second not before (day, sod) whose occurrence lies at or above the bound; two steps of the grid are enough,
since the search starts at most one second early. -/
def wallSearch (s : State) (e : AEntry) (bound : Nat) (c : Int × Int) : Option (Nat × Nat × Nat) :=
  let next := fun (x : Int × Int) => wallGrid e.period e.offset x.1 (x.2 + 1)
  let c1 := next c
  let c2 := next c1
  match [c, c1, c2].find? fun x => decide ((bound : Int) ≤ wallOccSc s e x.1 x.2) with
  | some x => some ((wallOccSc s e x.1 x.2).toNat, x.1.toNat, x.2.toNat)
  | none => none

/-- The later of two (day, second) pairs. -/
def laterSecond (a b : Int × Int) : Int × Int := if a.1 < b.1 ∨ (a.1 = b.1 ∧ a.2 < b.2) then b else a

/-- The first occurrence of a WALL entry at or above the bound: SC, day, second (R43). A second already consumed never
fires again. -/
def wallOcc (s : State) (e : AEntry) (bound : Nat) : Option (Nat × Nat × Nat) :=
  if !s.sidr.ephHave then none else
  let (td, ts, _, _) := wallTarget e
  let w := wallFrom (lastEph s) (bound / frameSteps : Nat)
  let c := laterSecond ((td : Int), (ts : Int)) (w.1, w.2.1 - 1)
  let c := match e.lastWall with
    | some (d, x) => laterSecond c ((d : Int), (x : Int) + 1)
    | none => c
  if e.period = 0 then
    if c = ((td : Int), (ts : Int)) ∧ (bound : Int) ≤ wallOccSc s e td ts then
      some ((wallOccSc s e td ts).toNat, td, ts) else none
  else wallSearch s e bound (wallGrid e.period e.offset c.1 c.2)

/-- The first occurrence of an entry at or above a bound, and the wall second it belongs to (R42, R43). -/
def occFrom (s : State) (e : AEntry) (bound : Nat) : Option (Nat × Option (Nat × Nat)) :=
  if e.wall then (wallOcc s e bound).map fun x => (x.1, some (x.2.1, x.2.2))
  else (scOcc e bound).map fun x => (x, none)

/-- An occurrence equal to or less than LAST_FIRE never fires (R47). -/
def afterLast (e : AEntry) : Nat := match e.lastFire with | some l => l + 1 | none => 0

/-- The next occurrence of an entry. -/
def nextOcc (s : State) (e : AEntry) : Option (Nat × Option (Nat × Nat)) := occFrom s e (afterLast e)

/-! ## The entries -/

/-- The entry at an index. -/
def entryAt (s : State) (i : Nat) : Option AEntry := (s.orry.entries.find? (fun x => x.1 == i)).map (·.2)

/-- Insert an entry at its index, keeping the rising order. -/
def insEntry (l : List (Nat × AEntry)) (i : Nat) (e : AEntry) : List (Nat × AEntry) :=
  match l with
  | [] => [(i, e)]
  | (j, x) :: r => if i < j then (i, e) :: (j, x) :: r else if i = j then (i, e) :: r else (j, x) :: insEntry r i e

/-- VALID_ENTRIES follows the entries (R52). -/
def countEntries (s : State) : State := wr ORRY.VALID_ENTRIES s.orry.entries.length s

/-- Write the entry at an index. -/
def putEntry (i : Nat) (e : AEntry) (s : State) : State :=
  countEntries { s with orry := { s.orry with entries := insEntry s.orry.entries i e } }

/-- The firings that an index owes go with the entry that owes them. -/
def dropOwed (i : Nat) (s : State) : State :=
  { s with orry := { s.orry with owed := s.orry.owed.filter fun x => x.index != i } }

/-- Put a new entry at an index in place of what it held. -/
def replaceEntry (i : Nat) (e : AEntry) (s : State) : State := putEntry i e (dropOwed i s)

/-- Empty an index. -/
def dropEntry (i : Nat) (s : State) : State :=
  let s := dropOwed i s
  countEntries { s with orry := { s.orry with entries := s.orry.entries.filter (fun x => x.1 != i) } }

/-! ## Units and actions ("Unit codes") -/

/-- The unit code is in the Almanac unit table. -/
def unitKnown (u : Nat) : Bool :=
  decide (u = 0x0C ∨ u = 0x22 ∨ u = 0x30 ∨ (0x48 ≤ u ∧ u ≤ 0x57) ∨ u = 0x5A ∨ u = 0x5C ∨ u = 0x60 ∨ u = 0x68 ∨ u = 0x69
    ∨ u = 0x6A ∨ u = 0x70 ∨ u = 0x78 ∨ u = 0xF0 ∨ u = 0xF1)

/-- The unit, or the instance the argument names, is not fitted on the variant (R9). -/
def unitAbsent (v : Variant) (u arg : Nat) : Bool :=
  decide ((0x48 ≤ u ∧ u ≤ 0x57 ∧ Variant.wch v ≤ u - 0x48) ∨ (u = 0x5A ∧ Variant.usxPaths v = 0)
    ∨ (u = 0x5C ∧ arg = 1 ∧ Variant.loops v = 1))

/-- The unit accepts the action with the argument (R52, R143, R224, R258, R268, R290, R305, R366, R396, R408, R456). The
events of unit 0x60 are the LGC's own, and the spec names none. -/
def actionKnown (u a arg : Nat) : Bool :=
  if u = 0x0C then decide ((a = 1 ∨ a = 2) ∧ arg = 0)
  else if u = 0x22 then decide ((a = 1 ∨ a = 2) ∧ arg ≤ 1)
  else if u = 0x30 then decide (1 ≤ a ∧ a ≤ 8 ∧ 1 ≤ arg)
  else if 0x48 ≤ u ∧ u ≤ 0x57 then decide (a = 1 ∧ 1 ≤ arg ∧ arg ≤ 4095)
  else if u = 0x5A then decide (a = 1 ∧ arg % 16 ≠ 0 ∧ (arg / 16 = 0 ∨ arg / 16 = 16))
  else if u = 0x5C then decide (a = 1 ∧ arg ≤ 1)
  else if u = 0x60 then true
  else if u = 0x68 then decide (a = 1 ∧ arg = 0)
  else if u = 0x69 then decide (a = 1 ∧ arg = 0)
  else if u = 0x6A then decide ((a = 1 ∨ a = 2) ∧ arg = 0)
  else if u = 0x70 then decide (((a = 1 ∨ a = 2) ∧ arg = 0) ∨ (a = 3 ∧ 1 ≤ arg))
  else if u = 0x78 then decide (a = 1 ∧ arg ≤ 4)
  else if u = 0xF0 then decide (a = 1)
  else if u = 0xF1 then decide (a = 1)
  else false

/-- The weigh set a channel is a member of (R273). -/
def setOf (s : State) (c : Nat) : Option Nat :=
  (List.range 8).find? fun k => bit (rd s (WGH.MEMBERS k)) c

/-- A weigh channel is legal: it is a member of a legal set (R273). -/
def channelLegal (s : State) (c : Nat) : Bool :=
  match setOf s c with
  | some k => decide (rd s (WGH.SET_LEGAL k) = 1)
  | none => false

/-- A path mask names a legal ultrasonic path (R304). -/
def maskLegal (s : State) (m : Nat) : Bool := (List.range 4).any fun p => bit m p && decide (rd s (USP.P_LEGAL p) = 1)

/-- The action is reserved to legal entries (R41, "Unit codes", R258, R290, R305, R366, R396). -/
def actionLegalOnly (s : State) (u a arg : Nat) : Bool :=
  if u = 0x30 then decide (1 ≤ a ∧ a ≤ 4)
  else if 0x48 ≤ u ∧ u ≤ 0x57 then channelLegal s (u - 0x48)
  else if u = 0x5A then maskLegal s arg
  else if u = 0x60 then true
  else if u = 0x69 ∨ u = 0x6A then true
  else if u = 0x70 then decide (a = 1 ∨ a = 2)
  else false

/-! ## The access windows (R48, R49, R53) -/

/-- The entry a window's fields describe. -/
def windowEntry (s : State) (w owner : Nat) : AEntry :=
  { target := rd s (ALM.W_TARGET w), period := rd s (ALM.W_PERIOD w), offset := rd s (ALM.W_OFFSET w)
    unit := rd s (ALM.W_UNIT w), action := rd s (ALM.W_ACTION w), arg := rd s (ALM.W_ARG w)
    cond := rd s (ALM.W_COND w), wall := rd s (ALM.W_TIMEBASE w) = 1, late := rd s (ALM.W_MISS w) = 1
    protect := rd s (ALM.W_PROTECT w) = 1, owner := owner, lastFire := none, lastWall := none, missed := 0, fires := 0 }

/-- Check 5 of R48 for an entry with a raw TIMEBASE field: some field is out of range. -/
def entryRange (e : AEntry) (timebase : Nat) : Bool :=
  !unitKnown e.unit || !actionKnown e.unit e.action e.arg || decide (1 < timebase)
    || decide (if e.period = 0 then e.offset ≠ 0 else e.period ≤ e.offset)
    || (e.wall && decide (e.period ≠ 0 ∧ 86400 % e.period ≠ 0))
    || bit e.cond 7 || decide (e.cond % 16 = 0) || decide (40000 ≤ e.target % 65536)
    || (e.wall && decide (10000 ≤ bits e.target 29 16))

/-- Check 3 of R48: the slot holds a PROTECT entry installed by another writer. -/
def protectedFrom (s : State) (i owner : Nat) : Bool :=
  match entryAt s i with
  | some e => e.protect && e.owner != owner
  | none => false

/-- Check 7 of R48: the first occurrence is not later than the current SC + 16 phase steps. -/
def tooSoon (s : State) (e : AEntry) : Bool :=
  match occFrom s e 0 with
  | some (o, _) => decide (o ≤ s.time.sc + 16)
  | none => true

/-- The BAR0 address of a window's W_CMD. -/
def almCmdAddr (w : Nat) : Nat := 0x505C + 64 * w

/-- The checks of an INSTALL in the order of R48. -/
def installChecks (s : State) (w owner : Nat) : List (Bool × Code) :=
  let e := windowEntry s w owner
  let i := rd s (ALM.W_INDEX w)
  [(cmdBusy s (almCmdAddr w), .busy), (decide (i < 64) || actionLegalOnly s e.unit e.action e.arg, .sealed),
   (protectedFrom s i owner, .conflict), (unitAbsent s.fuse.variant e.unit e.arg, .absent),
   (entryRange e (rd s (ALM.W_TIMEBASE w)), .range), (e.wall && decide (rd s SIDR.WALL_STATE = 0), .state),
   (tooSoon s e, .time)]

/-- The checks of a REMOVE: those of R48 that concern the slot at W_INDEX; the others judge an entry to be installed, which a REMOVE does
not carry (log 198). -/
def removeChecks (s : State) (w owner : Nat) : List (Bool × Code) :=
  let i := rd s (ALM.W_INDEX w)
  [(cmdBusy s (almCmdAddr w), .busy), (decide (i < 64), .sealed), (protectedFrom s i owner, .conflict)]

/-- W_STATUS BUSY and CODE of a window, and its completion within 4 cycles (R49). -/
def almStart (w : Nat) (s : State) : State := startCmd (almCmdAddr w) 4 s

/-- The window's registers of an empty slot: 0 throughout (R53). -/
def clearWindow (w : Nat) (s : State) : State :=
  s |> wr (ALM.W_TARGET w) 0 |> wr (ALM.W_PERIOD w) 0 |> wr (ALM.W_OFFSET w) 0 |> wr (ALM.W_UNIT w) 0
    |> wr (ALM.W_ACTION w) 0 |> wr (ALM.W_ARG w) 0 |> wr (ALM.W_COND w) 0 |> wr (ALM.W_TIMEBASE w) 0
    |> wr (ALM.W_MISS w) 0 |> wr (ALM.W_PROTECT w) 0 |> wr (ALM.R_NEXT w) 0 |> wr (ALM.R_LAST w) 0
    |> wr (ALM.R_VALID w) 0 |> wr (ALM.R_LEGAL w) 0 |> wr (ALM.R_OWNER w) 0 |> wr (ALM.R_MISSED w) 0
    |> wr (ALM.R_FIRE_COUNT w) 0

/-- The window's registers of a held entry (R53). -/
def loadWindow (w i : Nat) (e : AEntry) (s : State) : State :=
  let nxt := match nextOcc s e with | some (o, _) => scReg o | none => 0
  let lst := match e.lastFire with | some l => scReg l | none => 0
  s |> wr (ALM.W_TARGET w) e.target |> wr (ALM.W_PERIOD w) e.period |> wr (ALM.W_OFFSET w) e.offset
    |> wr (ALM.W_UNIT w) e.unit |> wr (ALM.W_ACTION w) e.action |> wr (ALM.W_ARG w) e.arg
    |> wr (ALM.W_COND w) e.cond |> wrB (ALM.W_TIMEBASE w) e.wall |> wrB (ALM.W_MISS w) e.late
    |> wrB (ALM.W_PROTECT w) e.protect |> wr (ALM.R_NEXT w) nxt |> wr (ALM.R_LAST w) lst
    |> wr (ALM.R_VALID w) 1 |> wrB (ALM.R_LEGAL w) (decide (i < 64)) |> wr (ALM.R_OWNER w) e.owner
    |> wr (ALM.R_MISSED w) (min e.missed 0xFFF) |> wr (ALM.R_FIRE_COUNT w) (min e.fires 0xFFFF)

/-- READ loads the window from the entry at W_INDEX; only BUSY refuses it (R48, R53). -/
def almanacRead (p : Port) (s : State) : State :=
  let w := p.window
  fabricCmd p 0x05 (0x5C + 64 * w) (some (ALM.W_CODE w)) [(cmdBusy s (almCmdAddr w), .busy)]
    (fun s =>
      let i := rd s (ALM.W_INDEX w)
      let s := almStart w s
      match entryAt s i with
      | some e => loadWindow w i e s
      | none => clearWindow w s) s

/-- ALMANAC_READ. -/
def execAlmanacRead (t : Nat) (p : Port) (s : State) : Out := evPort p t s (almanacRead p)

/-- An uncorrectable error empties the entry, sets UE_INDEX and raises ENTRY_UE (R50); COND_LOST.UE latches (R56). The LGC
reinstalls a legal entry in its next commit cycle. -/
def entryUe (index : Nat) (s : State) : State :=
  match entryAt s index with
  | some e =>
    let s := if index < 64 then { s with leg := { s.leg with lost := s.leg.lost ++ [(index, e)] } } else s
    dropEntry index s |> wr ORRY.UE_INDEX index |> wr ORRY.UE_SEEN 1 |> raise 0x04 2 |> condLost 2
  | none => s

/-- ENTRY_UE of an index. -/
def execEntryUe (t : Nat) (index : Nat) (s : State) : Out := ev t s (entryUe index)

end Sys2Proof.Machine
end

