-- ==== Sys2Proof/Machine/Spares.lean ====
section
/-! DEFINITION. Repair records and their queue (R465, R467, R478), and the retirement of round engines and slices (R474, R475), as
the Dealer and the front end use them. -/
namespace Sys2Proof.Machine

/-- The self-repair page. -/
def rprPage : Nat := 0x90

/-- Change the self-repair state. -/
def modRpr (f : RprU → RprU) (s : State) : State := { s with rpr := f s.rpr }

/-! ## Record words (R465) -/

/-- A record word in force: KIND, SPARE, INSTANCE, INDEX, with CHECK 0 (R465). -/
def repairWord (kind spare inst idx : Nat) : Nat := 2 ^ 31 + kind * 2 ^ 27 + spare * 2 ^ 21 + inst * 2 ^ 17 + idx * 2 ^ 5

/-- KIND of a record word. -/
def recKind (w : Nat) : Nat := bits w 30 27
/-- SPARE of a record word. -/
def recSpare (w : Nat) : Nat := bits w 26 21
/-- The resource of a record word: KIND, INSTANCE and INDEX. -/
def recRow (w : Nat) : Nat × Nat × Nat := (recKind w, bits w 20 17, bits w 16 5)

/-- A record in force names the resource. -/
def repaired (s : State) (r : Nat × Nat × Nat) : Bool := s.rpr.records.any fun w => decide (recRow w = r)

/-- SPARE of a record without a spare (R465). -/
def noSpare : Nat := 0x3F

/-! ## The record queue (R478) -/

/-- REC_HEAD, REC_WORD and REC_MTAG show the oldest queued record (R483). -/
def showRepair (s : State) : State :=
  let h := s.rpr.queue.headD (0, 0)
  s |> wrB RPR.REC_VALID (decide (s.rpr.queue ≠ [])) |> wr RPR.REC_COUNT s.rpr.queue.length
    |> wr RPR.REC_WORD h.1 |> wr RPR.REC_MTAG h.2

/-- The leading 32 bits of the CMAC under slot 74 over a SEQ, a record word and the SERIAL (R467, log 42). -/
def mtagOf (seq word : Nat) : Nat := cmac (Config.deviceKey 74) (toLe 4 seq ++ toLe 4 word ++ toBe 8 Config.serial) / 2 ^ 96

/-- MTAG of a SLICE entry (R467). The entry takes
the SEQ after those of the records queued before it (log 39); the SERIAL is the part's own, which the register holds only later
(log 42). -/
def sliceMtag (word : Nat) (s : State) : Nat := mtagOf (s.rpr.nextSeq + s.rpr.queue.length) word

/-- A repair makes its record: it is in force, and waits in the queue of 8 for the STC; where the queue is full it is lost and counted,
and the repair still takes effect (R478). -/
def pushRecord (word mtag : Nat) (s : State) : State :=
  let s := modRpr (fun r => { r with records := r.records ++ [word] }) s
  if 8 ≤ s.rpr.queue.length then inc RPR.RECORDS_LOST s
  else raise rprPage 6 (showRepair (modRpr (fun r => { r with queue := r.queue ++ [(word, mtag)] }) s))

/-- A retired slice's record, whose MTAG the LGC supplies (R475, R478). -/
def sliceRecord (i : Nat) (s : State) : State :=
  let w := repairWord 9 noSpare 0 i
  pushRecord w (sliceMtag w s) s

/-! ## Commands that end with their work (R481) -/

/-- The work of an open RPR_CMD has ended: CMD_DONE. -/
def rprDone (c : RprOpen) (s : State) : State :=
  if s.rpr.cmd = some c then raise rprPage 11 (modRpr (fun r => { r with cmd := none }) s) else s

/-- The ACTIVE slice a repair replaces is taken over, or its takeover was refused (R475). -/
def sliceSwapDone (a : Nat) (s : State) : State :=
  match s.rpr.swap with
  | some (_, b) => if b = a then rprDone (.slice a) (modRpr (fun r => { r with swap := none }) s) else s
  | none => s

/-! ## Engines (R474) -/

/-- The spare engine is still STANDBY. -/
def spareStandby (s : State) : Bool := decide (rd s (DEAL.ENG_STATE (Variant.engines s.fuse.variant - 1)) = 1)

/-- An engine retires; a STANDBY spare comes into service in its place (R474). -/
def dropEngine (e : Nat) (s : State) : State :=
  let sp := Variant.engines s.fuse.variant - 1
  let takes := spareStandby s && e != sp
  let s := s |> wr (DEAL.ENG_STATE e) 3 |> modRpr (fun r => { r with engDue := r.engDue.filter (· != e) })
  when takes (wr (DEAL.ENG_STATE sp) 0) s

/-- Retirement of an engine in service: ENGINE_RETIRED and its record (R474, R478). -/
def retireEngine (e : Nat) (s : State) : State := pushRecord (repairWord 0xA noSpare 0 e) 0 (raise rprPage 3 (dropEngine e s))

end Sys2Proof.Machine
end

