-- ==== Sys2Proof/Machine/Afe.lean ====
section
/-! DEFINITION. The sensor front end (R241 to R264): crosspoint pins, excitation pairs, blanking, slices and their guards, shadows
and takeovers. -/
namespace Sys2Proof.Machine

/-! ## Slices (R241 to R243, R252, R254) -/

/-- What a slice keeps. -/
def sliceOf (s : State) (i : Nat) : SliceU := aget s.afe.slices i {}
/-- Change what a slice keeps. -/
def modSlice (i : Nat) (f : SliceU → SliceU) (s : State) : State :=
  { s with afe := { s.afe with slices := aset s.afe.slices i (f (sliceOf s i)) } }

/-- The slice a slice shadows; 31 for none. -/
def shadowOf (s : State) (i : Nat) : Nat := rd s (AFE.SLICE_SHADOW i)
/-- The slice shadows another. -/
def shadows (s : State) (i : Nat) : Bool := decide (shadowOf s i ≠ 31)
/-- The slice whose settings a slice works with: the one it shadows, or itself (R261). -/
def cfgSlice (s : State) (i : Nat) : Nat := if shadows s i then shadowOf s i else i

/-- The slice is ACTIVE for a legal channel or a legal path, or is DUMMY (R243). -/
def legalByRole (s : State) (i : Nat) : Bool :=
  let role := rd s (AFE.SLICE_ROLE i)
  let user := rd s (AFE.SLICE_USER i)
  decide (role = 2) || (decide (role = 1) && ((decide (user < 16) && channelLegal s user)
    || (decide (user = 16) && (List.range 4).any fun p => decide (rd s (USP.P_LEGAL p) = 1))))

/-- The slice is LEGAL: by its role, or because it shadows a LEGAL slice (R243). -/
def sliceLegal (s : State) (i : Nat) : Bool := legalByRole s i || (shadows s i && legalByRole s (shadowOf s i))

/-- A pair is LEGAL while a LEGAL slice takes its reference from it (R243). -/
def pairLegal (s : State) (k : Nat) : Bool :=
  (List.range 18).any fun i => sliceLegal s i && decide (rd s (SLICE.MODE (cfgSlice s i)) = 1 ∧ rd s (SLICE.PAIR (cfgSlice s i)) = k)

/-- The slice converts: the front end is powered, and it is enabled, or shadows another (R252, R261, R269). -/
def converts (s : State) (i : Nat) : Bool :=
  enabled s 0x30 && (enabled s (0x31 + i) || shadows s i) && decide (rd s (AFE.SLICE_ROLE i) ≠ 4)

/-- The mode produces samples: BRIDGE, VOLTAGE or LOOP_IN (R252, R255). -/
def sampleMode (m : Nat) : Bool := decide (1 ≤ m ∧ m ≤ 3)

/-- D of a RATE (R254). -/
def rateD (r : Nat) : Nat := [125, 250, 625, 1250, 3125, 6250].getD r 6250
/-- Sample spacing in phase steps (R254). -/
def rateSpacing (r : Nat) : Nat := 64 * rateD r
/-- Support in phase steps: 83K - 3 modulator clocks (R254). -/
def rateSupport (r : Nat) : Nat := 64 * (83 * (rateD r / 5) - 3)

/-- The slice on a pin: the first pin with a role for an owner. -/
def pinOf (s : State) (role owner : Nat) : Option Nat :=
  (List.range 32).find? fun n => decide (rd s (AFE.PIN_ROLE n) = role ∧ rd s (AFE.PIN_OWNER n) = owner)

/-- The pins a mode needs are assigned to the slice (R252). -/
def modePins (s : State) (i m : Nat) : Bool :=
  if m = 1 ∨ m = 2 then (pinOf s 1 i).isSome && (pinOf s 2 i).isSome
  else if m = 3 ∨ m = 4 then (pinOf s 8 i).isSome
  else true

/-! ## The crosspoint (R244 to R246) -/

/-- The owner of a role is a slice. -/
def sliceRole (r : Nat) : Bool := decide (r = 1 ∨ r = 2 ∨ r = 8)
/-- The owner of a role is an excitation pair. -/
def pairRole (r : Nat) : Bool := decide (3 ≤ r ∧ r ≤ 6)

/-- The owner slice or pair is enabled (R245). -/
def ownerOn (s : State) (r o : Nat) : Bool :=
  (sliceRole r && enabled s (0x31 + o)) || (pairRole r && decide (rd s (AFE.EXC_EN o) = 1))

/-- Another pin holds the role for the owner, or TIA would mix with INP or INN (R245). -/
def pinConflict (s : State) (n r o : Nat) : Bool :=
  (List.range 32).any fun m => decide (m ≠ n) && (
    (!decide (r = 0 ∨ r = 7) && decide (rd s (AFE.PIN_ROLE m) = r ∧ rd s (AFE.PIN_OWNER m) = o))
    || (sliceRole r && sliceRole (rd s (AFE.PIN_ROLE m)) && decide (rd s (AFE.PIN_OWNER m) = o)
        && decide ((r = 8) ≠ (rd s (AFE.PIN_ROLE m) = 8))))

/-- The owner lies outside the range the role allows, or the role is unknown (R246). -/
def pinRange (r o : Nat) : Bool :=
  if r = 0 ∨ r = 7 then decide (o ≠ 0) else if sliceRole r then decide (18 ≤ o)
  else if pairRole r ∨ r = 9 then decide (8 ≤ o) else true

/-- A PIN_CFG write: the checks of R246; a changed pin passes through high impedance for 400 phase steps (R245). -/
def pinCfg (w : Writer) (n v : Nat) (s : State) : State :=
  let lock := bits v 31 31
  let pull := bits v 30 30
  let r := bits v 11 8
  let o := bits v 4 0
  let r0 := rd s (AFE.PIN_ROLE n)
  let o0 := rd s (AFE.PIN_OWNER n)
  let moves := decide (r ≠ r0 ∨ o ≠ o0)
  let locked := rd s (AFE.LEGAL_LOCK n)
  writerCmd w 0x30 (0x040 + 4 * n) none false
    (decide (lock ≠ locked) || (decide (locked = 1) && (moves || decide (pull ≠ rd s (AFE.OPEN_PULL n)))))
    [((decide (r0 ≠ 0 ∧ r ≠ 0) && moves) || pinConflict s n r o, .conflict),
     (sliceRole r && decide (o < 18 ∧ Variant.slices s.fuse.variant ≤ o), .absent),
     (decide (bits v 29 12 ≠ 0 ∨ bits v 7 5 ≠ 0), .reserved), (pinRange r o, .range),
     (moves && (ownerOn s r0 o0 || ownerOn s r o || (sliceRole r && decide (1 < rd s (AFE.SLICE_ROLE o)))), .state)]
    (fun s =>
      let s := s |> wr (AFE.LEGAL_LOCK n) lock |> wr (AFE.OPEN_PULL n) pull |> wr (AFE.PIN_ROLE n) r |> wr (AFE.PIN_OWNER n) o
      if r ≠ r0 then { s with afe := { s.afe with hiz := aset s.afe.hiz n (s.time.cycle + 400) } } else s) s

/-- PIN_CFG_WRITE of a pin, with the word written. -/
def execPinCfgWrite (t : Nat) (w : Writer) (pin v : Nat) (s : State) : Out :=
  evBy (.writer w) t s fun s => if pin < 32 then pinCfg w pin v s else s

/-! ## Excitation (R248 to R251) -/

/-- What the guard of a pair keeps. -/
def pairOf (s : State) (k : Nat) : PairU := aget s.afe.pairs k {}
/-- Change what the guard of a pair keeps. -/
def modPair (k : Nat) (f : PairU → PairU) (s : State) : State :=
  { s with afe := { s.afe with pairs := aset s.afe.pairs k (f (pairOf s k)) } }

/-- The pair is on or in current limit. -/
def pairOn (s : State) (k : Nat) : Bool := decide (rd s (AFE.EXC_STATE k) = 1 ∨ rd s (AFE.EXC_STATE k) = 2)

/-- ILIM over the enabled pairs, with a pair's own new values (R248). -/
def ilimSum (s : State) (k en ilim : Nat) : Nat :=
  (List.range 8).foldl (fun a j =>
    if j = k then a + en * ilim else a + rd s (AFE.EXC_EN j) * rd s (AFE.ILIM j)) 0

/-- A reversal instant of a pair; those that no support reaches any more are dropped (R249, R254). -/
def revInstant (k : Nat) (s : State) : State :=
  { s with afe := { s.afe with revs := (k, s.time.sc) :: s.afe.revs.filter fun r => decide (s.time.sc < r.2 + 7000000) } }

/-- The pair is switched off: its normal connection, and its guard ends (R249, R251). -/
def pairOff (k st : Nat) (s : State) : State :=
  modPair k (fun _ => {}) (s |> wr (AFE.EXC_STATE k) st |> wr (AFE.REVERSED k) 0)

/-- What an accepted EXC_CFG does to the pair (R248, R249, R251). -/
def excApply (k en rev : Nat) (s : State) : State :=
  let was := rd s (AFE.EXC_REVERSE k)
  let s := wr (AFE.EXC_REVERSE k) rev s
  if en = 0 then pairOff k 0 (wr (AFE.EXC_EN k) 0 s)
  else if !pairOn s k then
    modPair k (fun _ => { gridFrom := s.time.sc }) (s |> wr (AFE.EXC_EN k) 1 |> wrB (AFE.EXC_STATE k) (enabled s 0x30) |> wr (AFE.REVERSED k) 0)
  else
    let s := when (decide (rev = 0 ∧ rd s (AFE.REVERSED k) = 1)) (fun s => revInstant k (wr (AFE.REVERSED k) 0 s)) s
    when (decide (was = 0 ∧ rev = 1)) (fun s => modPair k (fun x => { x with gridFrom := s.time.sc }) s) s

/-- An EXC_CFG write (R243, R248). -/
def excCfg (w : Writer) (k v : Nat) (s : State) : State :=
  let en := bits v 31 31
  let rev := bits v 30 30
  let per := bits v 23 16
  let sense := bits v 8 8
  let ilim := bits v 5 0
  let same := decide (en = rd s (AFE.EXC_EN k) ∧ rev = rd s (AFE.EXC_REVERSE k) ∧ per = rd s (AFE.REV_PERIOD k)
    ∧ sense = rd s (AFE.EXC_SENSE k) ∧ ilim = rd s (AFE.ILIM k))
  let lacks (r : Nat) : Bool := (pinOf s r k).isNone
  writerCmd w 0x30 (0x0C0 + 4 * k) none false (pairLegal s k && !same)
    [(decide (bits v 29 24 ≠ 0 ∨ bits v 15 9 ≠ 0 ∨ bits v 7 6 ≠ 0), .reserved),
     (decide (per < 2 ∨ ilim < 1 ∨ 60 < ilim ∨ 150 < ilimSum s k en ilim), .range),
     (decide (en = 1) && (lacks 3 || lacks 4 || (decide (sense = 1) && (lacks 5 || lacks 6))), .state)]
    (fun s => excApply k en rev (s |> wr (AFE.REV_PERIOD k) per |> wr (AFE.EXC_SENSE k) sense |> wr (AFE.ILIM k) ilim)) s

/-- EXC_CFG_WRITE of a pair, with the word written. -/
def execExcCfgWrite (t : Nat) (w : Writer) (pair v : Nat) (s : State) : Out :=
  evBy (.writer w) t s fun s => if pair < 8 then excCfg w pair v s else s

/-- EXC_REVERSAL of a pair: due at phase 0 of a frame that is a multiple of REV_PERIOD (R249). -/
def execExcReversal (t : Nat) (pair : Nat) (s : State) : Out :=
  ev t s fun s =>
    if pair < 8 ∧ enabled s 0x30 = true ∧ pairOn s pair = true ∧ rd s (AFE.EXC_REVERSE pair) = 1 ∧ scPhase s = 0
        ∧ scFrame s % rd s (AFE.REV_PERIOD pair) = 0 ∧ (pairOf s pair).gridFrom < s.time.sc then
      modPair pair (fun x => { x with gridFrom := s.time.sc }) (revInstant pair (wr (AFE.REVERSED pair) (1 - rd s (AFE.REVERSED pair)) s))
    else s

/-- The pair guard's range fails in a frame: current below I_MIN, or a REMOTE sense below SNS_MIN percent (R251). -/
def pairBad (s : State) (k current pm : Nat) : Bool :=
  decide (current < 1000 * rd s AFE.I_MIN) || (decide (rd s (AFE.EXC_SENSE k) = 1) && decide (pm < 10 * rd s AFE.SNS_MIN))

/-- EXC_GUARD_FRAME of a pair: the current in µA, the sensed voltage in per mille of the driven one, and whether the limiter acts
(R251). -/
def excGuard (k current pm : Nat) (limited : Bool) (s : State) : State :=
  let s := s |> wr (AFE.EXC_CURRENT k) current |> wr (AFE.SENSE_PM k) pm
  let s := when (limited && decide (rd s (AFE.EXC_STATE k) = 1)) (raise 0x30 1) s
  let s := wr (AFE.EXC_STATE k) (if limited then 2 else 1) s
  let x := pairOf s k
  let bad := pairBad s k current pm
  let n := rd s AFE.EXC_FILTER
  let x := { x with bad := if bad then x.bad + 1 else 0, good := if bad then 0 else x.good + 1
                    limit := if limited then x.limit + 1 else 0, lastFrame := some (scFrame s) }
  if !x.failing && decide (n ≤ x.bad) then raise 0x30 0 (modPair k (fun _ => { x with failing := true }) s)
  else if x.failing && decide (n ≤ x.good) then modPair k (fun _ => { x with failing := false }) s
  else modPair k (fun _ => x) s

/-- EXC_GUARD_FRAME: due once a frame for a pair that is on (R251). -/
def execExcGuardFrame (t : Nat) (pair current pm : Nat) (limited : Bool) (s : State) : Out :=
  ev t s fun s =>
    if pair < 8 ∧ enabled s 0x30 = true ∧ pairOn s pair = true ∧ (pairOf s pair).lastFrame ≠ some (scFrame s) then
      excGuard pair current pm limited s
    else s

/-- EXC_TIMEOUT of a pair: due after TIMEOUT frames in current limit (R251). -/
def execExcTimeout (t : Nat) (pair : Nat) (s : State) : Out :=
  ev t s fun s =>
    if pair < 8 ∧ rd s (AFE.EXC_STATE pair) = 2 ∧ rd s AFE.EXC_TIMEOUT ≤ (pairOf s pair).limit then raise 0x30 0 (pairOff pair 3 s)
    else s

/-- A slice in BRIDGE mode has no valid reference: its pair is OFF or FAULT, or a range failure stands (R251). -/
def noReference (s : State) (i : Nat) : Bool :=
  let c := cfgSlice s i
  decide (rd s (SLICE.MODE c) = 1) && (!pairOn s (rd s (SLICE.PAIR c)) || (pairOf s (rd s (SLICE.PAIR c))).failing)

/-! ## Blanking (R256 to R259) -/

/-- A group covers a slice: its mask holds it, and groups 4 to 7 leave LEGAL slices out (R256). -/
def groupHas (s : State) (g i : Nat) : Bool :=
  bit (rd s (AFE.BLANK_GROUP g)) i && (decide (g < 4) || !sliceLegal s i)

/-- A group covers a slice, or the slice it shadows (R256). -/
def groupCovers (s : State) (g i : Nat) : Bool := groupHas s g i || (shadows s i && groupHas s g (shadowOf s i))

/-- The windows that a sample may meet: (groups, start, end). -/
def allWindows (s : State) : List (Nat × Nat × Nat) :=
  s.afe.windows.map (fun x => (2 ^ x.1, x.2.1, x.2.2)) ++ s.afe.past
    ++ (match s.afe.pinWin with
        | some p => [(p.groups, p.start, p.endAt.getD (s.time.sc + 1))]
        | none => [])

/-- A sample's support meets a window that covers the slice: its end lies after the window's start and its support begins before
the window's end (R257). -/
def blankedAt (s : State) (i b sup : Nat) : Bool :=
  (allWindows s).any fun w => decide (w.2.1 < b ∧ b < w.2.2 + sup) && (List.range 8).any fun g => bit w.1 g && groupCovers s g i

/-- A window joins those that have ended; those that no sample can meet any more are dropped. -/
def retire (groups w0 w1 : Nat) (s : State) : State :=
  { s with afe := { s.afe with
      past := (groups, w0, w1) :: s.afe.past.filter (fun w => decide (s.time.sc < w.2.2 + 7000000)) } }

/-- POLICY of a group: 0 QUEUE1, 1 DROP, 2 RESTART (R258). -/
def blankPolicy (s : State) (g : Nat) : Nat := bits (rd s AFE.BLANK_POLICY) (2 * g + 1) (2 * g)

/-- Open or restart the window of a group. -/
def openWindow (g w0 w1 : Nat) (s : State) : State :=
  let s := { s with afe := { s.afe with windows := aset s.afe.windows g (w0, w1) } }
  wr AFE.BLANK_OPEN (rd s AFE.BLANK_OPEN ||| 2 ^ g) s

/-- A trigger or command opens a window of n frames on a group from an SC, or meets an open one under POLICY (R258). -/
def blankWindow (g t n : Nat) (s : State) : State :=
  match s.afe.windows.find? (fun x => x.1 == g) with
  | none => trigExec 0x30 (inc AFE.WINDOWS (openWindow g t (t + n * frameSteps) s))
  | some (_, w0, w1) =>
    if blankPolicy s g = 0 then trigMerge 0x30 (openWindow g w0 (max w1 (t + n * frameSteps)) s)
    else if blankPolicy s g = 1 then trigRefuse 0x30 s
    else trigExec 0x30 (inc AFE.WINDOWS (openWindow g t (t + n * frameSteps) (retire (2 ^ g) w0 (min w1 t) s)))

/-- A trigger's effect at unit 0x30 (R258). -/
def blankTrigger (occ action arg : Nat) (s : State) : State :=
  if 1 ≤ action ∧ action ≤ 8 ∧ 1 ≤ arg then blankWindow (action - 1) occ (arg % 65536) s else trigRefuse 0x30 s

/-- BLANK_TRIGGER: a trigger for unit 0x30 with its occurrence SC (R258). -/
def execBlankTrigger (t : Nat) (src : TrigSrc) (occ action arg : Nat) (s : State) : Out :=
  ev t s (arrive src 0x30 (blankTrigger occ action arg))

/-- AFE_CMD: BLANK opens a window from its acceptance; groups 0 to 3 are SEALED for a port; OP 0 is ignored (R258, R269, R518). -/
def afeCmd (w : Writer) (v : Nat) (s : State) : State :=
  let g := bits v 10 8
  let n := bits v 31 16
  if bits v 3 0 = 0 then s else
  writerCmd w 0x30 0x140 (some AFE.CMD_CODE) (cmdBusy s 0x30140) (decide (bits v 3 0 = 1 ∧ g < 4))
    [(decide (bits v 15 11 ≠ 0 ∨ bits v 7 4 ≠ 0), .reserved), (decide (1 < bits v 3 0 ∨ n = 0), .range)]
    (fun s => arrive .cmd 0x30 (blankWindow g s.time.sc n) (raise 0x30 6 (startCmd 0x30140 4 s))) s

/-- AFE_BLANK, with the word written. -/
def execAfeBlank (t : Nat) (w : Writer) (v : Nat) (s : State) : Out := evBy (.writer w) t s (afeCmd w v)

/-- BLANK_WINDOW_END of a group (8: the pin window): due at its end (R256). -/
def execBlankWindowEnd (t : Nat) (group : Nat) (s : State) : Out :=
  ev t s fun s =>
    if group = 8 then
      match s.afe.pinWin with
      | some ⟨g, w0, some w1⟩ => if w1 ≤ s.time.sc then retire g w0 w1 { s with afe := { s.afe with pinWin := none } } else s
      | _ => s
    else
      match s.afe.windows.find? (fun x => x.1 == group) with
      | some (_, w0, w1) =>
        if w1 ≤ s.time.sc then
          retire (2 ^ group) w0 w1 (wr AFE.BLANK_OPEN (clearBits (rd s AFE.BLANK_OPEN) (2 ^ group))
            { s with afe := { s.afe with windows := adel s.afe.windows group } })
        else s
      | none => s

/-- The pin window begins to close: POST frames remain (R259). -/
def pinCloses (s : State) : State :=
  match s.afe.pinWin with
  | some ⟨g, w0, none⟩ =>
    { s with afe := { s.afe with pinWin := some ⟨g, w0, some (s.time.sc + rd s AFE.BLANK_POST * frameSteps)⟩ } }
  | _ => s

/-- The guard substitute of BLANK (R259). -/
def pinIgnored (s : State) : State := wrB AFE.PIN_IGNORED (s.afe.chatter || s.afe.stuck) s

/-- BLANK_EDGE: the filter accepts a high level; the edge is one pin trigger, REFUSED in CHATTER (R259, R519). -/
def blankEdge (s : State) : State :=
  let edges := (s.time.cycle :: s.afe.blankEdges).filter fun c => decide (s.time.cycle < c + secondSteps)
  let tooMany := decide (rd s AFE.BLANK_MAX_EDGES < edges.length)
  let s := { s with afe := { s.afe with blankEdges := edges, highTick := s.time.ticks } }
  let s := s |> wr AFE.PIN_FILT 1 |> inc AFE.BLANK_EDGES
  if tooMany || s.afe.chatter then
    let s := when (!s.afe.chatter) (raise 0x30 2) s
    let s := pinIgnored { s with afe := { s.afe with chatter := true } }
    arrive .pin 0x30 (trigRefuse 0x30) (inc AFE.PIN_REFUSED (pinCloses s))
  else
    arrive .pin 0x30 (fun s =>
      trigExec 0x30 (match s.afe.pinWin with
        | some p => { s with afe := { s.afe with pinWin := some { p with endAt := none } } }
        | none => inc AFE.WINDOWS { s with afe := { s.afe with pinWin := some ⟨rd s AFE.BLANK_PIN_GROUPS, s.time.sc, none⟩ } })) s

/-- BLANK_EDGE: a filtered rising edge of BLANK. -/
def execBlankEdge (t : Nat) (s : State) : Out := ev t s fun s => if rd s AFE.PIN_FILT = 0 then blankEdge s else s

/-- BLANK_FALL: the filter accepts a low level; STUCK ends, and the window closes POST frames later (R259). -/
def execBlankFall (t : Nat) (s : State) : Out :=
  ev t s fun s =>
    if rd s AFE.PIN_FILT = 1 then pinCloses (pinIgnored (wr AFE.PIN_FILT 0 { s with afe := { s.afe with stuck := false } }))
    else s

/-- BLANK_STUCK: due when BLANK has been high for more than TIMEOUT ticks (R259). -/
def execBlankStuck (t : Nat) (s : State) : Out :=
  ev t s fun s =>
    if rd s AFE.PIN_FILT = 1 ∧ s.afe.stuck = false ∧ s.afe.highTick + rd s AFE.BLANK_TIMEOUT < s.time.ticks then
      pinCloses (pinIgnored (raise 0x30 2 { s with afe := { s.afe with stuck := true } }))
    else s

/-- CHATTER of BLANK ends at the first instant the count is within MAX_EDGES; it opens no window (R259, R519). -/
def blankRecover (s : State) : State :=
  let edges := s.afe.blankEdges.filter fun c => decide (s.time.cycle < c + secondSteps)
  if s.afe.chatter && decide (edges.length ≤ rd s AFE.BLANK_MAX_EDGES) then
    pinIgnored { s with afe := { s.afe with chatter := false, blankEdges := edges } }
  else s

/-! ## Samples (R253 to R257, R261, R262) -/

/-- Saturation to the sample range (R253). -/
def satSample (v : Int) : Int := max (-(2 ^ 31 - 1)) (min (2 ^ 31 - 1) v)

/-- MATCH_OFFSET and MATCH_GAIN applied to a sample (R253). -/
def matched (s : State) (i : Nat) (v : Int) : Int :=
  satSample (v - rdS s (SLICE.MATCH_OFFSET i) + v * rdS s (SLICE.MATCH_GAIN i) / 2 ^ 31)

/-- The reversal instants of a slice's reference pair (R249). -/
def revsOf (s : State) (i : Nat) : List Nat :=
  let c := cfgSlice s i
  if rd s (SLICE.MODE c) = 1 then (s.afe.revs.filter fun r => r.1 == rd s (SLICE.PAIR c)).map (·.2) else []

/-- The pair was reversed at an SC: its present connection, and the exchanges since (R249). -/
def reversedAt (s : State) (i b : Nat) : Bool :=
  let c := cfgSlice s i
  decide (rd s (SLICE.MODE c) = 1) &&
    ((decide (rd s (AFE.REVERSED (rd s (SLICE.PAIR c))) = 1)) != decide (((revsOf s i).filter fun r => decide (b ≤ r)).length % 2 = 1))

/-- The judgement of a sample by the slice guard (R255): over range, common mode, loop current. -/
def judgeSample (s : State) (i : Nat) (v : Int) (cm : Nat) : Bool × Bool × Bool :=
  let m := rd s (SLICE.MODE (cfgSlice s i))
  let ua := v * 25000 / 2 ^ 31
  (decide (rd s (SLICE.OVER_LIM i) * 65536 ≤ v.natAbs),
   decide ((m = 1 ∨ m = 2) ∧ (cm < rd s (SLICE.LOW i) ∨ rd s (SLICE.HIGH i) < cm)),
   decide (m = 3 ∧ (ua < (rd s (SLICE.LOW i) : Int) ∨ (rd s (SLICE.HIGH i) : Int) < ua)))

/-- The slice guard over a judged sample: GUARD_FAIL after FILTER bad ones, GUARD_RECOVER after FILTER good ones (R255). -/
def guardRun (i : Nat) (v : Int) (cm : Nat) (s : State) : State :=
  let (ov, cmBad, loop) := judgeSample s i v cm
  let bad := ov || cmBad || loop
  let x := sliceOf s i
  let n := max 1 (rd s (SLICE.FILTER i))
  let x := { x with bad := if bad then x.bad + 1 else 0, good := if bad then 0 else x.good + 1 }
  let s := s |> wrB (SLICE.OVER i) ov |> wrB (SLICE.CM i) cmBad |> wrB (SLICE.LOOPIN i) loop
  if !x.failing && decide (n ≤ x.bad) then
    (modSlice i (fun _ => { x with failing := true }) s) |> wr (SLICE.FAULT i) 1 |> inc (SLICE.GUARD_FAILS i) |> raise (0x31 + i) 0
  else if x.failing && decide (n ≤ x.good) then
    (modSlice i (fun _ => { x with failing := false }) s) |> wr (SLICE.FAULT i) 0 |> wr (SLICE.STALL i) 0 |> raise (0x31 + i) 1
  else modSlice i (fun _ => x) s

/-- A pair of samples with the same end adds to the compare accumulator where neither carries BLANKED, REVERSAL, FAULT or SETTLING
(R262): x shadows a. -/
def compare (x a : Nat) (s : State) : State :=
  let u := sliceOf s x
  let v := sliceOf s a
  if u.lastEnd = v.lastEnd ∧ u.lastEnd.isSome = true ∧ u.flags &&& 0b11011 = 0 ∧ v.flags &&& 0b11011 = 0 then
    let d := u.value - v.value
    s |> wrS (SLICE.CMP_SUM x) (rdS s (SLICE.CMP_SUM x) + d) |> inc (SLICE.CMP_COUNT x)
      |> wr (SLICE.CMP_MAXABS x) (max (rd s (SLICE.CMP_MAXABS x)) d.natAbs)
  else s

/-- The weigh channel a slice feeds: ACTIVE for an enabled channel (R272). -/
def channelOf (s : State) (i : Nat) : Option Nat :=
  let u := rd s (AFE.SLICE_USER i)
  if rd s (AFE.SLICE_ROLE i) = 1 ∧ u < 16 ∧ enabled s (0x49 + u) = true then some u else none

/-- Samples a channel's history must reach back: the largest support, and what a change of settings may need. -/
def histMax (s : State) (c : Nat) : Nat := (rd s (WCH.AVG_ORDER c) + 1) * rd s (WCH.AVG_LEN c) + 4

/-- A sample goes to its slice's weigh channel; behind notches whose input has varied its value is open (R274, R276, R277). -/
def feedChannel (i : Nat) (x : Samp) (s : State) : State :=
  match channelOf s i with
  | none => s
  | some c =>
    let u := aget s.wgh.chans c {}
    let first := u.steady.getD x.value
    let u := if rd s (WCH.N_EN c) = 0 then { u with steady := none, varied := false }
      else if x.fed then { u with steady := some first, varied := u.varied || decide (first ≠ x.value) } else u
    let x := { x with open_ := x.fed && u.varied }
    let u := { u with hist := (x :: u.hist).take (histMax s c), taken := u.taken + 1 }
    { s with wgh := { s.wgh with chans := aset s.wgh.chans c u } }

/-- The latest point of an SC grid that lies a delay behind: its SC, and its place on the SC's present line, which a step of the SC
moved. A point that a forward step jumped over never comes (R35, R254, R275). -/
def gridDue (s : State) (delay sp : Nat) : Option (Nat × Nat) :=
  let plain : Option (Nat × Nat) := if s.time.sc < delay then none else some ((s.time.sc - delay) / sp * sp, (s.time.sc - delay) / sp * sp)
  match s.time.step with
  | some (old, new) =>
    if s.time.sc < new + delay then
      let b := (old + s.time.sc - new - delay) / sp * sp
      some (b, b + new - old)
    else plain.filter fun x => decide (new ≤ x.1)
  | none => plain

/-- The end of the sample a slice delivers now, with its place on the SC's present line: the latest grid point 256 phase steps past,
beyond its latest sample and its first modulator clock (R254). -/
def sampleDue (s : State) (i : Nat) : Option (Nat × Nat) :=
  let x := sliceOf s i
  (gridDue s 256 (rateSpacing (rd s (SLICE.RATE (cfgSlice s i))))).filter fun d =>
    decide (x.clockFrom < d.2) && (match x.lastEnd with
      | some e => decide (e < d.1)
      | none => true)

/-- A slice delivers the sample that ends at b, which lies at pos on the SC's present line, with its flags (R253 to R257): raw is the
weighted sum of the input over the support, as 2^31 G Vd / Vref rounded; cm is the input common mode in mV. -/
def sample (i b pos : Nat) (raw : Int) (cm : Nat) (s : State) : State :=
  let sup := rateSupport (rd s (SLICE.RATE (cfgSlice s i)))
  let v0 := satSample (if reversedAt s i pos then -raw else raw)
  let v := matched s i v0
  let rev := (revsOf s i).any fun r => decide (r < pos ∧ pos ≤ r + sup)
  let blank := blankedAt s i pos sup
  let marker := rev || blank
  let x := sliceOf s i
  let settling := decide (pos < x.clockFrom + sup) || (match s.afe.disturb with | some d => decide (d < pos ∧ pos ≤ d + sup) | none => false)
  let s := if marker then s else guardRun i v cm s
  let fault := (sliceOf s i).failing || noReference s i
  let flags := (if rev then 16 else b2n blank) + 2 * b2n fault + 4 * b2n x.swapped + 8 * b2n settling
  let out := if marker then 0 else v
  let n := if shadows s i then x.shadowed + 1 else x.shadowed
  let s := modSlice i (fun x => { x with lastEnd := some b, lastCycle := s.time.cycle, stalled := false, shadowed := n
                                         swapSc := if x.swapped then b else x.swapSc, swapped := false, value := out, flags := flags }) s
  let s := s |> wrS (SLICE.SAMPLE i) out |> wr (SLICE.SAMPLE_SC i) (scReg b) |> wr (SLICE.SAMPLE_FLAGS i) flags
    |> wr (SLICE.CM_NOW i) cm |> inc (SLICE.SAMPLES i)
  let s := if rev then inc (SLICE.REV_DROPPED i) s else if blank then inc (SLICE.BLANKED_SAMPLES i) s else s
  let s := when (shadows s i && decide (n = 17)) (fun s => s |> wr (SLICE.SETTLED i) 1 |> raise 0x30 4) s
  let s := when (shadows s i) (compare i (shadowOf s i)) s
  let s := forEach ((List.range 18).filter fun j => decide (j ≠ i ∧ shadowOf s j = i)) (fun j => compare j i) s
  feedChannel i ⟨b, out, !marker && !fault, marker, fault, settling, x.swapped, false⟩ s

/-- A slice converts in the present power state: in NAP only the slices in NAP_SLICES do (R403, R406). -/
def slicePowered (s : State) (i : Nat) : Bool := decide (rd s PWR.STATE ≠ 3) || bit (rd s PWR.NAP_SLICES) i

/-- SLICE_SAMPLE of a slice: due 256 phase steps after a sample end on its grid (R254). -/
def execSliceSample (t : Nat) (slice : Nat) (raw : Int) (cm : Nat) (s : State) : Out :=
  ev t s fun s =>
    if slice < Variant.slices s.fuse.variant ∧ slicePowered s slice = true ∧ converts s slice = true ∧ sampleMode (rd s (SLICE.MODE (cfgSlice s slice))) = true then
      match sampleDue s slice with
      | some d => sample slice d.1 d.2 raw cm s
      | none => s
    else s

/-- SLICE_STALL of a slice: due when TIMEOUT frames have passed without a sample while it is enabled in a mode that produces them
(R255). -/
def execSliceStall (t : Nat) (slice : Nat) (s : State) : Out :=
  ev t s fun s =>
    let x := sliceOf s slice
    if slice < Variant.slices s.fuse.variant ∧ enabled s (0x31 + slice) = true ∧ slicePowered s slice = true ∧ sampleMode (rd s (SLICE.MODE slice)) = true
        ∧ x.stalled = false ∧ x.lastCycle + rd s (SLICE.TIMEOUT slice) * frameSteps ≤ s.time.cycle then
      let s := modSlice slice (fun x => { x with stalled := true, good := 0, failing := true }) s
      let s := wr (SLICE.STALL slice) 1 s
      if x.failing then s else s |> wr (SLICE.FAULT slice) 1 |> inc (SLICE.GUARD_FAILS slice) |> raise (0x31 + slice) 0
    else s

/-- The filters of a slice start anew at the next modulator clock (R252, R261). -/
def restartFilters (i : Nat) (s : State) : State :=
  modSlice i (fun x => { x with clockFrom := (s.time.sc + 63) / 64 * 64 }) s

/-- The filters of a slice start anew, and those of the slices that shadow it, which count their 17 samples again (R252, R261, log
229). -/
def restartConversion (i : Nat) (s : State) : State :=
  forEach ((List.range 18).filter fun j => decide (j ≠ i ∧ shadowOf s j = i))
    (fun j s => restartFilters j (modSlice j (fun u => { u with shadowed := 0 }) (wr (SLICE.SETTLED j) 0 s))) (restartFilters i s)

/-- NAP ends: the slices that did not convert in it start anew (R255, R406). -/
def slicesWake (s : State) : State :=
  forEach ((List.range 18).filter fun i => !slicePowered s i)
    (fun i s => restartFilters i (modSlice i (fun x => { x with lastCycle := s.time.cycle }) s)) s

/-- A slice's ENABLE changes (R254, R255). -/
def sliceEnable (i : Nat) (on : Bool) (s : State) : State :=
  let s := s |> wr (SLICE.STALL i) 0 |> wr (SLICE.FAULT i) 0 |> wr (SLICE.OVER i) 0 |> wr (SLICE.CM i) 0 |> wr (SLICE.LOOPIN i) 0
  let s := modSlice i (fun x => { x with bad := 0, good := 0, failing := false, stalled := false, lastCycle := s.time.cycle }) s
  if on then restartFilters i s else s

/-! ## Shadows and takeovers (R261 to R264) -/

/-- The fields of SWAP_CMD: OP, RESULT, A, X (R269). -/
def swapFields (v : Nat) : Nat × Nat × Nat × Nat := (bits v 31 30, bits v 29 28, bits v 20 16, bits v 4 0)

/-- A SWAP_CMD, which only the LGC may write (R263). -/
def swapCmd (w : Writer) (v : Nat) (state : Bool) (act : State → State) (s : State) : State :=
  let (_, _, a, x) := swapFields v
  writerCmd w 0x30 0x1D0 (some AFE.SWAP_CODE) s.afe.takeover.isSome true
    [(decide (Variant.slices s.fuse.variant ≤ x ∧ x < 18 ∨ Variant.slices s.fuse.variant ≤ a ∧ a < 18), .absent),
     (decide (18 ≤ x ∨ 18 ≤ a), .range), (state, .state)] act s

/-- A mode that cannot be shadowed: LOOP_IN or USX_RX (R261). -/
def noShadow (s : State) (a : Nat) : Bool := decide (rd s (SLICE.MODE a) = 3 ∨ rd s (SLICE.MODE a) = 4)

/-- A DUMMY or SPARE slice. -/
def isSpare (s : State) (x : Nat) : Bool := decide (rd s (AFE.SLICE_ROLE x) = 2 ∨ rd s (AFE.SLICE_ROLE x) = 3)

/-- A slice begins to shadow another (R261). -/
def startShadow (x a : Nat) (s : State) : State :=
  restartFilters x (modSlice x (fun u => { u with shadowed := 0, bad := 0, good := 0, failing := false })
    (s |> wr (AFE.SLICE_SHADOW x) a |> wr (SLICE.SETTLED x) 0))

/-- Shadowing ends. -/
def endShadow (x : Nat) (s : State) : State := s |> wr (AFE.SLICE_SHADOW x) 31 |> wr (SLICE.SETTLED x) 0

/-- SHADOW x, a: x DUMMY or SPARE, a ACTIVE in a mode that can be shadowed (R261, R263). -/
def shadowCmd (w : Writer) (x a : Nat) (s : State) : State :=
  swapCmd w (2 ^ 30 + a * 65536 + x) (!isSpare s x || noShadow s a || decide (rd s (AFE.SLICE_ROLE a) ≠ 1)) (startShadow x a) s

/-- SHADOW, with its slices. -/
def execShadow (t : Nat) (w : Writer) (x a : Nat) (s : State) : Out := evBy (.writer w) t s (shadowCmd w x a)

/-- RELEASE x (R263). -/
def releaseShadowCmd (w : Writer) (x : Nat) (s : State) : State := swapCmd w (2 * 2 ^ 30 + x) (!shadows s x) (endShadow x) s

/-- SHADOW_RELEASE, with its slice. -/
def execShadowRelease (t : Nat) (w : Writer) (x : Nat) (s : State) : Out := evBy (.writer w) t s (releaseShadowCmd w x)

/-- TAKEOVER x, a with RESULT: x shadows a with SETTLED 1, or, for a mode that cannot be shadowed, is a spare (R263). -/
def takeoverCmd (w : Writer) (x a result : Nat) (s : State) : State :=
  let ready := if noShadow s a then isSpare s x && !shadows s x else decide (shadowOf s x = a ∧ rd s (SLICE.SETTLED x) = 1)
  swapCmd w (3 * 2 ^ 30 + result * 2 ^ 28 + a * 65536 + x) (!ready || decide (result ≠ 1 ∧ result ≠ 2))
    (fun s => { s with afe := { s.afe with takeover := some (x, a, result, s.time.sc) } }) s

/-- TAKEOVER, with its slices and RESULT. -/
def execTakeover (t : Nat) (w : Writer) (x a result : Nat) (s : State) : Out := evBy (.writer w) t s (takeoverCmd w x a result)

/-- The takeover's instant has come: a has delivered the last sample of the first sample end after the acceptance; for a mode
that cannot be shadowed, the next modulator clock (R263). -/
def takeoverDue (s : State) (a acc : Nat) : Bool :=
  if noShadow s a then decide ((acc / 64 + 1) * 64 ≤ s.time.sc)
  else
    let sp := rateSpacing (rd s (SLICE.RATE a))
    match (sliceOf s a).lastEnd with
    | some e => decide ((acc / sp + 1) * sp ≤ e)
    | none => false

/-- The pins of a slice pass to another; a TIA pin passes through high impedance (R263). -/
def movePins (a x : Nat) (s : State) : State :=
  forEach (List.range 32) (fun n s =>
    if sliceRole (rd s (AFE.PIN_ROLE n)) && decide (rd s (AFE.PIN_OWNER n) = a) then
      let s := wr (AFE.PIN_OWNER n) x s
      if rd s (AFE.PIN_ROLE n) = 8 then { s with afe := { s.afe with hiz := aset s.afe.hiz n (s.time.cycle + 400) } } else s
    else s) s

/-- The new slice works with the settings of the old one, whose conversion ends; a RESULT of RETIRED is recorded (R261, R263,
R475). -/
def takeover (x a result : Nat) (s : State) : State :=
  let direct := noShadow s a
  let receives := decide (rd s (AFE.SLICE_USER a) = 16)
  let s := s |> wr (SLICE.MODE x) (rd s (SLICE.MODE a)) |> wr (SLICE.GAIN x) (rd s (SLICE.GAIN a))
    |> wr (SLICE.RFB x) (rd s (SLICE.RFB a)) |> wr (SLICE.RATE x) (rd s (SLICE.RATE a)) |> wr (SLICE.PAIR x) (rd s (SLICE.PAIR a))
  let s := s |> wr (AFE.SLICE_ROLE x) 1 |> wr (AFE.SLICE_USER x) (rd s (AFE.SLICE_USER a)) |> endShadow x
    |> wr (AFE.SLICE_ROLE a) (if result = 1 then 3 else 4) |> wr (HDR.ENABLE (0x31 + x)) (rd s (HDR.ENABLE (0x31 + a)))
    |> wr (HDR.ENABLE (0x31 + a)) 0
  let s := movePins a x s
  let s := modSlice x (fun u => { u with swapped := true }) s
  let s := when direct (restartFilters x) s
  let s := when (direct && receives) (fun s => { s with afe := { s.afe with rxMoved := some (s.time.cycle + 400) } }) s
  let s := { s with afe := { s.afe with takeover := none } } |> raise 0x30 5 |> raise (0x31 + x) 2 |> raise (0x31 + a) 2
  sliceSwapDone a (when (decide (result = 2)) (sliceRecord a) s)

/-- TAKEOVER_APPLY: the shadow becomes ACTIVE with the USER (R263). -/
def execTakeoverApply (t : Nat) (s : State) : Out :=
  ev t s fun s =>
    match s.afe.takeover with
    | some (x, a, result, acc) => if takeoverDue s a acc then takeover x a result s else s
    | none => s

end Sys2Proof.Machine
end

