-- ==== Sys2Proof/Machine/Log.lean ====
section
/-! DEFINITION. The audit log (R352 to R356, R359) and what every part of the legal plane asks of the LGC. -/
namespace Sys2Proof.Machine

/-- The LGC runs: LGC_STATE reads RUN (R23). -/
def lgcRuns (s : State) : Bool := decide (rd s SYS.LGC_STATE = 2)
/-- The LGC is halted (R25). -/
def lgcHalted (s : State) : Bool := decide (rd s SYS.LGC_STATE = 3)
/-- A seal session is open (R337). -/
def sealOpen (s : State) : Bool := decide (rd s LEGL.SEAL_STATE = 2)

/-- Day and second of day of a record: wall time now, or 0 while there is none (R39, R352). -/
def wallStamp (s : State) : Nat × Nat :=
  if rd s SIDR.WALL_STATE = 0 then (0, 0) else ((wallNow s).1.toNat % 2 ^ 20, (wallNow s).2.1.toNat % 2 ^ 17)

/-- TIME_PROVISIONAL: WALL_STATE is not VALID (R40). -/
def timeProvisional (s : State) : Bool := decide (rd s SIDR.WALL_STATE ≠ 2)

/-- FLAGS of an entry (R352). -/
def logFlags (s : State) : Nat :=
  128 * b2n (timeProvisional s) + 16 * rd s SIDR.WALL_STATE + rd s SIDR.SC_QUALITY

/-- Entries the buffer holds while the LGC writes (R353). -/
def logBuffer : Nat := 32
/-- Entries of the log store (R352). -/
def logSize : Nat := 4096
/-- From this many entries on, COMMIT is refused and LOG_NEAR is raised (R355). -/
def logNear : Nat := 4032

/-- An event at an SC goes into the buffer, or is lost (R353). -/
def logEventAt (sc event source : Nat) (data : List Nat) (s : State) : State :=
  let (day, sod) := wallStamp s
  if s.leg.buf.length < logBuffer then
    { s with leg := { s.leg with buf := s.leg.buf ++
      [{ event := event, source := source, flags := logFlags s, sc := scReg sc, day := day, sod := sod, data := fit 16 data }] } }
  else s |> inc ALOG.UNLOGGED |> raise 0x61 2

/-- An event now goes into the buffer. -/
def logEvent (event source : Nat) (data : List Nat) (s : State) : State := logEventAt s.time.sc event source data s

/-- Bytes 0 to 39 of an entry (R352). -/
def logBody (e : LogEntry) : List Nat :=
  toLe 4 e.seq ++ toLe 2 e.event ++ [e.source % 256, e.flags % 256] ++ toLe 8 e.sc ++ toLe 4 e.day ++ toLe 4 e.sod ++ fit 16 e.data

/-- The 48 bytes of an entry (R352). -/
def logBytes (e : LogEntry) : List Nat := logBody e ++ fit 8 e.chain

/-- CHAIN of an entry after the one whose CHAIN is given: the leading 64 bits of the CMAC under slot 74 (R332, R352). -/
def chainAfter (prev : List Nat) (e : LogEntry) : List Nat :=
  (toBe 16 (cmac (Config.deviceKey 74) (fit 8 prev ++ logBody e))).take 8

/-- CHAIN of the newest entry; 0 before the first (R353). -/
def lastChain (s : State) : List Nat := (s.leg.log.getLast?.map LogEntry.chain).getD (zeros 8)

/-- The event counter that an event increments (R354). -/
def eventCounter (event : Nat) : Option Fld :=
  if event = 0x13 then some ALOG.EVT_SEAL else if event = 0x16 then some ALOG.EVT_TAMPER
  else if event = 0x20 then some ALOG.EVT_CAL else if event = 0x30 ∨ event = 0x34 then some ALOG.EVT_REPAIR else none

/-- USED and what follows from it (R355, R359). -/
def showUsed (s : State) : State :=
  let n := s.leg.log.length
  s |> wr ALOG.LOG_USED n |> wrB ALOG.LOG_FULL (decide (logSize ≤ n)) |> wrB ALOG.CAL_BLOCKED (decide (logNear ≤ n))

/-- An entry is written: its SEQ and CHAIN, its event counter, LOG_NEAR and LOG_FULL; a full log leaves it unlogged (R353 to R355). -/
def logWrite (e : LogEntry) (s : State) : State :=
  if logSize ≤ s.leg.log.length then inc ALOG.UNLOGGED s else
  let e := { e with seq := rd s ALOG.NEXT_SEQ }
  let e := { e with chain := chainAfter (lastChain s) e }
  let s := showUsed (inc ALOG.NEXT_SEQ { s with leg := { s.leg with log := s.leg.log ++ [e] } })
  let s := match eventCounter e.event with
    | some f => inc f s
    | none => s
  let s := when (decide (s.leg.log.length = logNear)) (raise 0x61 0) s
  let s := when (decide (s.leg.log.length = logSize)) (raise 0x61 1) s
  when (decide (e.event = 0x81)) (raise 0x61 4) (when (decide (e.event = 0x80)) (raise 0x61 3) s)

/-- The LGC writes the buffered entries in the order of their events; it does so in a commit cycle (R353), and not while a ROLLOVER
erases the store (R356). -/
def logFlush (s : State) : State :=
  if s.leg.roll.isSome then s else
  let l := s.leg.buf
  forEach l logWrite { s with leg := { s.leg with buf := [] } }

/-- READ_POS: loads the entry at a position, RANGE where none is held there (R359). -/
def readPosCmd (p : Port) (pos : Nat) (s : State) : State :=
  fabricCmd p 0x61 0x080 none [(decide (4096 ≤ pos), .reserved), (decide (s.leg.log.length ≤ pos), .range)]
    (fun s =>
      let b := logBytes (s.leg.log.getD pos {})
      forEach (List.range 12) (fun k => wr (ALOG.ENTRY k) (le (slice b (4 * k) 4))) (s |> wr ALOG.READ_POS pos |> wr ALOG.READ_READY 1)) s

/-- READ_POS from a fabric port, with the position written. -/
def execReadPos (t : Nat) (p : Port) (pos : Nat) (s : State) : Out := evPort p t s (readPosCmd p pos)

end Sys2Proof.Machine
end

