-- ==== Sys2Proof/Machine/Jump.lean ====
section
/-! DEFINITION. What a step of the SC and a step of wall time do (R35, R38, R43, R47): occurrences jumped over, the marks left
for PM, and the acceptance of an ephemeris. -/
namespace Sys2Proof.Machine

/-! ## Jumped occurrences (R43, R47) -/

/-- The seconds of a WALL entry from one on its grid whose occurrences lie below a limit: how many, and the last. -/
def wallPassed (fuel : Nat) (s : State) (e : AEntry) (limit : Nat) (c : Int × Int) (n : Nat) (last : Option (Int × Int)) :
    Nat × Option (Int × Int) :=
  match fuel with
  | 0 => (n, last)
  | fuel + 1 =>
    if wallOccSc s e c.1 c.2 < limit then
      let next := wallGrid e.period e.offset c.1 (c.2 + 1)
      if e.period = 0 then (n + 1, some c) else wallPassed fuel s e limit next (n + 1) (some c)
    else (n, last)

/-- The occurrences of a WALL entry below a limit whose seconds are not consumed: how many, and the latest with its second (R43). -/
def wallJumped (s : State) (e : AEntry) (limit : Nat) : Nat × Option (Nat × Option (Nat × Nat)) :=
  let (td, ts, _, _) := wallTarget e
  let from_ : Int × Int := match e.lastWall with
    | some (d, x) => laterSecond ((td : Int), (ts : Int)) ((d : Int), (x : Int) + 1)
    | none => ((td : Int), (ts : Int))
  if !s.sidr.ephHave || decide (e.period = 0 ∧ e.lastWall.isSome = true) then (0, none) else
  let c := if e.period = 0 then from_ else wallGrid e.period e.offset from_.1 from_.2
  let fuel := ((limit : Int) - wallOccSc s e c.1 c.2).toNat / (max 1 e.period * secondSteps) + 3
  let (n, last) := wallPassed fuel s e limit c 0 none
  (n, last.map fun x => ((wallOccSc s e x.1 x.2).toNat, some (x.1.toNat, x.2.toNat)))

/-- The occurrences of an SC entry below a limit and above LAST_FIRE: how many, and the latest. -/
def scJumped (e : AEntry) (limit : Nat) : Nat × Option (Nat × Option (Nat × Nat)) :=
  match scOcc e (afterLast e) with
  | none => (0, none)
  | some o =>
    if limit ≤ o then (0, none)
    else if e.period = 0 then (1, some (o, none))
    else
      let k := (limit - 1 - o) / (e.period * frameSteps)
      (k + 1, some (o + k * (e.period * frameSteps), none))

/-- The occurrences of an entry below a limit that have not been consumed. -/
def jumped (s : State) (e : AEntry) (limit : Nat) : Nat × Option (Nat × Option (Nat × Nat)) :=
  if e.wall then wallJumped s e limit else scJumped e limit

/-- An occurrence is consumed: LAST_FIRE takes it (R47). -/
def AEntry.take (e : AEntry) (o : Nat) (w : Option (Nat × Nat)) : AEntry :=
  { e with lastFire := some o, lastWall := if w.isSome then w else e.lastWall }

/-- One entry jumped over: each occurrence below the limit counts in MISSED, LAST_FIRE takes the latest, and FIRE_LATE leaves one late
firing, in place of any that the entry still owes, since an entry fires once in a burst (R45, R47, log 197). -/
def jumpEntry (i : Nat) (e : AEntry) (limit : Nat) (s : State) : State :=
  match jumped s e limit with
  | (_, none) => s
  | (n, some (o, w)) =>
    let s := putEntry i { e.take o w with missed := e.missed + n } s |> addTo ORRY.MISSED_TOTAL n |> raise 0x04 0
    if e.late then
      { s with orry := { s.orry with owed := s.orry.owed.filter (fun x => x.index != i) ++ [{ occ := o, index := i, late := true }] } }
    else s

/-- An occurrence that came before the step and has not fired stays due: the entry owes it (R36, R45). -/
def oweEntry (i : Nat) (e : AEntry) (old : Nat) (s : State) : State :=
  match nextOcc s e with
  | some (o, w) =>
    if o ≤ old then
      let s := putEntry i (e.take o w) s
      { s with orry := { s.orry with owed := s.orry.owed ++ [{ occ := o, index := i, since := s.time.cycle - (old - o) }] } }
    else s
  | none => s

/-- The limit below which a forward step to a new SC jumps over an entry's occurrences: one at the new SC itself is due in the step tick,
but for an entry that fires late for others, whose next ordinary occurrence lies after the step (R36, R45, R47, log 197). -/
def jumpLimit (s : State) (e : AEntry) (new : Nat) : Nat := if e.late && (jumped s e new).2.isSome then new + 1 else new

/-- A forward step from one SC to another: what was due before it stays due, and it jumps over the occurrences behind that (R47). -/
def jumpStep (old new : Nat) (s : State) : State :=
  let s := forEach s.orry.entries (fun x s => oweEntry x.1 x.2 old s) s
  forEach s.orry.entries (fun x s => jumpEntry x.1 x.2 (jumpLimit s x.2 new) s) s

/-- A wall step leaves unfired occurrences of WALL entries at or below the SC (R43). -/
def jumpWall (s : State) : State :=
  forEach (s.orry.entries.filter (·.2.wall)) (fun x s => jumpEntry x.1 x.2 (s.time.sc + 1) s) s

/-! ## The step (R35, R137) -/

/-- Every SF and SD window in which the SC steps is skipped (R137). -/
def skipWindows (s : State) : State :=
  { s with line := { s.line with skipSf := true, skipSd := true } }

/-- A second becomes final, and a bin enters history, 10 s after its end; the SC moves under them by the step (R142, R143). -/
def shiftFinal (e : Int) (x : PmonU) : PmonU :=
  let f (n : Nat) : Nat := ((n : Int) + e).toNat
  { x with done := x.done.map fun d => { d with finSc := f d.finSc }
           bin15 := { x.bin15 with closeFin := f x.bin15.closeFin }
           binDay := { x.binDay with closeFin := f x.binDay.closeFin } }

/-- A past SC on the line that a step leaves, on the one it takes. -/
def shiftSc (e : Int) (n : Nat) : Nat := ((n : Int) + e).toNat

/-- The SC moves by a step under the past instants that samples are compared with: reversals, enables and the windows so far; a window's
end stays the SC it was opened to (R249, R254, R256, log 228). -/
def shiftAfe (e : Int) (x : AfeU) : AfeU :=
  let f := shiftSc e
  { x with windows := x.windows.map fun w => (w.1, f w.2.1, w.2.2), past := x.past.map fun w => (w.1, f w.2.1, f w.2.2)
           pinWin := x.pinWin.map fun w => { w with start := f w.start }, revs := x.revs.map fun r => (r.1, f r.2)
           pairs := x.pairs.map fun p => (p.1, { p.2 with gridFrom := f p.2.gridFrom })
           slices := x.slices.map fun p => (p.1, { p.2 with clockFrom := f p.2.clockFrom }) }

/-- A weighing window that runs over a forward step loses no output: the grid points jumped over never come (R275, R290). -/
def stretchWindow (old new : Nat) (w : WWin) : WWin :=
  let up (n : Nat) : Nat := (n + w.spacing - 1) / w.spacing * w.spacing
  let by_ := up new - up old
  if new ≤ old ∨ w.last < old then w
  else { w with last := w.last + by_, first := if w.first < old then w.first else w.first + by_ }

/-- The enables of the weigh channels move with the SC, and running windows take the next outputs that come (R275, R290). -/
def shiftWgh (old new : Nat) (x : WghU) : WghU :=
  { x with chans := x.chans.map fun c => (c.1, { c.2 with gridFrom := shiftSc ((new : Int) - old) c.2.gridFrom })
           sets := x.sets.map fun k => (k.1, { k.2 with win := k.2.win.map (stretchWindow old new) }) }

/-- The SC takes the new value in the step tick (R35). -/
def stepSc (e : Int) (s : State) : State :=
  let old := s.time.sc
  let new := ((old : Int) + e).toNat
  let s := { s with time := { s.time with sc := new, step := some (old, new) }, sidr := { s.sidr with stepE := none, stepTick := true, lastAdj := none }
                    afe := { shiftAfe e s.afe with disturb := some new }, wgh := shiftWgh old new s.wgh, usx := { s.usx with stepAt := s.time.cycle, seq := s.usx.seq.map fun q => { q with base := shiftSc e q.base } }
                    pmon := shiftFinal e { s.pmon with stepDue := true } }
  let s := s |> pmMark 4 |> skipWindows
  let s := s |> wr SIDR.STEP_SC (scReg new) |> wrS SIDR.STEP_FRAMES (e / frameSteps) |> incSat SIDR.STEP_COUNT
    |> wr SIDR.SC_VALID 1 |> raise 0x03 1
  let s := if 0 < e then jumpStep old new s else s
  if rd s SIDR.LINE_USABLE = 1 then setQuality qLOCKED s else s

/-- SC_STEP: due in the cycle in which the head-end-derived SC is at phase 0 of a frame that is a multiple of 25 (R35). -/
def execScStep (t : Nat) (s : State) : Out :=
  ev t s fun s =>
    match s.sidr.stepE with
    | some e => if ((s.time.sc : Int) + e) % tickSteps = 0 then stepSc e s else s
    | none => s

/-! ## The ephemeris (R38, R40, R492) -/

/-- An ephemeris message reaches SIDR (R38): out of range it is rejected and leaves the run; before any wall time the first in
range is accepted (R492); one that agrees is accepted, a change of LEAP alone included; a disagreeing one joins or starts a run,
whose FILTER-th message steps wall time. -/
def ephMessage (m : Eph) (s : State) : State :=
  let s := leapMark s
  if !ephInRange s m then ephReject s
  else if !s.sidr.ephHave then ephAccept m s
  else if ephAgrees (lastEph s) m then
    let s := when (decide (m.leap ≠ rd s SIDR.EPH_LEAP)) (pmMark 2) s
    ephAccept m s
  else
    let n := ephRunLen s m
    if rd s SIDR.EPH_FILTER ≤ n then
      let s := when (decide (m.leap ≠ rd s SIDR.EPH_LEAP)) (pmMark 2) s
      let old := wallStamp s
      let s := ephAccept m (s |> raise 0x03 2 |> pmMark 3)
      let new := wallStamp s
      let s := logEvent 0x53 0x03 (toLe 4 old.1 ++ toLe 4 old.2 ++ toLe 4 new.1 ++ toLe 4 new.2) s
      jumpWall { s with bill := { s.bill with evalDue := true } }
    else ephReject { s with sidr := { s.sidr with ephRun := some (m, n) } }

end Sys2Proof.Machine
end

