-- ==== Sys2Proof/Machine/Tariff.lean ====
section
/-! DEFINITION. The tariff calendar (R363 to R365): the evaluation of rate and friendly hours, the checks of a calendar, and the
legal WALL entries the LGC installs for it. -/
namespace Sys2Proof.Machine

/-! ## Gregorian dates -/

/-- A leap year of the Gregorian calendar. -/
def leapYear (y : Nat) : Bool := decide (y % 4 = 0 ∧ (y % 100 ≠ 0 ∨ y % 400 = 0))

/-- The days of a month; 0 for a number that is no month. -/
def monthDays (y m : Nat) : Nat :=
  if m = 2 then (if leapYear y then 29 else 28)
  else if m = 4 ∨ m = 6 ∨ m = 9 ∨ m = 11 then 30
  else if 1 ≤ m ∧ m ≤ 12 then 31 else 0

/-- (year, month, day) of a day of that year, the months from m on; at most n of them. -/
def monthOf (n y m d : Nat) : Nat × Nat × Nat :=
  match n with
  | 0 => (y, m, d + 1)
  | n + 1 => if d < monthDays y m then (y, m, d + 1) else monthOf n y (m + 1) (d - monthDays y m)

/-- The Gregorian date of a day counted from 1970-01-01, within n years. -/
def dateFrom (n y d : Nat) : Nat × Nat × Nat :=
  match n with
  | 0 => monthOf 12 y 1 d
  | n + 1 =>
    let len := if leapYear y then 366 else 365
    if d < len then monthOf 12 y 1 d else dateFrom n (y + 1) (d - len)

/-- The Gregorian date of a day counted from 1970-01-01 (R363). -/
def dateOf (day : Nat) : Nat × Nat × Nat := dateFrom 230 1970 day

/-! ## Evaluation (R363) -/

/-- The lowest-index valid special day that matches a date (R363). -/
def specialDay (s : State) (date : Nat × Nat × Nat) : Option Nat :=
  (List.range 64).find? fun i => decide (rd s (TARF.SP_VALID i) = 1 ∧ rd s (TARF.SP_MONTH i) = date.2.1 ∧ rd s (TARF.SP_DAY i) = date.2.2
    ∧ (rd s (TARF.SP_RECUR i) = 1 ∨ 2000 + rd s (TARF.SP_YEAR i) = date.1))

/-- Month and day of a season as one number. -/
def seasonKey (s : State) (i : Nat) : Nat := 32 * rd s (TARF.SEA_MONTH i) + rd s (TARF.SEA_DAY i)

/-- The season of a list with the latest month and day. -/
def latestSeason (s : State) (l : List Nat) : Option Nat :=
  l.foldl (fun a i => match a with
    | none => some i
    | some j => if seasonKey s j < seasonKey s i then some i else some j) none

/-- The valid season with the latest start not after a date, or, if none, with the latest start (R363). -/
def seasonOf (s : State) (date : Nat × Nat × Nat) : Option Nat :=
  let valid := (List.range 4).filter fun i => decide (rd s (TARF.SEA_VALID i) = 1)
  match latestSeason s (valid.filter fun i => decide (seasonKey s i ≤ 32 * date.2.1 + date.2.2)) with
  | some i => some i
  | none => latestSeason s valid

/-- The day profile of a weekday, Monday 0, in a week profile (R379). -/
def weekDayp (s : State) (w wd : Nat) : Nat := rd s (TARF.WEEKP w) / 16 ^ wd % 16

/-- The valid switching times of a day profile in the order of their slots: (MINUTE, RATE). -/
def switchTimes (s : State) (d : Nat) : List (Nat × Nat) :=
  ((List.range 12).filter fun k => decide (rd s (TARF.SW_VALID d k) = 1)).map fun k => (rd s (TARF.SW_MINUTE d k), rd s (TARF.SW_RATE d k))

/-- The rate of the last valid switching time of a day profile not after a minute; open where there is none (log 28). -/
def rateAt (s : State) (d minute : Nat) : Nat :=
  match ((switchTimes s d).filter fun x => decide (x.1 ≤ minute)).getLast? with
  | some x => x.2
  | none => Config.openRate % 8

/-- The minute lies in the friendly window (R363). -/
def inFriendly (s : State) (minute : Nat) : Bool :=
  let a := rd s PREP.FW_START
  let b := rd s PREP.FW_END
  if a < b then decide (a ≤ minute ∧ minute < b) else if b < a then decide (a ≤ minute ∨ minute < b) else false

/-- Local day, minute of the day and date at a moment that has wall time (R363). -/
def localNow (s : State) : Int × Nat :=
  let w := wallNow s
  let t := w.1 * 86400 + min w.2.1 86399
  let u := t + rdS s TARF.LOCAL_OFFSET * 60
  (u / 86400, ((u % 86400) / 60).toNat)

/-- The rate and the friendly-hours state in force now, with TARF_STATUS showing what was selected (R363, R379). -/
def evaluate (s : State) : Nat × Bool × State :=
  if rd s SIDR.WALL_STATE = 0 then (rd s TARF.DEFAULT_RATE, decide (rd s PREP.NO_TIME = 1), s) else
  let (day, minute) := localNow s
  let date := dateOf day.toNat
  let wd := ((day + 3) % 7).toNat
  match specialDay s date with
  | some i =>
    let dp := rd s (TARF.SP_DAYP i)
    (rateAt s dp minute, decide (rd s (TARF.SP_FRIENDLY i) = 1) || inFriendly s minute,
      s |> wr TARF.TS_DAYP dp |> wr TARF.TS_SPECIAL i)
  | none =>
    let friendly := bit (rd s PREP.FDAYS) wd || inFriendly s minute
    match seasonOf s date with
    | some n =>
      let w := rd s (TARF.SEA_WEEK n)
      let dp := weekDayp s w wd
      (rateAt s dp minute, friendly,
        s |> wr TARF.TS_SEASON n |> wr TARF.TS_WEEK w |> wr TARF.TS_DAYP dp |> wr TARF.TS_SPECIAL 0x7F)
    | none => (Config.openRate % 8, friendly, wr TARF.TS_SPECIAL 0x7F s)

/-- RATE, FRIENDLY and RATE_SC take the evaluation; a change raises RATE_CHANGE or FRIENDLY_CHANGE (R367, R378, R380). -/
def runEvaluate (s : State) : State :=
  let (rate, friendly, s) := evaluate s
  let s := when (decide (rate % 8 ≠ rd s BILL.RATE)) (raise 0x68 6) s
  let s := when (decide (b2n friendly ≠ rd s BILL.FRIENDLY)) (raise 0x6A 4) s
  s |> wr BILL.RATE rate |> wrB BILL.FRIENDLY friendly |> wr BILL.RATE_SC (scReg s.time.sc)
    |> wrB BILL.TIME_PROVISIONAL (timeProvisional s)

/-- Friendly hours are in force. -/
def friendly (s : State) : Bool := decide (rd s BILL.FRIENDLY = 1)

/-! ## The checks of a calendar (R364) -/

/-- The week profiles in use: those that a valid season names. -/
def usedWeeks (s : State) : List Nat :=
  (List.range 8).filter fun w => (List.range 4).any fun i => decide (rd s (TARF.SEA_VALID i) = 1 ∧ rd s (TARF.SEA_WEEK i) = w)

/-- The day profiles that the week profiles in use name. -/
def weekProfiles (s : State) : List Nat :=
  (List.range 16).filter fun d => (usedWeeks s).any fun w => (List.range 7).any fun wd => decide (weekDayp s w wd = d)

/-- The day profiles in use: by a week profile in use, or by a valid special day. -/
def usedProfiles (s : State) : List Nat :=
  (List.range 16).filter fun d => (weekProfiles s).contains d
    || (List.range 64).any fun i => decide (rd s (TARF.SP_VALID i) = 1 ∧ rd s (TARF.SP_DAYP i) = d)

/-- A list of numbers rises strictly. -/
def rising (l : List Nat) : Bool :=
  match l with
  | a :: b :: r => decide (a < b) && rising (b :: r)
  | _ => true

/-- The distinct local switching times of the used day profiles, rising (R364, R365). -/
def distinctTimes (s : State) : List Nat :=
  (List.range 1440).filter fun m => (usedProfiles s).any fun d => (switchTimes s d).any fun x => decide (x.1 = m)

/-- A special day names a date that does not exist; a recurring day needs a date of a leap year at most. -/
def badSpecial (s : State) (i : Nat) : Bool :=
  let y := if rd s (TARF.SP_RECUR i) = 1 then 2000 else 2000 + rd s (TARF.SP_YEAR i)
  decide (rd s (TARF.SP_VALID i) = 1 ∧ (rd s (TARF.SP_DAY i) = 0 ∨ monthDays y (rd s (TARF.SP_MONTH i)) < rd s (TARF.SP_DAY i)))

/-- A calendar that a commit refuses with RANGE (R364). -/
def badCalendar (s : State) : Bool :=
  ((List.range 4).all fun i => decide (rd s (TARF.SEA_VALID i) = 0))
    || ((weekProfiles s).any fun d => match switchTimes s d with
        | (0, _) :: _ => false
        | _ => true)
    || ((List.range 16).any fun d => !rising ((switchTimes s d).map (·.1)))
    || ((List.range 64).any (badSpecial s))
    || decide (rdS s TARF.LOCAL_OFFSET < -720 ∨ 840 < rdS s TARF.LOCAL_OFFSET)
    || decide (24 < (distinctTimes s).length)

/-! ## Legal entries (R41, R365) -/

/-- A one-shot entry that has fired will not fire again (R42). -/
def spent (e : AEntry) : Bool := e.owner = 0 && decide (e.period = 0) && e.lastFire.isSome

/-- Where the LGC puts a legal entry: the lowest free legal index, else the lowest that holds a spent one-shot of its own. -/
def legalSlot (s : State) : Option Nat :=
  match (List.range 64).find? fun i => (entryAt s i).isNone with
  | some i => some i
  | none => (List.range 64).find? fun i => match entryAt s i with
    | some e => spent e
    | none => false

/-- The LGC installs a legal entry (R41, R48). -/
def legalInstall (e : AEntry) (s : State) : State :=
  match legalSlot s with
  | some i => replaceEntry i e s
  | none => s

/-- A daily entry of R365: its unit and its UTC second of the day, from the next second on. -/
def calendarEntry (s : State) (unit off : Nat) : AEntry :=
  let w := wallNow s
  { target := (w.1.toNat * 2 ^ 47 + (w.2.1.toNat + 1) % 86401 * 2 ^ 30) % 2 ^ 67, period := 86400, offset := off, unit := unit
    action := 1, cond := 0x0F, wall := true, late := true, owner := 0 }

/-- The UTC second of the day of a local minute (R365). -/
def utcSecond (s : State) (m : Nat) : Nat := ((60 * (m : Int) - 60 * rdS s TARF.LOCAL_OFFSET) % 86400).toNat

/-- The entries of R365 as (unit, second of the day). -/
def calendarTimes (s : State) : List (Nat × Nat) :=
  let a := rd s PREP.FW_START
  let b := rd s PREP.FW_END
  (distinctTimes s).map (fun m => (0x69, utcSecond s m)) ++ (if a = b then [] else [(0x6A, utcSecond s a), (0x6A, utcSecond s b)])

/-- The entries of a former calendar are removed. -/
def dropCalendar (s : State) : State :=
  forEach (s.orry.entries.filter fun x => decide (x.1 < 64 ∧ x.2.wall = true ∧ (x.2.unit = 0x69 ∨ x.2.unit = 0x6A)))
    (fun x => dropEntry x.1) s

/-- The LGC installs the entries of R365; while WALL_STATE is NONE it leaves that to a later commit cycle. -/
def installCalendar (s : State) : State :=
  let s := dropCalendar s
  if rd s SIDR.WALL_STATE = 0 then { s with bill := { s.bill with installed := false } } |> wr TARF.TS_ENTRIES 0 else
  let l := calendarTimes s
  let s := forEach l (fun x s => legalInstall (calendarEntry s x.1 x.2) s) s
  wr TARF.TS_ENTRIES l.length { s with bill := { s.bill with installed := true } }

/-- A change of WALL_STATE makes an evaluation due, and the first wall time lets the entries of R365 be installed (R365, R367). -/
def watchWall (s : State) : State :=
  let w := rd s SIDR.WALL_STATE
  let s := if w = s.bill.lastWall then s else { s with bill := { s.bill with lastWall := w, evalDue := true } }
  if w ≠ 0 ∧ s.bill.installed = false then installCalendar s else s

end Sys2Proof.Machine
end

