-- ==== Sys2Proof/Machine/Wgh.lean ====
section
/-! DEFINITION. Weighing (R272 to R300): the filter chain of a weigh channel and its outputs, the notches, the legal weight value,
weighing windows, set commands and the double-entry check. -/
namespace Sys2Proof.Machine

/-! ## Outputs (R274 to R279) -/

/-- What a channel keeps. -/
def chanOf (s : State) (c : Nat) : WchU := aget s.wgh.chans c {}
/-- Change what a channel keeps. -/
def modChan (c : Nat) (f : WchU → WchU) (s : State) : State :=
  { s with wgh := { s.wgh with chans := aset s.wgh.chans c (f (chanOf s c)) } }
/-- One more free value of the weighing part is drawn. -/
def drawn (s : State) : State := { s with wgh := { s.wgh with draws := s.wgh.draws + 1 } }

/-- The output spacing of an OUT_RATE in phase steps (R275). -/
def outSpacing (r : Nat) : Nat :=
  if r = 11 then 500000 else if r = 12 then 250000
  else frameSteps * [8000, 4000, 2000, 1000, 800, 500, 400, 200, 100, 50, 25].getD r 25

/-- L and N of a channel (R274). -/
def avgL (s : State) (c : Nat) : Nat := rd s (WCH.AVG_ORDER c) + 1
/-- L and N of a channel (R274). -/
def avgN (s : State) (c : Nat) : Nat := max 1 (rd s (WCH.AVG_LEN c))

/-- One averaging stage: the mean of the fed samples of every window of n, none where a window holds none (R274, R276). -/
def avgStage (n : Nat) (l : List (Option Rat)) : List (Option Rat) :=
  (List.range (l.length + 1 - n)).map fun i =>
    let w := ((l.drop i).take n).filterMap id
    if w = [] then none else some (w.foldl (· + ·) 0 / (w.length : Rat))

/-- L stages over the support (R274). -/
def averager (n : Nat) : Nat → List (Option Rat) → List (Option Rat)
  | 0, l => l
  | k + 1, l => averager n k (avgStage n l)

/-- The support of a channel's output at b, newest first (R274, R275). -/
def support (s : State) (c b : Nat) : List Samp :=
  ((chanOf s c).hist.dropWhile fun x => decide (b < x.endSc)).take (avgL s c * (avgN s c - 1) + 1)

/-- The slice whose ROLE is ACTIVE for a channel (R272). -/
def sliceFor (s : State) (c : Nat) : Option Nat :=
  (List.range 18).find? fun i => decide (rd s (AFE.SLICE_ROLE i) = 1 ∧ rd s (AFE.SLICE_USER i) = c)

/-- RATE of the slice bound to a channel. -/
def rateFor (s : State) (c : Nat) : Option Nat := (sliceFor s c).map fun i => rd s (SLICE.RATE i)

/-- A frequency in 0.01 Hz is not below 0.45 of the sample rate of a RATE (R278). -/
def overNyquist (r f : Nat) : Bool := decide (18000000000 ≤ f * rateSpacing r)

/-- FILL_MIN of the channel's set; its reset value for a channel in no set (R276, R297). -/
def fillMin (s : State) (c : Nat) : Nat :=
  match setOf s c with
  | some k => rd s (WGH.FILL_MIN k)
  | none => 90

/-- The averager's output over a support: none where its last stage has nothing to average; an inexact mean is rounded one of two
ways (log 25); behind notches whose input varied it is open (R277, log 26). -/
def avgValue (s : State) (c : Nat) (xs : List Samp) : Option Int :=
  let n := avgL s c * (avgN s c - 1) + 1
  let l := xs.map fun x => if x.fed then some (x.value : Rat) else none
  match (averager (avgN s c) (avgL s c) (l ++ List.replicate (n - l.length) none)).head? with
  | some (some r) =>
    if xs.any fun x => x.open_ then some (satSample (Config.notchOutput s.wgh.draws))
    else if r.den = 1 then some r.num
    else some (r.num / (r.den : Int) + (if Config.roundUp s.wgh.draws then 1 else 0))
  | _ => none

/-- The dead-load check on an output with a value (R279). -/
def deadLoad (c : Nat) (v : Int) (s : State) : State :=
  if rd s (WCH.DL_MIN c) = 0 then s else
  let u := chanOf s c
  let low := decide (v < rdS s (WCH.DL_MIN c))
  let u := { u with dlLow := if low then u.dlLow + 1 else 0, dlHigh := if low then 0 else u.dlHigh + 1 }
  let n := rd s (WCH.DL_FILTER c)
  if !u.dlFail && decide (n ≤ u.dlLow) then
    modChan c (fun _ => { u with dlFail := true }) s |> inc (WCH.DL_FAULTS c) |> raise (0x49 + c) 1 |> raiseSub 0x48 c
  else if u.dlFail && decide (n ≤ u.dlHigh) then modChan c (fun _ => { u with dlFail := false }) s
  else modChan c (fun _ => u) s

/-- A channel delivers its output for grid point b (R275, R276, R279, R300). -/
def output (c b : Nat) (s : State) : State :=
  let xs := support s c b
  let n := avgL s c * (avgN s c - 1) + 1
  let fill := 100 * (xs.filter fun x => x.fed).length / n
  let val := if fill < fillMin s c then none else avgValue s c xs
  let s := drawn s
  let s := match val with
    | some v => deadLoad c v s
    | none => s
  let u := chanOf s c
  let marker := val.isNone
  let blanked := decide (fillMin s c ≤ fill) && xs.any fun x => x.marker
  let fault := u.dlFail || xs.any fun x => x.fault
  let settling := decide (u.taken < n + (u.hist.takeWhile fun x => decide (b < x.endSc)).length) || xs.any fun x => x.settling
  let flags := b2n blanked + 2 * b2n fault + 4 * b2n (xs.any fun x => x.swapped) + 8 * b2n settling + 16 * b2n marker
    + 32 * b2n u.dlFail
  let s := modChan c (fun u => { u with lastB := some b, fresh := true, faulty := fault }) s
  let s := s |> wrS (WCH.OUT_RAW c) (val.getD 0) |> wr (WCH.OUT_SC c) (scReg b)
    |> wr (WCH.DATA_SC c) (scReg ((xs.head?.map Samp.endSc).getD 0)) |> wr (WCH.OUT_FILL c) fill |> wr (WCH.OUT_FLAGS c) flags
    |> inc (WCH.OUTPUTS c)
  let s := when blanked (inc (WCH.BLANKED_OUT c)) s
  let s := when marker (fun s => s |> inc (WCH.MARKER_OUT c) |> raise (0x49 + c) 3) s
  when (fault && !u.faulty) (fun s => s |> raise (0x49 + c) 0 |> raiseSub 0x48 c) s

/-- The grid point whose output is due now: 320 phase steps past, beyond the latest output and the enable (R275). -/
def outputDue (s : State) (c : Nat) : Option Nat :=
  let u := chanOf s c
  ((gridDue s 320 (outSpacing (rd s (WCH.OUT_RATE c)))).filter fun d =>
    decide (u.gridFrom < d.2) && (match u.lastB with
      | some l => decide (l < d.1)
      | none => true)).map (·.1)

/-- WEIGH_OUTPUT of a channel: due 320 phase steps after its grid point (R275). -/
def execWeighOutput (t : Nat) (chan : Nat) (s : State) : Out :=
  ev t s fun s =>
    if chan < 16 ∧ enabled s (0x49 + chan) = true then
      match outputDue s chan with
      | some b => output chan b s
      | none => s
    else s

/-! ## Notches (R277, R278) -/

/-- What a notch keeps. -/
def notchOf (s : State) (c j : Nat) : NotchU := aget (chanOf s c).notches j {}
/-- Change what a notch keeps. -/
def modNotch (c j : Nat) (f : NotchU → NotchU) (s : State) : State :=
  modChan c (fun u => { u with notches := aset u.notches j (f (aget u.notches j {})) }) s

/-- The largest F of a notch: FMAX, and below 0.45 fs where a slice is bound (R278). -/
def notchTop (s : State) (c j : Nat) : Nat :=
  match rateFor s c with
  | some r => min (rd s (WCH.FMAX c j)) (17999999999 / rateSpacing r)
  | none => rd s (WCH.FMAX c j)

/-- A frequency is moved to the nearer bound of the notch's fence (R278). -/
def fenced (s : State) (c j : Nat) (f : Int) : Int := max (rd s (WCH.FMIN c j) : Int) (min (notchTop s c j : Int) f)

/-- A notch is enabled with its channel, or in it: F is F_INIT within the fence, and its runs start anew (R278, R300). -/
def notchStart (c j : Nat) (s : State) : State :=
  modNotch c j (fun _ => {}) s |> wr (WCH.NOTCH_F c j) (fenced s c j (rd s (WCH.F_INIT c j) : Int)).toNat
    |> wr (WCH.N_HELD_NOW c j) 0 |> wr (WCH.N_HELD_TICKS c j) 0

/-- FENCE_HELD after FENCE_TICKS ticks in a row, once a run (R278). -/
def fenceHeld (c j : Nat) (s : State) : State :=
  let x := notchOf s c j
  if rd s (WCH.N_FENCE_TICKS c) ≤ x.held ∧ 0 < x.held ∧ x.raised = false then
    raise (0x49 + c) 2 (modNotch c j (fun x => { x with raised := true }) s)
  else s

/-- NOTCH_FENCE_HELD of a notch: due when it has been pushed past a bound for FENCE_TICKS ticks (R278); the commit cycle judges it
too. -/
def execNotchFenceHeld (t : Nat) (chan notch : Nat) (s : State) : Out :=
  ev t s fun s => if chan < 16 ∧ notch < 4 then fenceHeld chan notch s else s

/-- A notch's update in a commit cycle: by at most F_STEP toward the frequency its estimator asks for, never out of the fence
(R278, log 27). -/
def notchMove (c j : Nat) (s : State) : State :=
  let f : Int := rd s (WCH.NOTCH_F c j)
  let ask := Config.notchAsk s.wgh.draws
  let step : Int := rd s (WCH.F_STEP c)
  let f' := fenced s c j (f + max (-step) (min step (ask - f)))
  let pushed := decide ((ask < rd s (WCH.FMIN c j) ∧ f' = rd s (WCH.FMIN c j)) ∨ (rd s (WCH.FMAX c j) < ask ∧ f' = rd s (WCH.FMAX c j)))
  let n := if pushed then (notchOf s c j).held + 1 else 0
  let s := modNotch c j (fun x => { held := n, raised := x.raised && pushed }) (drawn s)
  fenceHeld c j (s |> wr (WCH.NOTCH_F c j) f'.toNat |> wrB (WCH.N_HELD_NOW c j) pushed |> wr (WCH.N_HELD_TICKS c j) (min 255 n))

/-- The notches of a channel in a commit cycle: a new fence first, then the update of those not frozen (R278). -/
def notchTick (c : Nat) (s : State) : State :=
  if !enabled s (0x49 + c) then s else
  forEach ((List.range 4).filter fun j => bit (rd s (WCH.N_EN c)) j) (fun j s =>
    let s := wr (WCH.NOTCH_F c j) (fenced s c j (rd s (WCH.NOTCH_F c j) : Int)).toNat s
    if bit (rd s (WCH.N_FREEZE c)) j then s else notchMove c j s) s

/-- A channel's ENABLE changes: its history and runs start anew, and its enabled notches with it; the grid
point of the latest output stays (R272, R275, R276, R277). -/
def channelEnable (c : Nat) (on : Bool) (s : State) : State :=
  let s := modChan c (fun u => { gridFrom := s.time.sc, lastB := u.lastB }) s
  if on then forEach ((List.range 4).filter fun j => bit (rd s (WCH.N_EN c)) j) (notchStart c) s else s

/-- DL_MIN is written: 0 ends the check and its failure at once (R279). -/
def deadLoadOff (c : Nat) (s : State) : State :=
  if rd s (WCH.DL_MIN c) = 0 then modChan c (fun u => { u with dlLow := 0, dlHigh := 0, dlFail := false }) s else s

/-- A CH_CFG change starts a SETTLING span in an enabled channel (R276). -/
def channelCfg (c : Nat) (s : State) : State := modChan c (fun u => { u with taken := 0 }) s

/-! ## Sets (R273, R280 to R289) -/

/-- What a set keeps. -/
def setU (s : State) (k : Nat) : SetU := aget s.wgh.sets k {}
/-- Change what a set keeps. -/
def modSet (k : Nat) (f : SetU → SetU) (s : State) : State :=
  { s with wgh := { s.wgh with sets := aset s.wgh.sets k (f (setU s k)) } }
/-- The member channels of a set. -/
def members (s : State) (k : Nat) : List Nat := (List.range 16).filter fun c => bit (rd s (WGH.MEMBERS k)) c
/-- The set is legal (R273). -/
def setLegal (s : State) (k : Nat) : Bool := decide (rd s (WGH.SET_LEGAL k) = 1)
/-- The set is enabled. -/
def setOn (s : State) (k : Nat) : Bool := decide (rd s (WGH.SET_EN k) = 1)

/-- One mg in the units of m (R281). -/
def mgUnit : Int := 2 ^ 333
/-- Max in the units of m. -/
def maxM (s : State) (k : Nat) : Int := rd s (WGH.MAX_E k) * rd s (WGH.E_MG k) * mgUnit
/-- e in the units of m. -/
def eM (s : State) (k : Nat) : Int := rd s (WGH.E_MG k) * mgUnit

/-- m, in units of 2 to the -333 mg, so that every term of R281 is whole: s is S / 2^65 and LIN_C has 8 fractional bits. -/
def linearise (s : State) (k : Nat) : Int :=
  let S := (members s k).foldl (fun a c => a + rdS s (WCH.OUT_RAW c) * (rd s (WCH.CORNER c) : Int)) 0
  (List.range 6).foldl (fun a j => a + rdS s (WGH.LIN_C k j) * S ^ j * 2 ^ (65 * (5 - j))) 0

/-- max(m) - min(m) of a list of formations. -/
def spread (l : List Formed) : Int :=
  match l with
  | [] => 0
  | x :: r => (r.map Formed.m).foldl max x.m - (r.map Formed.m).foldl min x.m

/-- The values are clean and lie within MOTION_PCT % of e (R282). -/
def steadyOver (s : State) (k : Nat) (l : List Formed) : Bool :=
  l.all (fun x => x.clean) && decide (spread l * 100 ≤ rd s (WGH.MOTION_PCT k) * eM s k)

/-- STABLE of R282. -/
def stableNow (s : State) (k : Nat) : Bool :=
  let l := (setU s k).last.take (rd s (WGH.MOTION_N k))
  decide (l.length = rd s (WGH.MOTION_N k)) && steadyOver s k l

/-- A window runs or is pending on the set (R292). -/
def windowBusy (s : State) (k : Nat) : Bool := (setU s k).win.isSome || (setU s k).pend.isSome

/-- ZERO_REF shows Z, in mg (R297). -/
def showZero (k : Nat) (s : State) : State :=
  wrS (WGH.ZERO_REF k) (roundDiv ((setU s k).z.getD 0) (2 ^ 333)) s

/-- A new Z lies within pct % of Max of a reference. -/
def within (s : State) (k pct : Nat) (m ref : Int) : Bool := decide (((m - ref).natAbs : Int) * 100 ≤ pct * maxM s k)

/-- The set's calibrated zero in the units of m (R283). -/
def calZero (s : State) (k : Nat) : Int := rdS s (WGH.CAL_ZERO k) * mgUnit

/-- Z is set for the first time (R283). -/
def initialZero (k : Nat) (m : Int) (s : State) : State :=
  showZero k (modSet k (fun u => { u with z := some m, z0 := m, stale := 0 }) s)

/-- The least-squares line through the last zero windows, at b, in mg (R286). -/
def dynZero (u : SetU) (b : Nat) : Int :=
  let l := u.zeros
  let n : Int := l.length
  match l with
  | [] => roundDiv (u.z.getD 0) (2 ^ 333)
  | (b0, _) :: _ =>
    let x (p : Nat × Int) : Int := (p.1 : Int) - b0
    let sx := (l.map x).foldl (· + ·) 0
    let sy := (l.map (·.2)).foldl (· + ·) 0
    let sxx := (l.map fun p => x p * x p).foldl (· + ·) 0
    let sxy := (l.map fun p => x p * p.2).foldl (· + ·) 0
    let d := n * sxx - sx * sx
    if d ≤ 0 then roundDiv sy (n.toNat * 2 ^ 333)
    else roundDiv (n * sxy * ((b : Int) - b0) * n + (sy * d - (n * sxy - sx * sy) * sx) - sx * sy * ((b : Int) - b0) * n)
      (n.toNat * d.toNat * 2 ^ 333)

/-- DATA of the ZERO_STALE events: set, stale time in s, BOUND in µe, correction in mg (R285, R354). -/
def staleData (k : Nat) (u : SetU) (corr : Int) : List Nat :=
  [k, 0, 0, 0] ++ toLe 4 (u.stale / 400) ++ toLe 4 (u.bound / 1440000) ++ toLe 4 (ofSigned 32 corr)

/-- A zero window ends the stale state, with its log entries; the correction is m - Z, Z being open while unset (R285, log 30, log
227). -/
def clearStale (k : Nat) (m : Int) (s : State) : State :=
  let u := setU s k
  let corr := m - u.z.getD (Config.unsetZero s.wgh.draws * mgUnit)
  let s := if u.isStale then
      let d := staleData k u (roundDiv corr (2 ^ 333))
      let s := logEvent 0x41 0x48 d s
      when (decide ((u.bound : Int) * eM s k < (corr.natAbs : Int) * 1000000 * 1440000)) (logEvent 0x42 0x48 d) s
    else s
  modSet k (fun u => { u with stale := 0, isStale := false, bound := 0 }) s

/-- Zero tracking in a zero window: Z moves toward m by at most 0.5 e per second of SC, within ZERO_RANGE % of Max of the initial
zero (R284, R286). -/
def trackZero (k : Nat) (m : Int) (b : Nat) (s : State) : State :=
  let u := setU s k
  let z := u.z.getD 0
  let step := eM s k * ((b - u.lastB.getD b : Nat) : Int) / (2 * secondSteps)
  let lim := rd s (WGH.ZERO_RANGE k) * maxM s k / 100
  let z' := max (u.z0 - lim) (min (u.z0 + lim) (z + max (-step) (min step (m - z))))
  showZero k (modSet k (fun u => { u with z := some z', zeros := ((b, z') :: u.zeros).take 8 }) s)

/-- ZERO_STALE: stale time beyond ZT_STALE_LIMIT sets the flag and starts the bound (R285). -/
def goStale (k : Nat) (s : State) : State :=
  let u := setU s k
  if u.isStale = false ∧ rd s (WGH.ZT_STALE_LIMIT k) * 400 < u.stale then
    logEvent 0x40 0x48 (staleData k u 0) (raise 0x48 2 (modSet k (fun u => { u with isStale := true }) s))
  else s

/-- ZERO_STALE of a set: due when its stale time exceeds ZT_STALE_LIMIT (R285); the commit cycle judges it too. -/
def execZeroStale (t : Nat) (set : Nat) (s : State) : Out :=
  ev t s fun s => if set < 8 ∧ setOn s set = true then goStale set s else s

/-- Stale time and drift bound of a set in a commit cycle (R285). -/
def staleTick (k : Nat) (s : State) : State :=
  let s := modSet k (fun u => { u with stale := u.stale + 1 }) s
  let s := goStale k s
  let s := when (setU s k).isStale (modSet k (fun u => { u with bound := u.bound + rd s (WGH.DRIFT_RATE k) })) s
  s |> wr (WGH.STALE_S k) ((setU s k).stale / 400) |> wr (WGH.BOUND_UE k) ((setU s k).bound / 1440000)

/-- A legal set's values carry NFT while a MONEY, MASS or VOL break stands, or a member's unit is halted (R63). -/
def haltedNft (s : State) (k : Nat) : Bool :=
  setLegal s k && (billHalted s || (members s k).any fun c => unitHalted s (0x48 + c))

/-- FLAGS and NFT_WHY of a value (R288, R289). -/
def buildFlags (s : State) (k : Nat) (mz gross : Int) (outFlags : Nat) (stable : Bool) : Nat :=
  let u := setU s k
  let e : Int := rd s (WGH.E_MG k)
  let aboveMax := decide ((rd s (WGH.MAX_E k) : Int) * e + 9 * e < gross)
  let under := decide (gross < -20 * e)
  let why := b2n (decide (250000 * 1440000 < u.bound)) + 2 * b2n (bit outFlags 1) + 4 * b2n (aboveMax || under) + 8 * b2n u.deBad
    + 16 * b2n u.z.isNone + 32 * b2n (setLegal s k && sealOpen s) + 64 * b2n (lgcHalted s) + 128 * b2n (bit outFlags 3)
  b2n stable + 2 * b2n u.isStale + 4 * b2n (decide (why ≠ 0) || haltedNft s k) + 8 * b2n (bit outFlags 0)
    + 16 * b2n (bit outFlags 2) + 32 * b2n (decide (u.tare ≠ 0)) + 64 * b2n u.preset
    + 128 * b2n (decide (4 * (mz.natAbs : Int) ≤ eM s k)) + 256 * b2n aboveMax + 512 * b2n under + 1024 * b2n (bit outFlags 1)
    + 2048 * b2n (bit outFlags 3) + 4096 * b2n u.z.isNone + 65536 * why

/-- Gross of a mass above Z: the nearest multiple of e, halves away from zero (R288). -/
def roundE (s : State) (k : Nat) (mz : Int) : Int :=
  roundDiv mz (rd s (WGH.E_MG k) * 2 ^ 333) * (rd s (WGH.E_MG k) : Int)

/-! ## Windows (R290 to R292) -/

/-- WIN_STATE shows the set's window (R297). -/
def showWindow (k : Nat) (s : State) : State :=
  let u := setU s k
  match u.win with
  | none => s |> wr (WGH.WIN_STATE k) 0 |> wr (WGH.WIN_REMAIN k) 0
  | some w =>
    let came := max w.first ((((chanOf s ((members s k).headD 0)).lastB.getD 0) / w.spacing + 1) * w.spacing)
    let next := match s.time.step with
      | some (_, new) => max came ((new + w.spacing - 1) / w.spacing * w.spacing)
      | none => came
    s |> wr (WGH.WIN_STATE k) (if u.pend.isSome then 2 else 1) |> wr (WGH.WIN_REMAIN k) ((w.last + w.spacing - next) / w.spacing)

/-- A window of n outputs that begins with a grid point. -/
def windowFrom (t first sp n : Nat) : WWin := { t := t, first := first, last := first + (n - 1) * sp, spacing := sp }

/-- The output spacing of a set (R273). -/
def setSpacing (s : State) (k : Nat) : Nat := outSpacing (rd s (WCH.OUT_RATE ((members s k).headD 0)))

/-- A window over the n outputs with the lowest b after t starts (R290). -/
def startWindow (k t n : Nat) (s : State) : State :=
  let sp := setSpacing s k
  showWindow k (modSet k (fun u => { u with win := some (windowFrom t ((t / sp + 1) * sp) sp n) }) s)

/-- A CONVERT trigger with occurrence SC t and ARG n at a channel's unit (R290, R291). -/
def convert (c t n : Nat) (s : State) : State :=
  let unit := 0x48 + c
  match setOf s c with
  | none => trigRefuse unit s
  | some k =>
    if n = 0 ∨ 4095 < n ∨ rd s (WGH.SET_EN k) = 0 then trigRefuse unit s else
    let u := setU s k
    if u.win.isNone then trigExec unit (startWindow k t n s)
    else if rd s (WGH.SET_POLICY k) = 0 then
      if u.pend.isSome then trigMerge unit s
      else showWindow k (modSet k (fun u => { u with pend := some (n, unit) }) (trigPend unit s))
    else if rd s (WGH.SET_POLICY k) = 1 then trigRefuse unit s
    else trigExec unit (startWindow k t n s)

/-- CONVERT: a trigger for a channel's unit with its occurrence SC and ARG (R290). -/
def execConvert (t : Nat) (src : TrigSrc) (chan occ action arg : Nat) (s : State) : Out :=
  ev t s fun s =>
    if chan < 16 then arrive src (0x48 + chan) (if action = 1 then convert chan occ arg else trigRefuse (0x48 + chan)) s else s

/-- WCH_CMD CONVERT from a fabric port: a command trigger at its acceptance; SEALED on a legal channel (R300). -/
def wchConvertCmd (p : Port) (c n : Nat) (s : State) : State :=
  let page := 0x49 + c
  fabricCmd p page 0x060 (some (WCH.CMD_CODE c))
    [(cmdBusy s (page * 0x1000 + 0x060), .busy), (channelLegal s c, .sealed), (decide (n = 0 ∨ 4095 < n), .range)]
    (fun s => arrive .cmd (0x48 + c) (convert c s.time.sc n) (raise page 4 (startCmd (page * 0x1000 + 0x060) 4 s))) s

/-- WCH_CONVERT, with its channel and ARG. -/
def execWchConvert (t : Nat) (p : Port) (chan arg : Nat) (s : State) : Out :=
  evPort p t s fun s => if chan < 16 then wchConvertCmd p chan arg s else s

/-- The window is over: its result, and a pending trigger's window starts at the next output (R290, R291). -/
def finishWindow (k : Nat) (w : WWin) (s : State) : State :=
  let u := setU s k
  let n := w.formed.length
  let total := (w.formed.map Formed.m).foldl (· + ·) 0
  let z := u.z.getD (Config.unsetZero s.wgh.draws * mgUnit)
  let e := rd s (WGH.E_MG k)
  let gross := if n = 0 then Config.emptyWindow s.wgh.draws else roundDiv (total - n * z) (n * e * 2 ^ 333) * (e : Int)
  let ors := (w.formed.map Formed.flags).foldl (· ||| ·) 0
  let ors := clearBits ors 1 ||| b2n (steadyOver s k w.formed && !w.marker && decide (0 < n))
  let ors := if w.marker ∨ n = 0 then ors ||| 4 ||| 2 ^ 17 else ors
  let s := drawn s |> wrS (WGH.WIN_GROSS k) gross |> wrS (WGH.WIN_NET k) (gross - u.tare) |> wr (WGH.WIN_FLAGS k) ors
    |> wr (WGH.WIN_SC k) (scReg w.first) |> inc (WGH.SET_WINDOWS k) |> raise 0x48 0
  match u.pend with
  | some (m, unit) =>
    let first := w.last + w.spacing
    showWindow k (modSet k (fun u => { u with pend := none, win := some (windowFrom w.last first w.spacing m) }) (trigUnpend unit s))
  | none => showWindow k (modSet k (fun u => { u with win := none }) s)

/-- The window's last output has been used (R290). -/
def winDone (k b : Nat) (s : State) : State :=
  match (setU s k).win with
  | some w => if w.last ≤ b then finishWindow k w s else s
  | none => s

/-- WIN_DONE of a set: due when the last output of its window has been formed (R290); the formation judges it too. -/
def execWinDone (t : Nat) (set : Nat) (s : State) : Out :=
  ev t s fun s => if set < 8 then winDone set ((setU s set).lastB.getD 0) s else s

/-- The outputs used in a commit cycle enter a window that covers their b (R290). -/
def windowAdd (k b : Nat) (x : Option Formed) (s : State) : State :=
  match (setU s k).win with
  | some w =>
    let s := if w.first ≤ b ∧ b ≤ w.last then
        modSet k (fun u => { u with win := some (match x with
          | some f => { w with formed := f :: w.formed }
          | none => { w with marker := true }) }) s
      else s
    showWindow k (winDone k b s)
  | none => s

/-- A set is disabled or changed: its window is discarded and a pending trigger REFUSED (R291). -/
def dropWindow (k : Nat) (s : State) : State :=
  let s := match (setU s k).pend with
    | some (_, unit) => trigDropPend unit s
    | none => s
  showWindow k (modSet k (fun u => { u with win := none, pend := none }) s)

/-- VALUE_FLAGS takes new flags: a change of STABLE raises STABLE_CHANGE, one of NFT NFT_CHANGE (R282, R289). -/
def setFlags (k flags : Nat) (s : State) : State :=
  let old := rd s (WGH.VALUE_FLAGS k)
  let s := wr (WGH.VALUE_FLAGS k) flags s
  let s := when (bit flags 0 != bit old 0) (raise 0x48 1) s
  when (bit flags 2 != bit old 2) (raise 0x48 3) s

/-- A set starts anew with Z unset and no tare (R283, R287, R346). -/
def restartSet (k : Nat) (s : State) : State :=
  let s := dropWindow k s
  showZero k (modSet k (fun u => { cmd := u.cmd, cmdSc := u.cmdSc, deBad := u.deBad }) s)
    |> setFlags k 0x101004 |> wr (WGH.TARE k) 0 |> wr (WGH.STALE_S k) 0 |> wr (WGH.BOUND_UE k) 0

/-! ## Formation (R280) -/

/-- A value is formed from the members' newest outputs, which share b (R280 to R289). -/
def formValue (k b outFlags : Nat) (s : State) : State :=
  let m := linearise s k
  let clean := decide (outFlags &&& 0b1011 = 0)
  let s := modSet k (fun u => { u with last := ({ m := m, clean := clean, b := b } :: u.last).take 255 }) s
  let stable := stableNow s k
  let quiet := stable && decide (outFlags &&& 0b11 = 0) && !windowBusy s k
  let s := match (setU s k).z with
    | none => if quiet && within s k (rd s (WGH.INIT_RANGE k)) m (calZero s k) then initialZero k m (clearStale k m s) else s
    | some z =>
      if quiet && decide (2 * ((m - z).natAbs : Int) ≤ eM s k) then trackZero k m b (clearStale k m s) else s
  let u := setU s k
  let mz := m - u.z.getD (Config.unsetZero s.wgh.draws * mgUnit)
  let gross := roundE s k mz
  let flags := buildFlags s k mz gross outFlags stable
  let s := drawn s |> setFlags k flags |> wrS (WGH.GROSS k) gross |> wrS (WGH.NET k) (gross - u.tare)
    |> wrS (WGH.TARE k) u.tare |> wr (WGH.VALUE_SC k) (scReg b) |> wrS (WGH.DYN_ZERO k) (dynZero u b)
    |> wr (WGH.STALE_S k) (u.stale / 400) |> wr (WGH.BOUND_UE k) (u.bound / 1440000)
  let s := modSet k (fun u => { u with lastB := some b }) s
  windowAdd k b (some { m := m, clean := clean, flags := flags, b := b }) s

/-- The formation of one set in a commit cycle, where every member has delivered a new output (R280). -/
def formSet (k : Nat) (s : State) : State :=
  let ms := members s k
  if !setOn s k || ms = [] || ms.any fun c => !(chanOf s c).fresh then s else
  let outFlags := ms.foldl (fun a c => a ||| rd s (WCH.OUT_FLAGS c)) 0
  let b := (chanOf s (ms.headD 0)).lastB.getD 0
  let s := forEach ms (fun c => modChan c (fun u => { u with fresh := false })) s
  if bit outFlags 4 then
    windowAdd k b none (inc (WGH.SET_MISSED k) s)
  else formValue k b outFlags s

/-! ## Set commands (R283, R287, R299) -/

/-- The STATE conditions of a SET_CMD at its execution (R283, R287, R292, R299). -/
def setCmdState (s : State) (k op : Nat) : Bool :=
  let u := setU s k
  let m := (u.last.head?.map Formed.m).getD 0
  let stable := bit (rd s (WGH.VALUE_FLAGS k)) 0
  let fault := bit (rd s (WGH.VALUE_FLAGS k)) 10
  !setOn s k ||
    (if op = 1 then
      !stable || windowBusy s k || decide (u.tare ≠ 0) ||
        (match u.z with
          | none => !within s k (rd s (WGH.INIT_RANGE k)) m (calZero s k)
          | some _ => !within s k (rd s (WGH.ZERO_RANGE k)) m u.z0)
    else if op = 2 then
      !stable || decide (rdS s (WGH.GROSS k) ≤ 0) || u.z.isNone || fault || windowBusy s k
    else if op = 3 then u.z.isNone || fault || windowBusy s k
    else false)

/-- What an accepted SET_CMD does (R283, R287). -/
def setCmdAct (k op : Nat) (arg : Int) (s : State) : State :=
  let u := setU s k
  let m := (u.last.head?.map Formed.m).getD 0
  if op = 1 then
    if u.z.isNone then initialZero k m s
    else showZero k (modSet k (fun u => { u with z := some m, stale := 0 }) s)
  else if op = 2 then modSet k (fun u => { u with tare := rdS s (WGH.GROSS k), preset := false }) s
  else if op = 3 then modSet k (fun u => { u with tare := arg, preset := true }) s
  else modSet k (fun u => { u with tare := 0, preset := false }) s

/-- The offset of SET_CMD of a set (R297). -/
def setCmdOff (k : Nat) : Nat := 0x158 + 0x100 * k

/-- A pending SET_CMD executes in a commit cycle after its write; a refusal is recorded under R84 (R299). -/
def setCmdExec (k : Nat) (s : State) : State :=
  let u := setU s k
  match u.cmd with
  | some (op, arg, p) =>
    if u.cmdSc < s.time.sc then
      let bad := setCmdState s k op
      let s := modSet k (fun u => { u with cmd := none }) s
      let s := if bad then wr (WGH.SET_CODE k) Code.state.num (refuse p 0x48 (setCmdOff k) .state s)
        else wr (WGH.SET_CODE k) 0 (setCmdAct k op arg s)
      raise 0x48 5 (wr (WGH.SET_BUSY k) 0 s)
    else s
  | none => s

/-- SET_CMD_EXECUTE of a set: due in the first commit cycle after the write (R299); the commit cycle does it too. -/
def execSetCmdExecute (t : Nat) (set : Nat) (s : State) : Out :=
  ev t s fun s => if set < 8 ∧ onTick s = true ∧ lgcRuns s = true then setCmdExec set s else s

/-- A SET_CMD write of a set: BUSY and RANGE now, the rest at the next commit cycle (R299). -/
def setCmd (p : Port) (k op : Nat) (s : State) : State :=
  let arg := rdS s (WGH.CMD_ARG k)
  let e : Int := rd s (WGH.E_MG k)
  let badArg := decide (op = 3 ∧ (arg ≤ 0 ∨ rd s (WGH.MAX_E k) * e < arg ∨ arg % e ≠ 0))
  fabricCmd p 0x48 (setCmdOff k) (some (WGH.SET_CODE k))
    [((setU s k).cmd.isSome, .busy), (decide (op = 0 ∨ 4 < op) || badArg, .range)]
    (fun s => wr (WGH.SET_BUSY k) 1 (modSet k (fun u => { u with cmd := some (op, arg, p), cmdSc := s.time.sc }) s)) s

/-- ZERO of a set (R283). -/
def execZero (t : Nat) (p : Port) (set : Nat) (s : State) : Out := evPort p t s fun s => if set < 8 then setCmd p set 1 s else s
/-- TARE of a set (R287). -/
def execTare (t : Nat) (p : Port) (set : Nat) (s : State) : Out := evPort p t s fun s => if set < 8 then setCmd p set 2 s else s
/-- PRESET_TARE of a set, with the argument that CMD_ARG holds (R287). -/
def execPresetTare (t : Nat) (p : Port) (set : Nat) (s : State) : Out := evPort p t s fun s => if set < 8 then setCmd p set 3 s else s
/-- CLEAR_TARE of a set (R287). -/
def execClearTare (t : Nat) (p : Port) (set : Nat) (s : State) : Out := evPort p t s fun s => if set < 8 then setCmd p set 4 s else s

/-! ## The double-entry check (R293, R294) -/

/-- The ACTIVE slices that feed the channels of legal enabled sets, rising (R293). -/
def checkedSlices (s : State) : List Nat :=
  (List.range 18).filter fun i =>
    decide (rd s (AFE.SLICE_ROLE i) = 1 ∧ rd s (AFE.SLICE_USER i) < 16) && channelLegal s (rd s (AFE.SLICE_USER i))
      && enabled s (0x49 + rd s (AFE.SLICE_USER i))
      && (match setOf s (rd s (AFE.SLICE_USER i)) with
        | some k => setOn s k
        | none => false)

/-- The slice to check next: the lowest above the last one, or the lowest. -/
def nextChecked (s : State) : Option Nat :=
  let l := checkedSlices s
  match s.wgh.de.lastA with
  | some a => (l.find? fun i => decide (a < i)) <|> l.head?
  | none => l.head?

/-- The present DUMMY. -/
def dummyOf (s : State) : Option Nat := (List.range 18).find? fun i => decide (rd s (AFE.SLICE_ROLE i) = 2)

/-- A sound SPARE that shadows nothing (R294). -/
def soundSpare (s : State) : Option Nat :=
  (List.range (Variant.slices s.fuse.variant)).find? fun i =>
    decide (rd s (AFE.SLICE_ROLE i) = 3 ∧ rd s (SLICE.FAULT i) = 0) && !shadows s i

/-- The state of the check. -/
def modDe (f : DeU → DeU) (s : State) : State := { s with wgh := { s.wgh with de := f s.wgh.de } }

/-- The compare fields of the shadowing slice are cleared and the dwell begins (R262, R293). -/
def startDwell (x : Nat) (s : State) : State :=
  modDe (fun d => { d with dwell := some (rd s (SLICE.SAMPLES x)) })
    (s |> wr (SLICE.CMP_SUM x) 0 |> wr (SLICE.CMP_COUNT x) 0 |> wr (SLICE.CMP_MAXABS x) 0)

/-- The check of a slice begins: SHADOW DUMMY, a (R293). -/
def startCheck (a : Nat) (s : State) : State :=
  let c := rd s (AFE.SLICE_USER a)
  match dummyOf s, setOf s c with
  | some x, some k =>
    if noShadow s a || s.afe.takeover.isSome then s
    else modDe (fun d => { lastA := d.lastA, waitFrom := d.waitFrom, set := k, chan := c, x := x, a := a, active := true })
      (shadowCmd .lgc x a s)
  | _, _ => s

/-- The slice under comparison: the second spare while it arbitrates, else the dummy. -/
def comparer (d : DeU) : Nat := d.second.getD d.x

/-- The check is over for this slice; an unresolved one is repeated (R293, R294). -/
def endCheck (s : State) : State :=
  modDe (fun d => { lastA := if (setU s d.set).deBad then d.lastA else some d.a, waitFrom := d.waitFrom, set := d.set }) s

/-- A set's values carry NFT_WHY.DE until a check passes (R294). -/
def deNft (k : Nat) (s : State) : State :=
  let s := if (setU s k).deBad then s else logEvent 0x32 0x48 [k] s
  modDe (fun d => { d with waitFrom := some s.time.ticks }) (modSet k (fun u => { u with deBad := true }) s)

/-- A passed dummy check clears NFT_WHY.DE (R294). -/
def deClear (k : Nat) (s : State) : State :=
  if (setU s k).deBad then logEvent 0x33 0x48 [k] (modDe (fun d => { d with waitFrom := none }) (modSet k (fun u => { u with deBad := false }) s)) else s

/-- The dummy's check of a slice failed: DE_FAIL, and arbitration by a second sound spare, or NFT_WHY.DE (R294). -/
def deFailed (mean peak : Nat) (s : State) : State :=
  let d := s.wgh.de
  let s := logEvent 0x31 0x48 ([d.a, d.set, 0, 0] ++ toLe 4 mean ++ toLe 4 peak) (raise 0x48 4 s)
  match soundSpare s with
  | some x2 => modDe (fun d => { d with second := some x2, dwell := none }) (shadowCmd .lgc x2 d.a s)
  | none => endCheck (deNft d.set (releaseShadowCmd .lgc d.x s))

/-- METROLOGY_REPAIR of a slice: unit, instance and kind (R354, R479). -/
def metrologyRepair (i : Nat) (s : State) : State := logEvent 0x34 (0x31 + i) [0x30, i, 9] s

/-- The LGC retires a slice that measures nothing legal: it never converts again, the repair is logged and its record queued (R242,
R475, R478, R479). -/
def retireSlice (i : Nat) (s : State) : State :=
  sliceRecord i (metrologyRepair i (s |> wr (AFE.SLICE_ROLE i) 4 |> wr (HDR.ENABLE (0x31 + i)) 0))

/-- The second spare has judged (R294): a failing slice a is taken over by the dummy, a failing dummy is retired; the second spare
becomes the DUMMY. A full log allows no swap (R355). -/
def deArbitrated (agrees : Bool) (mean x2 : Nat) (s : State) : State :=
  let d := s.wgh.de
  let s := releaseShadowCmd .lgc x2 s
  if agrees then
    endCheck (wr (AFE.SLICE_ROLE x2) 2 (retireSlice d.x (releaseShadowCmd .lgc d.x s)))
  else if logSize ≤ s.leg.log.length then endCheck (deNft d.set (releaseShadowCmd .lgc d.x s))
  else
    let s := { s with leg := { s.leg with swaps := s.leg.swaps ++ [{ a := d.a, x := d.x, user := d.chan, result := 2, mean := mean }] } }
    endCheck (wr (AFE.SLICE_ROLE x2) 2 (takeoverCmd .lgc d.x d.a 2 s))

/-- The dwell has ended: the comparison is judged; fewer than half the pairs repeat it (R293). -/
def deJudge (s : State) : State :=
  let d := s.wgh.de
  let y := comparer d
  let n := rd s (SLICE.CMP_COUNT y)
  let sum := (rdS s (SLICE.CMP_SUM y)).natAbs
  let peak := rd s (SLICE.CMP_MAXABS y)
  if n = 0 ∨ 2 * n < rd s (WGH.DE_DWELL d.set) then startDwell y s else
  let ok := decide (sum ≤ rd s (WGH.DE_TOL_MEAN d.set) * n ∧ peak ≤ rd s (WGH.DE_TOL_PEAK d.set))
  let s := s |> wr (WCH.DE_LAST_MEAN d.chan) (sum / n) |> wr (WCH.DE_LAST_PEAK d.chan) peak
    |> inc (if ok then WCH.DE_PASSES d.chan else WCH.DE_FAILS d.chan)
  match d.second with
  | some x2 => deArbitrated ok (sum / n) x2 s
  | none => if ok then endCheck (deClear d.set (releaseShadowCmd .lgc d.x s)) else deFailed (sum / n) peak s

/-- The dwell of the check has ended: DE_DWELL samples of the shadowing slice (R293). -/
def dwellOver (s : State) : Bool :=
  let d := s.wgh.de
  match d.dwell with
  | some n0 => d.active && decide (rd s (WGH.DE_DWELL d.set) ≤ (rd s (SLICE.SAMPLES (comparer d)) + 2 ^ 32 - n0) % 2 ^ 32)
  | none => false

/-- DE_CHECK: due in a commit cycle after the dwell (R293); the commit cycle does it too. -/
def execDeCheck (t : Nat) (s : State) : Out :=
  ev t s fun s => if onTick s = true ∧ lgcRuns s = true ∧ dwellOver s = true then deJudge s else s

/-- Ticks between repeats where no second spare exists: ten DE_DWELL periods (R294). -/
def deWait (s : State) (a : Nat) : Nat :=
  10 * rd s (WGH.DE_DWELL s.wgh.de.set) * rateSpacing (rd s (SLICE.RATE a)) / tickSteps

/-- The double-entry check in a commit cycle: begin the next slice, begin the dwell once SETTLED, judge at its end (R293, R294);
none begins while a repair replaces a slice (R475). -/
def deTick (s : State) : State :=
  let d := s.wgh.de
  if s.rpr.swap.isSome then s
  else if !d.active then
    match nextChecked s with
    | some a =>
      match d.waitFrom with
      | some w => if w + deWait s a ≤ s.time.ticks then startCheck a (modDe (fun d => { d with waitFrom := some s.time.ticks }) s) else s
      | none => startCheck a s
    | none => s
  else if dwellOver s then deJudge s
  else if d.dwell.isNone ∧ rd s (SLICE.SETTLED (comparer d)) = 1 then startDwell (comparer d) s
  else if !shadows s (comparer d) then endCheck s
  else s

/-- A swap is logged with the first sample that carries SWAPPED, at its end SC (R357). -/
def logSwaps (s : State) : State :=
  let ready (w : SwapLog) : Bool := decide (rd s (AFE.SLICE_ROLE w.x) = 1 ∧ s.afe.takeover = none) && !(sliceOf s w.x).swapped
  let s' := forEach (s.leg.swaps.filter ready) (fun w s =>
    logEventAt (sliceOf s w.x).swapSc 0x30 0x30 ([w.a, w.x, w.user, w.result] ++ toLe 4 (rd s (SLICE.MATCH_OFFSET w.x))
      ++ toLe 4 (rd s (SLICE.MATCH_GAIN w.x)) ++ toLe 4 w.mean) s) s
  { s' with leg := { s'.leg with swaps := s.leg.swaps.filter fun w => !ready w } }

/-- The LGC's weighing work of a commit cycle: set commands, stale time, values, the double-entry check and swaps (R280, R285, R293,
R299, R357). -/
def weighTick (s : State) : State :=
  let on := (List.range 8).filter (setOn s)
  let s := forEach (List.range 8) setCmdExec s
  let s := forEach on staleTick s
  let s := forEach on formSet s
  logSwaps (deTick s)

end Sys2Proof.Machine
end

