-- ==== Sys2Proof/Machine/Usx.lean ====
section
/-! DEFINITION. Transit-time flow, temperature and medium (R301 to R330): shot sequences, the shots and discharges, and what the LGC
forms from each queued result. -/
namespace Sys2Proof.Machine

/-- What a path keeps. -/
def pathX (s : State) (p : Nat) : PathX := aget s.usx.paths p {}
/-- Change what a path keeps. -/
def modPath (p : Nat) (f : PathX → PathX) (s : State) : State :=
  { s with usx := { s.usx with paths := aset s.usx.paths p (f (pathX s p)) } }
/-- What an RTD port keeps. -/
def rtdU (s : State) (k : Nat) : RtdU := aget s.usx.rtds k {}
/-- Change what an RTD port keeps. -/
def modRtd (k : Nat) (f : RtdU → RtdU) (s : State) : State :=
  { s with usx := { s.usx with rtds := aset s.usx.rtds k (f (rtdU s k)) } }

/-- The ultrasonic unit counts its free values. -/
def usxDrawn (n : Nat) (s : State) : State := { s with usx := { s.usx with draws := s.usx.draws + n } }

/-- A whole number for a result whose rounding the spec leaves open: one of the two next to it (log 25). -/
def openRound (n : Nat) (q : Rat) : Int :=
  if q.den = 1 then q.num else q.num / (q.den : Int) + (if Config.roundUp n then 1 else 0)

/-! ## Sequences (R305 to R308) -/

/-- The paths of a mask. -/
def maskPaths (m : Nat) : List Nat := (List.range 4).filter fun p => bit m p
/-- Some path is LEGAL, which makes POLICY and the SL/RW fields of USX sealed (R307, R329). -/
def anyLegalPath (s : State) : Bool := maskLegal s 15
/-- A unit 0x5A ARG is well formed (R305). -/
def seqArgOk (arg : Nat) : Bool := decide (arg % 16 ≠ 0 ∧ arg / 16 % 16 = 0 ∧ arg / 512 = 0)

/-- The enabled RTD ports. -/
def rtdOn (s : State) : List Nat := (List.range 3).filter fun k => bit (rd s USX.RTD_EN) k
/-- The DISCH port of RTD k. -/
def rtdPort (s : State) (k : Nat) : Nat := if k = 0 then rd s USX.RTD0 else if k = 1 then rd s USX.RTD1 else rd s USX.RTD2

/-- Shots of a sequence (R306). -/
def seqShots (s : State) (q : Seq) : Nat := rd s USX.REPEAT * (maskPaths q.mask).length * 2
/-- Slots of a sequence (R306). -/
def seqSlots (s : State) (q : Seq) : Nat := seqShots s q + (if q.temp then 1 + (rtdOn s).length else 0)

/-- A sequence starts at s0 (R306). -/
def startSeq (s0 arg : Nat) (s : State) : State :=
  let q : Seq := { s0 := s0, base := s0, start := s.time.cycle - (s.time.sc - s0), mask := arg % 16, temp := bit arg 8 }
  { s with usx := { s.usx with seq := some q } }

/-- A SEQUENCE trigger with its occurrence SC (R305, R307). -/
def sequence (occ action arg : Nat) (s : State) : State :=
  if action ≠ 1 ∨ seqArgOk arg = false ∨ enabled s 0x5A = false ∨ rd s SYS.CORE_SRC = 0
      ∨ (maskPaths (arg % 16)).any (fun p => decide (rd s (USP.P_EN p) = 0)) = true then trigRefuse 0x5A s
  else if s.usx.seq.isNone then trigExec 0x5A (startSeq occ arg s)
  else if rd s USX.USX_POLICY = 0 then
    if s.usx.pend.isSome then trigMerge 0x5A s else trigPend 0x5A { s with usx := { s.usx with pend := some arg } }
  else if rd s USX.USX_POLICY = 1 then trigRefuse 0x5A s
  else trigExec 0x5A (startSeq occ arg s)

/-- SEQUENCE: a trigger for unit 0x5A (R305). -/
def execSequence (t : Nat) (src : TrigSrc) (occ action arg : Nat) (s : State) : Out :=
  ev t s (arrive src 0x5A (sequence occ action arg))

/-- USX_CMD: SEQUENCE from a fabric port (R305, R329). -/
def usxCmd (p : Port) (op arg : Nat) (s : State) : State :=
  fabricCmd p 0x5A 0x100 (some USX.CMD_CODE)
    [(cmdBusy s 0x5A100, .busy), (maskLegal s (arg % 16), .sealed), (decide (op ≠ 1) || !seqArgOk arg, .range)]
    (fun s => arrive .cmd 0x5A (sequence s.time.sc 1 arg) (raise 0x5A 8 (startCmd 0x5A100 4 s))) s

/-- USX_SEQUENCE_CMD, with its ARG. -/
def execUsxSequenceCmd (t : Nat) (p : Port) (arg : Nat) (s : State) : Out := evPort p t s (usxCmd p 1 arg)

/-- The SC at which the present slot of a sequence starts, on the SC's present line (R306, log 230). -/
def slotStart (s : State) (q : Seq) : Nat := q.base + q.slot * rd s USX.SHOT_GAP

/-- The next slot of the running sequence has come (R306). -/
def slotDue (s : State) (q : Seq) : Bool := decide (slotStart s q ≤ s.time.sc)

/-! ## Shots (R304, R309 to R312) -/

/-- The path, repeat and direction (0 up, 1 down) of a shot slot (R306). -/
def shotOf (q : Seq) : Nat × Nat × Nat :=
  let l := maskPaths q.mask
  (l.getD (q.slot / 2 % l.length) 0, q.slot / (2 * l.length), q.slot % 2)

/-- TOF is kept in 1/720,720 of a count, in which the mean of up to 16 stamps is whole. -/
def tofUnit : Nat := 720720

/-- The mean of a list of stamps, in the unit of TOF (R310). -/
def meanStamps (l : List Nat) : Nat := l.foldl (· + ·) 0 * (tofUnit / l.length)

/-- The receive slice: ACTIVE with USER 0x10 (R303). -/
def rxSlice (s : State) : Option Nat :=
  (List.range 18).find? fun i => decide (rd s (AFE.SLICE_ROLE i) = 1 ∧ rd s (AFE.SLICE_USER i) = 16)

/-- The receive window of the present slot overlaps an AFE window that covers the receive slice (R312). -/
def shotBlanked (s : State) (q : Seq) (p : Nat) : Bool :=
  let a := slotStart s q
  let w0 := a + rd s (USP.RX_OPEN p)
  let w1 := a + (rd s (USP.TOF_MAX p) + 249) / 250
  match rxSlice s with
  | some i => (allWindows s).any fun w => decide (w.2.1 < w1 ∧ w0 < w.2.2) && (List.range 8).any fun g => bit w.1 g && groupCovers s g i
  | none => false

/-- The receive window falls into the move of the TIA pin by a TAKEOVER, or the 17 slots after it (R312). -/
def shotMoved (s : State) (q : Seq) (p : Nat) : Bool :=
  let a := q.start + q.slot * rd s USX.SHOT_GAP
  let w0 := a + rd s (USP.RX_OPEN p)
  let w1 := a + (rd s (USP.TOF_MAX p) + 249) / 250
  match s.afe.rxMoved with
  | some e => decide (w0 < e + 17 * rd s USX.SHOT_GAP ∧ e < w1 + 400)
  | none => false

/-- What a transducer's pin does (R303). -/
inductive Transducer where
  | low | transmits | receives
  deriving DecidableEq, Repr

/-- What pin USX_TXk does: while a sequence is in a shot's slot, the downstream transducer of the path transmits in an up shot and the
upstream one receives, and the reverse in a down shot; every other pin is held low (R302, R303, R517). -/
def transducer (s : State) (k : Nat) : Transducer :=
  match s.usx.seq with
  | some q =>
    if q.slot < seqShots s q ∧ slotDue s q = true ∧ s.tap = false then
      let (p, _, d) := shotOf q
      if k = 2 * p + 1 - d then .transmits else if k = 2 * p + d then .receives else .low
    else .low
  | none => .low

/-- The level of a transmitting pin so many core cycles after the slot's start: CYCLES square-wave periods of half-periods of HALF
cycles, the first edge rising (R304). -/
def burstHigh (s : State) (p n : Nat) : Bool :=
  decide (n < 2 * rd s (USP.HALF p) * rd s (USP.CYCLES p) ∧ n / rd s (USP.HALF p) % 2 = 0)

/-- Why a shot is bad: 0 good, 1 no arrival, 2 TOF, 3 amplitude, 4 period, 5 slip (R311). -/
def shotReason (s : State) (p d : Nat) (stamps : List Nat) (amp : Nat) : Nat :=
  let tof := meanStamps stamps
  let half := rd s (USP.HALF p)
  let gaps := (stamps.zip (stamps.drop 1)).map fun x => x.2 - x.1
  let nominal := 2 * half * 250
  let l := if d = 0 then (pathX s p).up else (pathX s p).dn
  if stamps = [] then 1
  else if tof < rd s (USP.TOF_MIN p) * tofUnit ∨ rd s (USP.TOF_MAX p) * tofUnit < tof then 2
  else if amp < rd s (USP.AMP_MIN p) ∨ rd s (USP.AMP_MAX p) < amp then 3
  else if gaps.any fun g => decide (rd s (USP.PERIOD_TOL p) * nominal < 100 * ((g : Int) - nominal).natAbs) then 4
  else if 8 ≤ l.length ∧ half * 250 * tofUnit * 8 < ((8 * tof : Nat) - (l.foldl (· + ·) 0 : Nat) : Int).natAbs then 5
  else 0

/-- A good shot: the path's latest TOF, amplitude and TRACK (R310, R311, R330). -/
def goodShot (p r d : Nat) (tof amp : Nat) (q : Seq) (s : State) : State :=
  let x := pathX s p
  let l := (tof :: (if d = 0 then x.up else x.dn)).take 8
  let s := modPath p (fun x => if d = 0 then { x with up := l } else { x with dn := l }) s
  let show_ (v n : Nat) : Nat := (openRound (s.usx.draws + n) ((v : Rat) / (tofUnit : Rat))).toNat
  let track := (l.foldl (· + ·) 0) / l.length
  let s := usxDrawn 2 s
    |> wr (if d = 0 then USP.TOF_UP p else USP.TOF_DN p) (show_ tof 0)
    |> wr (if d = 0 then USP.AMP_UP p else USP.AMP_DN p) amp
    |> wr (if d = 0 then USP.TRACK_UP p else USP.TRACK_DN p) (show_ track 1)
  { s with usx := { s.usx with seq := some { q with slot := q.slot + 1, good := q.good ++ [(p, r, d, tof)] } } }

/-- A shot of the running sequence with its stamps and amplitude (R309 to R312). -/
def shot (stamps : List Nat) (amp : Nat) (q : Seq) (s : State) : State :=
  let (p, r, d) := shotOf q
  let s := inc (USP.SHOTS p) s
  let blank := shotBlanked s q p
  let moved := shotMoved s q p
  if blank || moved then
    { inc (USP.SHOTS_BLANKED p) s with usx := { s.usx with seq := some { q with
        slot := q.slot + 1, lost := q.lost ++ [(p, true)], blanked := q.blanked || blank, repaired := q.repaired || moved } } }
  else
    let why := shotReason s p d stamps amp
    if why = 0 then goodShot p r d (meanStamps stamps) amp q s
    else
      let s := modPath p (fun x => { x with reason := why }) (raise 0x5B 0 (inc (USP.SHOTS_BAD p) s))
      let s := when (decide (why = 5)) (fun s => raise 0x5B 1 (inc (USP.SLIPS p) s)) s
      { s with usx := { s.usx with seq := some { q with slot := q.slot + 1, lost := q.lost ++ [(p, false)] } } }

/-- USX_SHOT: the shot of the present slot, with the stamps of its NZC zero crossings in 10 ps counts from the first transmit edge
(none where no threshold crossing came) and its amplitude in mV (R306, R310). -/
def execUsxShot (t : Nat) (stamps : List Nat) (amp : Nat) (s : State) : Out :=
  ev t s fun s =>
    match s.usx.seq with
    | some q =>
      if q.slot < seqShots s q ∧ slotDue s q = true then
        shot (if (stamps.headD 0) < 250 * rd s (USP.RX_OPEN (shotOf q).1) then [] else stamps.take (rd s (USP.NZC (shotOf q).1))) amp q s
      else s
    | none => s

/-- What a DISCH pin does (R314). -/
inductive Disch where
  | idle | high | low
  deriving DecidableEq, Repr

/-- The port that the present temperature slot measures: the reference port, then each enabled RTD port (R306). -/
def slotPort (s : State) (q : Seq) : Option Nat := (rd s USX.REF_PORT :: (rtdOn s).map (rtdPort s))[q.slot - seqShots s q]?

/-- What DISCH port k does in a temperature slot: the measured port is driven high for CHARGE phase steps and then low, every other one is
at high impedance (R314). -/
def dischPin (s : State) (k : Nat) : Disch :=
  match s.usx.seq with
  | some q =>
    if seqShots s q ≤ q.slot ∧ q.slot < seqSlots s q ∧ slotDue s q = true ∧ slotPort s q = some k then
      if s.time.sc < slotStart s q + rd s USX.CHARGE then .high else .low
    else .idle
  | none => .idle

/-- The port that senses the node: the lowest-numbered idle one that has a pin (R314). -/
def sensePort (s : State) : Option Nat :=
  (List.range 8).find? fun k => (pinOf s 9 k).isSome && decide (dischPin s k = .idle)

/-- DISCHARGE: the discharge time of the present temperature slot in 10 ps counts; over DIS_TIMEOUT it is OPEN (R314, R315). -/
def execDischarge (t : Nat) (time : Nat) (s : State) : Out :=
  ev t s fun s =>
    match s.usx.seq with
    | some q =>
      if seqShots s q ≤ q.slot ∧ q.slot < seqSlots s q ∧ slotDue s q = true then
        let v := if time ≤ 250 * rd s USX.DIS_TIMEOUT then some time else none
        { s with usx := { s.usx with seq := some { q with slot := q.slot + 1, times := q.times ++ [v] } } }
      else s
    | none => s

/-- The running sequence ends: its result is queued, or discarded with the queue full, and a pending trigger's sequence starts in
the next cycle (R306 to R308). -/
def endSeq (q : Seq) (s : State) : State :=
  let s := { s with usx := { s.usx with seq := none } }
  let s := if 8 ≤ s.usx.results.length then s |> inc USX.SEQ_OVERRUN |> raise 0x5A 1
    else { s with usx := { s.usx with results := s.usx.results ++ [q] } } |> inc USX.SEQS |> raise 0x5A 0
  match s.usx.pend with
  | some arg => trigUnpend 0x5A (startSeq (s.time.sc + 1) arg { s with usx := { s.usx with pend := none } })
  | none => s

/-- SEQUENCE_END: due when the last slot's measurement has ended (R306). -/
def execSequenceEnd (t : Nat) (s : State) : Out :=
  ev t s fun s =>
    match s.usx.seq with
    | some q => if seqSlots s q ≤ q.slot then endSeq q s else s
    | none => s

/-- A path's EN changes: TRACK is empty after enable, and its registers read 0 (R311, log 231). -/
def pathClear (p : Nat) (s : State) : State :=
  modPath p (fun x => { x with up := [], dn := [] }) s |> wr (USP.TRACK_UP p) 0 |> wr (USP.TRACK_DN p) 0

/-- The unit stops: its sequence is discarded and a pending trigger refused (R311, and R403 in NAP, log 234). -/
def usxStop (s : State) : State :=
  let s := if s.usx.pend.isSome then trigDropPend 0x5A s else s
  { s with usx := { s.usx with seq := none, pend := none } }

/-- The unit is disabled, and TRACK is empty after the next enable (R311). -/
def usxOff (s : State) : State := forEach (List.range 4) pathClear (usxStop s)

/-! ## Temperature (R315, R320) -/

/-- R(T) / R0 of a platinum sensor by the IEC 60751 equation, T in m°C, scaled by 10^27 (log 34). -/
def ptRatio (t : Int) : Int :=
  let base := 10 ^ 27 + 3908300000000000000000 * t - 577500000000000 * t * t
  if t < 0 then base - 4183 * (t - 100000) * t * t * t else base

/-- The highest temperature in m°C not below a whose ratio does not exceed r / r0, by halving an interval of width 2^n. -/
def ptSearch (r r0 : Int) : Nat → Int → Int
  | 0, a => a
  | n + 1, a => ptSearch r r0 n (if ptRatio (a + 2 ^ n) * r0 ≤ r * 10 ^ 27 then a + 2 ^ n else a)

/-- The temperature of an RTD in m°C: its resistance R_REF t_k / t_REF against R0, as r / r0 (R315). -/
def rtdTemp (n : Nat) (r r0 : Int) : Int :=
  let t := ptSearch r r0 20 (-200000)
  if ptRatio t * r0 = r * 10 ^ 27 ∨ Config.roundUp n = false then t else t + 1

/-- The judgement of one RTD measurement by its guard (R315). -/
def rtdJudge (k : Nat) (v : Option Int) (isOpen : Bool) (s : State) : State :=
  let x := rtdU s k
  let n := max 1 (rd s USX.T_FILTER)
  let ok := match v with
    | some t => decide (rdS s USX.T_MIN * 100 ≤ t ∧ t ≤ rdS s USX.T_MAX * 100)
    | none => false
  let fault := bit (rd s USX.T_FAULT) k
  let bitTo (f : Fld) (b : Bool) (s : State) : State := wr f (clearBits (rd s f) (2 ^ k) + (if b then 2 ^ k else 0)) s
  let s := bitTo USX.T_OPEN isOpen s
  if ok then
    let s := modRtd k (fun _ => { x with last := v, fails := 0, goods := x.goods + 1 }) s
    let s := wrS (USX.TEMP k) (v.getD 0) s
    if fault && decide (n ≤ x.goods + 1) then bitTo USX.T_FAULT false (modRtd k (fun x => { x with expired := false }) s) else s
  else
    let s := modRtd k (fun _ => { x with fails := x.fails + 1, goods := 0 }) s
    if !fault && decide (n ≤ x.fails + 1) then
      raise 0x5A 2 (bitTo USX.T_FAULT true (modRtd k (fun x => { x with since := s.time.cycle, expired := false }) s))
    else s

/-- T_MED is invalid: no sequence with TEMP gave it, or a port in fault has outlasted T_HOLD (R315, R320). -/
def tempInvalid (s : State) : Bool :=
  !s.usx.tKnown || (rtdOn s).any fun k => (rtdU s k).expired || (rtdU s k).last.isNone

/-- T_MED is the mean of the valid ports' temperatures (R320). -/
def formTmed (s : State) : State :=
  let l := (rtdOn s).filterMap fun k => (rtdU s k).last
  if l = [] then s
  else wrS USX.T_MED (openRound s.usx.draws ((l.foldl (· + ·) 0 : Int) / (l.length : Rat)))
    (usxDrawn 1 { s with usx := { s.usx with tKnown := true } })

/-- The temperatures of a result with TEMP (R315, R320). -/
def temperatures (q : Seq) (s : State) : State :=
  if !q.temp then s else
  let ref := (q.times.headD none)
  let s := forEach ((rtdOn s).zip (q.times.drop 1)) (fun kt s =>
    match ref, kt.2 with
    | some tr, some tk =>
      if tr = 0 then rtdJudge kt.1 none false s
      else rtdJudge kt.1 (some (rtdTemp s.usx.draws (rd s USX.R_REF * tk) (rd s (USX.R0 kt.1) * tr))) false (usxDrawn 1 s)
    | _, none => rtdJudge kt.1 none true s
    | none, some _ => rtdJudge kt.1 none false s) s
  formTmed s

/-- TEMP_HOLD_EXPIRE of an RTD port: due T_HOLD seconds after its fault (R315). -/
def execTempHoldExpire (t : Nat) (port : Nat) (s : State) : Out :=
  ev t s fun s =>
    if port < 3 ∧ bit (rd s USX.T_FAULT) port = true ∧ (rtdU s port).since + rd s USX.T_HOLD * secondSteps ≤ s.time.cycle then
      modRtd port (fun x => { x with expired := true }) s
    else s

/-! ## Results (R313, R316 to R325) -/

/-- The TOFs of the good pairs of a path: (up, down) per repeat (R313, R316). -/
def goodPairs (q : Seq) (p : Nat) : List (Nat × Nat) :=
  (List.range 8).filterMap fun r =>
    match q.good.find? (fun x => x.1 == p && x.2.1 == r && x.2.2.1 == 0), q.good.find? (fun x => x.1 == p && x.2.1 == r && x.2.2.1 == 1) with
    | some a, some b => some (a.2.2.2, b.2.2.2)
    | _, _ => none

/-- Net mean times of a path in counts (R316). -/
def netTimes (s : State) (q : Seq) (p : Nat) : Rat × Rat :=
  let l := goodPairs q p
  let n : Rat := l.length * tofUnit
  let t0 : Rat := rd s (USP.T0 p)
  (((l.map (·.1)).foldl (· + ·) 0 : Nat) / n - t0, ((l.map (·.2)).foldl (· + ·) 0 : Nat) / n - t0)

/-- c_p in mm/s and v_p in µm/s (R316); open where a divisor is 0 (log 33). -/
def pathValues (s : State) (q : Seq) (p : Nat) : Rat × Rat :=
  let (tu, td) := netTimes s q p
  let L : Rat := rd s (USP.L_UM p)
  let x : Rat := rd s (USP.X_UM p)
  let n := s.usx.draws + 8 * p
  ((if tu * td = 0 then (Config.noFlow n : Rat) else 100000000 * L * (tu + td) / (2 * tu * td)),
   (if tu * td * x = 0 then (Config.noFlow (n + 1) : Rat)
    else 100000000000 * L * L / (2 * x) * (tu - td - (rdS s (USP.ZERO_DT p) : Rat) / 100) / (tu * td)))

/-- The median of a list (R317); of an even number, the mean of the middle two. -/
def median (l : List Rat) : Option Rat :=
  let l := l.mergeSort (fun a b => decide (a ≤ b))
  let n := l.length
  if n = 0 then none
  else if n % 2 = 1 then l[n / 2]?
  else some ((l.getD (n / 2 - 1) 0 + l.getD (n / 2) 0) / 2)

/-- The difference of two rationals without its sign. -/
def distance (a b : Rat) : Rat := if a ≤ b then b - a else a - b

/-- The paths of a sequence with good pairs, whose c_p agrees with the median of the others (R317): (path, c, v, agrees). -/
def pathTable (s : State) (q : Seq) : List (Nat × Rat × Rat × Bool) :=
  let l := ((maskPaths q.mask).filter fun p => goodPairs q p != []).map fun p => (p, pathValues s q p)
  l.map fun x => (x.1, x.2.1, x.2.2,
    match median ((l.filter fun y => y.1 != x.1).map fun y => y.2.1) with
    | some m => decide (distance x.2.1 m ≤ (rd s USX.C_TOL : Rat))
    | none => true)

/-- The path guard over a completed sequence (R313, R317). -/
def pathGuard (q : Seq) (table : List (Nat × Rat × Rat × Bool)) (p : Nat) (s : State) : State :=
  let entry := table.find? fun x => x.1 == p
  let good := match entry with
    | some x => x.2.2.2
    | none => false
  let allLost := entry.isNone && (q.lost.filter fun x => x.1 == p).all fun x => x.2
  if allLost then s else
  let s := when (entry.isSome && !good) (modPath p (fun x => { x with reason := 6 })) s
  let x := pathX s p
  let n := max 1 (rd s (USP.P_FILTER p))
  let failed := decide (rd s (USP.P_FAILED p) = 1)
  let s := modPath p (fun x => { x with fails := if good then 0 else x.fails + 1, goods := if good then x.goods + 1 else 0 }) s
  if !failed && !good && decide (n ≤ x.fails + 1) then
    s |> wr (USP.P_FAILED p) 1 |> wr (USP.P_REASON p) x.reason |> raiseSub 0x5B p |> logEvent 0x43 0x5B [p, x.reason]
  else if failed && good && decide (n ≤ x.goods + 1) then
    s |> wr (USP.P_FAILED p) 0 |> logEvent 0x44 0x5B [p, rd s (USP.P_REASON p)]
  else s

/-- What the flow of a result is formed from: Q, C_MEAN, whether fallback was used, and whether NFT_WHY.PATHS is set (R318, R319). -/
structure Flow where
  q : Int
  c : Int
  degraded : Bool
  paths : Bool

/-- W_p of a path as a number (R318). -/
def weight (s : State) (p : Nat) : Rat := (rd s (USP.WEIGHT p) : Rat) / 2 ^ 30

/-- The flow of a result (R318, R319). A path outside the mask counts with its latest V_PATH and C_PATH (log 35). -/
def flowOf (s : State) (q : Seq) (table : List (Nat × Rat × Rat × Bool)) : Flow :=
  let n := s.usx.draws + 32
  let bad := (maskPaths q.mask).filter fun p =>
    decide (rd s (USP.P_FAILED p) = 1) || !(table.any fun x => x.1 == p && x.2.2.2)
  let val (p : Nat) : Rat × Rat := match table.find? (fun x => x.1 == p) with
    | some x => (x.2.1, x.2.2.1)
    | none => ((rd s (USP.C_PATH p) : Rat), (rdS s (USP.V_PATH p) : Rat))
  let good := (List.range 4).filter fun p => !bad.contains p
  let sumV : Rat := good.foldl (fun a p => a + weight s p * (val p).2) 0
  let sumW : Rat := good.foldl (fun a p => a + weight s p) 0
  let sumC : Rat := good.foldl (fun a p => a + weight s p * (val p).1) 0
  let c := if sumW = 0 then Config.noFlow n else openRound (n + 1) (sumC / sumW)
  let scale : Rat := (rd s USX.AREA : Rat) * ((rd s USX.MF : Rat) / 2 ^ 30) / 1000000
  let q0 (v : Rat) : Int := if distance v 0 < (rd s USX.CUTOFF : Rat) then 0 else openRound (n + 2) (scale * v)
  let leaves := maskLegal s q.mask && (List.range 4).any fun p => decide (rd s (USP.P_LEGAL p) = 1) && !bit q.mask p
  match bad with
  | [] => ⟨q0 sumV, c, false, leaves⟩
  | [p] =>
    let fb : Rat := (rd s (USX.FB p) : Rat) / 2 ^ 30
    if rd s (USX.FB p) = 0 then ⟨Config.noFlow (n + 3), c, false, true⟩
    else if 1 - weight s p = 0 then ⟨Config.noFlow (n + 3), c, true, leaves⟩
    else ⟨q0 (fb * sumV / (1 - weight s p)), c, true, leaves⟩
  | _ => ⟨Config.noFlow (n + 3), c, false, true⟩

/-- The speed of sound of medium i at T_MED, in µm/s (R325). -/
def mediumSpeed (s : State) (i : Nat) : Rat :=
  let t : Rat := (rdS s USX.T_MED : Rat) / 1000
  (List.range 4).foldl (fun a k => a + (rdS s (USX.MC i k) : Rat) * t ^ k) 0

/-- The medium a result names: 0 to 15, 14 AMBIGUOUS, 15 UNKNOWN (R325, R329). -/
def classify (s : State) (c : Int) : Nat :=
  if tempInvalid s then 15 else
  match (List.range 16).filter fun i => decide (rd s (USX.MED_VALID i) = 1)
      && decide (distance ((c : Rat) * 1000) (mediumSpeed s i) ≤ (rd s (USX.C_BAND i) : Rat) * 1000) with
  | [] => 15
  | [i] => i
  | _ => 14

/-- A delivery with the ultrasonic unit is open (R326). -/
def usxDelivery (s : State) : Bool := decide (rd s BILL.DEL_OPEN = 1 ∧ rd s BILL.USE_USX = 1)

/-- A class is declared (R325, R326). -/
def declareClass (v : Nat) (s : State) : State :=
  let s := raise 0x5A 3 (wr USX.CLASS v s)
  if !usxDelivery s then s else
  let s := { s with usx := { s.usx with declared := v :: s.usx.declared.filter (· != v) } }
  let s := if v ≠ rd s USX.EXPECT then s |> wr USX.MISMATCH 1 |> raise 0x5A 4 else s
  if 1 < s.usx.declared.length then wr USX.MIXED 1 s else s

/-- CLASS changes after CLASS_FILTER results in a row agree on a new value (R325). -/
def classRun (v : Nat) (s : State) : State :=
  let n := if s.usx.agree.1 = v then s.usx.agree.2 + 1 else 1
  let s := { s with usx := { s.usx with agree := (v, n) } }
  if v ≠ rd s USX.CLASS ∧ max 1 (rd s USX.CLASS_FILTER) ≤ n then declareClass v s else s

/-- The volume of the interval since the previous result of the run (R321 to R323). -/
def integrate (f : Flow) (q : Seq) (nft : Bool) (s : State) : State :=
  match s.usx.prev with
  | none => s
  | some (q0, c0) =>
    let d := q.start - c0
    let n := (q0 + f.q) * (d : Int) * 256 + rd s USX.FRAC
    let dv := n / 800000000
    let pend := rdS s USX.VOL_PEND
    let s := wr USX.FRAC (n % 800000000).toNat s
    let s := wrS USX.VOL_PEND (pend + dv) s
    let s := if dv < 0 then addTo USX.REV_VOL dv.natAbs s else s
    let s := { s with usx := { s.usx with pendNft := s.usx.pendNft || nft } }
    if 0 ≤ pend ∧ pend + dv < 0 ∧ s.usx.reverse = false then raise 0x5A 7 { s with usx := { s.usx with reverse := true } } else s

/-- The LGC processes one queued result; the results of legal paths carry NFT while billing or the unit is halted (R63, R316 to R325). -/
def result (q : Seq) (s : State) : State :=
  let s := temperatures q s
  let table := pathTable s q
  let s := forEach (maskPaths q.mask) (pathGuard q table) s
  let s := forEach table (fun x s => s |> wr (USP.C_PATH x.1) (openRound (s.usx.draws + 40 + x.1) x.2.1).toNat
    |> wrS (USP.V_PATH x.1) (openRound (s.usx.draws + 44 + x.1) x.2.2.1)) s
  let f := flowOf s q table
  let gap := match s.usx.prev with
    | some (_, c0) => decide (rd s USX.GAP_MAX * frameSteps < q.start - c0)
    | none => false
  let stepped := match s.usx.prev with
    | some (_, c0) => decide (c0 < s.usx.stepAt ∧ s.usx.stepAt ≤ q.start)
    | none => false
  let why := b2n f.paths + 2 * b2n (gap && usxDelivery s) + 4 * b2n (decide (rd s USX.QMAX < f.q.natAbs)) + 8 * b2n (sealOpen s)
    + 16 * b2n (lgcHalted s)
  let flags := b2n f.degraded + 2 * b2n q.blanked + 4 * b2n q.repaired + 8 * b2n (stepped && !gap)
    + 16 * b2n (decide (why ≠ 0) || (anyLegalPath s && (billHalted s || unitHalted s 0x5A)))
    + 32 * b2n (tempInvalid s) + 65536 * why
  let s := when (bit flags 4 != bit (rd s USX.RESULT_FLAGS) 4) (raise 0x5A 6) s
  let s := if gap then s else integrate f q (bit flags 4) s
  let t := tempInvalid s
  let s := { s with usx := { s.usx with
      prev := some (f.q, q.start), draws := s.usx.draws + 64
      delFlags := if usxDelivery s then s.usx.delFlags ||| flags else s.usx.delFlags
      tSum := if usxDelivery s && !t then s.usx.tSum + rdS s USX.T_MED else s.usx.tSum
      tNum := if usxDelivery s && !t then s.usx.tNum + 1 else s.usx.tNum } }
  let s := s |> wrS USX.Q f.q |> wr USX.C_MEAN f.c.toNat |> wr USX.RESULT_FLAGS flags |> wr USX.RESULT_SC (scReg q.s0)
  classRun (classify s f.c) s

/-- The LGC empties the result queue in a commit cycle (R308). -/
def usxResults (s : State) : State :=
  let l := s.usx.results
  forEach l result { s with usx := { s.usx with results := [] } }

/-- A positive VOL_PEND is handed on: how much, and whether it carries NFT; VOL.TOTAL and TOTAL_VOL rise (R323). -/
def handOff (s : State) : Nat × Bool × State :=
  let v := rdS s USX.VOL_PEND
  if v ≤ 0 then (0, false, s)
  else
    let nft := s.usx.pendNft
    let s := s |> wr USX.VOL_PEND 0 |> addTo USX.TOTAL_VOL v.toNat
    (v.toNat, nft, { s with usx := { s.usx with pendNft := false, reverse := false }
                            led := { s.led with volTotal := s.led.volTotal + v, volResidue := s.led.volResidue + v } })

/-! ## Deliveries and density (R326 to R328) -/

/-- A density as an unsigned register shows it; for a negative one the value is open (R327 to R329, log 33). -/
def shownDensity (n : Nat) (d : Int) : Nat := if 0 ≤ d then d.toNat else (Config.noFlow n).toNat

/-- The density of a mass in mg and a volume in 1/256 µL, in mg/L (R327). -/
def density (n : Nat) (mass : Int) (vol : Nat) : Int := openRound n ((mass : Rat) * 256000000 / (vol : Rat))

/-- The bracketing value of WEIGH_SET now: its gross, and whether it is STABLE and free of NFT (R327). -/
def densValue (s : State) : Int × Bool :=
  let k := rd s USX.WEIGH_SET
  (rdS s (WGH.GROSS k), bit (rd s (WGH.VALUE_FLAGS k)) 0 && !bit (rd s (WGH.VALUE_FLAGS k)) 2)

/-- SIGN of the mass (R327, R371): 1 takes the mass that leaves the scale as positive. -/
def signed (sign : Nat) (d : Int) : Int := if sign = 1 then -d else d

/-- A delivery opens: EXPECT, and the evidence of R326 and R327 starts anew. -/
def usxOpen (expect : Nat) (s : State) : State :=
  let (g, ok) := densValue s
  { s with usx := { s.usx with declared := [], tSum := 0, tNum := 0, startGross := g, startOk := ok, delFlags := 0 } }
    |> wr USX.EXPECT expect |> wr USX.MIXED 0 |> wr USX.MISMATCH 0

/-- RUN_DENSITY at a formation of WEIGH_SET (R328). -/
def runDensity (vol : Nat) (s : State) : State :=
  let d := signed (rd s USX.DENS_SIGN) ((densValue s).1 - s.usx.startGross)
  if vol < rd s USX.VMIN_ML * 256000 ∨ vol = 0 then wr USX.RUN_DENSITY 0 s
  else wr USX.RUN_DENSITY (shownDensity s.usx.draws (density s.usx.draws d vol)) (usxDrawn 1 s)

/-- The close of a delivery: DEL_CLASS, and the density of mass and volume against the medium's (R327). -/
def densityClose (vol : Nat) (s : State) : State :=
  let (g, ok) := densValue s
  let d := signed (rd s USX.DENS_SIGN) (g - s.usx.startGross)
  let cls := rd s USX.CLASS
  let s := wr USX.DEL_CLASS cls s
  let small := decide ((d.natAbs : Int) < rd s USX.DMIN_E * rd s (WGH.E_MG (rd s USX.WEIGH_SET)) ∨ vol < rd s USX.VMIN_ML * 256000 ∨ vol = 0)
  let na (w : Nat) : State := s |> wr USX.DENS_RESULT 0 |> wr USX.NA_WHY w |> wr USX.DEL_DENSITY 0
  if !(ok && s.usx.startOk) then na 0
  else if small then na 1
  else if 14 ≤ cls ∨ s.usx.tNum = 0 then na 2
  else
    let rho := (d : Rat) * 256000000 / (vol : Rat)
    let t : Rat := (s.usx.tSum : Rat) / (s.usx.tNum : Rat) / 1000
    let want : Rat := (rd s (USX.MED_D0 cls) : Rat) + (rdS s (USX.MED_D1 cls) : Rat) * t
    let good := decide (distance rho want ≤ (rd s (USX.MED_D_BAND cls) : Rat))
    let s := s |> wr USX.DENS_RESULT (if good then 1 else 2) |> wr USX.NA_WHY 0
      |> wr USX.DEL_DENSITY (shownDensity s.usx.draws (openRound s.usx.draws rho)) |> usxDrawn 1
    when (!good) (raise 0x5A 5) s

end Sys2Proof.Machine
end

