-- ==== Sys2Proof/Machine/Bill.lean ====
section
/-! DEFINITION. Billing and prepayment (R360 to R362, R366 to R377): bookings, the triggers of the billing units, deliveries, their
records, the credit check, and the services PRICE, TOPUP, EMERGENCY, DELIVERY_OPEN and DELIVERY_STOP. -/
namespace Sys2Proof.Machine

/-- What an LGC service answers: STATUS (0, or the code of R85 that refuses it), its bytes, and the state it leaves (R333). -/
abbrev Svc := Nat × List Nat × State

/-- A service answered with a refusal. -/
def svcNo (c : Code) (s : State) : Svc := (c.num, [], s)

/-- SERIAL as 8 bytes (R340). -/
def serialBytes (s : State) : List Nat := toBe 8 (rd s ACTV.SERIAL)

/-! ## Bookings (R60, R361, R362, R369, R370, R373) -/

/-- BALANCE of an account, signed. -/
def balanceOf (s : State) (a : Nat) : Int := rdS s (PREP.BALANCE a)
/-- EMERG_OUT of an account, signed. -/
def emergOf (s : State) (a : Nat) : Int := rdS s (PREP.EMERG_OUT a)

/-- The charge of R362: the whole charge and the new RESIDUE. -/
def chargeOf (q price n priceSvc residue : Nat) : Nat × Nat :=
  let t := q * price + residue
  (t / 1000000 + n * priceSvc, t % 1000000)

/-- An emergency activation: E_AMT moves from EMERG_OUT to BALANCE (R370). -/
def bookEmergency (a : Nat) (s : State) : State :=
  let x : Int := rd s (PREP.E_AMT a)
  s |> wrS (PREP.BALANCE a) (balanceOf s a + x) |> wrS (PREP.EMERG_OUT a) (emergOf s a - x) |> raise 0x6A 1

/-- A credit message takes effect (R369). -/
def bookCredit (op a voucher amount : Nat) (auto : Bool) (s : State) : State :=
  let s := wr (PREP.VOUCHER a) voucher s
  if op = 1 then
    let r := min (amount : Int) (-(emergOf s a))
    s |> addTo (PREP.LOADED a) amount |> wrS (PREP.EMERG_OUT a) (emergOf s a + r)
      |> wrS (PREP.BALANCE a) (balanceOf s a + amount - r) |> raise 0x6A 0
  else if op = 2 then
    s |> wrS (PREP.BALANCE a) (balanceOf s a - amount) |> addTo (PREP.EXPIRED a) amount |> raise 0x6A 5
  else if op = 3 then
    s |> addTo (PREP.EXPIRED a) (rd s (PREP.BALANCE a)) |> wr (PREP.BALANCE a) 0 |> wr (PREP.A_OPEN a) 0 |> wr (PREP.A_ARMED a) 0
  else
    s |> wr (PREP.A_OPEN a) 1 |> wr (PREP.A_ARMED a) 1 |> wr (PREP.E_AMT a) amount |> wrB (PREP.A_AUTO_EMERG a) auto

/-- A delivery takes effect in the registers, the account and the ledgers (R54, R360, R373). -/
def bookDelivery (d : DelBook) (s : State) : State :=
  let s := if d.massTo = 1 then addTo (BILL.RATE_MASS d.rate) d.mass s else if d.massTo = 2 then addTo BILL.NFT_MASS d.mass s else s
  let s := if d.volTo = 1 then addTo (BILL.RATE_VOL d.rate) d.vol s else if d.volTo = 2 then addTo BILL.NFT_VOL d.vol s
    else if d.volTo = 3 then addTo BILL.UNATTR_VOL d.vol s else s
  let m : Int := if d.massTo = 0 then 0 else 256 * d.mass
  let v : Int := if d.volTo = 0 then 0 else 256 * d.vol
  let s := { s with led := { s.led with massTotal := s.led.massTotal + m, massDelivered := s.led.massDelivered + m
                                        volDelivered := s.led.volDelivered + v, volResidue := s.led.volResidue - v } }
  let s := addTo (BILL.RATE_SVC d.rate) d.svc s
  if d.account = 255 then s
  else s |> wrS (PREP.BALANCE d.account) (balanceOf s d.account - d.charge) |> addTo (PREP.CONSUMED d.account) d.charge
    |> wr (PREP.RESIDUE d.account) d.residue

/-- A booking takes effect: it becomes visible when its commit completes (R60). -/
def applyBooking (b : Booking) (s : State) : State :=
  match b with
  | .credit op a v x auto => bookCredit op a v x auto s
  | .emergency a => bookEmergency a s
  | .delivery d => bookDelivery d s

/-- The registers as they will read once every booking made so far is committed: what later steps of the LGC's work see (R367). -/
def view (s : State) : State := forEach s.leg.bookings applyBooking s

/-- A booking is made, and a totals commit is due for it (R60, R351). -/
def makeBooking (b : Booking) (s : State) : State :=
  { s with leg := { s.leg with bookings := s.leg.bookings ++ [b], due := true } }

/-- The LGC takes no booking: bookings are pending, the seal is open, a break halts the service, or the store is lost
(R63, R342, R348, R350). -/
def bookingBlocked (s : State) : Bool :=
  s.leg.deferred || sealOpen s || billHalted s || decide (rd s LEGL.STORE_LOST = 1)

/-! ## Prices (R368) -/

/-- Copy the staged table into the active one, or the active into the staged. -/
def activatePrices (s : State) : State :=
  forEach (List.range 8) (fun r s =>
    s |> wr (BILL.PRICE_MASS r) (rd s (BILL.ST_PRICE_MASS r)) |> wr (BILL.PRICE_VOL r) (rd s (BILL.ST_PRICE_VOL r))
      |> wr (BILL.PRICE_SVC r) (rd s (BILL.ST_PRICE_SVC r))) s

/-- An ACTIVATE_PRICES trigger takes effect in a commit cycle (R368). -/
def priceTrigger (occ frame : Nat) (s : State) : State :=
  if rd s BILL.STAGED_PEND = 1 ∧ rd s BILL.STAGED_ACT ≤ frame then
    activatePrices s |> wr BILL.PRICE_SC (scReg occ) |> wr BILL.STAGED_PEND 0 |> inc BILL.ACTIVATIONS |> raise 0x68 3
  else s

/-- The PRICE service (R368): b is the body of a PRICE message, a byte at the place it has in the message. -/
def priceService (fromStc : Bool) (b : List Nat) (s : State) : Svc :=
  let r := b.getD 5 0
  let act := be (slice b 20 6)
  if b.getD 4 0 ≠ 1 ∨ 7 < r ∨ b.getD 6 0 ≠ 0 ∨ b.getD 7 0 ≠ 0 ∨ (slice b 26 10).any (· != 0) then svcNo .range s
  else if !fromStc then svcNo .state s
  else if act < scFrame s + 25 then svcNo .time s
  else (0, [], s |> wr (BILL.ST_PRICE_MASS r) (be (slice b 8 4)) |> wr (BILL.ST_PRICE_VOL r) (be (slice b 12 4))
    |> wr (BILL.ST_PRICE_SVC r) (be (slice b 16 4)) |> wr BILL.STAGED_ACT act |> wr BILL.STAGED_PEND 1 |> raise 0x68 4)

/-! ## Credit messages and emergency credit (R369, R370) -/

/-- VTAG of a credit body (R369). -/
def voucherTag (s : State) (b : List Nat) : List Nat :=
  (toBe 16 (cmac (Config.deviceKey 75) ([0x43, 0x52, 0x45, 0x44] ++ serialBytes s ++ slice b 4 16))).take 8

/-- Check 1 of R369. -/
def creditRange (s : State) (b : List Nat) : Bool :=
  let op := b.getD 4 0
  let a := b.getD 5 0
  let x := be (slice b 12 8)
  decide (op < 1 ∨ 4 < op ∨ 7 < a ∨ 1 < b.getD 6 0 ∨ (op ≠ 4 ∧ b.getD 6 0 ≠ 0) ∨ b.getD 7 0 ≠ 0) || (slice b 28 8).any (· != 0)
    || decide ((op = 1 ∨ op = 2) ∧ x = 0) || decide (2 ^ 63 - 1 < rd (view s) (PREP.LOADED a) + x)

/-- Check 3 of R369. -/
def creditState (s : State) (b : List Nat) : Bool :=
  let v := view s
  let op := b.getD 4 0
  let a := b.getD 5 0
  let x := be (slice b 12 8)
  decide (be (slice b 8 4) ≤ rd v (PREP.VOUCHER a) ∨ (op = 4 ∧ rd v (PREP.A_OPEN a) = 1) ∨ (op ≠ 4 ∧ rd v (PREP.A_OPEN a) = 0)
      ∨ (op = 2 ∧ balanceOf v a < x)
      ∨ (op = 3 ∧ ((rd s BILL.DEL_OPEN = 1 ∧ rd s BILL.DEL_ACCOUNT = a) ∨ rd v (PREP.EMERG_OUT a) ≠ 0 ∨ balanceOf v a < 0)))
    || bookingBlocked s

/-- The TOPUP service (R369): b is the body of a CREDIT message, a byte at the place it has in the message. -/
def creditService (b : List Nat) (s : State) : Svc :=
  if creditRange s b then svcNo .range s
  else if slice b 20 8 ≠ voucherTag s b then svcNo .auth (raise 0x6A 6 s)
  else if creditState s b then svcNo .state s
  else (0, [], makeBooking (.credit (b.getD 4 0) (b.getD 5 0) (be (slice b 8 4)) (be (slice b 12 8)) (bit (b.getD 6 0) 0)) s)

/-- The EMERGENCY service (R370). -/
def emergencyService (d : List Nat) (s : State) : Svc :=
  let a := d.getD 0 0
  let v := view s
  if 7 < a then svcNo .range s
  else if decide (rd v (PREP.A_OPEN a) = 0 ∨ rd v (PREP.EMERG_OUT a) ≠ 0 ∨ rd v (PREP.E_AMT a) = 0
      ∨ (rd v (PREP.E_AMT a) : Int) ≤ balanceOf v a) || bookingBlocked s then svcNo .state s
  else (0, [], makeBooking (.emergency a) s)

/-! ## Deliveries (R371 to R373, R375, R377) -/

/-- A one-shot legal entry of the supply switch at an SC (R371, R372). -/
def switchEntry (action sc : Nat) : AEntry :=
  { target := scReg sc, unit := 0x70, action := action, cond := 0x0F, owner := 0 }

/-- The sequence entry of a delivery: legal paths and the temperature, four sequences within GAP_MAX (R322). -/
def sequenceEntry (s : State) (sc : Nat) : AEntry :=
  let paths := (List.range 4).foldl (fun a p => if rd s (USP.P_LEGAL p) = 1 then a + 2 ^ p else a) 0
  let period := max 1 (rd s USX.GAP_MAX / 4)
  { target := scReg sc, period := period, offset := sc / frameSteps % period, unit := 0x5A, action := 1, arg := 256 + paths
    cond := 0x0F, owner := 0 }

/-- The sequence entry of a delivery is removed. -/
def dropSequence (s : State) : State :=
  forEach (s.orry.entries.filter fun x => decide (x.1 < 64 ∧ x.2.unit = 0x5A ∧ x.2.owner = 0)) (fun x => dropEntry x.1) s

/-- The legal value of a weigh set: gross in mg, and whether it is STABLE and free of NFT (R280, R371). -/
def legalValue (s : State) (k : Nat) : Int × Bool :=
  (rdS s (WGH.GROSS k), bit (rd s (WGH.VALUE_FLAGS k)) 0 && !bit (rd s (WGH.VALUE_FLAGS k)) 2)

/-- FLAGS of a record from the flags of a weight value: REPAIRED and BLANKED (R289, R377). -/
def weightEvidence (f : Nat) : Nat := 16 * b2n (bit f 4) + 32 * b2n (bit f 3)
/-- FLAGS of a record from the flags of flow results: REPAIRED, BLANKED, DEGRADED and SC_STEP (R324, R377). -/
def flowEvidence (f : Nat) : Nat := 16 * b2n (bit f 2) + 32 * b2n (bit f 1) + 64 * b2n (bit f 0) + 4096 * b2n (bit f 3)

/-- The RESIDUE a further charge of an account starts from: that of the closed deliveries not yet booked, or the account's. -/
def residueOf (s : State) (a : Nat) : Nat :=
  match (s.bill.toSign.filter fun d => d.account = a).getLast? with
  | some d => d.residue
  | none => rd (view s) (PREP.RESIDUE a)

/-- Bytes 0 to 55 of a delivery record (R377). -/
def recordBody (no account rate basis reason cls start end_ : Nat) (dm : Int) (vol charge svc flags dens : Nat) : List Nat :=
  toLe 4 no ++ [account % 256, rate % 8 + 16 * (basis % 4), reason, cls] ++ toLe 8 start ++ toLe 8 end_ ++ toLe 8 (ofSigned 64 dm)
    ++ toLe 8 vol ++ toLe 8 charge ++ toLe 2 svc ++ toLe 2 flags ++ toLe 4 dens

/-- A closed delivery waits for seat 2 to sign its record (R373). -/
def awaitSignature (d : DelBook) (s : State) : State :=
  { s with bill := { s.bill with toSign := s.bill.toSign ++ [d] }, deck := { s.deck with signing := true } }

/-- Close a delivery of an account: its mass with the reason that keeps it from its rate register, its volume, its charge and its
record (R372, R373, R376, R377). dm is the mass with the flags of its two values, none where the delivery has no end value. -/
def closeWith (reason : Nat) (dm : Option (Int × Bool × Nat)) (s : State) : State :=
  let useSet := rd s BILL.USE_SET = 1
  let rate := rd s BILL.DEL_RATE
  let basis := rd s BILL.DEL_BASIS
  let a := rd s BILL.DEL_ACCOUNT
  let svc := rd s BILL.DEL_SVC
  let (m, clean, wf) := dm.getD (0, false, 0)
  let massTo := if !useSet ∨ m < 0 ∨ dm = none then 0 else if clean then 1 else 2
  let massNft := decide (useSet ∧ massTo ≠ 1)
  let vol := rd s BILL.DEL_VOL / 256
  let volTo := if vol = 0 ∧ s.bill.volNft = false then 1 else if s.bill.volNft then 2 else 1
  let uncharged := decide ((basis = 1 ∧ massTo ≠ 1) ∨ (basis = 2 ∧ volTo ≠ 1))
  let q := if uncharged then 0 else if basis = 1 then m.toNat else if basis = 2 then vol else 0
  let price := if basis = 1 then rd s BILL.DEL_PRICE_MASS else rd s BILL.DEL_PRICE_VOL
  let (charge, residue) := chargeOf q price svc (rd s BILL.DEL_PRICE_SVC) (residueOf s a)
  let s := if rd s BILL.USE_USX = 1 then densityClose (rd s BILL.DEL_VOL) s else s
  let dens := if rd s BILL.USE_USX = 1 ∧ rd s USX.DENS_RESULT ≠ 0 then rd s USX.DEL_DENSITY else 0
  let result := if rd s BILL.USE_USX = 1 then rd s USX.DENS_RESULT else 0
  let ev := weightEvidence s.bill.startFlags ||| weightEvidence wf ||| flowEvidence s.usx.delFlags
  let flags := ev ||| (b2n massNft + 2 * b2n s.bill.volNft + 4 * b2n uncharged + 8 * b2n (timeProvisional s)
    + 128 * rd s USX.MISMATCH + 256 * rd s USX.MIXED + 512 * b2n (decide (result = 1)) + 1024 * b2n (decide (result = 2))
    + 2048 * rd s BILL.DEL_DEFERRED)
  let body := recordBody (rd s BILL.DEL_NO) a rate basis reason (rd s USX.CLASS) (rd s BILL.START_SC) (scReg s.time.sc) m vol charge svc
    flags dens
  let book : DelBook := { record := body, account := a, rate := rate, mass := m.toNat, massTo := massTo, vol := vol, volTo := volTo
                          svc := svc, charge := charge, residue := residue }
  let s := { s with bill := { s.bill with frac := rd s BILL.DEL_VOL % 256, volNft := false, stopTick := 0, reason := 0 } }
  awaitSignature book (dropSequence s) |> wr BILL.DEL_OPEN 0 |> wr BILL.DEL_STOPPING 0 |> wr BILL.RUN_QTY 0 |> wr BILL.RUN_CHARGE 0
    |> raise 0x68 1

/-- A delivery of an account is open and stops: STOPPING and its reason (R372). -/
def markStopping (reason : Nat) (s : State) : State :=
  if rd s BILL.DEL_OPEN = 1 ∧ rd s BILL.DEL_STOPPING = 0 then
    wr BILL.DEL_STOPPING 1 { s with bill := { s.bill with stopTick := s.time.ticks, reason := reason } }
  else s

/-- The LGC's disconnect at the next frame boundary (R372). -/
def orderDisconnect (s : State) : State := legalInstall (switchEntry 2 ((scFrame s + 1) * frameSteps)) s

/-- The LGC stops the open delivery (R372). -/
def stopDelivery (reason : Nat) (s : State) : State :=
  if rd s BILL.DEL_OPEN = 1 ∧ rd s BILL.DEL_STOPPING = 0 then orderDisconnect (markStopping reason s) else s

/-- The close conditions of R372, and the mass with which the delivery closes: clean, or carrying NFT at the limit. -/
def deliveryDue (s : State) : Option (Int × Bool × Nat) :=
  if rd s BILL.DEL_OPEN = 0 ∨ rd s BILL.DEL_STOPPING = 0 ∨ s.time.ticks < s.bill.stopTick + rd s BILL.SETTLE then none
  else if rd s BILL.USE_SET = 0 then some (0, true, 0)
  else
    let k := rd s BILL.DEL_WSET
    let (g, ok) := legalValue s k
    let m := signed (rd s BILL.DEL_SIGN) (g - rdS s BILL.START_GROSS)
    if ok ∨ s.bill.stopTick + rd s BILL.SETTLE_MAX ≤ s.time.ticks then some (m, ok, rd s (WGH.VALUE_FLAGS k)) else none

/-- The open delivery closes once its conditions hold (R372). -/
def closeDelivery (s : State) : State :=
  match deliveryDue s with
  | some x => closeWith s.bill.reason (some x) s
  | none => s

/-- An unattributed delivery closes: booked in UNATTR_VOL, without charge (R375). -/
def closeUnattr (s : State) : State :=
  match s.bill.unattr with
  | some { vol := v, nft := nft, no := some (no, start), rate := rate, .. } =>
    let total := v + s.bill.frac
    let flags := 2 * b2n nft + 8 * b2n (timeProvisional s)
    let body := recordBody no 255 rate 0 6 (rd s USX.CLASS) start (scReg s.time.sc) 0 (total / 256) 0 0 flags 0
    let s := { s with bill := { s.bill with unattr := none, frac := total % 256 } }
    awaitSignature { record := body, rate := rate, vol := total / 256, volTo := 3 } s |> raise 0x68 5
  | _ => s

/-- An unattributed delivery closes after UNATTR_IDLE ticks without volume (R375). -/
def closeIdleUnattr (s : State) : State :=
  match s.bill.unattr with
  | some u => if u.no.isSome ∧ u.lastTick + rd s BILL.UNATTR_IDLE ≤ s.time.ticks then closeUnattr s else s
  | none => s

/-- Volume handed to billing: to the open delivery, or to an unattributed one, which opens at the next commit cycle (R323, R373,
R375). -/
def takeVolume (v : Nat) (nft : Bool) (s : State) : State :=
  if v = 0 then s
  else if rd s BILL.DEL_OPEN = 1 then
    addTo BILL.DEL_VOL v { s with bill := { s.bill with volNft := s.bill.volNft || nft } }
  else
    let u := s.bill.unattr.getD {}
    { s with bill := { s.bill with unattr := some { u with vol := u.vol + v, nft := u.nft || nft, lastTick := s.time.ticks } } }

/-- An unattributed delivery opens: its DEL_NO, START_SC and rate (R371, R375). -/
def beginUnattr (s : State) : State :=
  match s.bill.unattr with
  | some { vol := v, nft := nft, no := none, lastTick := lt, .. } =>
    let n := s.bill.nextDel
    wr BILL.DEL_NO n { s with bill := { s.bill with
      nextDel := (n + 1) % 2 ^ 32
      unattr := some { vol := v, nft := nft, no := some (n, scReg s.time.sc), rate := rd s BILL.RATE, lastTick := lt } } }
  | _ => s

/-- An unattributed delivery whose volume came in an earlier commit cycle opens (R375). -/
def openUnattr (s : State) : State :=
  match s.bill.unattr with
  | some u => if s.time.ticks ≤ u.lastTick then s else beginUnattr s
  | none => s

/-- Check 2 of R371. -/
def openRange (d : List Nat) : Bool :=
  let f := d.getD 2 0
  let basis := d.getD 1 0
  decide (7 < d.getD 0 0 ∨ 2 < basis ∨ 15 < f ∨ 7 < d.getD 3 0 ∨ 15 < d.getD 4 0 ∨ d.getD 5 0 ≠ 0 ∨ le (slice d 8 8) = 0
    ∨ ((basis = 1 ∨ bit f 3 = false) ∧ bit f 0 = false) ∨ ((basis = 2 ∨ bit f 3 = true) ∧ bit f 1 = false))

/-- Check 3 of R371, and the ENGINE break of R63. -/
def openState (s : State) (d : List Nat) : Bool :=
  let v := view s
  let a := d.getD 0 0
  let k := d.getD 3 0
  decide (rd s BILL.DEL_OPEN = 1 ∨ rd v (PREP.A_OPEN a) = 0 ∨ rd v (PREP.A_ARMED a) = 0 ∨ balanceOf v a ≤ 0)
    || bookingBlocked s || broken s 5
    || (bit (d.getD 2 0) 0 && (!(legalValue s k).2 || decide (rd s (WGH.SET_EN k) = 0 ∨ rd s (WGH.SET_LEGAL k) = 0)))

/-- The first tick boundary at least 2 ticks later (R371). -/
def connectSc (s : State) : Nat := (s.time.sc + 2 * tickSteps + tickSteps - 1) / tickSteps * tickSteps

/-- An accepted DELIVERY_OPEN; unattributed volume is closed before, that of this commit cycle too (R371, R375, log 220). -/
def openDelivery (d : List Nat) (s : State) : State :=
  let s := closeUnattr (beginUnattr s)
  let f := d.getD 2 0
  let k := d.getD 3 0
  let n := s.bill.nextDel
  let rate := rd s BILL.RATE
  let at_ := connectSc s
  let useSet := bit f 0
  let s := { s with bill := { s.bill with nextDel := (n + 1) % 2 ^ 32, volNft := false, openCycle := s.time.cycle
                                          startFlags := if useSet then rd s (WGH.VALUE_FLAGS k) else 0 } }
  let s := s |> wr BILL.DEL_NO n |> wr BILL.DEL_OPEN 1 |> wr BILL.DEL_STOPPING 0 |> wr BILL.DEL_DEFERRED 0
    |> wrB BILL.DEL_SIGN (bit f 2) |> wr BILL.DEL_BASIS (d.getD 1 0) |> wrB BILL.PRESET_KIND (bit f 3) |> wrB BILL.USE_SET useSet
    |> wrB BILL.USE_USX (bit f 1) |> wr BILL.DEL_RATE rate |> wr BILL.DEL_ACCOUNT (d.getD 0 0) |> wr BILL.DEL_WSET k
    |> wr BILL.DEL_EXPECT (d.getD 4 0) |> wr BILL.DEL_SVC (le (slice d 6 2)) |> wr BILL.PRESET (le (slice d 8 8))
    |> wr BILL.START_SC (scReg s.time.sc) |> wrS BILL.START_GROSS (if useSet then (legalValue s k).1 else 0)
    |> wr BILL.DEL_VOL s.bill.frac |> wr BILL.RUN_QTY 0 |> wr BILL.RUN_CHARGE 0
    |> wr BILL.DEL_PRICE_MASS (rd s (BILL.PRICE_MASS rate)) |> wr BILL.DEL_PRICE_VOL (rd s (BILL.PRICE_VOL rate))
    |> wr BILL.DEL_PRICE_SVC (rd s (BILL.PRICE_SVC rate)) |> raise 0x68 0
  let s := legalInstall (switchEntry 1 at_) s
  if bit f 1 then usxOpen (d.getD 4 0) (legalInstall (sequenceEntry s at_) s) else s

/-- The DELIVERY_OPEN service (R371). -/
def openService (d : List Nat) (s : State) : Svc :=
  if bit (d.getD 2 0) 1 ∧ Variant.usxPaths s.fuse.variant = 0 then svcNo .absent s
  else if openRange d then svcNo .range s
  else if openState s d then svcNo .state s
  else if logSize ≤ s.leg.log.length then svcNo .exhausted s
  else
    let s := openDelivery d s
    (0, toLe 4 (rd s BILL.DEL_NO), s)

/-- The DELIVERY_STOP service (R371). -/
def stopService (d : List Nat) (s : State) : Svc :=
  if rd s BILL.DEL_OPEN = 0 ∨ le (slice d 0 4) ≠ rd s BILL.DEL_NO then svcNo .state s else (0, [], stopDelivery 2 s)

/-- A switch stop that the LGC did not order (R372). -/
def switchStopped (s : State) : State := markStopping 4 s

/-! ## Booking a signed record (R373, R377) -/

/-- The record window follows REC_SEL (R378). -/
def showRecord (s : State) : State :=
  match s.bill.records[rd s BILL.REC_SEL]? with
  | some r => forEach (List.range 16) (fun k => wr (BILL.REC k) (le (slice r (4 * k) 4))) (wr BILL.REC_VALID 1 s)
  | none => forEach (List.range 16) (fun k => wr (BILL.REC k) 0) (wr BILL.REC_VALID 0 s)

/-- The TAG of a record (R377). -/
def recordTag (s : State) (body : List Nat) : List Nat := (toBe 16 (cmac (Config.deviceKey 74) (body ++ serialBytes s))).take 8

/-- Seat 2 has signed the oldest closed delivery: its record joins the newest 32 and it is booked; no booking while a MONEY, MASS or
VOL break halts the service (R63, R373, R377). -/
def bookSigned (s : State) : State :=
  match s.bill.toSign with
  | [] => s
  | d :: r =>
    if !s.deck.signed || billHalted s || decide (8 ≤ s.leg.bookings.length) then s else
    let rec_ := d.record ++ recordTag s d.record
    let s := { s with bill := { s.bill with toSign := r, records := (rec_ :: s.bill.records).take 32 }
                      deck := { s.deck with signing := !r.isEmpty, signed := false } }
    makeBooking (.delivery { d with record := rec_ }) (showRecord s) |> raise 0x68 2

/-! ## Triggers of the billing units (R366) -/

/-- A trigger for a billing unit: latched and EXECUTED, or REFUSED where the queue is full, the LGC does not run, or the action or
argument is not one of R366. -/
def billTrigger (src : TrigSrc) (unit action occ arg : Nat) (s : State) : State :=
  arrive src unit (fun s =>
    if !actionKnown unit action arg || !lgcRuns s || decide (8 ≤ s.bill.queue.length) then trigRefuse unit s
    else trigExec unit { s with bill := { s.bill with queue := s.bill.queue ++ [⟨unit, action, occ, scFrame s⟩] } }) s

/-- ACTIVATE_PRICES, from the Orrery or a pin, with the occurrence SC and the argument. -/
def execActivatePrices (t : Nat) (src : TrigSrc) (occ arg : Nat) (s : State) : Out := ev t s (billTrigger src 0x68 1 occ arg)
/-- EVALUATE of unit TARF. -/
def execTarfEvaluate (t : Nat) (src : TrigSrc) (occ arg : Nat) (s : State) : Out := ev t s (billTrigger src 0x69 1 occ arg)
/-- EVALUATE of unit PREP. -/
def execPrepEvaluate (t : Nat) (src : TrigSrc) (occ arg : Nat) (s : State) : Out := ev t s (billTrigger src 0x6A 1 occ arg)
/-- ARM of unit PREP. -/
def execArm (t : Nat) (src : TrigSrc) (occ arg : Nat) (s : State) : Out := ev t s (billTrigger src 0x6A 2 occ arg)

/-- An ARM trigger takes effect in a commit cycle: every open account without ARMED and with credit is armed (R374). -/
def armAccounts (s : State) : State :=
  let l := (List.range 8).filter fun a => decide (rd s (PREP.A_OPEN a) = 1 ∧ rd s (PREP.A_ARMED a) = 0 ∧ 0 < balanceOf (view s) a)
  if l = [] then s else raise 0x6A 3 (forEach l (fun a => wr (PREP.A_ARMED a) 1) s)

/-- One latched trigger of R367's first step. -/
def actTrigger (x : BillTrig) (s : State) : State :=
  if x.unit = 0x68 then priceTrigger x.occ x.frame s else if x.unit = 0x6A ∧ x.action = 2 then armAccounts s else s

/-- The triggers latched since the last commit cycle, and the evaluation that they, a change of WALL_STATE or a wall step call for
(R367). -/
def billTriggers (s : State) : State :=
  let q := s.bill.queue
  let s := watchWall { s with bill := { s.bill with queue := [] } }
  let s := forEach q actTrigger s
  if s.bill.evalDue ∨ (q.any fun x => decide (x.unit = 0x69 ∨ (x.unit = 0x6A ∧ x.action = 1))) then
    runEvaluate { s with bill := { s.bill with evalDue := false } }
  else s

/-! ## The credit check, the close and the cut (R367) -/

/-- The running mass in mg, from START_GROSS. -/
def runningMass (s : State) : Nat :=
  if rd s BILL.USE_SET = 0 then 0
  else (signed (rd s BILL.DEL_SIGN) (rdS s (WGH.GROSS (rd s BILL.DEL_WSET)) - rdS s BILL.START_GROSS)).toNat

/-- The running quantity of the delivery's basis. -/
def runningQty (s : State) : Nat :=
  let b := rd s BILL.DEL_BASIS
  if b = 1 then runningMass s else if b = 2 then rd s BILL.DEL_VOL / 256 else 0

/-- The preset quantity of the delivery is reached. -/
def presetReached (s : State) : Bool :=
  decide (rd s BILL.PRESET ≤ if rd s BILL.PRESET_KIND = 0 then runningMass s else rd s BILL.DEL_VOL / 256)

/-- The check of the open delivery: preset, credit, deferral in friendly hours, emergency credit (R367). -/
def creditCheck (s : State) : State :=
  if rd s BILL.DEL_OPEN = 0 ∨ rd s BILL.DEL_STOPPING = 1 then s else
  let q := runningQty s
  let a := rd s BILL.DEL_ACCOUNT
  let price := if rd s BILL.DEL_BASIS = 1 then rd s BILL.DEL_PRICE_MASS else if rd s BILL.DEL_BASIS = 2 then rd s BILL.DEL_PRICE_VOL else 0
  let run := (chargeOf q price (rd s BILL.DEL_SVC) (rd s BILL.DEL_PRICE_SVC) (residueOf s a)).1
  let s := s |> wr BILL.RUN_QTY q |> wr BILL.RUN_CHARGE run
  let v := view s
  if presetReached s then stopDelivery 1 s
  else if 0 < balanceOf v a - run then s
  else if friendly s then s |> wr BILL.DEL_DEFERRED 1 |> wr (PREP.A_DEFERRED a) 1
  else if rd v (PREP.A_AUTO_EMERG a) = 1 ∧ rd v (PREP.EMERG_OUT a) = 0 ∧ 0 < rd v (PREP.E_AMT a) ∧ s.leg.bookings.length < 8 then
    makeBooking (.emergency a) s
  else stopDelivery 3 s

/-- The cut of an account without credit, outside friendly hours and with no delivery open (R367). -/
def cutAccounts (s : State) : State :=
  if friendly s then s else
  let v := view s
  let l := (List.range 8).filter fun a => decide (rd v (PREP.A_OPEN a) = 1 ∧ balanceOf v a ≤ 0 ∧ rd v (PREP.A_ARMED a) = 1
    ∧ ¬(rd s BILL.DEL_OPEN = 1 ∧ rd s BILL.DEL_ACCOUNT = a))
  if l = [] then s else raise 0x6A 2 (forEach l (fun a s => s |> wr (PREP.A_ARMED a) 0 |> wr (PREP.A_DEFERRED a) 0) s)

/-- The tallies of MONEY, MASS or VOL in the order of R54, 8 bytes each (R354, log 124). -/
def domainTallies (s : State) (d : Nat) : List Nat :=
  let l := s.led
  (if d = 6 then [moneySum s PREP.LOADED, moneySum s PREP.BALANCE, moneySum s PREP.CONSUMED, moneySum s PREP.EXPIRED, moneySum s PREP.EMERG_OUT]
    else if d = 7 then [ofSigned 64 l.massTotal, ofSigned 64 l.massDelivered, ofSigned 64 l.massResidue]
    else [ofSigned 64 l.volTotal, ofSigned 64 l.volDelivered, ofSigned 64 l.volResidue]).flatMap fun x => toLe 8 (x % 2 ^ 64)

/-- A MONEY, MASS or VOL break that is new is logged, stops the open delivery and makes the LGC order a disconnect; one that has
ended is logged as cleared (R63, R354). -/
def watchBreaks (s : State) : State :=
  let now := rd s LEDG.BREAK / 64 % 8
  let was := s.bill.brk
  let s := { s with bill := { s.bill with brk := now } }
  let s := forEach (List.range 3) (fun b s =>
    if bit now b ∧ bit was b = false then logEvent 0x50 0x02 ([6 + b] ++ domainTallies s (6 + b)) s
    else if bit now b = false ∧ bit was b = true then logEvent 0x51 0x02 ([6 + b] ++ domainTallies s (6 + b)) s else s) s
  if was = 0 ∧ now ≠ 0 then
    let s := markStopping 7 s
    orderDisconnect s
  else s

/-- The work of R367 that follows the requests: the check of the open delivery, the close, and the cut. -/
def billAfter (s : State) : State :=
  cutAccounts (closeDelivery (creditCheck s))

/-! ## The rows -/

/-- DELIVERY_CLOSE: due in a commit cycle of a running LGC in which the conditions of R372 hold. -/
def execDeliveryClose (t : Nat) (s : State) : Out := ev t s fun s => if onTick s && lgcRuns s then closeDelivery s else s

/-- DELIVERY_BOOK: due in a commit cycle after seat 2 has signed the record (R373). -/
def execDeliveryBook (t : Nat) (s : State) : Out := ev t s fun s => if onTick s && lgcRuns s then bookSigned s else s

/-- UNATTRIBUTED_CLOSE: due in a commit cycle after UNATTR_IDLE ticks without volume (R375). -/
def execUnattributedClose (t : Nat) (s : State) : Out := ev t s fun s => if onTick s && lgcRuns s then closeIdleUnattr s else s

end Sys2Proof.Machine
end

