-- ==== Sys2Proof/Machine/Oam.lean ====
section
/-! DEFINITION. Downstream OAM messages (R155, R167 to R170, R225): which of the waiting messages is next, its checks, and what
each type does. -/
namespace Sys2Proof.Machine

/-! ## The waiting messages (R167) -/

/-- A message's TYPE. -/
def msgType (m : List Nat) : Nat := m.getD 2 0
/-- A message's SEQ. -/
def msgSeq (m : List Nat) : Nat := m.getD 3 0
/-- A message is for this terminal (R167). -/
def msgForUs (s : State) (m : List Nat) : Bool :=
  decide (be (slice m 0 2) / 16 = 0xFFF) || decide (be (slice m 0 2) / 16 = rd s ACTV.TERM_ID)

/-- The message types of R168. -/
def msgKnown (ty : Nat) : Bool := decide ((1 ≤ ty ∧ ty ≤ 8) ∨ (0x10 ≤ ty ∧ ty ≤ 0x14))

/-- A discarded message: counted and raised (R167). -/
def msgDiscard (s : State) : State := s |> inc (ACTV.CNT 8) |> raise 0x0D 10
/-- A valid message that the state does not accept (R167). -/
def msgIgnore (s : State) : State := inc (ACTV.CNT 9) s
/-- An accepted message (R167). -/
def msgAccept (s : State) : State := inc (ACTV.CNT 7) s

/-- The outcome of a MIC check goes with its message (R223). -/
def noMic (s : State) : State := { s with actv := { s.actv with mic := none } }

/-- Leading messages that no row takes are passed over: those for other terminals in silence, unknown types as discards. -/
def skimOam (l : List (Nat × Nat × List Nat)) (s : State) : State :=
  match l with
  | [] => { s with line := { s.line with oam := [] } }
  | (f, k, m) :: r =>
    if !msgForUs s m then skimOam r (noMic s)
    else if !msgKnown (msgType m) then skimOam r (msgDiscard (noMic s))
    else { s with line := { s.line with oam := (f, k, m) :: r } }

/-- Bytes a to 35 of the body are unused and 0, and so are bits 3:0 of the ID (R167). -/
def unusedZero (m : List Nat) (a : Nat) : Bool :=
  decide (be (slice m 0 2) % 16 = 0) && (slice m a (36 - a)).all (· == 0)

/-- The MIC of the first waiting message holds, or none is required of it (R168, R223). -/
def micOk (s : State) (m : List Nat) : Bool := !needsMic s m || s.actv.mic == some true

/-- The next waiting message is taken if it has the type, once seat 4 has checked a MIC that it requires; the rest then stands for the
next. The message is discarded where its form is bad or its MIC failed, ignored where the state does not accept it, and else executed
(R167, R223). -/
def takeMsg (ty : Nat) (formOk accepted : State → Nat → List Nat → Bool) (act : Nat → List Nat → State → State) (s : State) : State :=
  match s.line.oam with
  | [] => s
  | (_, k, m) :: r =>
    if msgType m ≠ ty ∨ (toCheck s).isSome then s
    else
      let s' := if !formOk s k m || !micOk s m then msgDiscard s else if !accepted s k m then msgIgnore s else act k m s
      skimOam r (noMic s')

/-- LOCKOUT ignores every head-end message but EPHEMERIS and S-class ones (R166). -/
def notLockout (s : State) (_ : Nat) (_ : List Nat) : Bool := decide (rd s ACTV.STATE ≠ 7)

/-- An ACK of a message is queued (R155, R169, R170). -/
def queueAck (m : List Nat) (s : State) : State :=
  let (a, s) := ownMessage 0x83 [msgType m, msgSeq m] s
  queueUp 0x83 a s

/-! ## H-class messages (R168) -/

/-- BURST_PROFILE loads the profile, in force for maps from the next frame on; STANDBY becomes SERIAL (R149, R168). -/
def burstProfile (m : List Nat) (s : State) : State :=
  let s := msgAccept s |> wr ACTV.PRE_LEN (m.getD 4 0) |> wr ACTV.PRE_LEN_LONG (m.getD 5 0) |> wr ACTV.GRANT_LEAD (m.getD 6 0)
    |> wr ACTV.SN_SLOTS (m.getD 7 0) |> wr ACTV.PROFILE_PRE (be (slice m 8 4)) |> wr ACTV.PROFILE_DELIM (be (slice m 12 8))
    |> wr ACTV.PROFILE_VALID 1 |> raise 0x0D 1
  if rd s ACTV.STATE = 1 then goState 2 s else s

/-- A BURST_PROFILE's fields lie in their ranges (R168). -/
def profileOk (_ : State) (_ : Nat) (m : List Nat) : Bool :=
  unusedZero m 20 && decide (4 ≤ m.getD 4 0 ∧ m.getD 4 0 ≤ m.getD 5 0 ∧ 1 ≤ m.getD 6 0 ∧ m.getD 6 0 ≤ 6
    ∧ 1 ≤ m.getD 7 0 ∧ m.getD 7 0 ≤ 64)

/-- BURST_PROFILE is the next message. -/
def execBurstProfile (t : Nat) (s : State) : Out := ev t s (takeMsg 0x01 profileOk notLockout fun _ m => burstProfile m)

/-- Message bytes 4 to 11 name this terminal's SERIAL. -/
def serialMatch (s : State) (m : List Nat) : Bool := decide (be (slice m 4 8) = rd s ACTV.SERIAL)

/-- ASSIGN_ID is the next message (R149, R168). -/
def execAssignId (t : Nat) (s : State) : Out :=
  ev t s (takeMsg 0x02 (fun _ _ m => unusedZero m 14 && decide (be (slice m 12 2) ≤ 0xFFD))
    (fun s _ m => decide (rd s ACTV.STATE = 2) && serialMatch s m)
    fun _ m s => msgAccept s |> goState 3 |> wr ACTV.TERM_ID (be (slice m 12 2)))

/-- A message is a repeat of the last accepted one of its type within 1 s (R170). -/
def isDup (s : State) (last : Option (Nat × Nat)) (m : List Nat) : Bool :=
  match last with
  | some (q, c) => decide (q = msgSeq m) && decide (s.time.cycle ≤ c + secondSteps)
  | none => false

/-- RANGING_TIME: a repeat is acknowledged again; the equalization-delay guard refuses; else RANGED_ADVANCE (R155, R170). -/
def rangingTime (m : List Nat) (s : State) : State :=
  let zone := m.getD 4 0
  let eqd := be (slice m 5 4)
  if isDup s s.actv.lastRang m then queueAck m (inc (ACTV.CNT 10) s)
  else if 4 < zone ∨ 2560000 < eqd then
    s |> wr ACTV.BAD_ZONE zone |> wr ACTV.BAD_EQD eqd |> inc (ACTV.CNT 11) |> raise 0x0D 4
  else
    let s := msgAccept s |> wr ACTV.RANGED_ZONE zone |> wr ACTV.RANGED_EQD eqd
      |> wr ACTV.RANGED_ADVANCE (zone * 2560000 + eqd) |> wr ACTV.RANGED_FLAG 1 |> raise 0x0D 2
    queueAck m { s with actv := { s.actv with lastRang := some (msgSeq m, s.time.cycle) } }

/-- RANGING_TIME is the next message. -/
def execRangingTime (t : Nat) (s : State) : Out :=
  ev t s (takeMsg 0x03 (fun _ _ m => unusedZero m 9) (fun s k m => notLockout s k m && (isDup s s.actv.lastRang m || decide (rd s ACTV.STATE = 3 ∨ rd s ACTV.STATE = 4)))
    fun _ m => rangingTime m)

/-- DEACTIVATE is the next message (R149). -/
def execDeactivate (t : Nat) (s : State) : Out :=
  ev t s (takeMsg 0x04 (fun _ _ m => unusedZero m 4)
    (fun s _ _ => decide (rd s ACTV.STATE ≠ 0 ∧ rd s ACTV.STATE ≠ 6 ∧ rd s ACTV.STATE ≠ 7)) fun _ _ s => toInitial (msgAccept s))

/-- DISABLE is the next message (R149, R165). -/
def execDisable (t : Nat) (s : State) : Out :=
  ev t s (takeMsg 0x05 (fun _ _ m => unusedZero m 12) (fun s k m => notLockout s k m && serialMatch s m)
    fun _ _ s => goState 6 (msgAccept s))

/-- ENABLE is the next message: this terminal's SERIAL or all ones (R149, R165). -/
def execEnable (t : Nat) (s : State) : Out :=
  ev t s (takeMsg 0x06 (fun _ _ m => unusedZero m 12)
    (fun s _ m => decide (rd s ACTV.STATE = 6) && (serialMatch s m || decide (be (slice m 4 8) = 2 ^ 64 - 1)))
    fun _ _ s => goState 1 (msgAccept s))

/-- POPUP: a repeat is acknowledged again; else POPUP_SEEN (R168, R170). -/
def popup (m : List Nat) (s : State) : State :=
  if isDup s s.actv.lastPop m then queueAck m (inc (ACTV.CNT 10) s)
  else
    let s := msgAccept s |> wr ACTV.POPUP_SEEN 1 |> raise 0x0D 3
    queueAck m { s with actv := { s.actv with lastPop := some (msgSeq m, s.time.cycle) } }

/-- POPUP is the next message: accepted in INTERMITTENT with LOS, LOF and LSC clear (R168). -/
def execPopup (t : Nat) (s : State) : Out :=
  ev t s (takeMsg 0x07 (fun _ _ m => unusedZero m 4)
    (fun s k m => notLockout s k m && (isDup s s.actv.lastPop m || decide (rd s ACTV.STATE = 5 ∧ rd s FRMD.DETECTED % 8 = 0)))
    fun _ m => popup m)

/-- The ephemeris a message carries (R168). -/
def ephOf (m : List Nat) : Eph := ⟨be (slice m 4 6), be (slice m 10 4), be (slice m 14 4), m.getD 18 0⟩

/-- The form of an EPHEMERIS: its field widths (R168). -/
def ephFormOk (_ : State) (_ : Nat) (m : List Nat) : Bool :=
  unusedZero m 19 && decide (be (slice m 10 4) < 2 ^ 20 ∧ be (slice m 14 4) < 2 ^ 17 ∧ m.getD 18 0 < 4)

/-- EPHEMERIS is the next message; it is accepted in every state and goes to SIDR under R38. -/
def execEphemeris (t : Nat) (s : State) : Out :=
  ev t s (takeMsg 0x08 ephFormOk (fun _ _ _ => true) fun _ m s => ephMessage (ephOf m) (msgAccept s))

/-! ## S-class messages (R167, R168, R225) -/

/-- An authenticated message is delivered to the STC: discarded where its MIC fails, the STC is not in RUN, or its receive
queue is full; when the STC empties that queue the spec does not say, so the command tells whether it was full (log 21). -/
def stcMessage (ty : Nat) (full : Bool) (s : State) : State :=
  takeMsg ty
    (fun s _ m => decide (be (slice m 0 2) % 16 = 0) && !full && decide (rd s SYS.STC_STATE = 2))
    (fun _ _ _ => true)
    (fun _ m s => let s := msgAccept s
                  { s with actv := { s.actv with stcRx := (s.actv.stcRx ++ [m]).drop (s.actv.stcRx.length - 31) }
                           stc := { s.stc with keyTodo := if 0x11 ≤ ty ∧ ty ≤ 0x13 then s.stc.keyTodo ++ [m] else s.stc.keyTodo } }) s

/-- PATH_CONFIG is the next message. -/
def execPathConfig (t : Nat) (full : Bool) (s : State) : Out := ev t s (stcMessage 0x10 full)
/-- KEY_CONTROL is the next message; the STC then carries it out through the KEYS page (R225). -/
def execKeyControl (t : Nat) (full : Bool) (s : State) : Out := ev t s (stcMessage 0x11 full)
/-- PRICE is the next message; the STC then hands it to the LGC (R168, R368). -/
def execPrice (t : Nat) (full : Bool) (s : State) : Out := ev t s (stcMessage 0x12 full)
/-- CREDIT is the next message; the STC then hands it to the LGC (R168, R369). -/
def execCredit (t : Nat) (full : Bool) (s : State) : Out := ev t s (stcMessage 0x13 full)
/-- OAM_REQUEST is the next message. -/
def execOamRequest (t : Nat) (full : Bool) (s : State) : Out := ev t s (stcMessage 0x14 full)

end Sys2Proof.Machine
end

