-- ==== Sys2Proof/Machine/Frmd.lean ====
section
/-! DEFINITION. Downstream framing (R127 to R139): delineation, the frame's header, parity and path blocks, and the detection,
declaration and suppression of defects. -/
namespace Sys2Proof.Machine

/-! ## Detection and declaration (R136, R138) -/

/-- A defect's detection starts: the cycle is kept for PM (R142). -/
def markDet (key : Nat) (s : State) : State :=
  { s with line := { s.line with detAt := aset s.line.detAt key s.time.cycle } }

/-- The counts of a path in the running PM second. -/
def modPathSec (p : Nat) (f : PathSec → PathSec) (s : State) : State :=
  { s with pmon := { s.pmon with sec := { s.pmon.sec with paths := aset s.pmon.sec.paths p (f (aget s.pmon.sec.paths p {})) } } }

/-- A section defect that ends counts in the running second if it stood in it (R142). -/
def secDefEnds (b : Nat) (s : State) : State :=
  if s.pmon.sec.startCycle < s.time.cycle then
    { s with pmon := { s.pmon with sec := { s.pmon.sec with defs := s.pmon.sec.defs ||| 2 ^ b } } }
  else s

/-- The declared set: the highest detected defect alone (R138). -/
def highest (det : Nat) : Nat := if det = 0 then 0 else 2 ^ lowestBit det

/-- The declarations of a path follow its detections and the section's (R138); its sub-cause is raised as a defect's cause is. -/
def declarePath (p : Nat) (s : State) : State :=
  let old := rd s (FRMD.P_DECLARED p)
  let det := rd s (FRMD.P_DETECTED p)
  let new := if rd s FRMD.DECLARED ≠ 0 then 0 else highest det
  if new = old then s else
  let s := wr (FRMD.P_DECLARED p) new s
  when (decide (new ≠ 0) || decide (old ≠ 0 ∧ det &&& old = 0)) (raiseSub 0x0A p) s

/-- The declarations follow the detections: a defect's cause is raised when it becomes declared and when it clears while
declared (R138); then the line's use for time and the activation state follow (R29, R149). -/
def declare (s : State) : State :=
  let old := rd s FRMD.DECLARED
  let det := rd s FRMD.DETECTED
  let new := highest det
  let s := wr FRMD.DECLARED new s
  let s := if old ≠ 0 ∧ new ≠ old ∧ det &&& old = 0 then raise 0x0A (lowestBit old) s else s
  let s := if new ≠ 0 ∧ new ≠ old then raise 0x0A (lowestBit new) s else s
  let s := forEach (List.range 16) declarePath s
  actvLine (updateUsable s)

/-- A section defect is detected: 0 LOS, 1 LOF, 2 LSC, 3 SF, 4 SD (R136). LOS clears ADVANCE_VALID (R28); LOS, LOF and LSC skip
the windows they fall in (R137). -/
def setDet (b : Nat) (s : State) : State :=
  if bit (rd s FRMD.DETECTED) b then s else
  let s := markDet b (wr FRMD.DETECTED (rd s FRMD.DETECTED + 2 ^ b) s)
  let s := if b < 3 then skipWindows s else s
  when (decide (b = 0)) (wr SIDR.ADV_VALID 0) s

/-- A section defect is cleared (R136). -/
def clrDet (b : Nat) (s : State) : State :=
  if !bit (rd s FRMD.DETECTED) b then s else secDefEnds b (wr FRMD.DETECTED (rd s FRMD.DETECTED - 2 ^ b) s)

/-- A section defect is detected, and the declarations follow. -/
def detect (b : Nat) (s : State) : State := if bit (rd s FRMD.DETECTED) b then s else declare (setDet b s)

/-- A section defect is cleared, and the declarations follow. -/
def undetect (b : Nat) (s : State) : State := if bit (rd s FRMD.DETECTED) b then declare (clrDet b s) else s

/-- A path defect is detected: 0 PLM, 1 PATH_SF, 2 PATH_SD, 3 LOK (R136). -/
def setDetPath (p b : Nat) (s : State) : State :=
  if bit (rd s (FRMD.P_DETECTED p)) b then s else
  markDet (8 + 4 * p + b) (wr (FRMD.P_DETECTED p) (rd s (FRMD.P_DETECTED p) + 2 ^ b) s)

/-- A path defect is cleared (R136). -/
def clrDetPath (p b : Nat) (s : State) : State :=
  if !bit (rd s (FRMD.P_DETECTED p)) b then s else
  let s := wr (FRMD.P_DETECTED p) (rd s (FRMD.P_DETECTED p) - 2 ^ b) s
  if s.pmon.sec.startCycle < s.time.cycle then modPathSec p (fun x => { x with defs := x.defs ||| 2 ^ b }) s else s

/-- A run decides a path defect: set at the first bound, else cleared at the second. -/
def runPath (p b set_ clr up down : Nat) (s : State) : State :=
  if set_ ≤ up then setDetPath p b s else if clr ≤ down then clrDetPath p b s else s

/-! ## LOS and LOF (R136) -/

/-- LOS_DETECT: LINK has read DOWN or TRAINING for LOS_SET phase steps. -/
def execLosDetect (t : Nat) (s : State) : Out :=
  ev t s fun s =>
    if enabled s 0x0A = true ∧ linkLost (rd s LANE.LINK) = true ∧ s.lane.linkBad + rd s FRMD.LOS_SET ≤ s.time.cycle then detect 0 s
    else s

/-- LOS_CLEAR: LINK has read UP or UNPROTECTED for LOS_CLR frames. -/
def execLosClear (t : Nat) (s : State) : Out :=
  ev t s fun s =>
    if linkLost (rd s LANE.LINK) = false ∧ s.lane.linkGood + rd s FRMD.LOS_CLR * frameSteps ≤ s.time.cycle then undetect 0 s else s

/-- LOF_DETECT: delineation has been out of SYNC for LOF_SET frames. -/
def execLofDetect (t : Nat) (s : State) : Out :=
  ev t s fun s =>
    if enabled s 0x0A = true ∧ rd s FRMD.DELIN ≠ 2 ∧ s.line.outAt + rd s FRMD.LOF_SET * frameSteps ≤ s.time.cycle then detect 1 s
    else s

/-- LOF clears once delineation has been in SYNC for LOF_CLR frames. -/
def lofClear (s : State) : State :=
  if rd s FRMD.DELIN = 2 ∧ s.line.syncAt + rd s FRMD.LOF_CLR * frameSteps ≤ s.time.cycle then undetect 1 s else s

/-! ## Delineation and the count (R129, R130, R136) -/

/-- The bytes of a frame (R127). -/
def frameBytesLen : Nat := 320000

/-- The first byte position of a stretch at which PSYNC stands without an error and the count of its frame is readable, with that count
(R130). -/
def findSync (k : Nat) (l : List Nat) : Option (Nat × Nat) :=
  match l with
  | [] => none
  | _ :: r =>
    match decide (be (l.take 8) = psync), frameCount (l.take 8 ++ scramble (slice l 8 72)) with
    | true, some c => some (k, c)
    | _, _ => findSync (k + 1) r

/-- Expected positions that have passed with no frame at them are misses (R130). -/
def passedFrames (pos : Nat) (s : State) : State :=
  let l := s.line
  let n := if l.nextAt < pos then (pos - l.nextAt + frameBytesLen - 1) / frameBytesLen else 0
  if n = 0 ∨ rd s FRMD.DELIN = 0 then s
  else
    let s := { s with line := { l with nextAt := l.nextAt + n * frameBytesLen, prev := l.prev + n, since := l.since + n, miss := l.miss + n } }
    if rd s FRMD.DELIN = 1 ∨ rd s FRMD.LOF_MISS ≤ s.line.miss then dropSync s else s

/-- Delineation after a frame at the expected position (R130): PRESYNC needs the next count; SYNC holds until LOF_MISS misses in a row. -/
def delineate (f : RxFrame) (s : State) : State :=
  let near := decide (f.psErrors ≤ rd s FRMD.PSYNC_TOL)
  if rd s FRMD.DELIN = 2 then
    if near then { s with line := { s.line with miss := 0 } }
    else if rd s FRMD.LOF_MISS ≤ s.line.miss + 1 then dropSync s
    else { s with line := { s.line with miss := s.line.miss + 1 } }
  else
    match near, f.count with
    | true, none => { s with line := { s.line with prev := s.line.prev + 1 } }
    | true, some c =>
      if c = s.line.prev + 1 then
        detect 2 { wr FRMD.DELIN 2 s with line := { s.line with
          syncAt := s.time.cycle, miss := 0, prev := s.line.prev, lastRead := none, since := 0, unread := 0, lscRun := 0 } }
      else wr FRMD.DELIN 0 s
    | false, _ => wr FRMD.DELIN 0 s

/-- The count of a frame in SYNC: an unreadable one takes the previous count plus one (R129); LSC is detected and cleared by
its continuity (R136). -/
def countFrame (entering : Bool) (f : RxFrame) (s : State) : State :=
  let prev := s.line.prev
  let s := wr FRMD.FC (f.count.getD (prev + 1)) s
  match f.count with
  | none =>
    let n := s.line.unread + 1
    let s := s |> inc FRMD.FC_UNREAD |> raise 0x0A 6
    let s := { s with line := { s.line with prev := prev + 1, since := s.line.since + 1, unread := n, lscRun := 0 } }
    if rd s FRMD.LSC_UNREAD ≤ n then detect 2 s else s
  | some c =>
    let jumped := match s.line.lastRead with
      | some l => decide (c ≠ l + s.line.since + 1)
      | none => false
    let run := if entering || decide (c ≠ prev + 1) then 0 else s.line.lscRun + 1
    let s := { s with line := { s.line with prev := c, lastRead := some c, since := 0, unread := 0, lscRun := run } }
    if jumped then detect 2 { s with line := { s.line with lscRun := 0 } }
    else if rd s FRMD.LSC_CLR ≤ run then undetect 2 s
    else s

/-! ## Path blocks (R132, R134, R139, R219) -/

/-- The bytes that wait for seat 0 (R219, R237). -/
def decHeld (s : State) : Nat := ((s.deck.dec.filter fun b => b.slot.isSome).map fun b => b.payload.length).foldl (· + ·) 0

/-- The decrypt buffer's size (R219). -/
def decSize : Nat := 262144

/-- A delivered payload's frames complete at the path's source one after another (R175). -/
def deliverUnits (p : Nat) (payload : List Nat) (s : State) : State :=
  let (fs, bad) := unitsOf (payload.length + 1) payload
  let s := forEach fs (ingress p) s
  when bad (malformed p) s

/-- What a frame showed of a path: blocks, violations, discards, a wrong PTYPE, a missing key, and the keystream offset of its
next encrypted block. -/
structure PathSeen where
  blocks : Nat := 0
  viol : Nat := 0
  discards : Nat := 0
  plm : Bool := false
  lok : Bool := false
  off : Nat := 0

/-- A block of a path of this terminal in service: parity, discard, or delivery behind the blocks of the path that wait for seat 0 (R21,
R134, R139, R219). -/
def pathBlock (f : RxFrame) (frame : Nat) (b : Block) (x : State × PathSeen) : State × PathSeen :=
  let (s, seen) := x
  let p := b.path
  let v := blockViol b
  let s := s |> addPrei p v |> wr (FRMD.RX_PTYPE p) b.ptype
  let slot := 2 * p + b.phase
  let plm := decide (b.ptype ≠ rd s (FRMD.PTYPE_EXP p))
  let lok := b.enc && !(keySlot s slot).valid
  let full := b.enc && decide (decSize < decHeld s + b.payload.length)
  let drop := touchesBad f b.pos (8 + b.payload.length) || plm || lok || full
  let off := if b.enc then seen.off + unitBytes b.payload else seen.off
  let seen' := { seen with blocks := seen.blocks + 1, viol := seen.viol + v, discards := seen.discards + b2n drop
                           plm := seen.plm || plm, lok := seen.lok || lok, off := off }
  if drop then
    let s := inc (FRMD.PATH_DISCARD p) s
    let overrun := full && !plm && !lok && !touchesBad f b.pos (8 + b.payload.length)
    (if overrun then s |> inc DECK.DEC_OVERRUN |> raise 0x20 0 else s, seen')
  else if b.enc then
    ({ s with deck := { s.deck with dec := s.deck.dec ++ [⟨p, some slot, frame, seen.off, b.payload, max 1 ((off + 15) / 16 - seen.off / 16)⟩] } }, seen')
  else if s.deck.dec.any fun x => x.path == p then
    ({ s with deck := { s.deck with dec := s.deck.dec ++ [⟨p, none, frame, 0, b.payload, 0⟩] } }, seen')
  else (deliverUnits p b.payload s, seen')

/-- A run that grows while a condition holds and else returns to 0. -/
def runOf (c : Bool) (n : Nat) : Nat := if c then n + 1 else 0

/-- The end of a frame for a path in service: errored frame, MISSING, PLM and LOK (R134, R136). -/
def pathFrame (p : Nat) (seen : PathSeen) (s : State) : State :=
  let missing := decide (seen.blocks = 0)
  let err := missing || decide (0 < seen.viol) || decide (0 < seen.discards)
  let s := modPathSec p (fun x => { x with bip := x.bip + seen.viol, err := x.err + b2n err, missing := x.missing + b2n missing
                                           blocks := x.blocks + seen.blocks }) s
  let u := aget s.line.paths p {}
  let u := { u with plmSet := runOf seen.plm u.plmSet, plmClr := runOf (!seen.plm) u.plmClr
                    lokSet := runOf seen.lok u.lokSet, lokClr := runOf (!seen.lok) u.lokClr
                    errSf := u.errSf + b2n err, errSd := u.errSd + b2n err }
  let s := { s with line := { s.line with paths := aset s.line.paths p u } }
  let s := runPath p 0 (rd s FRMD.PLM_SET) (rd s FRMD.PLM_CLR) u.plmSet u.plmClr s
  declarePath p (runPath p 3 (rd s FRMD.LOK_SET) (rd s FRMD.LOK_CLR) u.lokSet u.lokClr s)

/-- A block of a frame: it is handled where it carries the terminal ID that activation assigned, in a path in service (R132, R136). -/
def blockWork (f : RxFrame) (frame : Nat) (b : Block) (x : State × List (Nat × PathSeen)) : State × List (Nat × PathSeen) :=
  let s := x.1
  if rd s ACTV.TERM_ID = 0xFFF ∨ b.term ≠ rd s ACTV.TERM_ID ∨ rd s (FRMD.PATH_EN b.path) = 0 then x
  else
    let r := pathBlock f frame b (s, aget x.2 b.path {})
    (r.1, aset x.2 b.path r.2)

/-- The path blocks of a frame in the order of the line, then the end of the frame for each path in service (R132, R134). -/
def pathsWork (f : RxFrame) (frame : Nat) (blocks : List Block) (s : State) : State :=
  let (s, seen) := blocks.foldl (fun x b => blockWork f frame b x) (s, [])
  forEach ((List.range 16).filter fun p => decide (rd s (FRMD.PATH_EN p) = 1)) (fun p => pathFrame p (aget seen p {})) s

/-! ## The grant map and messages (R131, R139) -/

/-- A frame whose map is not used withdraws what was staged for it (R139, R158). -/
def mapUnused (why : Nat) (s : State) : State :=
  forEach (s.tm.staged.filter fun c => !c.confirmed && decide (c.target ≤ s.line.mapFrame + s.line.grantLead))
    (fun c => withdraw why c.cont c.target) s

/-- The map's entries wait for GRANT_ENTRY and its messages, behind those of earlier frames, for their rows: the map is withheld while LSC is detected, and it
or a message is discarded with any byte in an uncorrectable codeword (R139). -/
def mapAndMessages (f : RxFrame) (h : Soh) (s : State) : State :=
  let mapBad := touchesBad f 32 (8 * h.gmap)
  let s := if bit (rd s FRMD.DETECTED) 2 then mapUnused 1 s
    else if mapBad then mapUnused 3 s
    else { s with
      tm := { s.tm with maps := s.tm.maps + 1 }
      line := { s.line with mapUsed := true, grants := (List.range h.gmap).map fun k => (k, slice f.data (32 + 8 * k) 8) } }
  let base := 32 + 8 * h.gmap
  let msgs := ((List.range h.oam).filter fun k => !touchesBad f (base + 48 * k) 48).map fun k => (rd s FRMD.FC, k, slice f.data (base + 48 * k) 48)
  skimOam (s.line.oam ++ msgs) s

/-! ## The frame -/

/-- The parity of the previous frame against SBIP (R133), the REI accumulator (R135) and the window sums (R136). -/
def checkBip (h : Soh) (s : State) : State × Nat :=
  let v := match s.line.bipPrev with
    | some x => if h.bad then 0 else popcount 32 (x ^^^ h.sbip)
    | none => 0
  let s := s |> addTo FRMD.BIP_VIOL v |> addSrei v
  ({ s with line := { s.line with sumSf := s.line.sumSf + v, sumSd := s.line.sumSd + v }
            pmon := { s.pmon with sec := { s.pmon.sec with bip := s.pmon.sec.bip + v } } }, v)

/-- The counters of a decoded frame (R141, R145). -/
def frameCounters (f : RxFrame) (err : Bool) (s : State) : State :=
  let corr := (f.corrected.filter fun n => decide (0 < n)).length
  let s := s |> inc FRMD.FRAMES |> addTo FRMD.CW_CORR corr |> addTo FRMD.BYTES_CORR (f.corrected.foldl (· + ·) 0)
    |> addTo FRMD.CW_UNCORR f.bad.length |> addTo FRMD.ERR_FRAMES (b2n err)
  let x := s.pmon.sec
  { s with pmon := { s.pmon with sec := { x with
      frames := x.frames + 1, errFrames := x.errFrames + b2n err, cwCorr := x.cwCorr + corr, cwUncorr := x.cwUncorr + f.bad.length } } }

/-- A frame received in SYNC (R129 to R139): its count and position go to SIDR (R27); its header, parity, map, messages and
path blocks are processed. -/
def syncFrame (entering : Bool) (f : RxFrame) (s : State) : State :=
  let s := countFrame entering f s
  let n := rd s FRMD.FC
  let s := { s with sidr := { s.sidr with rxOff := some ((n * frameSteps : Nat) - (s.time.cycle : Int)) } }
  let s := updateUsable (lofClear s)
  let h := soh f.data
  let (s, v) := checkBip h s
  let s := { s with line := { s.line with
    bipPrev := some (bip 4 f.data), grants := [], own := [], mapUsed := false, mapFrame := n, mapAt := s.time.cycle
    preLen := rd s ACTV.PRE_LEN, preLong := rd s ACTV.PRE_LEN_LONG, grantLead := rd s ACTV.GRANT_LEAD
    snSlots := rd s ACTV.SN_SLOTS, prePat := rd s ACTV.PROFILE_PRE, delim := rd s ACTV.PROFILE_DELIM, owned := 0, declined := [] } }
  let s := frameCounters f (decide (1 ≤ v) || decide (f.bad ≠ []) || h.bad) s
  if h.bad then
    let s := s |> inc FRMD.HDR_ERR |> raise 0x0A 5 |> mapUnused 1
    pathsWork f n [] s
  else
    let s := s |> wr FRMD.SRC_ID h.srcId |> wr FRMD.GMAP_COUNT h.gmap |> wr FRMD.OAM_COUNT h.oam
    let s := mapAndMessages f h s
    let start := 32 + 8 * h.gmap + 48 * h.oam
    let (bs, ended) := blocksFrom (h.payLen + 1) f.data start (start + h.payLen)
    let s := when ended (inc FRMD.HDR_ERR) s
    pathsWork f n bs s

/-- A frame at the expected position. Only frames received in SYNC are decoded (R130); the frame that leads to SYNC is one of them
(log 22). -/
def expectedFrame (f : RxFrame) (s : State) : State :=
  let was := rd s FRMD.DELIN
  let s := delineate f { s with line := { s.line with nextAt := s.line.nextAt + frameBytesLen } }
  if rd s FRMD.DELIN = 2 then tryStandby (syncFrame (decide (was ≠ 2)) f s) else s

/-- A stretch of received bytes that begins at a byte position: in HUNT every byte position is tried; else only the expected position counts
(R130, log 211). While LINK reads DOWN or TRAINING or FRMD is disabled nothing is delineated. -/
def downstreamFrame (pos : Nat) (bytes : List Nat) (s : State) : State :=
  if enabled s 0x0A = false ∨ linkLost (rd s LANE.LINK) = true then s
  else
    let s := passedFrames pos s
    if rd s FRMD.DELIN = 0 then
      match findSync 0 bytes with
      | some (k, c) => { wr FRMD.DELIN 1 s with line := { s.line with prev := c, nextAt := pos + k + frameBytesLen } }
      | none => s
    else if pos = s.line.nextAt then expectedFrame (rxFrame bytes) s else s

/-- DOWNSTREAM_FRAME: what the receive lanes bring from byte position 8 t + sub on (R102 to R106, R127 to R139). -/
def execDownstreamFrame (t : Nat) (x : Stretch) (s : State) : Out :=
  ev t s fun s => downstreamFrame (8 * s.time.cycle + x.sub) (lineBytes s x.x0 x.x1 x.x2) s

/-! ## The window sums (R136, R137) -/

/-- The verdict of a window: a sum at or above the set threshold detects; a sum below the clear threshold counts toward
clearing. The new clear run, and whether to detect and to clear. -/
def judgeSum (det : Bool) (sum set_ clr wins run : Nat) : Nat × Bool × Bool :=
  if set_ ≤ sum then (0, true, false)
  else if det && decide (sum < clr) then (run + 1, false, decide (wins ≤ run + 1))
  else (0, false, false)

/-- One path's 100-frame window. -/
def pathSf (p : Nat) (s : State) : State :=
  if rd s (FRMD.PATH_EN p) = 0 then s else
  let u := aget s.line.paths p {}
  let skip := u.skipSf || s.line.skipSf
  let (r, d, c) := judgeSum (bit (rd s (FRMD.P_DETECTED p)) 1) u.errSf (rd s FRMD.PSF_SET) (rd s FRMD.PSF_CLR) (rd s FRMD.SF_CLR_WIN) u.clrSf
  let u := { u with errSf := 0, skipSf := false, clrSf := if skip then u.clrSf else r }
  let s := { s with line := { s.line with paths := aset s.line.paths p u } }
  if skip then s else if d then setDetPath p 1 s else if c then clrDetPath p 1 s else s

/-- One path's 10,000-frame window. -/
def pathSd (p : Nat) (s : State) : State :=
  if rd s (FRMD.PATH_EN p) = 0 then s else
  let u := aget s.line.paths p {}
  let skip := u.skipSd || s.line.skipSd
  let (r, d, c) := judgeSum (bit (rd s (FRMD.P_DETECTED p)) 2) u.errSd (rd s FRMD.PSD_SET) (rd s FRMD.PSD_CLR) (rd s FRMD.SD_CLR_WIN) u.clrSd
  let u := { u with errSd := 0, skipSd := false, clrSd := if skip then u.clrSd else r }
  let s := { s with line := { s.line with paths := aset s.line.paths p u } }
  if skip then s else if d then setDetPath p 2 s else if c then clrDetPath p 2 s else s

/-- The end of a 100-frame window: the section's SF and the paths' PATH_SF, unless the window is skipped (R136, R137). -/
def sfWindow (s : State) : State :=
  let l := s.line
  let (r, d, c) := judgeSum (bit (rd s FRMD.DETECTED) 3) l.sumSf (rd s FRMD.SF_SET) (rd s FRMD.SF_CLR) (rd s FRMD.SF_CLR_WIN) l.clrSf
  let s := forEach (List.range 16) pathSf s
  let s := { s with line := { s.line with
    sumSf := 0, clrSf := if l.skipSf then l.clrSf else r, sfAt := some s.time.sc
    skipSf := decide (rd s FRMD.DETECTED % 8 ≠ 0) } }
  if l.skipSf then s else if d then setDet 3 s else if c then clrDet 3 s else s

/-- The end of a 10,000-frame window. -/
def sdWindow (s : State) : State :=
  let l := s.line
  let (r, d, c) := judgeSum (bit (rd s FRMD.DETECTED) 4) l.sumSd (rd s FRMD.SD_SET) (rd s FRMD.SD_CLR) (rd s FRMD.SD_CLR_WIN) l.clrSd
  let s := forEach (List.range 16) pathSd s
  let s := { s with line := { s.line with
    sumSd := 0, clrSd := if l.skipSd then l.clrSd else r, sdAt := some s.time.sc
    skipSd := decide (rd s FRMD.DETECTED % 8 ≠ 0) } }
  if l.skipSd then s else if d then setDet 4 s else if c then clrDet 4 s else s

/-- The 100-frame window ends in the present cycle and is not evaluated yet (R136). -/
def sfDue (s : State) : Bool := decide (scPhase s = 0 ∧ scFrame s % 100 = 0 ∧ s.line.sfAt ≠ some s.time.sc)

/-- The 10,000-frame window ends in the present cycle and is not evaluated yet (R136). -/
def sdDue (s : State) : Bool := decide (scPhase s = 0 ∧ scFrame s % 10000 = 0 ∧ s.line.sdAt ≠ some s.time.sc)

/-- The windows that end in a cycle are evaluated together, and the declarations follow all of them (R136, R138). -/
def windowsEnd (s : State) : State :=
  if enabled s 0x0A then declare (when (sdDue s) sdWindow (when (sfDue s) sfWindow s)) else s

/-- SF_WINDOW: due once at each SC frame count that is a multiple of 100. -/
def execSfWindow (t : Nat) (s : State) : Out := ev t s fun s => if sfDue s then windowsEnd s else s

/-- SD_WINDOW: due once at each SC frame count that is a multiple of 10,000. -/
def execSdWindow (t : Nat) (s : State) : Out := ev t s fun s => if sdDue s then windowsEnd s else s

/-! ## Enables (R130, R137, R144) -/

/-- A path's EN changes: its windows that are running are skipped and its runs of frames end; what is detected stays detected (R136,
R137). -/
def pathEnable (p : Nat) (s : State) : State :=
  let u := (aget s.line.paths p {}).endRuns
  { s with line := { s.line with paths := aset s.line.paths p { u with errSf := 0, errSd := 0, skipSf := true, skipSd := true } } }

/-- FRMD's ENABLE changes: 0 holds delineation in HUNT and leaves the second unclassified; 1 starts the stamps of R136 and
PARTIAL bins (R130, R140, R144). -/
def frmdEnable (on : Bool) (s : State) : State :=
  let s := { s with pmon := { s.pmon with sec := { s.pmon.sec with off := true } } }
  if on then
    let b := freshBin s
    { s with
      line := { s.line with outAt := s.time.cycle, skipSf := true, skipSd := true }
      lane := { s.lane with linkBad := if linkLost (rd s LANE.LINK) then s.time.cycle else s.lane.linkBad }
      pmon := { s.pmon with bin15 := { s.pmon.bin15 with cur := b }, binDay := { s.pmon.binDay with cur := b } } }
  else dropSync s

end Sys2Proof.Machine
end

