-- ==== Sys2Proof/Machine/Rings.lean ====
section
/-! DEFINITION. The host DMA rings (R433 to R436): doorbells, completions, the messages of RING vectors, frames read from TX
rings, and the egress of ports 16 to 18. -/
namespace Sys2Proof.Machine

/-! ## MSI-X messages (R432) -/

/-- The RING vectors that name a ring. -/
def ringVecs (s : State) (ring : Nat) : List Nat :=
  (List.range 32).filter fun v => decide (rd s (HOST.VEC_KIND v) = 2 ∧ rd s (HOST.VEC_RING v) = ring)

/-- A ring has written a completion: each vector that names it counts it, and sends its message at COAL_COUNT (R432). -/
def announce (ring : Nat) (s : State) : State :=
  forEach (ringVecs s ring) (fun v s =>
    let (n, first) := aget s.host.coal v (0, s.time.cycle)
    if rd s (HOST.COAL_COUNT v) ≤ n + 1 then msixSend v { s with host := { s.host with coal := adel s.host.coal v } }
    else { s with host := { s.host with coal := aset s.host.coal v (n + 1, first) } }) s

/-- COAL_TIMEOUT of a vector: due COAL_US after its first completion not yet announced (R432). -/
def execCoalTimeout (t : Nat) (vec : Nat) (s : State) : Out :=
  ev t s fun s =>
    match s.host.coal.find? (fun e => e.1 == vec) with
    | some (_, _, first) =>
      if first + 400 * rd s (HOST.COAL_US vec) ≤ s.time.cycle then
        msixSend vec { s with host := { s.host with coal := adel s.host.coal vec } }
      else s
    | none => s

/-- VEC_REARM: each named ATTN vector whose expression is non-zero sends its message again (R432). -/
def vecRearmCmd (p : Port) (v : Nat) (s : State) : State :=
  fabricCmd p 0x80 0x180 none []
    (fun s =>
      forEach ((List.range 32).filter fun k => bit v k && decide (rd s (HOST.VEC_KIND k) = 1) && vecExpr s s.attn.sum k) msixSend s) s

/-- VEC_REARM from a fabric port, with the word written. -/
def execVecRearm (t : Nat) (p : Port) (v : Nat) (s : State) : Out := evPort p t s (vecRearmCmd p v)

/-- A vector is masked or unmasked in the MSI-X table; an unmasked vector sends what it holds pending (R432). -/
def vecMaskWrite (v : Nat) (mask : Bool) (s : State) : State :=
  let s := { s with host := { s.host with vecMasked := (if mask then [v] else []) ++ s.host.vecMasked.filter (· != v) } }
  if !mask && s.host.pba.contains v then msixSend v { s with host := { s.host with pba := s.host.pba.filter (· != v) } } else s

/-! ## Ring registers (R433, R434) -/

/-- EN of a ring: 0 to 7 deck, 8 to 15 RX, 16 to 23 TX. -/
def ringEn (n : Nat) : Fld := if n < 8 then CTXQ.RING_EN n else if n < 16 then HOST.RX_EN (n - 8) else HOST.TX_EN (n - 16)
/-- HEAD of a ring. -/
def ringHead (n : Nat) : Fld := if n < 8 then CTXQ.RING_HEAD n else if n < 16 then HOST.RX_HEAD (n - 8) else HOST.TX_HEAD (n - 16)
/-- TAIL of a ring. -/
def ringTail (n : Nat) : Fld := if n < 8 then CTXQ.RING_TAIL n else if n < 16 then HOST.RX_TAIL (n - 8) else HOST.TX_TAIL (n - 16)
/-- RING_DONE of a ring. -/
def ringDone (n : Nat) : Fld := if n < 8 then CTXQ.RING_DONE n else if n < 16 then HOST.RX_DONE (n - 8) else HOST.TX_DONE (n - 16)
/-- CPL_BASE of a ring. -/
def ringCpl (n : Nat) : Fld := if n < 8 then CTXQ.CPL_BASE n else if n < 16 then HOST.RX_CPL_BASE (n - 8) else HOST.TX_CPL_BASE (n - 16)
/-- LOG2SIZE of a ring. -/
def ringLog (n : Nat) : Fld := if n < 8 then CTXQ.RING_SIZE n else if n < 16 then HOST.RX_SIZE (n - 8) else HOST.TX_SIZE (n - 16)
/-- Slots of a ring. -/
def ringSlots (s : State) (n : Nat) : Nat := 2 ^ rd s (ringLog n)
/-- Descriptors a ring holds: it is empty when HEAD equals TAIL (R433). -/
def ringHeld (s : State) (n : Nat) : Nat := (rd s (ringTail n) + ringSlots s n - rd s (ringHead n)) % ringSlots s n

/-- The host DMA writes bytes at an address. -/
def dmaWrite (addr : Nat) (b : List Nat) (s : State) : State :=
  { s with host := { s.host with dma := s.host.dma ++ [(addr, b)] } }

/-- A completion of descriptor slot i goes to completion slot i (R433). -/
def complete (n i : Nat) (b : List Nat) (s : State) : State :=
  announce n (inc (ringDone n) (dmaWrite (rd s (ringCpl n) + 16 * i) b s))

/-- HEAD moves past a descriptor; a wrap toggles PHASE (R434). -/
def ringNext (n : Nat) (s : State) : State :=
  let h := rd s (ringHead n) + 1
  if h < ringSlots s n then wr (ringHead n) h s
  else
    let w := s.host.wrapped
    { wr (ringHead n) 0 s with host := { s.host with wrapped := if w.contains n then w.filter (· != n) else n :: w } }

/-- FLAGS bit 7 of a completion: PHASE, 1 in the first pass (R434). -/
def phaseFlag (s : State) (n : Nat) : Nat := if s.host.wrapped.contains n then 0 else 128

/-- The host DMA runs: the function is not in D3hot (R431). -/
def dmaRuns (s : State) : Bool := !s.host.msixStopped && bulkRuns s

/-! ## Doorbells (R430, R433) -/

/-- A write to BAR2 is discarded (R430, R433). -/
def dbBad (s : State) : State := s |> inc HOST.DB_BAD |> raise 0x80 0

/-- A write to BAR2: a doorbell sets TAIL; the MSI-X table takes a vector's mask, the PBA takes nothing; every other offset is discarded (R430, R432,
R433). -/
def doorbell (off v : Nat) (word32 : Bool) (s : State) : State :=
  if off < 0x60 then
    let n := off / 4
    if !word32 || decide (off % 4 ≠ 0) || decide (rd s (ringEn n) = 0) || decide (ringSlots s n ≤ v) then dbBad s
    else wr (ringTail n) v s
  else if 0x1000 ≤ off ∧ off < 0x1200 then
    if off % 16 = 12 then vecMaskWrite ((off - 0x1000) / 16) (bit v 0) s else s
  else if 0x2000 ≤ off ∧ off < 0x2008 then s
  else inc HOST.DB_BAD s

/-- DOORBELL: a PCIe write at an offset of BAR2. -/
def execDoorbell (t : Nat) (off v : Nat) (word32 : Bool) (s : State) : Out := ev t s (doorbell off v word32)

/-! ## TX rings (R434, R436) -/

/-- The rings of a kind in round-robin order after the one visited last. -/
def ringOrder (last : Nat) : List Nat := (List.range 8).map fun k => (last + 1 + k) % 8

/-- A bus error of the host DMA. -/
def busError (s : State) : State := s |> inc HOST.BUS_ERRORS |> raise 0x80 1

/-- The descriptors up to the first with EOP; none where no EOP stands among them. -/
def toEop (l : List (List Nat)) : Option (List (List Nat)) :=
  match l with
  | [] => none
  | d :: r => if bit (d.getD 10 0) 0 then some [d] else (toEop r).map (d :: ·)

/-- The completions of a frame's descriptors: STATUS and the frame's LEN on the last (R434). -/
def txComplete (n status len : Nat) (k : Nat) (s : State) : State :=
  match k with
  | 0 => s
  | k + 1 =>
    let last := decide (k = 0)
    let b := [if last then status else 0, phaseFlag s n] ++ toLe 2 (if last then len else 0) ++ zeros 12
    txComplete n status len k (ringNext n (complete n (rd s (ringHead n)) b s))

/-- A frame read from the TX ring whose turn it is: its descriptors, its bytes, and whether a read failed (R434, R436). -/
def hostTx (descs : List (List Nat)) (data : List Nat) (err : Bool) (s : State) : State :=
  match (ringOrder s.host.lastTx).find? (fun r => decide (rd s (HOST.TX_EN r) = 1 ∧ ringHeld s (16 + r) ≠ 0)), toEop descs with
  | some r, some ds =>
    if ringHeld s (16 + r) < ds.length ∨ dmaRuns s = false then s else
    let len := (ds.map fun d => le (slice d 8 2)).foldl (· + ·) 0
    let bad := ds.any (fun d => decide (slice d 11 5 ≠ zeros 5)) || decide (len < 64 ∨ 9728 < len)
    let s := { s with host := { s.host with lastTx := r } }
    if err then busError (dropAt 18 1 (txComplete (16 + r) 0x21 len ds.length s))
    else if bad then dropAt 18 1 (txComplete (16 + r) 1 len ds.length s)
    else ingress 18 (fit len data) (txComplete (16 + r) 0 len ds.length s)
  | _, _ => s

/-- HOST_TX_FRAME: the descriptors and bytes of a frame read whole from a TX ring (R436). -/
def execHostTxFrame (t : Nat) (descs : List (List Nat)) (data : List Nat) (err : Bool) (s : State) : Out :=
  ev t s (hostTx descs data err)

/-! ## Egress (R182, R187, R197, R435, R438) -/

/-- Bytes a buffer of an RX ring holds (R458). -/
def rxBuf (s : State) (r : Nat) : Nat := max 1 (rd s (HOST.RX_BUF_SIZE r)) * 256

/-- Port 18 can take a frame: every enabled RX ring holds enough descriptors for 9,728 bytes (R435). -/
def hostReady (s : State) : Bool :=
  dmaRuns s && (List.range 8).all fun r =>
    decide (rd s (HOST.RX_EN r) = 0) || decide ((9728 + rxBuf s r - 1) / rxBuf s r ≤ ringHeld s (8 + r))

/-- An Ethernet port's LINK: port 16 is ETH0, 17 ETH1 (R438). -/
def ethLink (s : State) (port : Nat) : Bool := decide (rd s (ETH.E_LINK (port - 16)) = 1)

/-- The Ethernet ports the variant fits (R3). -/
def ethFitted (v : Variant) (port : Nat) : Bool := sourceFitted v port

/-- The downstream ports the engine may serve: a transmitter that is ready, and one whose link is down, where frames are dropped
(R187, R435, R438). -/
def egressPorts (s : State) (ready : List Nat) : List Nat :=
  ([16, 17].filter fun p => ethFitted s.fuse.variant p && (ready.contains p || !ethLink s p))
    ++ (if ready.contains 18 && hostReady s then [18] else [])

/-- The buffers of an RX frame: for each, the data written and the completion (R434). -/
def rxWrite (fuel r : Nat) (first : Bool) (bufs d : List Nat) (info : List Nat) (s : State) : State :=
  match fuel with
  | 0 => s
  | fuel + 1 =>
    let n := rxBuf s r
    let eop := decide (d.length ≤ n)
    let len := min n d.length
    let flags := b2n first + 2 * b2n eop + phaseFlag s (8 + r)
    let s := dmaWrite (bufs.headD 0) (d.take n) s
    let s := ringNext (8 + r) (complete (8 + r) (rd s (ringHead (8 + r))) (toLe 2 len ++ [flags] ++ info) s)
    if eop then s else rxWrite fuel r false (bufs.drop 1) (d.drop n) info s

/-- A frame leaves at port 18: to the RX ring its PCP names, or RX_DEFAULT untagged; dropped where the ring is disabled
(R435). -/
def hostEgress (bufs : List Nat) (x : SFrame) (s : State) : State :=
  let d := rewritten s x.frame
  let pcp := (vlanOf d).2.1
  let r := if isTagged d then pcp else rd s HOST.RX_DEFAULT
  if rd s (HOST.RX_EN r) = 0 then freeFrame false x.frame (inc HOST.RX_DISABLED_DROPS s)
  else
    let info := [x.frame.src, ptypeOf s x.frame, pcp, 0, 0] ++ toLe 8 (scReg x.frame.enq)
    let s := { s with tm := { s.tm with lastOut := some (18, d) } }
    frameLeaves 18 x.queue false x.frame (inc HOST.RX_FRAMES (rxWrite (d.length + 1) r true bufs d info s))

/-- The MAC generates the FCS of a frame it sends (R437). -/
def withFcs (d : List Nat) : List Nat := let b := d.take (d.length - 4); b ++ toLe 4 (crc32 b)

/-- A frame leaves at an Ethernet port, or is dropped there while LINK is 0 (R438). -/
def ethEgress (port : Nat) (x : SFrame) (s : State) : State :=
  if ethLink s port then
    let s := { s with tm := { s.tm with lastOut := some (port, withFcs (rewritten s x.frame)) } }
    frameLeaves port x.queue false x.frame (inc (ETH.E_TX_FRAMES (port - 16)) s)
  else freeFrame false x.frame (inc (ETH.LINKDOWN_DROPS (port - 16)) s)

/-- EGRESS_FRAME: the downstream engine takes the frame the scheduler chooses for the ports that can take one, and its last
byte leaves (R187, R197). -/
def egress (ready bufs : List Nat) (s : State) : State :=
  if enabled s 0x10 = false ∨ tmHalted s = true ∨ bulkRuns s = false then s else
  match takeFrame s (egressPorts s ready) with
  | none => s
  | some (s', x) =>
    let port := queuePort s x.queue
    resetIdle x.queue (if port = 18 then hostEgress bufs x s' else ethEgress port x s')

/-- EGRESS_FRAME: the downstream ports whose transmitters can take a frame, and the buffer addresses in the next descriptors of
the RX ring. -/
def execEgressFrame (t : Nat) (ready bufs : List Nat) (s : State) : Out := ev t s (egress ready bufs)

end Sys2Proof.Machine
end

