-- ==== Sys2Proof/Machine/Jobs.lean ====
section
/-! DEFINITION. Host jobs of the cipher deck (R211 to R213, R227 to R230): descriptors, context records, checks, results and
completions. -/
namespace Sys2Proof.Machine

/-! ## Descriptors and context records (R227 to R229) -/

/-- OP of a descriptor: 1 CTR, 2 GCM_ENC, 3 GCM_DEC, 4 CMAC_GEN, 5 CMAC_VER, 6 KW_WRAP, 7 KW_UNWRAP (R229). -/
def jobOp (d : List Nat) : Nat := d.getD 0 0
/-- A flag of byte 1 of a descriptor: 4 REL, 3 FINAL, 2 CTX_WRAP, 1 CTX_OUT, 0 CTX_IN (R229). -/
def jobFlag (d : List Nat) (b : Nat) : Bool := bit (d.getD 1 0) b
/-- KEY of a descriptor (R229). -/
def jobKey (d : List Nat) : Nat := le (slice d 2 2)
/-- IN_LEN of a descriptor (R229). -/
def jobLen (d : List Nat) : Nat := le (slice d 4 4)
/-- AAD_LEN of a descriptor (R229). -/
def jobAad (d : List Nat) : Nat := le (slice d 8 4)
/-- TAG_LEN of a descriptor (R229). -/
def jobTag (d : List Nat) : Nat := d.getD 12 0

/-- The slot a descriptor names: from the active host bank's base with REL (R224, R229). -/
def jobSlot (s : State) (d : List Nat) : Nat :=
  if jobFlag d 4 then 96 + 80 * rd s KEYS.HOST_BANK + jobKey d else jobKey d

/-- The 64-byte record a job restores; none where the unwrap or the CRC fails (R227, R228). -/
def restoreRecord (d ctx : List Nat) : Option (List Nat) :=
  let r := if jobFlag d 2 then kwUnwrap (Config.deviceKey 68) (ctx.take 72) else some (fit 64 ctx)
  match r with
  | some r => if r.length = 64 ∧ crc32 (r.take 56) = le (slice r 56 4) then some r else none
  | none => none

/-- The bytes of the chain so far: AAD or CMAC message, and GCM payload (R211, R227). -/
def chainBytes (d ctx : List Nat) : Nat × Nat :=
  if jobFlag d 0 then
    match restoreRecord d ctx with
    | some r => (le (slice r 8 8), le (slice r 48 8))
    | none => (0, 0)
  else (0, 0)

/-! ## Checks (R211 to R213, R228, R230) -/

/-- The descriptor itself is out of range: an unknown OP, a non-zero reserved byte, or a KEY beyond the slots (R229, R230). -/
def jobForm (d : List Nat) : Bool :=
  decide (slice d 13 3 ≠ zeros 3 ∨ jobOp d = 0 ∨ 7 < jobOp d) || (jobFlag d 4 && decide (79 < jobKey d)) || decide (255 < jobKey d)

/-- The length rules of R211 and R213 fail; a key wrap is no chain. -/
def jobRange (d ctx : List Nat) : Bool :=
  let op := jobOp d
  let n := jobLen d
  let (a, p) := chainBytes d ctx
  let fin := jobFlag d 3
  let mid := !fin && (decide (n % 16 ≠ 0) || !jobFlag d 1)
  match op with
  | 1 => decide (n = 0 ∨ 16384 < n ∨ jobAad d ≠ 0) || mid
  | 2 | 3 => decide (1048576 < p + n ∨ 4096 < jobAad d) || (jobFlag d 0 && decide (jobAad d ≠ 0)) || mid
      || (fin && decide (jobTag d < 12 ∨ 16 < jobTag d))
  | 4 | 5 => decide (65536 < a + n ∨ jobAad d ≠ 0) || mid || (fin && decide (jobTag d < 8 ∨ 16 < jobTag d))
  | 6 => decide (n < 16 ∨ 4096 < n ∨ n % 8 ≠ 0 ∨ jobAad d ≠ 0)
  | 7 => decide (n < 24 ∨ 4104 < n ∨ n % 8 ≠ 0 ∨ jobAad d ≠ 0)
  | _ => false

/-- The status of a job that fails a check at its fetch, in the order of R85: SEALED, RANGE, AUTH, STATE, and whether JOBS_REFUSED
counts it, as a failure of R212 or R228; none where it passes (R212, R213, R228, R230, R240). -/
def jobCheck (s : State) (d ctx : List Nat) : Option (Nat × Bool) :=
  let k := keySlot s (jobSlot s d)
  let record := restoreRecord d ctx
  let wrong := match record with
    | some r => decide (r.getD 0 0 ≠ jobOp d ∨ le (slice r 4 4) ≠ k.gen)
    | none => false
  let clearSave := jobFlag d 1 && !jobFlag d 2 && k.valid && k.secret
  if (!jobFlag d 4 && decide (jobKey d < 96)) || clearSave then some (0x04, clearSave)
  else if jobForm d || jobRange d ctx then some (0x01, jobRange d ctx)
  else if jobFlag d 0 && record.isNone then some (0x0C, true)
  else if !k.valid || (jobFlag d 0 && wrong) then some (0x08, jobFlag d 0)
  else none

/-- The cipher blocks of a job: those of its payload, at least one; six a semi-block for KW. -/
def jobBlocks (d : List Nat) : Nat :=
  if jobOp d = 6 then 6 * (jobLen d / 8) else if jobOp d = 7 then 6 * (jobLen d / 8 - 1) else max 1 ((jobLen d + 15) / 16)

/-- Jobs that run: fetched, not ended (R229). -/
def jobsRunning (s : State) : Nat := (s.deck.jobs.filter fun j => j.ended.isNone).length

/-- A job is fetched from the enabled ring whose turn it is, and checked (R212, R229). -/
def fetchJob (desc ctx : List Nat) (s : State) : State :=
  match (ringOrder s.deck.lastRing).find? (fun r => decide (rd s (CTXQ.RING_EN r) = 1 ∧ ringHeld s r ≠ 0)) with
  | some r =>
    if rd s (DEAL.MAX_HELD 3) ≤ jobsRunning s ∨ dmaRuns s = false then s else
    let d := fit 64 desc
    let i := rd s (CTXQ.RING_HEAD r)
    let st := jobCheck s d ctx
    let c := if jobFlag d 0 then (restoreRecord d ctx).getD [] else ctx
    let j : Job := { ring := r, index := i, desc := d, slot := jobSlot s d, ctx := c, left := jobBlocks d, ended := st.map (·.1)
                     refused := st.isSome, counted := (st.map (·.2)).getD false }
    ringNext r { s with deck := { s.deck with lastRing := r, jobs := s.deck.jobs ++ [j] } }
  | none => s

/-- HOST_JOB: the descriptor's 64 bytes, and the context record, counter block or IV that CTX_ADDR names (R229). -/
def execHostJob (t : Nat) (desc ctx : List Nat) (s : State) : Out := ev t s (fetchJob desc ctx)

/-! ## Results (R211, R227, R230) -/

/-- What a finished job gives: its STATUS, its output, the tag it computes, and the fields of the context record it saves: the
AAD or message bytes so far, the counter or held block, the accumulator, the payload bytes so far, and whether a block is held. -/
structure JobResult where
  status : Nat := 0
  out : List Nat := []
  tag : List Nat := []
  aad : Nat := 0
  ctr : Nat := 0
  acc : Nat := 0
  pay : Nat := 0
  held : Bool := false
  deriving DecidableEq, Repr

/-- CTR: the counter block goes on modulo 2 to the 128 (R211). -/
def ctrJob (k : KeySlot) (j : Job) (input : List Nat) : JobResult :=
  let c := if jobFlag j.desc 0 then be (slice j.ctx 16 16) else be (j.ctx.take 16)
  { out := ctrBytes k.key c input, ctr := (c + (input.length + 15) / 16) % 2 ^ 128 }

/-- GCM: the accumulator and counter go on from the record; the tag is made in the final job (R211, R213, R227). -/
def gcmJob (k : KeySlot) (j : Job) (input aad tag : List Nat) : JobResult :=
  let again := jobFlag j.desc 0
  let iv := if again then be (slice j.ctx 16 12) else be (j.ctx.take 12)
  let c := if again then be (slice j.ctx 16 16) else iv * 2 ^ 32 + 2
  let h := aesBlock k.key 0
  let acc := if again then be (slice j.ctx 32 16) else ghash h 0 aad
  let out := gctrBytes k.key c input
  let acc := ghash h acc (if jobOp j.desc = 2 then out else input)
  let a := (if again then le (slice j.ctx 8 8) else 0) + aad.length
  let p := (if again then le (slice j.ctx 48 8) else 0) + input.length
  let full := (toBe 16 (gcmFinal k.key iv acc a p)).take (jobTag j.desc)
  let bad := jobFlag j.desc 3 && decide (jobOp j.desc = 3 ∧ full ≠ tag.take (jobTag j.desc))
  { status := if bad then 0x0C else 0, out := out, tag := if jobFlag j.desc 3 then full else [], aad := a
    ctr := inc32 c ((input.length + 15) / 16), acc := acc, pay := p }

/-- CMAC: the last full block is held back until the final job (R211, R227). -/
def cmacJob (k : KeySlot) (j : Job) (input tag : List Nat) : JobResult :=
  let again := jobFlag j.desc 0
  let held := if again && bit (j.ctx.getD 1 0) 1 then slice j.ctx 16 16 else []
  let acc := if again then be (slice j.ctx 32 16) else 0
  let l := held ++ input
  let bs := blocksBy l.length 16 l
  let acc := cmacChain k.key acc bs.dropLast
  let last := bs.getLastD []
  let full := (toBe 16 (cmacLast k.key acc last)).take (jobTag j.desc)
  let fin := jobFlag j.desc 3
  let bad := fin && decide (jobOp j.desc = 5 ∧ full ≠ tag.take (jobTag j.desc))
  { status := if bad then 0x0C else 0, tag := if fin then full else []
    aad := (if again then le (slice j.ctx 8 8) else 0) + input.length, ctr := be last, acc := acc, held := decide (last ≠ []) }

/-- The result of a job over its input, AAD and the tag to compare (R211). -/
def jobResult (k : KeySlot) (j : Job) (input aad tag : List Nat) : JobResult :=
  match jobOp j.desc with
  | 1 => ctrJob k j input
  | 2 | 3 => gcmJob k j input aad tag
  | 4 | 5 => cmacJob k j input tag
  | 6 => { out := kwWrap k.key input }
  | _ => match kwUnwrap k.key input with
    | some o => { out := o }
    | none => { status := 0x0C }

/-- The context record a job saves; a key wrap has no MODE in the table (R227, log 217). -/
def saveRecord (k : KeySlot) (j : Job) (r : JobResult) : List Nat :=
  if 6 ≤ jobOp j.desc then fit 64 ((Config.kwRecord j.desc).map (· % 256)) else
  let b := [jobOp j.desc, k.keylen * 64 + 2 * b2n r.held + 1] ++ toLe 2 j.slot ++ toLe 4 k.gen ++ toLe 8 r.aad ++ toBe 16 r.ctr
    ++ toBe 16 r.acc ++ toLe 8 r.pay
  b ++ toLe 4 (crc32 b) ++ zeros 4

/-- A hand's output where the mode gives it hand by hand: CTR and GCM over the input that follows what earlier hands read (R211, R230). -/
def handOut (k : KeySlot) (j : Job) (input : List Nat) : List Nat :=
  let n := j.input.length / 16
  let again := jobFlag j.desc 0
  if jobOp j.desc = 1 then
    ctrBytes k.key (((if again then be (slice j.ctx 16 16) else be (j.ctx.take 16)) + n) % 2 ^ 128) input
  else if jobOp j.desc ≤ 3 then
    gctrBytes k.key (inc32 (if again then be (slice j.ctx 16 16) else be (j.ctx.take 12) * 2 ^ 32 + 2) n) input
  else []

/-- The input that a hand of n blocks reads: 16 bytes a block; the first hand of a key wrap reads all. -/
def handInput (j : Job) (n : Nat) : Nat :=
  if jobOp j.desc ≤ 5 then min (16 * n) (jobLen j.desc - j.input.length) else jobLen j.desc - j.input.length

/-- A hand of a job ends: its input is read and its output written (R210, R230, R234). -/
def jobHand (j : Job) (n : Nat) (input : List Nat) (s : State) : State :=
  let input := fit (handInput j n) input
  let out := handOut (keySlot s j.slot) j input
  let j' := { j with left := j.left - n, input := j.input ++ input }
  let s := { s with deck := { s.deck with jobs := s.deck.jobs.map fun x => if x = j then j' else x } }
  when (decide (out ≠ [])) (dmaWrite (le (slice j.desc 24 8) + j.input.length) out) s

/-- A job's DMA writes at its end: the output of a key wrap, the tag and the saved context (R228 to R230). -/
def jobWrites (k : KeySlot) (j : Job) (r : JobResult) (s : State) : State :=
  let d := j.desc
  let s := when (decide (6 ≤ jobOp d ∧ r.out ≠ [])) (dmaWrite (le (slice d 24 8)) r.out) s
  if r.status ≠ 0 then s else
  let s := when (decide (r.tag ≠ [] ∧ (jobOp d = 2 ∨ jobOp d = 4))) (dmaWrite (le (slice d 48 8)) r.tag) s
  let rec_ := saveRecord k j r
  when (jobFlag d 1) (dmaWrite (le (slice d 40 8)) (if jobFlag d 2 then kwWrap (Config.deviceKey 68) rec_ else rec_)) s

/-- A job's completion is written and counted (R230, R240). -/
def jobComplete (j : Job) (status bytes : Nat) (s : State) : State :=
  let s := { s with deck := { s.deck with jobs := s.deck.jobs.erase j } }
  let s := complete j.ring j.index ([status, 0, 0, 0] ++ toLe 4 bytes ++ slice j.desc 56 8) s
  let s := if j.counted then inc CTXQ.JOBS_REFUSED s
    else if j.refused then s
    else if status = 0 then inc CTXQ.JOBS_DONE s
    else if status = 0x0C then inc CTXQ.JOBS_AUTH s
    else if status = 0x20 then raise 0x23 1 (inc CTXQ.JOBS_DEALT_OUT s)
    else busError s
  when (decide (status ≠ 0)) (raise 0x23 0) s

/-- Bytes of output that whole hands have written: CTR and GCM write hand by hand (R230, R234). -/
def jobWritten (j : Job) : Nat := if jobOp j.desc ≤ 3 then j.input.length else 0

/-- The oldest job of a ring ends (R230): its checks failed, a reclaim took its engine, a DMA access failed, or all its blocks
are done. -/
def jobDone (ring : Nat) (aad tag : List Nat) (err : Bool) (s : State) : State :=
  match s.deck.jobs.find? (fun j => j.ring == ring) with
  | none => s
  | some j =>
    let k := keySlot s j.slot
    match j.ended with
    | some st => jobComplete j st (jobWritten j) s
    | none =>
      if err then jobComplete j 0x21 (jobWritten j) s
      else if j.left ≠ 0 then s
      else
        let r := jobResult k j j.input (fit (jobAad j.desc) aad) tag
        jobComplete j r.status (if jobOp j.desc = 7 ∧ r.status ≠ 0 then 0 else jobLen j.desc) (jobWrites k j r s)

end Sys2Proof.Machine
end

