-- ==== Sys2Proof/Machine/Deal.lean ====
section
/-! DEFINITION. The Dealer (R209, R210, R231 to R236): which seat an engine goes to, the hands it works in, its release and its
reclaim. -/
namespace Sys2Proof.Machine

/-! ## A round (R231 to R233, R236) -/

/-- The lowest-numbered grantable engine: in POOL, not released in this cycle, and not due for retirement (R231, R474). -/
def grantable (s : State) : Option Nat :=
  (List.range (Variant.engines s.fuse.variant)).find? fun e =>
    decide (rd s (DEAL.ENG_STATE e) = 0) && !s.deck.freed.contains (e, s.time.cycle) && !s.rpr.engDue.contains e

/-- A seat's effective priority: ANTE climbs with LOST to CEILING, HINT stays at BASE (R233). -/
def seatEff (s : State) (seat : Nat) : Nat :=
  if rd s (DEAL.SEAT_MODE seat) = 1 then rd s (DEAL.BASE seat)
  else min (rd s (DEAL.BASE seat) + rd s (DEAL.SEAT_LOST seat)) (rd s (DEAL.CEILING seat))

/-- How recent a seat's last win is among the seats that have won, 0 for a seat that has not won since reset (R232). -/
def winAge (s : State) (x : Nat) : Nat := s.deck.lastWin.length - s.deck.lastWin.idxOf x

/-- Seat a ranks ahead of seat b: higher priority, then the older last win, a seat that has not won since reset being older
than any and the lower number among those (R232). -/
def ranksAhead (s : State) (a b : Nat) : Bool :=
  let ea := seatEff s a
  let eb := seatEff s b
  decide (eb < ea ∨ (ea = eb ∧ (winAge s a < winAge s b ∨ (winAge s a = winAge s b ∧ a < b))))

/-- The seat that wins among the requesting seats (R232). -/
def winner (s : State) (seats : List Nat) : Option Nat :=
  seats.find? fun a => seats.all fun b => a == b || ranksAhead s a b

/-- Insert an end into a rising list. -/
def insEnd (l : List Nat) (n : Nat) : List Nat :=
  match l with
  | [] => [n]
  | x :: r => if n ≤ x then n :: x :: r else x :: insEnd r n

/-- The predicted end of a held engine's hand: what it was at the grant, or, for a hand of seat 3 whose data stalls, the blocks
that remain times the block cycles (R233). -/
def handEnd (s : State) (stalled : List (Nat × Nat)) (h : Nat × Hand) : Nat :=
  match stalled.find? (fun x => x.1 == h.1 && decide (rd s (DEAL.ENG_SEAT h.1) = 3)) with
  | some x => s.time.cycle + min x.2 h.2.blocks * blockCycles ((h.2.slot.map fun n => (keySlot s n).keylen).getD 0) * bulkDiv s
  | none => h.2.endAt

/-- HINT of a losing seat: the cycles to the predicted end of the k-th earliest hand, plus 1 (R233). -/
def hintFor (s : State) (stalled : List (Nat × Nat)) (k : Nat) : Nat :=
  let ends := (s.deck.hands.map (handEnd s stalled)).foldl insEnd []
  match ends[k - 1]? with
  | some e => min 4095 (e - s.time.cycle + 1)
  | none => 4095

/-- The hand a seat is granted: seats 0, 1 and 3 work HAND_BLOCKS blocks at most, seats 2 and 4 the length they declare (R210,
R233). -/
def handOf (s : State) (seat declared : Nat) (w : SeatWork) : Hand :=
  let n := min (rd s (DEAL.HAND_BLOCKS seat)) w.blocks
  let long := if seat = 2 ∨ seat = 4 then declared else 2 + n * blockCycles w.keylen
  { start := s.time.cycle, endAt := s.time.cycle + long * bulkDiv s, blocks := n, slot := w.slot, work := w.work }

/-- A seat loses a round: LOST, its run, STARVED once at its CEILING or in HINT mode (R233, R236). -/
def loseRound (seat : Nat) (s : State) : State :=
  let lost := min 15 (rd s (DEAL.SEAT_LOST seat) + 1)
  let run := aget s.deck.lostRun seat 0 + 1
  let s := { s with deck := { s.deck with lostRun := aset s.deck.lostRun seat run } }
  let atTop := decide (rd s (DEAL.SEAT_MODE seat) = 1 ∨ rd s (DEAL.CEILING seat) ≤ seatEff s seat)
  let s := wr (DEAL.SEAT_LOST seat) lost s
  if atTop ∧ rd s DEAL.STARVE_ROUNDS ≤ run ∧ seat ∉ s.deck.starved then
    { raise 0x21 1 s with deck := { s.deck with starved := seat :: s.deck.starved } }
  else s

/-- The grant: the engine goes from POOL to HELD (R232, R235). -/
def grantEngine (e seat : Nat) (h : Hand) (s : State) : State :=
  let s := s |> wr (DEAL.ENG_STATE e) 2 |> wr (DEAL.ENG_SEAT e) seat |> inc (DEAL.SEAT_WINS seat) |> wr (DEAL.SEAT_LOST seat) 0
  { s with deck := { s.deck with
      hands := aset s.deck.hands e h, lastWin := seat :: s.deck.lastWin.filter (· != seat), lostRun := adel s.deck.lostRun seat
      starved := s.deck.starved.filter (· != seat) } }

/-- A round: one grant, and what the losing seats and those that do not request keep (R232, R233, R236). -/
def dealRound (declared : Nat) (stalled : List (Nat × Nat)) (s : State) : State :=
  let req := (List.range 5).filter (seatRequests s)
  match grantable s, winner s req with
  | some e, some w =>
    match seatWork s w with
    | none => s
    | some work =>
      let losers := req.filter (· != w)
      let ranks := losers.map fun a => (a, 1 + (losers.filter fun b => b != a && ranksAhead s b a).length)
      let s := seatsIdle s
      let s := inc DEAL.ROUNDS { s with deck := { s.deck with lastRound := some s.time.cycle } }
      let s := forEach losers loseRound s
      let s := grantEngine e w (handOf s w declared work) s
      forEach (ranks.filter fun x => decide (rd s (DEAL.SEAT_MODE x.1) = 1)) (fun x s => wr (DEAL.SEAT_HINT x.1) (hintFor s stalled x.2) s) s
  | _, _ => s

/-- DEALER_ROUND: due in a cycle in which an engine is grantable and a seat requests; an ENGINE break stops new grants (R63,
R232). x is what the seats tell the Dealer (R233). -/
def execDealerRound (t : Nat) (x : Declared) (s : State) : Out :=
  ev t s fun s => if broken s 5 = true ∨ s.deck.lastRound = some s.time.cycle then s else dealRound x.cycles x.stalled s

/-! ## Release and reclaim (R210, R231, R234) -/

/-- An engine goes from HELD to POOL, grantable from the next cycle; one due for retirement retires in this cycle (R231, R235,
R474). -/
def freeEngine (e : Nat) (s : State) : State :=
  let s := s |> wr (DEAL.ENG_STATE e) 0 |> wr (DEAL.ENG_SEAT e) 0
  let s := { s with deck := { s.deck with hands := adel s.deck.hands e, freed := aset s.deck.freed e s.time.cycle } }
  when (s.rpr.engDue.contains e) (retireEngine e) s

/-- A block goes to the traffic manager, decrypted where it was encrypted (R139, R217, R218). -/
def deliverDec (b : DecBlock) (s : State) : State :=
  let s := { s with deck := { s.deck with dec := s.deck.dec.erase b } }
  match b.slot with
  | none => deliverUnits b.path b.payload s
  | some n =>
    let k := keySlot s n
    let ctr (i : Nat) : Nat := lineBlock k.salt (rd s ACTV.TERM_ID) b.path 0 b.frame i
    deliverUnits b.path (cryptUnits (b.payload.length + 1) k.key ctr b.off b.payload).1 s

/-- The blocks of a path are delivered in the order of the line: each that is done and has none of the path before it (R21). -/
def deliverReady (fuel path : Nat) (s : State) : State :=
  match fuel with
  | 0 => s
  | fuel + 1 =>
    match s.deck.dec.find? (fun b => b.path == path) with
    | some b => if b.left = 0 then deliverReady fuel path (deliverDec b s) else s
    | none => s

/-- Blocks of a decrypt block's work are done. -/
def decDone (work : List Nat) (n : Nat) (s : State) : State :=
  let dec := s.deck.dec.map fun b => if decWork b = work ∧ b.slot.isSome then { b with left := b.left - n } else b
  deliverReady s.deck.dec.length (work.headD 0) { s with deck := { s.deck with dec := dec } }

/-- Seat 4 has checked the first waiting message, or a reclaim made its check fail: AUTH_FAIL where the MIC does not hold (R223, R234,
R239). -/
def micChecked (reclaimed : Bool) (s : State) : State :=
  match toCheck s with
  | some (f, k, m) =>
    let ok := !reclaimed && micHolds s f k m
    when (!ok) (raise 0x22 1) { s with actv := { s.actv with mic := some ok } }
  | none => s

/-- Seat 4 has computed the MIC of a reply, which enters the upstream queue (R174, R223). -/
def replySigned (s : State) : State :=
  match s.actv.micMsg with
  | some m =>
    let (m', s) := signReply m s
    queueUp 0x90 m' { s with actv := { s.actv with micMsg := none } }
  | none => s

/-- The blocks that a hand has processed (R237, log 215). -/
def handCount (seat : Nat) (h : Hand) : Nat := if seat = 2 ∨ seat = 4 then Config.handBlocks seat else h.blocks

/-- What the end of a hand does for its seat's work; input is what a hand of seat 3 read by DMA (R210, R219, R220, R223, R229, R230). -/
def handDone (seat : Nat) (h : Hand) (input : List Nat) (s : State) : State :=
  let s := addTo (DECK.BLOCKS seat) (handCount seat h) s
  match seat with
  | 0 => decDone h.work h.blocks s
  | 1 => { s with tm := { s.tm with staged := s.tm.staged.map (fun c =>
      if stWork c = h.work then { c with ksLeft := c.ksLeft - h.blocks } else c) } }
  | 2 => if h.work = voucherWork then { s with leg := { s.leg with queue := markChecked s.leg.queue } }
    else { s with deck := { s.deck with signed := s.deck.signing } }
  | 3 =>
    match s.deck.jobs.find? (fun j => decide (jobWork j = h.work)) with
    | some j => jobHand j h.blocks input s
    | none => s
  | _ => if h.work = replyWork then replySigned s else micChecked false s

/-- ENGINE_RELEASE of an engine: due at the end of its hand for seats 0, 1 and 3; seats 2 and 4 end theirs by it (R210, R231). -/
def execEngineRelease (t : Nat) (x : HandEnd) (s : State) : Out :=
  ev t s fun s =>
    let seat := rd s (DEAL.ENG_SEAT x.engine)
    let h := aget s.deck.hands x.engine {}
    if rd s (DEAL.ENG_STATE x.engine) = 2 ∧ (h.endAt ≤ s.time.cycle ∨ seat = 2 ∨ seat = 4) then
      seatsIdle (handDone seat h x.input (freeEngine x.engine s))
    else s

/-- The seat's work fails when its engine is reclaimed; the LGC logs a failed signing, which seat 2 then tries
again, as it does the check of a VTAG (R234, log 216). -/
def reclaimWork (seat : Nat) (h : Hand) (s : State) : State :=
  match seat with
  | 0 =>
    match s.deck.dec.find? (fun b => decide (decWork b = h.work)) with
    | some b => deliverReady s.deck.dec.length b.path (modPathSec b.path (fun x => { x with err := x.err + 1 })
        (inc (FRMD.PATH_DISCARD b.path) (raise 0x20 0 <| inc DECK.DEC_OVERRUN { s with deck := { s.deck with dec := s.deck.dec.erase b } })))
    | none => s
  | 1 =>
    match s.tm.staged.find? (fun c => decide (stWork c = h.work)) with
    | some c => withdraw 2 c.cont c.target s
    | none => s
  | 2 =>
    if h.work = voucherWork then s else
    let x := Config.signFailure s.deck.signFails
    logEvent x.1 0x21 x.2 { s with deck := { s.deck with signFails := s.deck.signFails + 1 } }
  | 3 => { s with deck := { s.deck with jobs := s.deck.jobs.map (fun j => if jobWork j = h.work then { j with ended := some 0x20 } else j) } }
  | _ => if h.work = replyWork then { s with actv := { s.actv with micMsg := none } } else micChecked true s

/-- DEALER_RECLAIM of an engine: due WDOG cycles after its grant (R234). -/
def execDealerReclaim (t : Nat) (engine : Nat) (s : State) : Out :=
  ev t s fun s =>
    let h := aget s.deck.hands engine {}
    if rd s (DEAL.ENG_STATE engine) = 2 ∧ h.start + rd s DEAL.WDOG * bulkDiv s ≤ s.time.cycle then
      seatsIdle (reclaimWork (rd s (DEAL.ENG_SEAT engine)) h (freeEngine engine s |> inc DEAL.RECLAIMS |> raise 0x21 0))
    else s

/-- HOST_JOB_DONE of a ring's oldest job: its AAD and tag as the DMA read them, and whether a read or a write failed; an engine
that the job still holds is released (R230, R231). -/
def execHostJobDone (t : Nat) (ring : Nat) (aad tag : List Nat) (rdErr wrErr : Bool) (s : State) : Out :=
  ev t s fun s =>
    match s.deck.jobs.find? (fun j => j.ring == ring) with
    | some j =>
      let s' := jobDone ring aad tag (rdErr || wrErr) s
      if s'.deck.jobs.contains j then s' else seatsIdle (forEach (handsFor s' 3 (jobWork j)) (fun h => freeEngine h.1) s')
    | none => s

end Sys2Proof.Machine
end

