-- ==== Sys2Proof/Machine/Words.lean ====
section
/-! DEFINITION. Registers as 32-bit words (R12, R69, R72): which rows of the tables a word has, what it reads as, and how a word is
written field by field. -/
namespace Sys2Proof

/-- The indices at which a row's instance lies at an offset of its page. -/
def Row.find (r : Row) (off : Nat) : Option (Nat × Nat) :=
  let base := r.f.addr % 4096 + (if r.word = 2 then 4 else 0)
  if off < base then none else
  let d := off - base
  let ij := (List.range r.n1).find? fun i => decide (r.s1 * i ≤ d) &&
    (if r.n2 ≤ 1 then decide (r.s1 * i = d) else decide ((d - r.s1 * i) % r.s2 = 0 ∧ (d - r.s1 * i) / r.s2 < r.n2))
  ij.map fun i => (i, if r.n2 ≤ 1 then 0 else (d - r.s1 * i) / r.s2)

/-- The field of a row's instance on a page. -/
def Row.fldAt (r : Row) (page i j : Nat) : Fld :=
  { r.f with addr := page * 0x1000 + r.f.addr % 4096 + r.s1 * i + r.s2 * j, reset := r.resets.getD i r.f.reset }

/-- The lowest bit of a row in its word. -/
def Row.lo (r : Row) : Nat := if r.word = 0 then r.f.lo else 0

/-- The width of a row in its word. -/
def Row.width (r : Row) : Nat := if r.word = 0 then r.f.w else if r.word = 1 then 32 else r.f.w - 32

/-- The part of a field's value that a row shows. -/
def Row.part (r : Row) (v : Nat) : Nat := if r.word = 0 then v else if r.word = 1 then v % 2 ^ 32 else v / 2 ^ 32

/-- The value of a field in which a row's part is replaced. -/
def Row.merge (r : Row) (old part : Nat) : Nat :=
  if r.word = 0 then part else if r.word = 1 then old / 2 ^ 32 * 2 ^ 32 + part else part * 2 ^ 32 + old % 2 ^ 32

/-- The part of a word that a row covers. -/
def Row.take (r : Row) (v : Nat) : Nat := v / 2 ^ r.lo % 2 ^ r.width

/-- A write-only row, which reads as 0. -/
def RegTy.writeOnly : RegTy → Bool
  | .wo | .wos => true
  | _ => false

end Sys2Proof

namespace Sys2Proof.Machine

/-- The rows of the word at an offset of a page, with their fields. -/
def wordRows (page off : Nat) : List (Row × Fld) :=
  (pageRows page).filterMap fun r => (r.find off).map fun ij => (r, r.fldAt page ij.1 ij.2)

/-- The bits of a word that its rows define. -/
def definedBits (l : List (Row × Fld)) : Nat := l.foldl (fun a x => a ||| (2 ^ x.1.width - 1) * 2 ^ x.1.lo) 0

/-- The stored word at an offset. -/
def storedWord (s : State) (page off : Nat) : Nat :=
  (wordRows page off).foldl (fun a x =>
    if x.1.ty.writeOnly then a else a + x.1.part (rd s x.2) * 2 ^ x.1.lo) 0

/-- Set the rows of a word that satisfy a condition. -/
def setRows (c : Row → Bool) (page off v : Nat) (s : State) : State :=
  forEach ((wordRows page off).filter fun x => c x.1) (fun x s => wr x.2 (x.1.merge (rd s x.2) (x.1.take v)) s) s

/-- Every row of a word whose value would change. -/
def changedRows (s : State) (page off v : Nat) : List (Row × Fld) :=
  (wordRows page off).filter fun x => decide (x.1.part (rd s x.2) ≠ x.1.take v)

/-- A part of a word lies outside the stated range of its row. -/
def outOfRange (page off v : Nat) : Bool :=
  (wordRows page off).any fun x => x.1.ty != .ro && !x.1.ty.writeOnly && decide (x.1.take v < x.1.vmin ∨ x.1.vmax < x.1.take v)

end Sys2Proof.Machine
end

