-- ==== Sys2Proof/Machine/Rules.lean ====
section
/-! DEFINITION. The rules that bind the settings of the front end, the weighing and the transit-time unit: which bits are sealed now,
and which settings contradict each other. A fabric write and a sealed commit are both held to them (R243, R252, R253, R260, R269, R272,
R273, R275, R278, R291, R297, R298, R303, R310, R314, R318, R329, R330, R345). -/
namespace Sys2Proof.Machine

/-! ## What is sealed now (R18, R78) -/

/-- Some ultrasonic path is legal (R329). -/
def anyPathLegal (s : State) : Bool := (List.range 4).any fun p => decide (rd s (USP.P_LEGAL p) = 1)

/-- The SL/RW fields of a word are SL now (R297, R300, R329, R330). -/
def legalWord (s : State) (page off : Nat) : Bool :=
  if page = 0x48 then decide (rd s (WGH.SET_LEGAL ((off - 0x100) / 256)) = 1)
  else if 0x49 ≤ page ∧ page ≤ 0x58 then channelLegal s (page - 0x49)
  else if page = 0x5A then anyPathLegal s
  else if page = 0x5B then decide (rd s (USP.P_LEGAL ((off - 0x100) / 128)) = 1)
  else false

/-- The bits of a word that belong to instances that are not fitted, in a word that holds others too (R8). -/
def unfittedBits (s : State) (page off : Nat) : Nat :=
  let v := s.fuse.variant
  if page = 0x5C ∧ 0x10 ≤ off ∧ off < 0x1C then 0xF - (4 ^ Variant.loops v - 1)
  else if (page = 0x30 ∧ 0x110 ≤ off ∧ off < 0x130) ∨ (page = 0x78 ∧ off = 0x054) then 2 ^ 18 - 2 ^ Variant.slices v
  else 0

/-- The bits of a word that its rows of type SL cover, and those of type SL/RW where they are SL now. -/
def tableSealed (s : State) (page off : Nat) : Nat :=
  definedBits ((wordRows page off).filter fun x => x.1.ty == .sl || (x.1.ty == .slrw && legalWord s page off))

/-- The bits of a word that a fabric port cannot change (R18, R243, R256, R258, R259, R269). -/
def sealedBits (s : State) (page off : Nat) : Nat :=
  if page = 0x30 ∧ 0x110 ≤ off ∧ off < 0x120 then 0x3FFFF
  else if page = 0x30 ∧ off = 0x130 then 0xFF
  else if page = 0x30 ∧ off = 0x134 then 0xF
  else if page = 0x30 ∧ 0x0C0 ≤ off ∧ off < 0x0E0 ∧ pairLegal s ((off - 0xC0) / 4) = true then 2 ^ 32 - 1
  else if 0x31 ≤ page ∧ page ≤ 0x42 ∧ (off = 0x040 ∨ off = 0x044 ∨ off = 0x048) ∧ sliceLegal s (page - 0x31) = true then 2 ^ 32 - 1
  else tableSealed s page off

/-! ## Weigh channels and sets (R272, R273, R275, R278, R297) -/

/-- The output spacing of a channel lies below its slice's sample spacing (R275). -/
def tooFast (s : State) (c : Nat) : Bool :=
  match rateFor s c with
  | some r => decide (outSpacing (rd s (WCH.OUT_RATE c)) < rateSpacing r)
  | none => false

/-- F or W of a notch of a channel is not below 0.45 fs (R278); unchecked while no slice is bound. -/
def notchTooHigh (s : State) (c j : Nat) : Bool :=
  match rateFor s c with
  | some r => overNyquist r (rd s (WCH.F_INIT c j)) || overNyquist r (rd s (WCH.NOTCH_W c j)) || overNyquist r (rd s (WCH.FMIN c j))
  | none => false

/-- Some notch of a channel is too high. -/
def channelTooHigh (s : State) (c : Nat) : Bool := (List.range 4).any (notchTooHigh s c)

/-- CH_CFG of a channel. -/
def chCfg (s : State) (c : Nat) : Nat × Nat × Nat := (rd s (WCH.OUT_RATE c), rd s (WCH.AVG_ORDER c), rd s (WCH.AVG_LEN c))

/-- The members of a set share CH_CFG and the slice RATE (R273). -/
def membersAgree (s : State) (l : List Nat) : Bool :=
  match l with
  | [] => true
  | c :: r => r.all fun d => decide (chCfg s d = chCfg s c ∧ rateFor s d = rateFor s c)

/-- Every member of a set is enabled, and they share CH_CFG and RATE (R273). -/
def membersOk (s : State) (k : Nat) : Bool := (members s k).all (fun c => enabled s (0x49 + c)) && membersAgree s (members s k)

/-- A channel belongs to two sets (R273). -/
def overlaps (s : State) (k : Nat) : Bool :=
  (List.range 8).any fun j => decide (j ≠ k) && decide (rd s (WGH.MEMBERS j) &&& rd s (WGH.MEMBERS k) ≠ 0)

/-- A member of a set is not fitted (R8). -/
def unfittedMember (s : State) (k : Nat) : Bool := decide (2 ^ Variant.wch s.fuse.variant ≤ rd s (WGH.MEMBERS k))

/-- The checks of a write to a weigh set that leaves the settings of c (R273, R291, R297, R298). -/
def setChecks (s c : State) (off : Nat) : List (Bool × Code) :=
  let k := (off - 0x100) / 256
  let rel := (off - 0x100) % 256
  let on := setOn s k && !setLegal s k
  if off < 0x100 ∨ 0x900 ≤ off then []
  else if rel = 0 then
    [(unfittedMember c k, .absent), (on && decide (rd c (WGH.MEMBERS k) ≠ rd s (WGH.MEMBERS k)), .state), (overlaps c k, .state),
     (setOn c k && decide (rd c (WGH.E_MG k) = 0), .state),
     (decide (rd c (WGH.MEMBERS k) ≠ rd s (WGH.MEMBERS k) ∨ rd c (WGH.SET_EN k) ≠ rd s (WGH.SET_EN k)) && !membersOk c k, .state)]
  else if rel = 4 then [(on && decide (rd c (WGH.E_MG k) ≠ rd s (WGH.E_MG k)), .state)]
  else if rel = 8 then
    [(on && decide (rd c (WGH.MAX_E k) ≠ rd s (WGH.MAX_E k) ∨ rd c (WGH.ZERO_RANGE k) ≠ rd s (WGH.ZERO_RANGE k)
      ∨ rd c (WGH.INIT_RANGE k) ≠ rd s (WGH.INIT_RANGE k)), .state)]
  else if rel = 0x10 then
    [(decide (rd c (WGH.SET_POLICY k) ≠ rd s (WGH.SET_POLICY k)) && (setU s k).pend.isSome, .ledger)]
  else if 0x20 ≤ rel ∧ rel < 0x50 then
    [(on && decide (rd c (WGH.LIN_C k ((rel - 0x20) / 8)) ≠ rd s (WGH.LIN_C k ((rel - 0x20) / 8))), .state)]
  else []

/-- A channel is a member of a set whose members would not agree (R273). -/
def breaksSet (c : State) (ch : Nat) : Bool :=
  match setOf c ch with
  | some k => !membersAgree c (members c k)
  | none => false

/-- The checks of a write to a weigh channel's page (R272, R273, R275, R278). -/
def channelChecks (s c : State) (ch off : Nat) : List (Bool × Code) :=
  if off = 0x004 then
    let rises := enabled c (0x49 + ch) && !enabled s (0x49 + ch)
    let falls := enabled s (0x49 + ch) && !enabled c (0x49 + ch)
    let bridge := match sliceFor s ch with
      | some i => decide (rd s (SLICE.MODE i) = 1)
      | none => false
    [(rises && (!bridge || tooFast s ch || channelTooHigh s ch), .state), (falls && (setOf s ch).isSome, .state)]
  else if off = 0x040 then [(tooFast c ch || breaksSet c ch, .state)]
  else if 0x080 ≤ off ∧ off < 0x0C0 then
    let j := (off - 0x80) / 16
    let rel := (off - 0x80) % 16
    if rel = 4 then
      [(decide (rd c (WCH.FMIN ch j) < rd s (WCH.SEAL_FMIN ch j) ∨ rd s (WCH.SEAL_FMAX ch j) < rd c (WCH.FMAX ch j)), .sealed),
       (decide (rd c (WCH.FMAX ch j) < rd c (WCH.FMIN ch j)) || notchTooHigh c ch j, .range)]
    else if rel = 8 then [(notchTooHigh c ch j, .range)] else []
  else []

/-! ## Slices (R243, R252, R253, R86) -/

/-- A setting of a slice that no write may leave: a gain above 16 in USX_RX, or a range upside down (R86, R253). -/
def sliceRange (c : State) (i : Nat) : Bool :=
  decide ((rd c (SLICE.MODE i) = 4 ∧ 4 < rd c (SLICE.GAIN i)) ∨ rd c (SLICE.HIGH i) < rd c (SLICE.LOW i))

/-- The checks of a write to a slice's page (R243, R252, R253, R272, R273, R275, R278). -/
def sliceChecks (s c : State) (i off : Nat) : List (Bool × Code) :=
  let u := rd s (AFE.SLICE_USER i)
  let bound := decide (rd s (AFE.SLICE_ROLE i) = 1 ∧ u < 16)
  if off = 0x004 then
    let flips := enabled s (0x31 + i) != enabled c (0x31 + i)
    let role := rd s (AFE.SLICE_ROLE i)
    [(flips && sliceLegal s i, .sealed),
     (flips && enabled c (0x31 + i) && (decide (role = 0 ∨ role = 4) || !modePins s i (rd s (SLICE.MODE i))), .state)]
  else if off = 0x040 then
    let moved := decide (rd c (SLICE.RATE i) ≠ rd s (SLICE.RATE i)) && bound
    [(decide (rd c (SLICE.MODE i) = 4 ∧ 4 < rd c (SLICE.GAIN i)), .range),
     (enabled s (0x31 + i) && !modePins s i (rd c (SLICE.MODE i)), .state),
     (moved && ((enabled s (0x49 + u) && (tooFast c u || channelTooHigh c u)) || breaksSet c u), .state)]
  else if off = 0x048 then [(decide (rd c (SLICE.HIGH i) < rd c (SLICE.LOW i)), .range)]
  else []

/-! ## The AFE page (R258, R260, R269) -/

/-- Some slice is LEGAL. -/
def anySliceLegal (s : State) : Bool := (List.range 18).any (sliceLegal s)

/-- The checks 2 to 5 of R48 on a TRIG_ROUTE (R260). -/
def routeChecks (s : State) (v : Nat) : List (Bool × Code) :=
  let u := bits v 31 24
  let a := bits v 23 16
  let arg := bits v 15 0
  if u = 0 then []
  else [(actionLegalOnly s u a arg, .sealed), (unitAbsent s.fuse.variant u arg, .absent), (!unitKnown u || !actionKnown u a arg, .range)]

/-- The checks of a write to the AFE page (R86, R258, R260, R269). -/
def afeChecks (s c : State) (off v : Nat) : List (Bool × Code) :=
  if off = 0x004 then [(enabled s 0x30 && !enabled c 0x30 && anySliceLegal s, .sealed)]
  else if off = 0x130 then [((List.range 8).any fun g => decide (v / 4 ^ g % 4 = 3), .range)]
  else if 0x150 ≤ off ∧ off < 0x160 then routeChecks s v
  else []

/-! ## The transit-time unit (R303, R310, R314, R329, R330) -/

/-- The transit-time unit holds a sequence that runs or is pending. -/
def seqBusy (s : State) : Bool := s.usx.seq.isSome || s.usx.pend.isSome

/-- A receive slice is enabled: ACTIVE with USER 0x10, in USX_RX mode (R303). -/
def rxSliceOn (s : State) : Bool :=
  (List.range 18).any fun i =>
    decide (rd s (AFE.SLICE_ROLE i) = 1 ∧ rd s (AFE.SLICE_USER i) = 16 ∧ rd s (SLICE.MODE i) = 4) && enabled s (0x31 + i)

/-- The ports of the reference and of the enabled RTDs (R329). -/
def tempPorts (s : State) : List Nat :=
  rd s USX.REF_PORT :: ((if bit (rd s USX.RTD_EN) 0 then [rd s USX.RTD0] else []) ++ (if bit (rd s USX.RTD_EN) 1 then [rd s USX.RTD1] else [])
    ++ (if bit (rd s USX.RTD_EN) 2 then [rd s USX.RTD2] else []))

/-- A list holds an element twice. -/
def hasTwice (l : List Nat) : Bool :=
  match l with
  | [] => false
  | a :: r => r.contains a || hasTwice r

/-- The settings of the page that contradict each other: the discharge does not fit its slot, or a temperature range is upside down
(R86, R314). -/
def usxRange (c : State) : Bool :=
  decide (rd c USX.SHOT_GAP ≤ rd c USX.CHARGE + rd c USX.DIS_TIMEOUT ∨ rdS c USX.T_MAX < rdS c USX.T_MIN)

/-- A path's settings contradict each other: RX_OPEN within the burst, or a range upside down (R86, R310, R330). -/
def pathRange (c : State) (p : Nat) : Bool :=
  decide (rd c (USP.RX_OPEN p) ≤ 2 * rd c (USP.HALF p) * rd c (USP.CYCLES p) ∨ rd c (USP.TOF_MAX p) < rd c (USP.TOF_MIN p)
    ∨ rd c (USP.AMP_MAX p) < rd c (USP.AMP_MIN p))

/-- A repeating installed entry names a path (R330). -/
def entryNames (s : State) (p : Nat) : Bool :=
  s.orry.entries.any fun x => decide (x.2.unit = 0x5A ∧ x.2.period ≠ 0) && bit x.2.arg p

/-- The checks of a write to the USX page (R303, R314, R329). -/
def usxChecks (s c : State) (off : Nat) : List (Bool × Code) :=
  if off = 0x004 then [(!enabled s 0x5A && enabled c 0x5A && !rxSliceOn s, .state)]
  else if off = 0x040 then
    [(seqBusy s && decide (rd c USX.DRV_MODE ≠ rd s USX.DRV_MODE ∨ rd c USX.REPEAT ≠ rd s USX.REPEAT), .busy),
     (decide (rd c USX.REPEAT = 0), .range),
     (s.usx.pend.isSome && decide (rd c USX.USX_POLICY ≠ rd s USX.USX_POLICY), .ledger)]
  else if off = 0x044 then [(seqBusy s && decide (rd c USX.SHOT_GAP ≠ rd s USX.SHOT_GAP), .busy), (usxRange c, .range)]
  else if off = 0x048 then
    [(seqBusy s && decide (storedWord c 0x5A off ≠ storedWord s 0x5A off), .busy), (hasTwice (tempPorts c), .conflict)]
  else if off = 0x04C ∨ off = 0x060 then
    [(seqBusy s && decide (storedWord c 0x5A off ≠ storedWord s 0x5A off), .busy), (usxRange c, .range)]
  else if (0x050 ≤ off ∧ off < 0x060) ∨ off = 0x064 then [(seqBusy s && decide (storedWord c 0x5A off ≠ storedWord s 0x5A off), .busy)]
  else []

/-- The checks of a write to the USP page (R310, R330). -/
def uspChecks (s c : State) (off : Nat) : List (Bool × Code) :=
  let p := (off - 0x100) / 128
  let rel := (off - 0x100) % 128
  if off < 0x100 ∨ 0x300 ≤ off then []
  else if rel = 0 then
    [(seqBusy s && decide (rd c (USP.P_EN p) ≠ rd s (USP.P_EN p)), .busy), (pathRange c p, .range),
     (decide (rd c (USP.P_EN p) = 0 ∧ rd s (USP.P_EN p) = 1) && entryNames s p, .state)]
  else if rel = 4 ∨ rel = 0x1C ∨ rel = 0x20 ∨ rel = 0x24 then [(pathRange c p, .range)] else []

/-- The checks of the metrology pages for a write that leaves the settings of c. -/
def metroChecks (s c : State) (page off v : Nat) : List (Bool × Code) :=
  if page = 0x30 then afeChecks s c off v
  else if 0x31 ≤ page ∧ page ≤ 0x42 then sliceChecks s c (page - 0x31) off
  else if page = 0x48 then setChecks s c off
  else if 0x49 ≤ page ∧ page ≤ 0x58 then channelChecks s c (page - 0x49) off
  else if page = 0x5A then usxChecks s c off
  else if page = 0x5B then uspChecks s c off
  else []

/-! ## The cross-field rules of a sealed commit (R345) -/

/-- A legal set of the settings c breaks a rule: members, e, POLICY, its channels and their slices. -/
def badLegalSet (c : State) (k : Nat) : Bool :=
  setLegal c k && (unfittedMember c k || overlaps c k || !membersAgree c (members c k) || decide (rd c (WGH.MEMBERS k) = 0)
    || decide (rd c (WGH.E_MG k) = 0 ∨ rd c (WGH.SET_POLICY k) = 2)
    || (members c k).any fun n => tooFast c n || channelTooHigh c n || (match sliceFor c n with
        | some i => decide (rd c (SLICE.MODE i) ≠ 1)
        | none => true))

/-- A channel's fences contradict each other. -/
def badFence (c : State) (n : Nat) : Bool :=
  (List.range 4).any fun j => decide (rd c (WCH.SEAL_FMAX n j) < rd c (WCH.SEAL_FMIN n j))

/-- The weights of legal paths do not sum to 1 (R318). -/
def badWeights (c : State) : Bool :=
  anyPathLegal c && decide ((List.range 4).foldl (fun a p => a + rd c (USP.WEIGHT p)) 0 ≠ 2 ^ 30)

/-- Two slices are ACTIVE for one USER other than the host, which any number may serve (R241, R272). -/
def sharedUser (c : State) : Bool :=
  hasTwice (((List.range 18).filter fun i => decide (rd c (AFE.SLICE_ROLE i) = 1 ∧ rd c (AFE.SLICE_USER i) ≠ 31)).map fun i => rd c (AFE.SLICE_USER i))

/-- The settings of a seat are out of range (R238). -/
def seatRange (v : Variant) (c : State) (k : Nat) : Bool :=
  let hb := rd c (DEAL.HAND_BLOCKS k)
  decide (rd c (DEAL.CEILING k) < rd c (DEAL.BASE k) ∨ rd c (DEAL.MAX_HELD k) < 1 ∨ Variant.engines v - 1 < rd c (DEAL.MAX_HELD k))
    || (if k = 2 ∨ k = 4 then decide (hb ≠ 0) else decide (hb < 1 ∨ 64 < hb))

/-- The settings c break a cross-field rule of the unit chapters (R345). -/
def brokenRules (c : State) : Bool :=
  (List.range 8).any (badLegalSet c) || (List.range 16).any (badFence c) || (List.range 18).any (sliceRange c) || sharedUser c
    || usxRange c || hasTwice (tempPorts c) || (List.range 4).any (pathRange c) || badWeights c
    || decide (rd c LEGL.VRES_MAX < rd c LEGL.VRES_MIN) || seatRange c.fuse.variant c 2

end Sys2Proof.Machine
end

