-- ==== Sys2Proof/Machine/Store.lean ====
section
/-! DEFINITION. The sealed store (R343 to R351): its banks and records, what a record may name, how the sealed parameters take
effect (R242, R243, R247, R273, R490), the totals payload (R381) and the totals commit. -/
namespace Sys2Proof.Machine

/-- An erased word of the store (R343). -/
def erased : Nat := 2 ^ 64 - 1
/-- The cycles of a totals commit and of a calibration commit at most (R346, R349). -/
def totCycles : Nat := 100000
/-- The cycles of a totals commit and of a calibration commit at most (R346, R349). -/
def calCycles : Nat := 800000

/-! ## Banks (R344) -/

/-- Bank A or B. -/
def bankAt (s : State) (b : Nat) : Bank := if b = 0 then s.leg.bankA else s.leg.bankB
/-- Change bank A or B. -/
def modBank (b : Nat) (f : Bank → Bank) (s : State) : State :=
  if b = 0 then { s with leg := { s.leg with bankA := f s.leg.bankA } } else { s with leg := { s.leg with bankB := f s.leg.bankB } }

/-- The PARAMS area: the records and erased words after them. -/
def paramArea (l : List Nat) : List Nat := l.flatMap (toLe 8) ++ List.replicate (8144 - 8 * l.length) 255

/-- BODY_MAC over PARAMS and GEN (R344). -/
def bodyMac (params : List Nat) (gen : Nat) : List Nat := toBe 16 (cmac (Config.deviceKey 73) (paramArea params ++ toLe 4 gen))

/-- GEN of a bank's COMMIT word. -/
def bankGen (b : Bank) : Nat := b.commit / 2 ^ 32

/-- A bank is valid (R344). -/
def bankValid (b : Bank) : Bool :=
  decide (b.commit ≠ erased) && decide (b.mac = bodyMac b.params (bankGen b)) && decide (b.commit % 2 ^ 32 = be (b.mac.take 4))

/-- The generations a bank holds: of COMMIT and of INTENT (R346). -/
def bankTop (b : Bank) : Nat :=
  max (if b.commit = erased then 0 else b.commit / 2 ^ 32) (if b.intent = erased then 0 else b.intent / 2 ^ 32)

/-- The bank that the active one is not. -/
def otherBank (s : State) : Nat := 1 - rd s LEGL.ACTIVE_BANK

/-- TOTALS_MAC over the payload, the bank's GEN and SEQ (R349). -/
def totalsMac (payload : List Nat) (gen seq : Nat) : List Nat :=
  toBe 16 (cmac (Config.deviceKey 73) (payload ++ toLe 4 gen ++ toLe 4 seq))

/-- A written slot of a bank (R349). -/
def makeSlot (payload : List Nat) (gen seq : Nat) : JSlot :=
  let m := totalsMac payload gen seq
  { payload := payload, mac := m, word := seq * 2 ^ 32 + be (m.take 4) }

/-- A slot is valid (R348). -/
def slotValid (gen : Nat) (j : JSlot) : Bool :=
  decide (j.word ≠ erased) && decide (j.word % 2 ^ 32 = be (j.mac.take 4)) && decide (j.mac = totalsMac j.payload gen (j.word / 2 ^ 32))

/-- The newest valid slot of a bank: its number and content. -/
def newestSlot (b : Bank) : Option (Nat × JSlot) :=
  (b.journal.filter fun x => slotValid (bankGen b) x.2).foldl (fun a x => match a with
    | none => some x
    | some y => if y.2.word / 2 ^ 32 < x.2.word / 2 ^ 32 then some x else some y) none

/-! ## Records (R344, R345) -/

/-- PAGE, OFFSET and VALUE of a record. -/
def recordFields (r : Nat) : Nat × Nat × Nat := (r / 2 ^ 56 % 256, r / 2 ^ 44 % 4096, r % 2 ^ 32)

/-- The records of an edit buffer up to the one that ends the list. -/
def listed (l : List Nat) : List Nat := l.takeWhile (· != erased)

/-- A word that the sealed parameters may name: configuration, not a value the LGC or the hardware keeps (R269, R270, R297, R300, R329,
R330, R358, R378 to R380). -/
def paramWord (page off : Nat) : Bool :=
  let rel := (off - 0x100) % 256
  if page = 0x30 then decide ((0x040 ≤ off ∧ off < 0x0E0) ∨ (0x110 ≤ off ∧ off < 0x138) ∨ (0x150 ≤ off ∧ off < 0x164) ∨ (0x180 ≤ off ∧ off < 0x1C8))
  else if 0x31 ≤ page ∧ page ≤ 0x42 then decide (0x040 ≤ off ∧ off < 0x054)
  else if page = 0x48 then decide (0x100 ≤ off ∧ rel < 0x58)
  else if 0x49 ≤ page ∧ page ≤ 0x58 then decide (0x040 ≤ off ∧ off < 0x0C0)
  else if page = 0x5A then decide ((0x040 ≤ off ∧ off < 0x068) ∨ (0x080 ≤ off ∧ off < 0x0B8) ∨ 0x400 ≤ off)
  else if page = 0x5B then decide (0x100 ≤ off ∧ (off - 0x100) % 128 < 0x2C)
  else if page = 0x60 then decide (0x044 ≤ off ∧ off < 0x05C)
  else if page = 0x68 then decide (off = 0x2B0 ∨ off = 0x2B4)
  else if page = 0x69 then decide (off ≠ 0x044 ∧ 0x040 ≤ off)
  else if page = 0x6A then decide (0x040 ≤ off ∧ off < 0x04C)
  else decide ((page = 0x21 ∧ off = 0x088) ∨ (page = 0x78 ∧ off = 0x054))

/-- The rows of a word that a record sets: SL and SL/RW fields, and the RW fields that are sealed for legal units (R19, R243, R269). -/
def paramRow (page : Nat) (r : Row) : Bool :=
  (r.ty == .sl || r.ty == .slrw || (r.ty == .rw && decide (0x30 ≤ page ∧ page ≤ 0x42) && r.f.key != (AFE.BLANK_POST).key))
    && !((AFE.SLICE_SHADOW 0).key == r.f.key)

/-- A record that a COMMIT refuses with RANGE: it names no sealed parameter, sets a bit no field or no fitted instance has, or a value out of
range (R8, R345). -/
def badRecord (s : State) (r : Nat) : Bool :=
  let (page, off, v) := recordFields r
  let rows := (wordRows page off).filter fun x => paramRow page x.1
  !pagePresent s page || !paramWord page off || rows.isEmpty || decide (r / 2 ^ 32 % 4096 ≠ 0)
    || decide (clearBits v (definedBits (wordRows page off)) ≠ 0 ∨ v &&& unfittedBits s page off ≠ 0)
    || rows.any fun x => decide (x.1.take v < x.1.vmin ∨ x.1.vmax < x.1.take v)

/-- A record sets its fields. -/
def applyRecord (r : Nat) (s : State) : State :=
  let (page, off, v) := recordFields r
  setRows (paramRow page) page off v s

/-- A record's fields return to their reset values. -/
def clearRecord (r : Nat) (s : State) : State :=
  let (page, off, _) := recordFields r
  forEach ((wordRows page off).filter fun x => paramRow page x.1) (fun x s => wr x.2 (x.1.merge (rd s x.2) (x.1.part x.2.reset)) s) s

/-- The settings with a list of records in place of another. -/
def withParams (old new : List Nat) (s : State) : State := forEach new applyRecord (forEach old clearRecord s)

/-! ## What the parameters do to the legal units (R242, R243, R247, R273, R490) -/

/-- Roles: RETIRED slices stay so, a slice left unused becomes SPARE, and the lowest sound SPARE is DUMMY where none is named (R242). -/
def assignRoles (was : State) (s : State) : State :=
  let n := List.range (Variant.slices s.fuse.variant)
  let s := forEach n (fun i s =>
    if rd was (AFE.SLICE_ROLE i) = 4 then wr (AFE.SLICE_ROLE i) 4 s
    else if rd s (AFE.SLICE_ROLE i) = 0 then wr (AFE.SLICE_ROLE i) 3 s else s) s
  let named := n.filter fun i => decide (rd s (AFE.SLICE_ROLE i) = 2)
  let s := forEach (named.drop 1) (fun i => wr (AFE.SLICE_ROLE i) 3) s
  match named.head?, n.find? (fun i => decide (rd s (AFE.SLICE_ROLE i) = 3 ∧ rd s (SLICE.FAULT i) = 0)) with
  | none, some i => wr (AFE.SLICE_ROLE i) 2 s
  | _, _ => s

/-- A pin of a LEGAL slice or pair (R247). -/
def pinLegal (s : State) (n : Nat) : Bool :=
  let r := rd s (AFE.PIN_ROLE n)
  let o := rd s (AFE.PIN_OWNER n)
  (sliceRole r && sliceLegal s o) || (pairRole r && pairLegal s o)

/-- LEGAL_LOCK stands on every pin of a LEGAL slice or pair (R247). -/
def lockPins (s : State) : State :=
  forEach (List.range 32) (fun n s => wrB (AFE.LEGAL_LOCK n) (pinLegal s n) s) s

/-- The LGC sets LEGAL_LOCK on every pin that a LEGAL slice or pair has gained (R247). -/
def lockNewPins (s : State) : State :=
  forEach ((List.range 32).filter fun n => pinLegal s n) (fun n => wr (AFE.LEGAL_LOCK n) 1) s

/-- The route of the arming button (R366). -/
def armRoute (s : State) : State :=
  if rd s PREP.ARM_EN = 1 then
    let n := rd s PREP.ARM_PIN
    s |> wr (AFE.TR_UNIT n) 0x6A |> wr (AFE.TR_ACTION n) 2 |> wr (AFE.TR_ARG n) 0
  else s

/-- The fences of the adaptive notches are kept inside the sealed fences (R278). -/
def clampFences (s : State) : State :=
  forEach (List.range 16) (fun c s => forEach (List.range 4) (fun j s =>
    let lo := rd s (WCH.SEAL_FMIN c j)
    let hi := rd s (WCH.SEAL_FMAX c j)
    s |> wr (WCH.FMIN c j) (max lo (min hi (rd s (WCH.FMIN c j)))) |> wr (WCH.FMAX c j) (max lo (min hi (rd s (WCH.FMAX c j))))) s) s

/-- The LGC enables the legal pairs, slices, channels and sets once the AFE is enabled, and the legal paths once USX is (R490). -/
def legalEnable (s : State) : State :=
  let s := if enabled s 0x30 then
      let s := forEach ((List.range 8).filter fun k => pairLegal s k && !pairOn s k) (fun k s => excApply k 1 (rd s (AFE.EXC_REVERSE k)) s) s
      let s := forEach ((List.range 18).filter fun i => sliceLegal s i && !enabled s (0x31 + i)) (fun i s =>
        sliceEnable i true (wr (HDR.ENABLE (0x31 + i)) 1 s)) s
      let s := forEach ((List.range 16).filter fun c => channelLegal s c && !enabled s (0x49 + c)) (fun c s =>
        channelEnable c true (wr (HDR.ENABLE (0x49 + c)) 1 s)) s
      let s := forEach ((List.range 8).filter fun k => setLegal s k && !setOn s k && decide (rd s (WGH.MEMBERS k) ≠ 0)) (fun k s =>
        wr (WGH.SET_EN k) 1 s) s
      { s with leg := { s.leg with afeOn := true } }
    else s
  if enabled s 0x5A then
    { forEach ((List.range 4).filter fun p => decide (rd s (USP.P_LEGAL p) = 1 ∧ rd s (USP.P_EN p) = 0)) (fun p s => pathClear p (wr (USP.P_EN p) 1 s)) s with
      leg := { s.leg with usxOn := true } }
  else s

/-- Before its first commit cycle in RUN with the enables at 1 the LGC enables the legal units (R490). -/
def enableWhenDue (s : State) : State :=
  if (enabled s 0x30 && !s.leg.afeOn) || (enabled s 0x5A && !s.leg.usxOn) then legalEnable s else s

/-- Some word of a page from one offset to below another differs. -/
def pageDiffers (a b : State) (page lo n : Nat) : Bool :=
  (List.range (n / 4)).any fun k => decide (storedWord a page (lo + 4 * k) ≠ storedWord b page (lo + 4 * k))

/-- The settings of a channel or of its slice differ. -/
def channelDiffers (a b : State) (c : Nat) : Bool :=
  pageDiffers a b (0x49 + c) 0x040 0x80 || (match sliceFor b c with
    | some i => pageDiffers a b (0x31 + i) 0x040 20 || decide (sliceFor a c ≠ some i)
    | none => false)

/-- A parameter of a legal set differs (R346). -/
def setDiffers (a b : State) (k : Nat) : Bool :=
  pageDiffers a b 0x48 (0x100 + 0x100 * k) 0x58 || (members b k).any (channelDiffers a b)

/-- The enables that R490 keeps to itself hold what they held: those of legal sets, paths and pairs. -/
def holdEnables (a : State) (s : State) : State :=
  let s := forEach (List.range 8) (fun k s => if setLegal s k then wr (WGH.SET_EN k) (rd a (WGH.SET_EN k)) s else s) s
  let s := forEach (List.range 4) (fun p s => if rd s (USP.P_LEGAL p) = 1 then wr (USP.P_EN p) (rd a (USP.P_EN p)) s else s) s
  forEach (List.range 8) (fun k s => wr (AFE.EXC_EN k) (rd a (AFE.EXC_EN k)) s) s

/-- The sealed parameters take effect in place of those in force: every SL field, roles, locks, routes and fences; legal sets whose
parameters changed restart with Z unset; the calendar's entries are installed anew (R242, R247, R273, R346, R365). -/
def applyParams (old new : List Nat) (s : State) : State :=
  let a := s
  let s := forEach ((List.range 18).filter (shadows s)) endShadow s
  let s := { s with wgh := { s.wgh with de := {} } }
  let s := assignRoles a (holdEnables a (withParams old new s))
  let s := clampFences (armRoute (lockPins s))
  let s := forEach ((List.range 18).filter fun i => pageDiffers a s (0x31 + i) 0x040 4) restartConversion s
  let s := forEach ((List.range 16).filter fun c => channelLegal s c && channelDiffers a s c) channelCfg s
  let s := forEach ((List.range 8).filter fun k => setLegal s k && (setDiffers a s k || !setLegal a k)) restartSet s
  installCalendar (if s.leg.afeOn || s.leg.usxOn then legalEnable s else s)

/-! ## The totals payload (R381) -/

/-- DEL_INFO as one word. -/
def delInfo (s : State) : Nat := storedWord s 0x68 0x264

/-- The bytes of an account in the order of its PREP block. -/
def accountBytes (s : State) (a : Nat) : List Nat :=
  toLe 4 (storedWord s 0x6A (0x100 + 0x40 * a)) ++ toLe 4 (rd s (PREP.VOUCHER a)) ++ toLe 8 (rd s (PREP.BALANCE a))
    ++ toLe 8 (rd s (PREP.EMERG_OUT a)) ++ toLe 8 (rd s (PREP.LOADED a)) ++ toLe 8 (rd s (PREP.CONSUMED a)) ++ toLe 8 (rd s (PREP.EXPIRED a))
    ++ toLe 8 (rd s (PREP.E_AMT a)) ++ toLe 8 (rd s (PREP.RESIDUE a))

/-- The 1,000 bytes of a totals slot (R381). -/
def totalsPayload (s : State) : List Nat :=
  let l := s.led
  toLe 8 (scReg s.time.sc) ++ toLe 4 s.bill.nextDel ++ toLe 4 (rd s BILL.RATE + 2 ^ 31 * rd s BILL.FRIENDLY)
    ++ (List.range 8).flatMap (fun r => toLe 8 (rd s (BILL.RATE_MASS r)) ++ toLe 8 (rd s (BILL.RATE_VOL r)) ++ toLe 8 (rd s (BILL.RATE_SVC r)))
    ++ toLe 8 (rd s BILL.NFT_MASS) ++ toLe 8 (rd s BILL.NFT_VOL) ++ toLe 8 (rd s BILL.UNATTR_VOL)
    ++ toLe 8 (ofSigned 64 l.massTotal) ++ toLe 8 (ofSigned 64 l.massDelivered) ++ toLe 8 (ofSigned 64 l.massResidue)
    ++ toLe 8 (ofSigned 64 l.volTotal) ++ toLe 8 (ofSigned 64 l.volDelivered) ++ toLe 8 (ofSigned 64 l.volResidue)
    ++ (List.range 8).flatMap (accountBytes s)
    ++ (List.range 8).flatMap (fun r => toLe 4 (rd s (BILL.PRICE_MASS r)) ++ toLe 4 (rd s (BILL.PRICE_VOL r)) ++ toLe 4 (rd s (BILL.PRICE_SVC r)))
    ++ toLe 4 (rd s BILL.DEL_NO) ++ toLe 4 (delInfo s) ++ toLe 8 (rd s BILL.START_SC) ++ toLe 8 (rd s BILL.START_GROSS)
    ++ toLe 8 (rd s BILL.PRESET) ++ toLe 8 (rd s BILL.DEL_VOL) ++ toLe 4 (rd s BILL.DEL_SVC)
    ++ toLe 4 (rd s BILL.DEL_PRICE_MASS) ++ toLe 4 (rd s BILL.DEL_PRICE_VOL) ++ toLe 4 (rd s BILL.DEL_PRICE_SVC) ++ zeros 56

/-- The number at bytes a to a + n - 1 of a payload. -/
def payNum (p : List Nat) (a n : Nat) : Nat := le (slice p a n)
/-- The signed number at 8 bytes of a payload. -/
def payInt (p : List Nat) (a : Nat) : Int := toSigned 64 (payNum p a 8)

/-- An account takes what a payload holds. -/
def restoreAccount (p : List Nat) (a : Nat) (s : State) : State :=
  let b := 0x118 + 0x40 * a
  setRows (fun _ => true) 0x6A (0x100 + 0x40 * a) (payNum p b 4) s |> wr (PREP.VOUCHER a) (payNum p (b + 4) 4)
    |> wr (PREP.BALANCE a) (payNum p (b + 8) 8) |> wr (PREP.EMERG_OUT a) (payNum p (b + 16) 8) |> wr (PREP.LOADED a) (payNum p (b + 24) 8)
    |> wr (PREP.CONSUMED a) (payNum p (b + 32) 8) |> wr (PREP.EXPIRED a) (payNum p (b + 40) 8) |> wr (PREP.E_AMT a) (payNum p (b + 48) 8)
    |> wr (PREP.RESIDUE a) (payNum p (b + 56) 4)

/-- A rate's registers and active prices take what a payload holds; the staged table starts as a copy (R368). -/
def restoreRate (p : List Nat) (r : Nat) (s : State) : State :=
  let b := 0x010 + 0x18 * r
  let c := 0x318 + 0x0C * r
  s |> wr (BILL.RATE_MASS r) (payNum p b 8) |> wr (BILL.RATE_VOL r) (payNum p (b + 8) 8) |> wr (BILL.RATE_SVC r) (payNum p (b + 16) 8)
    |> wr (BILL.PRICE_MASS r) (payNum p c 4) |> wr (BILL.PRICE_VOL r) (payNum p (c + 4) 4) |> wr (BILL.PRICE_SVC r) (payNum p (c + 8) 4)
    |> wr (BILL.ST_PRICE_MASS r) (payNum p c 4) |> wr (BILL.ST_PRICE_VOL r) (payNum p (c + 4) 4) |> wr (BILL.ST_PRICE_SVC r) (payNum p (c + 8) 4)

/-- MONEY, MASS and VOL, the billing registers, the accounts and an open delivery are restored from a payload (R61). -/
def restoreTotals (p : List Nat) (s : State) : State :=
  let s := forEach (List.range 8) (restoreAccount p) (forEach (List.range 8) (restoreRate p) s)
  let s := setRows (fun _ => true) 0x68 0x264 (payNum p 0x37C 4) s
    |> wr BILL.RATE (payNum p 0x00C 1) |> wr BILL.FRIENDLY (payNum p 0x00F 1 / 128) |> wr BILL.NFT_MASS (payNum p 0x0D0 8)
    |> wr BILL.NFT_VOL (payNum p 0x0D8 8) |> wr BILL.UNATTR_VOL (payNum p 0x0E0 8)
    |> wr BILL.DEL_NO (payNum p 0x378 4) |> wr BILL.START_SC (payNum p 0x380 8) |> wr BILL.START_GROSS (payNum p 0x388 8)
    |> wr BILL.PRESET (payNum p 0x390 8) |> wr BILL.DEL_VOL (payNum p 0x398 8) |> wr BILL.DEL_SVC (payNum p 0x3A0 4)
    |> wr BILL.DEL_PRICE_MASS (payNum p 0x3A4 4) |> wr BILL.DEL_PRICE_VOL (payNum p 0x3A8 4) |> wr BILL.DEL_PRICE_SVC (payNum p 0x3AC 4)
  { s with
    led := { s.led with massTotal := payInt p 0x0E8, massDelivered := payInt p 0x0F0, massResidue := payInt p 0x0F8
                        volTotal := payInt p 0x100, volDelivered := payInt p 0x108, volResidue := payInt p 0x110 }
    bill := { s.bill with nextDel := payNum p 0x008 4
                          frac := if payNum p 0x37C 4 / 2 ^ 31 = 1 then 0 else (payInt p 0x110).toNat } }

/-! ## The totals commit (R60, R349 to R351) -/

/-- VRES is satisfied (R347). -/
def vresOk (s : State) : Bool := decide (rd s LEGL.VRES_OK = 1)

/-- A calibration commit has started and step 5 is still to be written. -/
def calRuns (s : State) : Bool :=
  match s.leg.cal with
  | some c => c.start.isSome && !c.done
  | none => false

/-- COMMIT_BUSY and PENDING of SEAL_STATUS (R358). -/
def showCommit (s : State) : State :=
  s |> wrB LEGL.COMMIT_BUSY (s.leg.tot.isSome || calRuns s) |> wr LEGL.L_PENDING (if s.leg.deferred then min 15 s.leg.bookings.length else 0)

/-- The slot after the newest one of the active bank, wrapping from 7 to 0 (R349). -/
def nextSlot (s : State) : Nat :=
  match newestSlot (bankAt s (rd s LEGL.ACTIVE_BANK)) with
  | some (i, _) => (i + 1) % 8
  | none => 0

/-- A due totals commit starts, or is deferred while VRES is not satisfied (R349 to R351); while the store is lost there is no bank to
write, and while a MONEY, MASS or VOL break halts billing it covers no booking (R63). -/
def totStart (s : State) : State :=
  if !s.leg.due || s.leg.tot.isSome || calRuns s || decide (rd s LEGL.STORE_LOST = 1) then s
  else
    let b := rd s LEGL.ACTIVE_BANK
    let seq := rd s LEGL.TOTALS_SEQ
    if vresOk s then
      let slot := nextSlot s
      let n := if billHalted s then 0 else s.leg.bookings.length
      let p := totalsPayload (if billHalted s then s else view s)
      let s := modBank b (fun k => { k with journal := aset k.journal slot { payload := p } }) s
      showCommit { s with leg := { s.leg with
        due := false, tot := some { slot := slot, seq := (seq + 1) % 2 ^ 32, start := s.time.cycle, payload := p, covers := n } } }
    else
      let s := modBank b (fun k => { k with defer := seq * 2 ^ 32 + scFrame s % 2 ^ 32 }) s
      showCommit (inc LEGL.VRES_DEFERRED { s with leg := { s.leg with deferred := true } })

/-- The commit word of the totals commit in progress is written: its bookings become visible (R60, R349). One whose bookings a break stops
writes no commit word, and they stay pending (R63). -/
def totDone (s : State) : State :=
  match s.leg.tot with
  | none => s
  | some x =>
    if billHalted s && decide (0 < x.covers) then showCommit { s with leg := { s.leg with tot := none, due := true } } else
    let b := rd s LEGL.ACTIVE_BANK
    let s := modBank b (fun k => { k with journal := aset k.journal x.slot (makeSlot x.payload (bankGen k) x.seq) }) s
    let s := forEach (s.leg.bookings.take x.covers) applyBooking s
    let rest := s.leg.bookings.drop x.covers
    showCommit ({ s with leg := { s.leg with tot := none, bookings := rest, deferred := false, due := s.leg.due || !rest.isEmpty } }
      |> wr LEGL.TOTALS_SEQ x.seq |> inc LEGL.COMMITS |> wr LEGL.LAST_COMMIT_SC (scReg s.time.sc))

/-- A totals commit that has run for its longest time is over (R349). -/
def totOverdue (s : State) : State :=
  match s.leg.tot with
  | some x => if x.start + totCycles ≤ s.time.cycle then totDone s else s
  | none => s

/-- TOTALS_COMMIT: due in a commit cycle of a running LGC with a booking or a commit that R60 or R62 requires (R349, R350). -/
def execTotalsCommit (t : Nat) (s : State) : Out := ev t s fun s => if onTick s && lgcRuns s then totStart (totOverdue s) else s

end Sys2Proof.Machine
end

