-- ==== Sys2Proof/Machine/Legl.lean ====
section
/-! DEFINITION. The legal plane (R331 to R348, R352 to R359): requests and answers of the LGC, software identification, the seal and its
session, the calibration commit, ROLLOVER, the VRES guard, the image check, and the start of the LGC. -/
namespace Sys2Proof.Machine

/-! ## Requests and answers (R333, R453) -/

/-- The number of the commit cycle of the present tick: the last one run where it ran at this SC, else the next. -/
def tickNo (s : State) : Nat := if s.time.tickSc = s.time.sc ∧ s.time.ticks ≠ 0 then s.time.ticks else s.time.ticks + 1

/-- An answer reaches a window that has a request outstanding: RSP_HDR, RSP_DATA and its RSP cause (R453). -/
def mboxAnswer (w status tag code : Nat) (data : List Nat) (s : State) : State :=
  if rd s (MBOX.RSP_OUT w) = 0 then s else
  let s := s |> wr (MBOX.RSP_VALID w) 1 |> wr (MBOX.RSP_STATUS w) status |> wr (MBOX.RSP_TAG w) tag |> wr (MBOX.RSP_CODE w) code
    |> wr (MBOX.RSP_LEN w) data.length |> raise 0xF0 w
  forEach (List.range 16) (fun k => wr (MBOX.RSP_DATA w k) (le (slice (fit 64 data) (4 * k) 4))) s

/-- An answer of the LGC is due in the commit cycle of the following tick (R333). -/
def answerNext (r : LgcReq) (status : Nat) (data : List Nat) (s : State) : State :=
  { s with leg := { s.leg with answers := s.leg.answers ++
    [{ win := r.win, tag := r.tag, code := r.code, status := status, data := data, due := tickNo s + 1 }] } }

/-- A request for the LGC arrives: it waits, or finds four waiting and is answered with BUSY in the next commit cycle (R333). -/
def lgcPost (r : LgcReq) (s : State) : State :=
  if s.leg.queue.length < 4 then { s with leg := { s.leg with queue := s.leg.queue ++ [r] } }
  else { s with leg := { s.leg with answers := s.leg.answers ++
    [{ win := r.win, tag := r.tag, code := r.code, status := Code.num .busy, due := s.time.ticks + 1 }] } }

/-- The answers that are due reach their windows. -/
def giveAnswers (s : State) : State :=
  let due := s.leg.answers.filter fun a => decide (a.due ≤ s.time.ticks)
  forEach due (fun a => mboxAnswer a.win a.status a.tag a.code a.data)
    { s with leg := { s.leg with answers := s.leg.answers.filter fun a => decide (s.time.ticks < a.due) } }

/-- While the LGC is halted, every request that waits for it is answered with STATE in the next commit cycle (R333). -/
def haltAnswers (s : State) : State :=
  let no (w tag code : Nat) : State → State := mboxAnswer w (Code.num .state) tag code []
  let s := forEach s.leg.answers (fun a => no a.win a.tag a.code) s
  let s := forEach s.leg.queue (fun r => no r.win r.tag r.code) s
  let s := match s.leg.cal with
    | some c => no c.req.win c.req.tag c.req.code s
    | none => s
  let s := match s.leg.roll with
    | some (_, r, _) => no r.win r.tag r.code s
    | none => s
  { s with leg := { s.leg with answers := [], queue := [], cal := none, roll := s.leg.roll } }

/-! ## Software identification (R334) -/

/-- The bytes LEGAL_ID is computed over: the ROM and the PARAMS area of the active bank. -/
def idBytes (s : State) : List Nat :=
  (List.range 262144).map Config.rom ++ paramArea (bankAt s (rd s LEGL.ACTIVE_BANK)).params

/-- ID_CRC of the parameters in force. -/
def idCrc (s : State) : Nat := crc32 (idBytes s)

/-- The computation of LEGAL_ID begins. -/
def idStart (s : State) : State := wr LEGL.ID_VALID 0 { s with leg := { s.leg with idStart := some s.time.ticks } }

/-- The computation of LEGAL_ID ends: its fields, ID_VALID and ID_CHANGE. -/
def idDone (s : State) : State :=
  let m := toBe 16 (cmac (Config.deviceKey 76) (idBytes s))
  let s := { s with leg := { s.leg with idStart := none } }
    |> wr LEGL.ROM_VERSION Config.romVersion |> wr LEGL.ROM_CRC (crc32 ((List.range 262144).map Config.rom)) |> wr LEGL.ID_CRC (idCrc s)
  forEach (List.range 4) (fun k => wr (LEGL.ID_CMAC k) (le (slice m (4 * k) 4))) s |> wr LEGL.ID_VALID 1 |> raise 0x60 6

/-- ID_COMPUTE_DONE: due while a computation runs, which takes at most 40 ticks (R334). -/
def execIdComputeDone (t : Nat) (s : State) : Out := ev t s fun s => if s.leg.idStart.isSome && lgcRuns s then idDone s else s

/-- A computation that has run for 40 ticks is over. -/
def idOverdue (s : State) : State :=
  match s.leg.idStart with
  | some k => if k + 40 ≤ s.time.ticks then idDone s else s
  | none => s

/-- GET_LEGAL_ID: the LEGAL_ID fields and ID_VALID (R334, R454). -/
def legalIdService (s : State) : Svc :=
  (0, toLe 4 (rd s LEGL.ROM_VERSION) ++ toLe 4 (rd s LEGL.ROM_CRC) ++ toLe 4 (rd s LEGL.ID_CRC)
    ++ (List.range 4).flatMap (fun k => toLe 4 (rd s (LEGL.ID_CMAC k))) ++ [rd s LEGL.ID_VALID], s)

/-- LOG_READ: the 48 bytes of the entry at a position (R352, R454). -/
def logReadService (d : List Nat) (s : State) : Svc :=
  match s.leg.log[le (slice d 0 2)]? with
  | some e => (0, logBytes e, s)
  | none => svcNo .range s

/-! ## The image check (R336, R440) -/

/-- A range of offsets of a page holds an SL field. -/
def holdsSealed (s : State) (page first last : Nat) : Bool :=
  page = 0x61 || (pagePresent s page && (List.range 1024).any fun k => decide (first ≤ 4 * k ∧ 4 * k ≤ last) && decide (sealedBits s page (4 * k) ≠ 0))

/-- The LGC refuses an image by its header: legal content, a LEGAL_CLASS, or a legal target (R336, R440). -/
def imageRefused (s : State) (h : List Nat) : Bool :=
  bit (h.getD 17 0) 0 || decide (h.getD 16 0 ≠ 0) || (List.range 4).any fun k =>
    decide (h.getD (20 + 8 * k) 0 ≠ 0xFF) && holdsSealed s (h.getD (20 + 8 * k) 0) (le (slice h (22 + 8 * k) 2)) (le (slice h (24 + 8 * k) 2))

/-- The check of a header, and STC_IMAGE_REFUSED with slot and version (R336). -/
def imageCheck (slot : Nat) (h : List Nat) (s : State) : Bool × State :=
  if imageRefused s h then (false, logEvent 0x70 0x86 ([slot] ++ slice h 4 4) s) else (true, s)

/-- STC_IMAGE_CHECK: ACCEPT 1 or REFUSE 0; a request names no slot. -/
def imageService (d : List Nat) (s : State) : Svc :=
  let (ok, s) := imageCheck 0xFF (fit 64 d) s
  (0, [b2n ok], s)

/-! ## The seal (R337 to R339) -/

/-- Log DATA of the seal events: the filtered levels (R354). -/
def sealLevels (s : State) : List Nat := [rd s LEGL.SW_FILT, rd s LEGL.TAMPER_FILT]

/-- The seal without a session: ARMED while the filtered SEAL_SW is high and its guard's substitute is not in force. -/
def sealRest (s : State) : Nat := if rd s LEGL.SW_FILT = 1 ∧ s.leg.chatter = false then 1 else 0

/-- The session ends for a reason of R337 (in its order, 1 to 7): the edit buffer is discarded, SEAL_CLOSE logged, SEAL_STATE raised. -/
def endSession (reason : Nat) (s : State) : State :=
  if !sealOpen s then s else
  let n := s.leg.accepted
  let s := when (lgcRuns s) (logEvent 0x14 0x60 ([reason] ++ toLe 4 n)) s
  { s with leg := { s.leg with edit := [], sessNonce := [], badTags := 0, accepted := 0 } }
    |> wr LEGL.SEAL_STATE (sealRest s) |> wr LEGL.STATION_ID 0 |> wr LEGL.OFFICER_ID 0 |> raise 0x60 0

/-- The seal follows SEAL_SW and its guard outside a session; a change raises SEAL_STATE and is logged by a running LGC (R337). -/
def sealFollow (s : State) : State :=
  if sealOpen s ∨ sealRest s = rd s LEGL.SEAL_STATE then s else
  let up := decide (sealRest s = 1)
  let s := wr LEGL.SEAL_STATE (sealRest s) s |> raise 0x60 0
  when (lgcRuns s) (if up then logEvent 0x10 0x60 (sealLevels s) else logEvent 0x14 0x60 [1, 0, 0, 0, 0]) s

/-- One minute in core cycles. -/
def minuteCycles : Nat := 24000000000

/-- The filtered edges of SEAL_SW within the minute that ends now (R338, R519). -/
def sealEdges (s : State) : List Nat := s.leg.edges.filter fun c => decide (s.time.cycle < c + minuteCycles)

/-- A filtered SEAL_SW change (R337, R338). -/
def sealEdge (s : State) : State :=
  let up := rd s LEGL.SW_FILT = 0
  let s := { s with leg := { s.leg with edges := s.time.cycle :: sealEdges s, rose := if up then s.time.ticks else s.leg.rose
                                        noSession := decide up || s.leg.noSession, leftLogged := s.leg.leftLogged && !decide up } }
    |> wrB LEGL.SW_FILT (decide up)
  let fresh := decide (rd s LEGL.SEAL_MAX_EDGES < s.leg.edges.length) && !s.leg.chatter
  let s := if fresh then
      let s := { s with leg := { s.leg with chatter := true } } |> raise 0x60 1
      endSession 2 (when (lgcRuns s) (logEvent 0x12 0x60 (sealLevels s)) s)
    else s
  sealFollow (if up then s else endSession 1 s)

/-- SEAL_SW_EDGE: SEAL_SW has held the other level for FILTER ticks. -/
def execSealSwEdge (t : Nat) (s : State) : Out := ev t s sealEdge

/-- CHATTER ends once a full minute holds no more than MAX_EDGES edges (R338, R519). -/
def sealRecover (s : State) : State :=
  if s.leg.chatter && decide ((sealEdges s).length ≤ rd s LEGL.SEAL_MAX_EDGES) then
    sealFollow { s with leg := { s.leg with chatter := false, edges := sealEdges s } }
  else s

/-- LEFT_OPEN: SEAL_SW high for OPEN_TIMEOUT seconds without a session since the last fall; logged once per opening (R338). -/
def leftOpen (s : State) : State :=
  if rd s LEGL.SW_FILT = 1 ∧ s.leg.noSession = true ∧ s.leg.leftLogged = false
      ∧ s.leg.rose + 400 * rd s LEGL.OPEN_TIMEOUT ≤ s.time.ticks then
    let s := { s with leg := { s.leg with leftLogged := true } } |> raise 0x60 1
    when (lgcRuns s) (logEvent 0x11 0x60 (sealLevels s)) s
  else s

/-- SEAL_LEFT_OPEN. -/
def execSealLeftOpen (t : Nat) (s : State) : Out := ev t s leftOpen

/-- The filtered TAMPER_N is asserted (R339). EVT_TAMPER rises with the entry, or at once where none is made (R354, log 129). -/
def tamper (s : State) : State :=
  let s := wr LEGL.TAMPER_FILT 1 s
  let s := endSession 3 s |> inc LEGL.TAMPER_COUNT |> raise 0x60 2
  let held := match s.leg.tamperAt with
    | some c => decide (s.time.cycle < c + rd s LEGL.TAMPER_HOLD * secondSteps)
    | none => false
  if held then inc ALOG.EVT_TAMPER s
  else if lgcRuns s then
    logEvent 0x16 0x60 ([rd s LEGL.SW_FILT] ++ toLe 4 (rd s LEGL.TAMPER_COUNT)) { s with leg := { s.leg with tamperAt := some s.time.cycle } }
  else inc ALOG.EVT_TAMPER s

/-- TAMPER: the filtered level of TAMPER_N changes; on is its assertion. -/
def execTamper (t : Nat) (on : Bool) (s : State) : Out :=
  ev t s fun s => if on then (if rd s LEGL.TAMPER_FILT = 0 then tamper s else s) else wr LEGL.TAMPER_FILT 0 s

/-! ## The session (R340 to R342) -/

/-- SESSION_START: a new NONCE, SERIAL and ID_CRC (R340). -/
def sessionStart (d : List Nat) (s : State) : Svc :=
  if rd s LEGL.SEAL_STATE ≠ 1 ∨ rd s BILL.DEL_OPEN = 1 ∨ s.time.ticks < s.leg.lockUntil then svcNo .state s
  else
    let n := toBe 16 (Config.nonce s.leg.draws)
    (0, n ++ serialBytes s ++ toLe 4 (rd s LEGL.ID_CRC),
      { s with leg := { s.leg with draws := s.leg.draws + 1
                                   nonce := some { bytes := n, tick := s.time.ticks, station := le (slice d 0 4), officer := le (slice d 4 4) } } })

/-- RESP of R340. -/
def sessionResp (s : State) (n : Nonce) : List Nat :=
  toBe 16 (cmac (Config.deviceKey 72) ([0x53, 0x45, 0x41, 0x4C] ++ serialBytes s ++ n.bytes ++ toLe 4 n.station ++ toLe 4 n.officer))

/-- A SESSION_RESPONSE that does not open a session (R340). -/
def sessionFail (station officer : Nat) (s : State) : Svc :=
  let k := s.leg.failed + 1
  let s := inc LEGL.AUTH_FAILS s |> raise 0x60 4 |> logEvent 0x15 0x60 (toLe 4 station ++ toLe 4 officer ++ [k])
  let s := if 3 ≤ k then { s with leg := { s.leg with failed := 0, lockUntil := s.time.ticks + 400 * rd s LEGL.LOCK_S } }
    else { s with leg := { s.leg with failed := k } }
  svcNo .auth s

/-- The session opens (R340, R341). -/
def openSession (n : Nonce) (s : State) : State :=
  { s with leg := { s.leg with nonce := none, sessNonce := n.bytes, failed := 0, badTags := 0, accepted := 0, lastCmd := s.time.ticks
                               noSession := false, edit := (bankAt s (rd s LEGL.ACTIVE_BANK)).params } }
    |> wr LEGL.SEAL_STATE 2 |> wr LEGL.SESSION_SEQ 0 |> wr LEGL.STATION_ID n.station |> wr LEGL.OFFICER_ID n.officer
    |> logEvent 0x13 0x60 (toLe 4 n.station ++ toLe 4 n.officer) |> raise 0x60 0

/-- SESSION_RESPONSE (R340). -/
def sessionResponse (d : List Nat) (s : State) : Svc :=
  if rd s LEGL.SEAL_STATE ≠ 1 then svcNo .state s else
  match s.leg.nonce with
  | none => sessionFail 0 0 s
  | some n =>
    if n.tick + 4000 < s.time.ticks ∨ slice d 0 16 ≠ sessionResp s n then sessionFail n.station n.officer s
    else (0, [], openSession n s)

/-- The TAG of a session message under the session's NONCE (R341). -/
def sessionTag (s : State) (l : List Nat) : List Nat := toBe 16 (cmac (Config.deviceKey 72) (s.leg.sessNonce ++ l))

/-- The bytes of an answer to a session command: SEQ, results and TAG (R341). -/
def sessionBytes (s : State) (seq op status : Nat) (res : List Nat) : List Nat :=
  toLe 4 seq ++ res ++ sessionTag s (toLe 4 seq ++ [op, status] ++ res)

/-- A session command is accepted, with its SEQ, OP and arguments; or it is refused with STATE outside a session, or with AUTH, and the
third bad TAG in a row ends the session (R337, R341). -/
def sessionAccept (d : List Nat) (s : State) : Option Code × State :=
  if !sealOpen s then (some .state, s) else
  let body := d.take (d.length - 16)
  if d.drop (d.length - 16) ≠ sessionTag s body ∨ d.length < 21 then
    let s := { s with leg := { s.leg with badTags := s.leg.badTags + 1 } }
    (some .auth, if 3 ≤ s.leg.badTags then endSession 6 s else s)
  else if le (slice d 0 4) ≠ rd s LEGL.SESSION_SEQ + 1 then (some .auth, { s with leg := { s.leg with badTags := 0 } })
  else (none, wr LEGL.SESSION_SEQ (le (slice d 0 4))
    { s with leg := { s.leg with badTags := 0, accepted := s.leg.accepted + 1, lastCmd := s.time.ticks } })

/-! ## Calibration commits (R345, R346, R351) -/

/-- How many records differ between two lists. -/
def recordsChanged (a b : List Nat) : Nat :=
  ((List.range (max a.length b.length)).filter fun i => decide (a.getD i erased ≠ b.getD i erased)).length

/-- The settings as a COMMIT of the edit buffer would leave them. -/
def candidate (s : State) : State :=
  withParams (bankAt s (rd s LEGL.ACTIVE_BANK)).params (listed s.leg.edit) s

/-- Check 2 of R345. -/
def commitRange (s : State) : Bool :=
  let l := listed s.leg.edit
  let c := assignRoles s (candidate s)
  l.any (badRecord s) || brokenRules c || (l.any (fun r => decide ((recordFields r).1 = 0x69)) && badCalendar c)

/-- A COMMIT: its checks in the order of R345, the fourth only once VRES, which the third waits for, is satisfied; then it waits for VRES and
for a totals commit that executes. -/
def commitCmd (r : LgcReq) (seq : Nat) (s : State) : Option Code × State :=
  let no (c : Code) : Option Code × State := (some c, inc LEGL.COMMITS_REFUSED s)
  if s.leg.cal.isSome then no .busy
  else if commitRange s then no .range
  else if rd s BILL.DEL_OPEN = 1 then no .state
  else if vresOk s && decide (logNear ≤ s.leg.log.length) then no .exhausted
  else
    let a := bankAt s (rd s LEGL.ACTIVE_BANK)
    let l := listed s.leg.edit
    let gen := (max (bankTop s.leg.bankA) (bankTop s.leg.bankB) + 1) % 2 ^ 32
    let run : CalRun :=
      { gen := gen, old := rd s LEGL.ACTIVE_GEN, changed := recordsChanged a.params l, params := l, start := none
        waitTo := s.time.ticks + rd s LEGL.VRES_TIMEOUT, req := r, seq := seq }
    (none, { s with leg := { s.leg with cal := some run } })

/-- Steps 1 and 2 of R346: COMMIT of the inactive bank is 0, INTENT holds GEN. -/
def calStart (c : CalRun) (s : State) : State :=
  let s := modBank (otherBank s) (fun b => { b with commit := 0, intent := c.gen * 2 ^ 32 + 0x494E544E, params := [], mac := [], journal := [] }) s
  showCommit { wr LEGL.INACTIVE_GEN 0 s with leg := { s.leg with cal := some { c with start := some s.time.cycle } } }

/-- Steps 3 to 5 of R346: the inactive bank becomes the active one. -/
def calDone (c : CalRun) (s : State) : State :=
  let o := otherBank s
  let seq := rd s LEGL.TOTALS_SEQ
  let newest := match newestSlot (bankAt s (rd s LEGL.ACTIVE_BANK)) with
    | some (_, j) => j.payload
    | none => totalsPayload s
  let m := bodyMac c.params c.gen
  let s := modBank o (fun b => { b with params := c.params, mac := m, journal := [(0, makeSlot newest c.gen seq)]
                                        commit := c.gen * 2 ^ 32 + be (m.take 4) }) s
  showCommit ({ s with leg := { s.leg with cal := some { c with done := true } } }
    |> wr LEGL.ACTIVE_BANK o |> wr LEGL.ACTIVE_GEN c.gen |> wr LEGL.INACTIVE_GEN c.old |> inc LEGL.COMMITS
    |> wr LEGL.LAST_COMMIT_SC (scReg s.time.sc))

/-- CAL_COMMIT_DONE: step 5 of the commit that executes (R346). -/
def execCalCommitDone (t : Nat) (s : State) : Out :=
  ev t s fun s => match s.leg.cal with
    | some c => if c.start.isSome ∧ c.done = false then calDone c s else s
    | none => s

/-- The first commit cycle after step 5: the parameters take effect, CAL_COMMIT is logged, COMMIT_DONE raised, LEGAL_ID recomputed, and
the COMMIT is answered with GEN while its session is open (R346). -/
def calApply (c : CalRun) (s : State) : State :=
  let old := (bankAt s (otherBank s)).params
  let s := applyParams old c.params (wr LEGL.STORE_LOST 0 { s with leg := { s.leg with cal := none } })
  let s := logEvent 0x20 0x60 (toLe 4 c.old ++ toLe 4 c.gen ++ toLe 4 c.changed ++ toLe 4 (idCrc s)) s
  let s := idStart (raise 0x60 5 s)
  if sealOpen s then mboxAnswer c.req.win 0 c.req.tag c.req.code (sessionBytes s c.seq 3 0 (toLe 4 c.gen)) s else s

/-- A COMMIT that waited is refused (R345). -/
def calRefuse (c : CalRun) (code : Code) (s : State) : State :=
  inc LEGL.COMMITS_REFUSED (mboxAnswer c.req.win code.num c.req.tag c.req.code
    (if sealOpen s then sessionBytes s c.seq 3 code.num [] else []) { s with leg := { s.leg with cal := none } })

/-- A COMMIT that waits: refused with STATE once its session ended, a delivery is open, or VRES did not come within TIMEOUT ticks, and with
EXHAUSTED where the log has filled; else it starts once VRES is satisfied and no totals commit executes (R345). -/
def calWait (c : CalRun) (s : State) : State :=
  if !sealOpen s || decide (rd s BILL.DEL_OPEN = 1) || (!vresOk s && decide (c.waitTo ≤ s.time.ticks)) then calRefuse c .state s
  else if !vresOk s then s
  else if logNear ≤ s.leg.log.length then calRefuse c .exhausted s
  else if s.leg.tot.isSome then s else calStart c s

/-- The calibration commit in a commit cycle: it waits, ends after at most 2.0 ms, and takes effect in the commit cycle after that (R345,
R346). -/
def calWork (s : State) : State :=
  match s.leg.cal with
  | none => s
  | some c =>
    match c.start with
    | none => calWait c s
    | some t0 =>
      if c.done then calApply c s
      else if t0 + calCycles ≤ s.time.cycle then
        let s := calDone c s
        calApply c s
      else s

/-! ## ROLLOVER (R356) -/

/-- A ROLLOVER: BUSY, RANGE for a wrong CHAIN, STATE below 4,032 entries. -/
def rolloverCmd (r : LgcReq) (seq : Nat) (arg : List Nat) (s : State) : Option Code × State :=
  if s.leg.roll.isSome then (some .busy, s)
  else if slice arg 0 8 ≠ lastChain s then (some .range, s)
  else if s.leg.log.length < logNear then (some .state, s)
  else (none, { s with leg := { s.leg with roll := some (s.time.cycle, r, seq) } })

/-- The log is erased, and LOG_ROLLOVER, which carries the last SEQ and CHAIN, chains from that CHAIN (R356). -/
def eraseLog (s : State) : State :=
  let prev := lastChain s
  let last := (s.leg.log.getLast?.map LogEntry.seq).getD 0
  let (day, sod) := wallStamp s
  let e : LogEntry := { seq := rd s ALOG.NEXT_SEQ, event := 0x81, source := 0x61, flags := logFlags s, sc := scReg s.time.sc, day := day
                        sod := sod, data := fit 16 (toLe 4 last ++ prev) }
  showUsed (inc ALOG.NEXT_SEQ { s with leg := { s.leg with log := [{ e with chain := chainAfter prev e }], roll := none } } |> raise 0x61 4)

/-- The ROLLOVER completes, and is answered. -/
def rolloverDone (s : State) : State :=
  match s.leg.roll with
  | none => s
  | some (_, r, seq) =>
    let s := eraseLog s
    if sealOpen s then mboxAnswer r.win 0 r.tag r.code (sessionBytes s seq 5 0 []) s else s

/-- ROLLOVER_DONE (R356). -/
def execRolloverDone (t : Nat) (s : State) : Out := ev t s rolloverDone

/-- A ROLLOVER takes at most 50 ms. -/
def rollOverdue (s : State) : State :=
  match s.leg.roll with
  | some (c, _, _) => if c + 20000000 ≤ s.time.cycle then rolloverDone s else s
  | none => s

/-! ## Session commands (R341) -/

/-- Records of the edit buffer (R344). -/
def maxRecords : Nat := 1018

/-- Write a record of the edit buffer. -/
def putRecord (i v : Nat) (l : List Nat) : List Nat := (l ++ List.replicate (i + 1 - l.length) erased).set i v

/-- CLEAR_BREAK of MONEY, MASS or VOL once its balance holds (R64, R341). -/
def sessionClear (d : Nat) (s : State) : Option Code × List Nat × State :=
  if d < 6 ∨ 8 < d then (some .range, [], s) else if !balanced s d then (some .ledger, [], s) else (none, [], endBreak d s)

/-- The effect of an accepted session command: its code, its results, and whether it is answered later (R341). -/
def sessionOp (r : LgcReq) (seq op : Nat) (a : List Nat) (s : State) : Option Code × List Nat × Bool × State :=
  if op = 1 then
    let i := le (slice a 0 2)
    if maxRecords ≤ i then (some .range, [], false, s) else (none, toLe 8 (s.leg.edit.getD i erased), false, s)
  else if op = 2 then
    let i := le (slice a 0 2)
    if maxRecords ≤ i then (some .range, [], false, s)
    else (none, [], false, { s with leg := { s.leg with edit := putRecord i (le (slice a 2 8)) s.leg.edit } })
  else if op = 3 then
    let (c, s) := commitCmd r seq s
    (c, [], c.isNone, s)
  else if op = 4 then
    (none, [], false, { s with leg := { s.leg with edit := (bankAt s (rd s LEGL.ACTIVE_BANK)).params } })
  else if op = 5 then
    let (c, s) := rolloverCmd r seq a s
    (c, [], c.isNone, s)
  else if op = 6 then
    let (c, l, s) := sessionClear (a.getD 0 0) s
    (c, l, false, s)
  else if op = 7 then (none, [], false, s)
  else (some .range, [], false, s)

/-- The answer of a refused session command: SEQ and TAG under the session it met, none where it met no session (R341). -/
def refusedBytes (s : State) (d : List Nat) (c : Code) : List Nat :=
  if sealOpen s then sessionBytes s (le (slice d 0 4)) (d.getD 4 0) c.num [] else []

/-- SESSION_CMD: refused without a result, or carried out and answered with SEQ and TAG in the next tick, a COMMIT and a ROLLOVER when
they complete; CLOSE ends the session (R333, R341). -/
def sessionCmd (r : LgcReq) (s : State) : State :=
  match sessionAccept r.data s with
  | (some c, s') => answerNext r c.num (refusedBytes s r.data c) s'
  | (none, s) =>
    let seq := le (slice r.data 0 4)
    let op := r.data.getD 4 0
    let (c, res, later, s) := sessionOp r seq op ((r.data.take (r.data.length - 16)).drop 5) s
    let st := (c.map Code.num).getD 0
    if later then s
    else
      let s := answerNext r st (sessionBytes s seq op st res) s
      if op = 7 then endSession 4 s else s

/-- The session ends after SESSION_TIMEOUT seconds without an accepted command (R337). -/
def sessionTimeout (s : State) : State :=
  if sealOpen s ∧ s.leg.lastCmd + 400 * rd s LEGL.SESSION_TIMEOUT ≤ s.time.ticks then endSession 5 s else s

/-- SESSION_TIMEOUT. -/
def execSessionTimeout (t : Nat) (s : State) : Out := ev t s sessionTimeout

/-! ## The services (R333, R454) -/

/-- The LGC takes a request: its service runs, and its answer is due in the next tick. -/
def serve (r : LgcReq) (s : State) : State :=
  let done (x : Svc) : State := answerNext r x.1 x.2.1 x.2.2
  if r.code = 0x81 then done (legalIdService s)
  else if r.code = 0x82 then done (logReadService r.data s)
  else if r.code = 0x83 then done (sessionStart r.data s)
  else if r.code = 0x84 then done (sessionResponse r.data s)
  else if r.code = 0x85 then sessionCmd r s
  else if r.code = 0x86 then done (openService r.data s)
  else if r.code = 0x87 then done (stopService r.data s)
  else if r.code = 0x88 then done (creditService (fit 36 r.data) s)
  else if r.code = 0x89 then done (priceService (decide (r.win = 1)) (fit 36 r.data) s)
  else if r.code = 0x8A then done (emergencyService r.data s)
  else done (imageService r.data s)

/-- How many requests the LGC has taken in the present tick. -/
def takenNow (s : State) : Nat := if s.leg.takenSc = tickNo s then s.leg.taken else 0

/-- The LGC takes the request that has waited longest, at most four in a tick; a credit message waits until seat 2 has checked its VTAG
(R333, R369). -/
def takeFront (s : State) : State :=
  match s.leg.queue with
  | [] => s
  | r :: q =>
    if 4 ≤ takenNow s ∨ (r.code = 0x88 ∧ r.checked = false) then s
    else serve r { s with leg := { s.leg with queue := q, taken := takenNow s + 1, takenSc := tickNo s } }

/-- The LGC takes the requests of a commit cycle. -/
def takeRequests (s : State) : State := takeFront (takeFront (takeFront (takeFront s)))

/-- A service row: the oldest waiting request is taken if it is one for this service, in a commit cycle of a running LGC, after the
triggers of that cycle (R333, R367). -/
def service (p : LgcReq → Bool) (s : State) : State :=
  match s.leg.queue with
  | r :: _ => if onTick s && lgcRuns s && p r then takeFront (billTriggers s) else s
  | [] => s

/-- The OP of a credit body. -/
def isCredit (op : Nat) (r : LgcReq) : Bool := decide (r.code = 0x88 ∧ r.data.getD 4 0 = op)
/-- The OP of a session command. -/
def isSession (op : Nat) (r : LgcReq) : Bool := decide (r.code = 0x85 ∧ r.data.getD 4 0 = op)
/-- A request for a service. -/
def isCode (c : Nat) (r : LgcReq) : Bool := decide (r.code = c)

/-- GET_LEGAL_ID (R334). -/
def execGetLegalId (t : Nat) (s : State) : Out := ev t s (service (isCode 0x81))
/-- LOG_READ (R352). -/
def execLogRead (t : Nat) (s : State) : Out := ev t s (service (isCode 0x82))
/-- SESSION_START (R340). -/
def execSessionStart (t : Nat) (s : State) : Out := ev t s (service (isCode 0x83))
/-- SESSION_RESPONSE (R340). -/
def execSessionResponse (t : Nat) (s : State) : Out := ev t s (service (isCode 0x84))
/-- PARAM_READ (R341). -/
def execParamRead (t : Nat) (s : State) : Out := ev t s (service (isSession 1))
/-- PARAM_WRITE (R341). -/
def execParamWrite (t : Nat) (s : State) : Out := ev t s (service (isSession 2))
/-- COMMIT (R345): it starts in this commit cycle where it need not wait. -/
def execCommit (t : Nat) (s : State) : Out := ev t s fun s => calWork (service (isSession 3) s)
/-- DISCARD (R341). -/
def execSessionDiscard (t : Nat) (s : State) : Out := ev t s (service (isSession 4))
/-- ROLLOVER (R356). -/
def execRollover (t : Nat) (s : State) : Out := ev t s (service (isSession 5))
/-- CLEAR_BREAK in a session (R64, R341). -/
def execSessionClearBreak (t : Nat) (s : State) : Out := ev t s (service (isSession 6))
/-- CLOSE (R341). -/
def execSessionClose (t : Nat) (s : State) : Out := ev t s (service (isSession 7))
/-- STC_IMAGE_CHECK (R336). -/
def execStcImageCheck (t : Nat) (s : State) : Out := ev t s (service (isCode 0x8B))
/-- DELIVERY_OPEN (R371). -/
def execDeliveryOpen (t : Nat) (s : State) : Out := ev t s (service (isCode 0x86))
/-- DELIVERY_STOP (R371). -/
def execDeliveryStop (t : Nat) (s : State) : Out := ev t s (service (isCode 0x87))
/-- TOPUP: a credit body with OP 0x01 (R369). -/
def execTopup (t : Nat) (s : State) : Out := ev t s (service (isCredit 1))
/-- EXPIRE: a credit body with OP 0x02 (R369). -/
def execExpire (t : Nat) (s : State) : Out := ev t s (service (isCredit 2))
/-- CLOSE of an account: a credit body with OP 0x03 (R369). -/
def execAccountClose (t : Nat) (s : State) : Out := ev t s (service (isCredit 3))
/-- OPEN of an account: a credit body with OP 0x04 (R369). -/
def execAccountOpen (t : Nat) (s : State) : Out := ev t s (service (isCredit 4))
/-- PRICE (R368). -/
def execPriceStage (t : Nat) (s : State) : Out := ev t s (service (isCode 0x89))
/-- EMERGENCY (R370). -/
def execEmergency (t : Nat) (s : State) : Out := ev t s (service (isCode 0x8A))

/-! ## The VRES guard (R347) -/

/-- VRES_SAMPLE: the sample of a frame, in mV; one outside VRES_MIN to VRES_MAX raises VRES_GUARD. -/
def vresSample (mv : Nat) (s : State) : State :=
  let ok := decide (rd s LEGL.VRES_MIN ≤ mv ∧ mv ≤ rd s LEGL.VRES_MAX)
  let run := if ok then s.leg.vresRun + 1 else 0
  { s with leg := { s.leg with vresRun := run } }
    |> wr LEGL.VRES_NOW mv |> wrB LEGL.VRES_OK (ok && decide (max 1 (rd s LEGL.VRES_FILTER) ≤ run)) |> when (!ok) (raise 0x60 3)

/-- VRES_SAMPLE, with the sample. -/
def execVresSample (t : Nat) (mv : Nat) (s : State) : Out := ev t s (vresSample mv)

/-! ## The start of the LGC (R348, R489) -/

/-- The valid bank with the highest GEN: its number (R348). -/
def selectBank (s : State) : Option Nat :=
  let a := bankValid s.leg.bankA
  let b := bankValid s.leg.bankB
  if a && b then some (if bankGen s.leg.bankA < bankGen s.leg.bankB then 1 else 0) else if a then some 0 else if b then some 1 else none

/-- The generation of an interrupted calibration commit: an INTENT above every valid GEN (R348). -/
def interruptedGen (s : State) : Option Nat :=
  let valid (b : Bank) : Nat := if bankValid b then bankGen b else 0
  let intent (b : Bank) : Nat := if b.intent = erased then 0 else b.intent / 2 ^ 32
  let g := max (intent s.leg.bankA) (intent s.leg.bankB)
  if max (valid s.leg.bankA) (valid s.leg.bankB) < g then some g else none

/-- A last log entry whose CHAIN fails is erased, and LOG_TORN carries its SEQ (R353). -/
def bootTorn (s : State) : State :=
  match s.leg.log.getLast? with
  | none => s
  | some e =>
    let l := s.leg.log.dropLast
    let prev := (l.getLast?.map LogEntry.chain).getD (zeros 8)
    if l.isEmpty || decide (e.chain = chainAfter prev e) then s
    else logEvent 0x80 0x61 (toLe 4 e.seq) (showUsed { s with leg := { s.leg with log := l } })

/-- What SELFTEST logs of a bank and its totals (R348, R61). -/
def bootBank (b : Nat) (s : State) : State :=
  let k := bankAt s b
  let s := match interruptedGen s with
    | some g => logEvent 0x21 0x60 (toLe 4 g ++ toLe 4 (bankGen k)) s
    | none => s
  let newest := newestSlot k
  let seq := (newest.map fun x => x.2.word / 2 ^ 32).getD 0
  let s := if k.journal.any fun x => decide (x.2.word = erased) then logEvent 0x24 0x60 (toLe 4 (seq + 1)) s else s
  match newest with
  | none => s
  | some (_, j) =>
    if k.defer ≠ erased ∧ k.defer / 2 ^ 32 = seq then logEvent 0x23 0x60 (slice j.payload 0 8 ++ toLe 8 (scReg s.time.sc)) s else s

/-- DELIVERY_INTERRUPTED for a delivery that the newest totals of a bank show open (R61, R376). -/
def bootDelivery (b : Nat) (s : State) : State :=
  match newestSlot (bankAt s b) with
  | some (_, j) => if payNum j.payload 0x37C 4 / 2 ^ 31 = 1 then logEvent 0x25 0x68 (slice j.payload 0x378 4) s else s
  | none => s

/-- The end of SELFTEST: what the LGC finds in the log and the store, and BOOT (R348, R353, R356, R489). -/
def selftestEnd (s : State) : State :=
  let s := if s.leg.roll.isSome then eraseLog s else bootTorn s
  let sel := selectBank s
  let s := match sel with
    | some b => bootBank b s
    | none => logEvent 0x22 0x60 (toLe 8 s.leg.bankA.commit ++ toLe 8 s.leg.bankB.commit) s
  let s := if s.leg.haltWhy = 0 then s
    else logEvent 0x02 0x60 [s.leg.haltWhy] { s with leg := { s.leg with haltWhy := 0 } }
  let s := match sel with
    | some b => bootDelivery b s
    | none => s
  let k := bankAt s (sel.getD 0)
  let seq := ((newestSlot k).map fun x => x.2.word / 2 ^ 32).getD 0
  let id := crc32 ((List.range 262144).map Config.rom ++ paramArea (if sel.isSome then k.params else []))
  let s := logEvent 0x01 0x60 ([sel.getD 255] ++ toLe 4 (if sel.isSome then bankGen k else 0) ++ toLe 4 seq ++ toLe 4 id) s
  { s with leg := { s.leg with selfDone := true } }

/-- LGC_STATE becomes RUN in the first commit cycle after SELFTEST: the bank and the totals it selected take effect, or nothing where the
store is lost; after HIBERNATE the Dome's totals are restored (R61, R62, R348, R376, R489). -/
def goRun (s : State) : State :=
  if rd s SYS.LGC_STATE ≠ 1 ∨ s.leg.selfDone = false then s else
  let s := wr SYS.LGC_STATE 2 { s with leg := { s.leg with ran := true, rose := s.time.ticks, noSession := true }, bill := { s.bill with evalDue := true } }
  let s := showUsed (wr LEGL.SEAL_STATE (sealRest s) s)
  match selectBank s with
  | none => idStart (wr LEGL.STORE_LOST 1 s)
  | some b =>
    let k := bankAt s b
    let o := bankAt s (1 - b)
    let s := s |> wr LEGL.ACTIVE_BANK b |> wr LEGL.ACTIVE_GEN (bankGen k) |> wr LEGL.INACTIVE_GEN (if bankValid o then bankGen o else 0)
    let s := match newestSlot k with
      | some (_, j) => wr LEGL.TOTALS_SEQ (j.word / 2 ^ 32) (restoreTotals (if s.leg.retained = [] then j.payload else s.leg.retained) s)
      | none => s
    let s := applyParams [] k.params s
    let s := if rd s BILL.DEL_OPEN = 1 then closeWith 5 none s else s
    idStart s

/-- Legal entries that an error emptied are reinstalled, and the loss is logged (R50). -/
def reinstall (s : State) : State :=
  let l := s.leg.lost
  forEach l (fun x s => logEvent 0x52 0x04 (toLe 2 x.1 ++ [1]) (replaceEntry x.1 x.2 s)) { s with leg := { s.leg with lost := [] } }

end Sys2Proof.Machine
end

