-- ==== Sys2Proof/Machine/Swch.lean ====
section
/-! DEFINITION. The supply switch (R382 to R400), PWR_WARN_N and its guard (R391), and the halt of the LGC (R25). -/
namespace Sys2Proof.Machine

/-! ## Phases and limits (R382, R383, R389) -/

/-- The fitted phases. -/
def swPhases (s : State) : List Nat := List.range (Variant.phases s.fuse.variant)

/-- The fitted phases with EN. -/
def swEnabled (s : State) : List Nat := (swPhases s).filter fun p => decide (rd s (SWCH.PH_EN p) = 1)

/-- A phase is OPEN or SENSE_LOST. -/
def phaseBad (s : State) (p : Nat) : Bool := decide (rd s (SWCH.PH_OPEN p) = 1 ∨ rd s (SWCH.SENSE_LOST p) = 1)

/-- The sum of LIMIT_MA over phases. -/
def limitSum (s : State) (l : List Nat) : Nat := (l.map fun p => rd s (SWCH.LIMIT_MA p)).sum

/-- TOTAL_EFF (R389). -/
def totalEff (s : State) : Nat :=
  let en := swEnabled s
  if !(swPhases s).any (phaseBad s) || en.isEmpty then rd s SWCH.TOTAL_LIMIT
  else if rd s SWCH.DERATE_LIMIT ≠ 0 then rd s SWCH.DERATE_LIMIT
  else rd s SWCH.TOTAL_LIMIT * (en.filter fun p => !phaseBad s p).length / en.length

/-- A quotient as an integer; an inexact one is rounded up or down as the n-th free value says. -/
def roundOpen (n : Nat) (num : Int) (den : Nat) : Int :=
  num / (den : Int) + (if num % (den : Int) ≠ 0 ∧ Config.roundUp n then 1 else 0)

/-- The product of the RSHUNT of the enabled phases: the common denominator of their currents. -/
def shuntProduct (s : State) : Nat := ((swEnabled s).map fun p => max 1 (rd s (SWCH.RSHUNT p))).foldl (· * ·) 1

/-- The accounted load in mA, times shuntProduct, from the shunt voltages in nV (R383). -/
def loadScaled (s : State) (v : List Int) : Int :=
  let d := shuntProduct s
  ((swEnabled s).map fun p =>
    if rd s (SWCH.SENSE_LOST p) = 1 then ((rd s (SWCH.LIMIT_MA p) * d : Nat) : Int)
    else v.getD p 0 * ((d / max 1 (rd s (SWCH.RSHUNT p)) : Nat) : Int)).sum

/-- The current of a phase is above num/den of its LIMIT_MA. -/
def currentAbove (s : State) (v : List Int) (p num den : Nat) : Bool :=
  decide (((rd s (SWCH.LIMIT_MA p) * rd s (SWCH.RSHUNT p) * num : Nat) : Int) < v.getD p 0 * (den : Int))

/-! ## Causes and the next state (R386 to R388, R397) -/

/-- The switch before the causes of this cycle. -/
def swBase (s : State) : SwBase :=
  { state := rd s SWCH.STATE, why := rd s SWCH.STOP_WHY, k := rd s SWCH.RETRY_K, latches := rd s SWCH.LATCHES
    retries := rd s SWCH.RETRIES_DONE, cause := rd s (HDR.CAUSE 0x70), rampStart := s.sw.rampStart, waitUntil := s.sw.waitUntil
    gatesOff := s.sw.gatesOff, stopped := s.sw.stopped }

/-- Back to the switch before the causes of this cycle; LATCHED and RAMP_DONE are the causes that a next state raises. -/
def swRestore (b : SwBase) (s : State) : State :=
  { s with sw := { s.sw with rampStart := b.rampStart, waitUntil := b.waitUntil, gatesOff := b.gatesOff, stopped := b.stopped } }
    |> wr SWCH.STATE b.state |> wr SWCH.STOP_WHY b.why |> wr SWCH.RETRY_K b.k |> wr SWCH.LATCHES b.latches
    |> wr SWCH.RETRIES_DONE b.retries
    |> wr (HDR.CAUSE 0x70) (clearBits (rd s (HDR.CAUSE 0x70)) (clearBits 0x102 b.cause))

/-- The gates are commanded off in this cycle. -/
def gatesOff (s : State) : State := { s with sw := { s.sw with gatesOff := s.time.cycle } }

/-- The switch enters OFF: k returns to 0, and with LATCH, DERATE or VIN the LGC finds a stop it did not order (R388, R398). -/
def enterOff (s : State) : State :=
  let w := rd s SWCH.STOP_WHY
  { s with sw := { s.sw with stopped := s.sw.stopped || (decide (2 ≤ w) && decide (w ≤ 4)) } } |> wr SWCH.STATE 0 |> wr SWCH.RETRY_K 0

/-- A stop from a state: a ramp-off, or OFF at once where a hard off meets it or the gates are off already (R386, R397). -/
def swStop (from_ why : Nat) (hard : Bool) (s : State) : State :=
  if from_ = 4 ∨ (hard = true ∧ (from_ = 1 ∨ from_ = 2)) then enterOff (wr SWCH.STOP_WHY why s)
  else if from_ = 1 ∨ from_ = 2 then gatesOff (s |> wr SWCH.STATE 3 |> wr SWCH.STOP_WHY why)
  else s

/-- What follows a trip from RAMP_UP or ON: RETRY_WAIT while retries are left, else LATCHED (R388). -/
def swTripNext (s : State) : State :=
  let k := rd s SWCH.RETRY_K
  if k < rd s SWCH.RETRIES then
    { s with sw := { s.sw with waitUntil := s.time.cycle + rd s SWCH.BACKOFF * 2 ^ k * frameSteps } } |> wr SWCH.STATE 4
  else { s with sw := { s.sw with stopped := true } } |> wr SWCH.STATE 5 |> wr SWCH.STOP_WHY 2 |> inc SWCH.LATCHES |> raise 0x70 1

/-- RAMP_UP begins (R385). -/
def rampUp (s : State) : State := wr SWCH.STATE 1 { s with sw := { s.sw with rampStart := s.time.cycle } }

/-- The next state that a list of causes gives from a state; the TAP's hold is a hard off as long as it lasts (R397, R517). -/
def swNext (l : List SwCause) (st : Nat) (s : State) : State :=
  let l := if s.tap then SwCause.tap :: l else l
  let hard := l.contains .trip || l.contains .vin || l.contains .tap
  let s := when (hard && (st == 1 || st == 2 || st == 3)) gatesOff s
  if l.contains .halt || l.contains .tap then swStop st 5 hard s
  else if l.contains .vin then swStop st 4 hard s
  else if l.contains .disconnect then swStop st 1 hard s
  else if l.contains .derate then swStop st 3 hard s
  else if l.contains .trip then (if st = 1 ∨ st = 2 then swTripNext s else s)
  else if l.contains .connect then (if st = 0 then rampUp s else s)
  else if l.contains .retry then (if st = 4 then rampUp (s |> inc SWCH.RETRY_K |> inc SWCH.RETRIES_DONE) else s)
  else if st = 1 then raise 0x70 8 (wr SWCH.STATE 2 { s with sw := { s.sw with onRun := 0 } }) else s

/-- A cause joins those of its cycle, which the switch acts on together from where it stood before them (R397). -/
def swCause (c : SwCause) (s : State) : State :=
  if s.sw.causes ≠ [] ∧ s.sw.causeAt = s.time.cycle then
    let l := c :: s.sw.causes
    swNext l s.sw.base.state (swRestore s.sw.base { s with sw := { s.sw with causes := l } })
  else
    swNext [c] (rd s SWCH.STATE) { s with sw := { s.sw with causes := [c], causeAt := s.time.cycle, base := swBase s } }

/-- The state that the causes of this cycle find. -/
def swFound (s : State) : Nat :=
  if s.sw.causes ≠ [] ∧ s.sw.causeAt = s.time.cycle then s.sw.base.state else rd s SWCH.STATE

/-- A trip with its TRIP_WHY and phase; a second one in the same cycle is the same trip (R387). -/
def swTrip (why : Nat) (phase : Option Nat) (s : State) : State :=
  if s.sw.causeAt = s.time.cycle ∧ s.sw.causes.contains .trip then s else
  let s := s |> inc SWCH.TRIPS |> wr SWCH.TRIP_WHY why |> raise 0x70 0
  let s := match phase with
    | some p => s |> wr SWCH.TRIP_PHASE p |> inc (SWCH.PHASE_TRIPS p)
    | none => s
  swCause .trip (when (why == 1) (inc SWCH.FAST_TRIPS) s)

/-! ## The gates (R382 to R386) -/

/-- The drive of a phase's gate (R382, R384). -/
inductive GateDrive where
  | source | ramp | full | discharge
  deriving DecidableEq, Repr

/-- What drives the gate of phase p: its source in OFF, RETRY_WAIT and LATCHED, without EN, and where the die holds no state; the dV/dt
loop in RAMP_UP; full enhancement in ON; the discharge of OFF_CFG in RAMP_DOWN. -/
def swGate (s : State) (p : Nat) : GateDrive :=
  if hibernating s ∨ s.time.stage = .held ∨ s.tap = true ∨ rd s (SWCH.PH_EN p) = 0 then .source
  else match rd s SWCH.STATE with
    | 1 => .ramp
    | 2 => .full
    | 3 => .discharge
    | _ => .source

/-! ## PWR_WARN_N and its guard (R391) -/

/-- The filtered level: asserted while the guard finds CHATTER, the own comparator while the pin is STUCK, else the pin. -/
def warnLevel (s : State) : Bool := s.sw.chatter || (if s.sw.stuck then decide (rd s SWCH.WARN_INT = 1) else s.sw.pinLow)

/-- A change of the filtered level: dying gasp, and at an assertion the sealed commit of that tick (R60, R164). -/
def warnFollow (s : State) : State :=
  let new := warnLevel s
  if b2n new = rd s SWCH.WARN_PIN then s else
  let s := dyingGasp new (wrB SWCH.WARN_PIN new s)
  if new then { s with leg := { s.leg with due := true } } else s

/-- A filtered assertion is counted and raises PWR_WARN. -/
def warnCount (s : State) : State := s |> inc SWCH.WARN_ASSERTS |> raise 0x70 6

/-- Assertions within the second that ends now. -/
def warnEdges (s : State) : List Nat := s.sw.pinEdges.filter fun x => decide (s.time.cycle < x + secondSteps)

/-- The pin asserts. -/
def warnAssert (s : State) : State :=
  if s.sw.pinLow then s else
  let l := s.time.cycle :: warnEdges s
  let s := warnCount { s with sw := { s.sw with pinLow := true, pinEdges := l, lowTick := s.time.ticks } }
  let s := if s.sw.chatter = false ∧ rd s SWCH.WARN_MAX_EDGES < l.length then
      raise 0x70 7 { s with sw := { s.sw with chatter := true } }
    else s
  warnFollow s

/-- The pin reads high: STUCK ends. -/
def warnDeassert (s : State) : State := warnFollow { s with sw := { s.sw with pinLow := false, stuck := false } }

/-- The pin has read low for TIMEOUT ticks while the TS44 does not drive it: STUCK. -/
def warnStuck (s : State) : State :=
  if s.sw.pinLow ∧ s.sw.stuck = false ∧ rd s SWCH.WARN_INT = 0 ∧ s.sw.lowTick + rd s SWCH.WARN_TIMEOUT ≤ s.time.ticks then
    warnFollow (raise 0x70 7 { s with sw := { s.sw with stuck := true } })
  else s

/-- CHATTER ends once the last second holds no more than MAX_EDGES assertions (R391, R519). -/
def warnRecover (s : State) : State :=
  if s.sw.chatter ∧ (warnEdges s).length ≤ rd s SWCH.WARN_MAX_EDGES then
    warnFollow { s with sw := { s.sw with chatter := false } }
  else s

/-- The comparator of WARN_MV with its hysteresis, which also drives the pin; while the pin is STUCK it is the filtered level. -/
def warnCompare (vin : Nat) (s : State) : State :=
  if rd s SWCH.WARN_INT = 0 ∧ vin < rd s SWCH.WARN_MV then
    warnFollow (when s.sw.stuck warnCount (wr SWCH.WARN_INT 1 s))
  else if rd s SWCH.WARN_INT = 1 ∧ rd s SWCH.WARN_MV + rd s SWCH.HYST_MV < vin then
    warnFollow (wr SWCH.WARN_INT 0 { s with sw := { s.sw with lowTick := s.time.ticks } })
  else s

/-! ## A sample (R383, R387, R390, R394, R395) -/

/-- One run of samples goes on or ends. -/
def swRun (i : Nat) (holds : Bool) (s : State) : State :=
  { s with sw := { s.sw with runs := aset s.sw.runs i (if holds then aget s.sw.runs i 0 + 1 else 0) } }

/-- A run has reached its filter; a filter of 0 acts as 1 (R86). -/
def swRan (s : State) (i n : Nat) : Bool := decide (max 1 n ≤ aget s.sw.runs i 0)

/-- Largest less smallest of a list. -/
def swSpread (l : List Int) : Int :=
  match l with
  | [] => 0
  | a :: r => r.foldl max a - r.foldl min a

/-- A phase's reading has stayed within one code for STUCK_SAMPLES samples while the others' sum changed by more than a tenth of
their combined LIMIT_MA (R394). -/
def senseStuck (s : State) (p : Nat) : Bool :=
  let n := rd s SWCH.STUCK_SAMPLES
  let w := s.sw.hist.take n
  let others := (swEnabled s).filter (· ≠ p)
  let d := shuntProduct s
  let sum (v : List Int) : Int := (others.map fun q => v.getD q 0 * ((d / max 1 (rd s (SWCH.RSHUNT q)) : Nat) : Int)).sum
  decide (0 < n) && decide (n ≤ s.sw.hist.length) && decide (swSpread (w.map fun v => v.getD p 0) ≤ (Config.shuntCode : Int))
    && decide (((limitSum s others * d : Nat) : Int) < 10 * swSpread (w.map sum))

/-- Why the sense of a phase is lost in this sample, 0 where it is not (R394). -/
def senseWhy (s : State) (vin : Nat) (v : List Int) (cm : List Nat) (p : Nat) : Nat :=
  if 50000000 ≤ (v.getD p 0).natAbs then 1
  else if rd s SWCH.CM_MAX < max (cm.getD p 0) vin - min (cm.getD p 0) vin then 2
  else if senseStuck s p then 3 else 0

/-- A declaration raises PHASE_FAULT and returns DERATE_LIMIT to 0 (R389, R394). -/
def phaseFault (s : State) : State := raise 0x70 4 (wr SWCH.DERATE_LIMIT 0 s)

/-- SENSE_LOST of one phase (R394). -/
def judgeSense (vin : Nat) (v : List Int) (cm : List Nat) (p : Nat) (s : State) : State :=
  if rd s (SWCH.SENSE_LOST p) = 1 then s else
  let why := senseWhy s vin v cm p
  let s := swRun p (why != 0) s
  if swRan s p (rd s SWCH.TRIP_FILTER) then
    phaseFault (swRun p false (s |> wr (SWCH.SENSE_LOST p) 1 |> wr (SWCH.LOST_WHY p) why))
  else s

/-- The condition of OPEN for one phase in ON (R394). -/
def openSeen (s : State) (v : List Int) (p : Nat) : Bool :=
  let others := (swEnabled s).filter fun q => decide (q ≠ p) && !phaseBad s q
  decide (rd s SWCH.STATE = 2) && !phaseBad s p && !others.isEmpty
    && decide (v.getD p 0 * 32 < ((rd s (SWCH.LIMIT_MA p) * rd s (SWCH.RSHUNT p) : Nat) : Int))
    && others.all fun q => currentAbove s v q 1 4

/-- OPEN of one phase (R394). -/
def judgeOpen (v : List Int) (p : Nat) (s : State) : State :=
  let s := swRun (4 + p) (openSeen s v p) s
  if swRan s (4 + p) (rd s SWCH.OPEN_FILTER) then phaseFault (swRun (4 + p) false (wr (SWCH.PH_OPEN p) 1 s)) else s

/-- The readings of a sample: VIN, VOUT and the phase currents. -/
def swReadings (vin vout : Nat) (v : List Int) (s : State) : State :=
  let s := { s with sw := { s.sw with hist := (v :: s.sw.hist).take (max 1 (rd s SWCH.STUCK_SAMPLES)) } }
    |> wr SWCH.VIN_MV vin |> wr SWCH.VOUT_MV vout
  forEach (swPhases s) (fun p s =>
    wrS (SWCH.I_MA p) (roundOpen s.sw.draws (v.getD p 0) (max 1 (rd s (SWCH.RSHUNT p)))) { s with sw := { s.sw with draws := s.sw.draws + 1 } }) s

/-- TOTAL_EFF and LOAD_MA of a sample. -/
def swLoad (v : List Int) (s : State) : State :=
  let load := roundOpen s.sw.draws (loadScaled s v) (shuntProduct s)
  { s with sw := { s.sw with draws := s.sw.draws + 1 } } |> wr SWCH.TOTAL_EFF (totalEff s) |> wr SWCH.LOAD_MA (min load.toNat SWCH.LOAD_MA.top)

/-- The accounted load exceeds TOTAL_EFF. -/
def overload (s : State) (v : List Int) : Bool := decide (((totalEff s * shuntProduct s : Nat) : Int) < loadScaled s v)

/-- The trips of a sample in RAMP_UP and ON (R387). -/
def judgeTrips (v : List Int) (drive : Bool) (s : State) : State :=
  let n := rd s SWCH.TRIP_FILTER
  let en := swEnabled s
  let s := forEach (swPhases s) (fun p s =>
    swRun (8 + p) (drive && en.contains p && decide (rd s (SWCH.SENSE_LOST p) = 0) && currentAbove s v p 1 1) s) s
  let s := swRun 12 (drive && overload s v) s
  let s := match (swPhases s).find? fun p => swRan s (8 + p) n with
    | some p => swTrip 2 (some p) s
    | none => s
  if swRan s 12 n then swTrip 3 none s else s

/-- VIN_OK after 10 samples in range, and the VIN fault (R390). -/
def judgeVin (vin : Nat) (drive : Bool) (s : State) : State :=
  let ok := decide (rd s SWCH.UV_MV ≤ vin ∧ vin ≤ rd s SWCH.OV_MV)
  let s := swRun 13 ok s
  let s := wrB SWCH.VIN_OK (ok && (decide (rd s SWCH.VIN_OK = 1) || swRan s 13 10)) s
  if drive && !ok then swCause .vin (raise 0x70 5 s) else s

/-- The place of a sample in the frame that WELD_CHECK judges (R392). -/
def weldSample (vin vout : Nat) (s : State) : State :=
  let st := rd s SWCH.STATE
  if (st = 0 ∨ st = 4 ∨ st = 5) ∧ s.sw.gatesOff + rd s SWCH.WELD_DELAY * tickSteps ≤ s.time.cycle then
    if rd s SWCH.WELD_PCT * vin ≤ 100 * vout then { s with sw := { s.sw with weldAbove := s.sw.weldAbove + 1 } }
    else { s with sw := { s.sw with weldBelow := s.sw.weldBelow + 1 } }
  else { s with sw := { s.sw with weldSkip := s.sw.weldSkip + 1 } }

/-- A sample: declarations, derate, trips, input supervision, RAMP_DONE (R383 to R395). -/
def switchSample (vin vout : Nat) (v : List Int) (cm : List Nat) (s : State) : State :=
  let s := swReadings vin vout v s
  let st := swFound s
  let drive := decide (st = 1 ∨ st = 2)
  let bad := (swPhases s).map (phaseBad s)
  let lost := (swPhases s).map fun p => rd s (SWCH.SENSE_LOST p)
  let s := forEach (swEnabled s) (judgeSense vin v cm) s
  let s := forEach (swEnabled s) (judgeOpen v) s
  let declared := decide ((swPhases s).map (phaseBad s) ≠ bad ∨ ((swPhases s).map fun p => rd s (SWCH.SENSE_LOST p)) ≠ lost)
  let s := swLoad v s
  let s := if declared && drive && overload s v then
      swCause .derate (s |> wr SWCH.DERATED 1 |> inc SWCH.DERATES |> raise 0x70 2)
    else s
  let s := judgeVin vin drive (judgeTrips v drive s)
  let s := if st = 1 ∧ vin ≤ vout + rd s SWCH.PG_DROP then swCause .on s else s
  weldSample vin vout (warnCompare vin s)

/-- SWITCH_SAMPLE (R383). -/
def execSwitchSample (t vin vout : Nat) (v : List Int) (cm : List Nat) (s : State) : Out := ev t s (switchSample vin vout v cm)

/-- FAST_TRIP: the comparator of a phase, in RAMP_UP and ON, and in RAMP_DOWN, where the switch goes on to OFF (R387). -/
def execFastTrip (t phase : Nat) (s : State) : Out :=
  ev t s fun s =>
    let st := swFound s
    if (st = 1 ∨ st = 2 ∨ st = 3) ∧ (swEnabled s).contains phase then swTrip 1 (some phase) s else s

/-- RAMP_TIMEOUT: RAMP_MAX frames have passed since RAMP_UP began (R385, R387). -/
def execRampTimeout (t : Nat) (s : State) : Out :=
  ev t s fun s =>
    if rd s SWCH.STATE = 1 ∧ s.sw.rampStart + rd s SWCH.RAMP_MAX * frameSteps ≤ s.time.cycle then swTrip 4 none s else s

/-- RAMP_OFF_DONE: VOUT has fallen below 10 % of VIN, and the switch enters OFF (R386). -/
def execRampOffDone (t : Nat) (s : State) : Out :=
  ev t s fun s => if rd s SWCH.STATE = 3 then enterOff { s with sw := { s.sw with causes := [] } } else s

/-- RETRY_BACKOFF_END (R388). -/
def execRetryBackoffEnd (t : Nat) (s : State) : Out :=
  ev t s fun s => if rd s SWCH.STATE = 4 ∧ s.sw.waitUntil ≤ s.time.cycle then swCause .retry s else s

/-- k returns to 0 after RESET_TICKS consecutive commit cycles in ON (R388). -/
def retryReset (s : State) : State := if rd s SWCH.STATE = 2 ∧ rd s SWCH.RESET_TICKS ≤ s.sw.onRun then wr SWCH.RETRY_K 0 s else s

/-- A commit cycle counts toward RESET_TICKS while the switch is ON. -/
def switchTick (s : State) : State :=
  retryReset { s with sw := { s.sw with onRun := if rd s SWCH.STATE = 2 then s.sw.onRun + 1 else 0 } }

/-- RETRY_COUNT_RESET. -/
def execRetryCountReset (t : Nat) (s : State) : Out := ev t s retryReset

/-- PWR_WARN_ASSERT: the filtered pin falls (R391). -/
def execPwrWarnAssert (t : Nat) (s : State) : Out := ev t s warnAssert
/-- PWR_WARN_DEASSERT: the filtered pin rises (R391). -/
def execPwrWarnDeassert (t : Nat) (s : State) : Out := ev t s warnDeassert
/-- WARN_STUCK (R391). -/
def execWarnStuck (t : Nat) (s : State) : Out := ev t s warnStuck

/-! ## The welded pass transistor (R392, R393) -/

/-- DATA of DISCONNECT_FAILED: OPEN and SENSE_LOST by phase, and VOUT in mV. -/
def weldData (s : State) : List Nat :=
  let mask (f : Nat → Fld) : Nat := ((swPhases s).map fun p => rd s (f p) * 2 ^ p).sum
  [mask SWCH.PH_OPEN, mask SWCH.SENSE_LOST] ++ toLe 2 (rd s SWCH.VOUT_MV)

/-- The end of a frame: a frame that lies above or below the level in every sample lengthens its run, and WELDED follows. -/
def weldCheck (s : State) : State :=
  let w := s.sw
  let st := rd s SWCH.STATE
  let whole := decide ((st = 0 ∨ st = 4 ∨ st = 5) ∧ w.weldSkip = 0)
  let up := if whole ∧ w.weldBelow = 0 ∧ 0 < w.weldAbove then w.weldUp + 1 else 0
  let down := if whole ∧ w.weldAbove = 0 ∧ 0 < w.weldBelow then w.weldDown + 1 else 0
  let s := { s with sw := { w with weldAbove := 0, weldBelow := 0, weldSkip := 0, weldUp := up, weldDown := down } }
  let n := max 1 (rd s SWCH.WELD_FILTER)
  if rd s SWCH.WELDED = 0 ∧ n ≤ up then
    let s := s |> wr SWCH.WELDED 1 |> inc SWCH.WELDS |> raise 0x70 3
    when (lgcRuns s) (logEvent 0x60 0x70 (weldData s)) s
  else if rd s SWCH.WELDED = 1 ∧ n ≤ down then wr SWCH.WELDED 0 s
  else s

/-- WELD_CHECK. -/
def execWeldCheck (t : Nat) (s : State) : Out := ev t s weldCheck

/-! ## Triggers of unit 0x70 (R396) -/

/-- CONNECT by the table of R396; in NAP it is refused (R403). -/
def connectTrigger (arg : Nat) (s : State) : State :=
  let st := swFound s
  if arg ≠ 0 ∨ rd s PWR.STATE = 3 then trigRefuse 0x70 s
  else if st = 0 then
    if rd s SWCH.VIN_OK = 1 ∧ enabled s 0x70 = true then trigExec 0x70 (swCause .connect (wr SWCH.DERATED 0 s)) else trigRefuse 0x70 s
  else if st = 1 ∨ st = 2 then trigMerge 0x70 s
  else trigRefuse 0x70 s

/-- DISCONNECT by the table of R396; one that meets a CONNECT of its cycle leaves the switch in OFF (R397). -/
def disconnectTrigger (arg : Nat) (s : State) : State :=
  let st := swFound s
  if arg ≠ 0 then trigRefuse 0x70 s
  else if st = 1 ∨ st = 2 ∨ st = 4 then trigExec 0x70 (swCause .disconnect s)
  else trigMerge 0x70 (if st = 0 ∧ s.sw.causes.contains .connect ∧ s.sw.causeAt = s.time.cycle then swCause .disconnect s else s)

/-- A write of TOTAL_LIMIT passes its own range and, while ENABLE is 1, the sum of LIMIT_MA (R399). -/
def totalLimitFits (s : State) (v : Nat) : Bool := decide (v ≤ SWCH.TOTAL_LIMIT.top) && (!enabled s 0x70 || decide (v ≤ limitSum s (swEnabled s)))

/-- SET_TOTAL in units of 100 mA (R396). -/
def setTotalTrigger (arg : Nat) (s : State) : State :=
  if arg ≠ 0 ∧ arg ≤ 65535 ∧ totalLimitFits s (100 * arg) = true then trigExec 0x70 (wr SWCH.TOTAL_LIMIT (100 * arg) s) else trigRefuse 0x70 s

/-- CONNECT, from the Orrery. -/
def execConnect (t : Nat) (src : TrigSrc) (arg : Nat) (s : State) : Out := ev t s (arrive src 0x70 (connectTrigger arg))
/-- DISCONNECT. -/
def execDisconnect (t : Nat) (src : TrigSrc) (arg : Nat) (s : State) : Out := ev t s (arrive src 0x70 (disconnectTrigger arg))
/-- SET_TOTAL. -/
def execSetTotal (t : Nat) (src : TrigSrc) (arg : Nat) (s : State) : Out := ev t s (arrive src 0x70 (setTotalTrigger arg))

/-! ## SW_CMD (R399, R400) -/

/-- The BAR0 address of SW_CMD. -/
def swCmdAddr : Nat := 0x70080

/-- A SW_CMD that acts: it raises CMD_DONE, and acts after the triggers of its cycle. -/
def swCmd (p : Port) (checks : List (Bool × Code)) (act : State → State) (s : State) : State :=
  fabricCmd p 0x70 0x080 (some SWCH.CMD_CODE) ((cmdBusy s swCmdAddr, .busy) :: checks)
    (fun s => raise 0x70 9 (act (startCmd swCmdAddr 4 { s with sw := { s.sw with causes := [] } }))) s

/-- CLEAR_LATCH: LATCHED to OFF. -/
def clearLatch (p : Port) (s : State) : State := swCmd p [(decide (rd s SWCH.STATE ≠ 5), .state)] enterOff s

/-- PHASE_CLEAR: OPEN, SENSE_LOST and LOST_WHY of a phase clear, and DERATE_LIMIT returns to 0 (R389). -/
def phaseClear (p : Port) (phase : Nat) (s : State) : State :=
  swCmd p [(decide (Variant.phases s.fuse.variant ≤ phase), .absent),
      (decide (rd s SWCH.STATE ≠ 0 ∧ rd s SWCH.STATE ≠ 5) || !phaseBad s phase, .state)]
    (fun s => s |> wr (SWCH.PH_OPEN phase) 0 |> wr (SWCH.SENSE_LOST phase) 0 |> wr (SWCH.LOST_WHY phase) 0 |> wr SWCH.DERATE_LIMIT 0) s

/-- CLEAR_LATCH. -/
def execClearLatch (t : Nat) (p : Port) (s : State) : Out := evPort p t s (clearLatch p)
/-- PHASE_CLEAR. -/
def execPhaseClear (t : Nat) (p : Port) (phase : Nat) (s : State) : Out := evPort p t s (phaseClear p phase)

/-- In a commit cycle the LGC finds a stop that it did not order (R398). -/
def switchSeen (s : State) : State :=
  if s.sw.stopped then
    let s := { s with sw := { s.sw with stopped := false } }
    if lgcRuns s then switchStopped s else s
  else s

/-! ## The LGC halts (R25) -/

/-- LGC_STATE becomes HALTED: the switch ramps off, a session ends, and what the LGC had under way stops. -/
def lgcHalt (reason : Nat) (s : State) : State :=
  if rd s SYS.LGC_STATE = 3 then s else
  let s := raise 0x60 7 (wr SYS.LGC_STATE 3 { s with leg := { s.leg with tot := none, haltWhy := reason, idStart := none } })
  swCause .halt (endSession 7 s)

/-- LGC_HALT. -/
def execLgcHalt (t reason : Nat) (s : State) : Out := ev t s (lgcHalt reason)

/-- The end of SELFTEST: RUN follows in the next commit cycle; a ROM that fails halts the LGC (R489). -/
def selftestDone (romOk : Bool) (s : State) : State :=
  if rd s SYS.LGC_STATE ≠ 1 ∨ s.leg.selfDone = true then s else if romOk then selftestEnd s else lgcHalt 2 s

/-- SELFTEST_DONE. -/
def execSelftestDone (t : Nat) (romOk : Bool) (s : State) : Out := ev t s (selftestDone romOk)

end Sys2Proof.Machine
end

