-- ==== Sys2Proof/Machine/Power.lean ====
section
/-! DEFINITION. Power states, wake and the core voltage (R401 to R428). The exit from HIBERNATE stands with the reset sequence. -/
namespace Sys2Proof.Machine

/-! ## The Dome's clock (R37) -/

/-- The RTC count now: one tick is 12,207 1/32 core cycles. -/
def rtcNow (s : State) : Nat := (s.pwr.rtcBase + s.time.cycle * 32 / 390625) % 2 ^ 48

/-- RTC ticks in a second. -/
def rtcSecond : Nat := 32768

/-- The two-wire target's effective address: ADDR_REG[6:3] and the straps, or ADDR_REG itself with USE_REG, or where a strap floats
(R444). -/
def twAddr (s : State) : Nat :=
  let a := rd s TWIT.ADDR_REG
  if rd s TWIT.USE_REG = 1 ∨ rd s TWIT.STRAP_FLOAT = 1 then a else a / 8 * 8 + rd s TWIT.STRAPS

/-! ## Core voltage requests (R419 to R423) -/

/-- The fence of a state: (VMIN, VMAX) (R402, R428). -/
def fenceMv (s : State) (st : Nat) : Nat × Nat :=
  match st with
  | 0 => (rd s VREG.RUN_VMIN, rd s VREG.RUN_VMAX)
  | 1 => (rd s VREG.TRIM_VMIN, rd s VREG.TRIM_VMAX)
  | _ => (rd s VREG.LOW_VMIN, rd s VREG.LOW_VMAX)

/-- The voltage a destination needs: VMIN of its fence, and 720 mV for HIBERNATE (R410, R412). -/
def needMv (s : State) (st : Nat) : Nat := if st = 4 then 720 else (fenceMv s st).1

/-- ACK_MV as frequency steps take it: FIXED_MV while EN is 0 (R423). -/
def ackMv (s : State) : Nat := if rd s VREG.V_EN = 1 then rd s VREG.ACK_MV else rd s VREG.FIXED_MV

/-- The word that VOUT_COMMAND takes for a voltage in mV: round(V × 2^-N), N the exponent that VOUT_MODE gave (R421). -/
def voutWord (s : State) (mv : Nat) : Nat :=
  let n := rdS s VREG.MODE_N
  (roundDiv ((mv * 2 ^ (-n).toNat : Nat) : Int) (1000 * 2 ^ n.toNat)).toNat % 2 ^ 16

/-- A PMBus transaction that the TS44 starts: its command code and the word it writes, 0 for a read and a send byte (R421, log 235). -/
def pmbusSend (code word : Nat) (s : State) : State := { s with pwr := { s.pwr with pmbus := s.pwr.pmbus ++ [(code, word)] } }

/-- A request goes to the regulator, unless one is in flight, voltage control is off, or it has FAILED (R421 to R423). -/
def vregRequest (mv : Nat) (s : State) : State :=
  if rd s VREG.V_EN = 0 ∨ rd s VREG.V_IN_FLIGHT = 1 ∨ rd s VREG.V_FAILED = 1 then s
  else pmbusSend 0x21 (voutWord s mv) { s with pwr := { s.pwr with reqAt := s.time.cycle } } |> wr VREG.TARGET_MV mv |> wr VREG.V_IN_FLIGHT 1 |> inc VREG.REQUESTS

/-- The voltage of a lowering has been acknowledged, or needs no request (R410, R423). -/
def loweredTo (s : State) (mv : Nat) : Bool :=
  decide (rd s VREG.V_EN = 0 ∨ (rd s VREG.ACK_MV = mv ∧ rd s VREG.V_IN_FLIGHT = 0 ∧ rd s VREG.FAILS_IN_ROW = 0))

/-! ## The end of a transition -/

/-- A transition ends: STEP and TRANSIT, and CMD_DONE. -/
def endTransit (s : State) : State :=
  { s with pwr := { s.pwr with target := none, reqBy := none, wakeSeen := false, undoing := false, exiting := false } }
    |> wr PWR.TRANSIT 0 |> wr PWR.STEP 0 |> wr PWR.CMD_BUSY 0 |> raise 0x78 8

/-- What a unit does as the state leaves or enters DOZE and NAP: a PM second that touches them is not classified, the ultrasonic unit is
off in NAP, and slices outside NAP_SLICES start anew after it (R403, R405, R406). -/
def stateUnits (st : Nat) (s : State) : State :=
  let s := when (decide (2 ≤ st ∨ 2 ≤ rd s PWR.STATE)) (fun s => { s with pmon := { s.pmon with sec := { s.pmon.sec with off := true } } }) s
  let s := when (decide (rd s PWR.STATE = 3 ∧ st ≠ 3)) slicesWake s
  when (decide (st = 3)) (fun s => usxStop { s with sidr := { s.sidr with rxOff := none } }) s

/-- STATE takes a value; FORCED clears in RUN (R410, R417, R425). -/
def takeState (st : Nat) (s : State) : State :=
  let s := if st = 0 then wr PWR.FORCED 0 s else s
  updateUsable (stateUnits st s |> wr PWR.STATE st |> raise 0x78 0)

/-- The controllers' clock of RUN and TRIM: CLK_CORE or the bulk clock; a controller on FIRC stays there (R402, R417). -/
def followClock (st : Nat) (s : State) : State :=
  if rd s PWR.CTL_CLK = 2 ∨ rd s PWR.CTL_CLK = 3 then wr PWR.CTL_CLK (2 + st) s else s

/-! ## The clock and quiesce steps (R410) -/

/-- Work stops: staged containers are withdrawn, ingress and DMA stop, seats 0, 1 and 3 take no engine (E2, H2). -/
def quiesce (s : State) : State :=
  seatsIdle (withdrawAll 5 { s with pwr := { s.pwr with quiet := true, quiesceAt := s.time.cycle } })

/-- An engine that a quiesced seat still holds. -/
def quiesceHeld (s : State) : List Nat :=
  (List.range (Variant.engines s.fuse.variant)).filter fun e =>
    decide (rd s (DEAL.ENG_STATE e) = 2 ∧ (rd s (DEAL.ENG_SEAT e) = 0 ∨ rd s (DEAL.ENG_SEAT e) = 1 ∨ rd s (DEAL.ENG_SEAT e) = 3))

/-- The Dealer reclaims what they still hold (R234, R410). -/
def reclaimHeld (s : State) : State :=
  forEach (quiesceHeld s) (fun e s =>
    let h := aget s.deck.hands e {}
    reclaimWork (rd s (DEAL.ENG_SEAT e)) h (freeEngine e s |> inc DEAL.RECLAIMS |> raise 0x21 0)) s

/-- Every lane goes OFF while its ENABLE stays, and no burst can leave (R405, R410). -/
def lanesOff (s : State) : State := laneEnable false (forEach s.burst.plans (giveUp 5) s)

/-- The two-wire target's fabric bridge is busy for at most a bound of cycles; how many of them is a free value (R448, log 43). -/
def bridgeBusy (bound : Nat) (s : State) : State :=
  { s with stc := { s.stc with twBusy := max s.stc.twBusy (s.time.cycle + min bound (Config.bridgeBusy s.stc.draws)), draws := s.stc.draws + 1 } }

/-- The bound of a busy period at a change of CLK_CORE (R448). -/
def bridgeChange : Nat := 3200

/-- E3 for DOZE or NAP: lanes, PLL and controllers (R402, R410). -/
def clocksLow (st : Nat) (s : State) : State :=
  let s := lanesOff { s with pwr := { s.pwr with clocksDown := true, stcStop := decide (st = 3) } }
  let s := when (decide (st = 3)) (bridgeBusy bridgeChange) (setCoreSrc (if st = 3 then 3 else 1) s) |> wr SYS.FAST_GATED 1
  wr PWR.CTL_CLK (if st = 3 then 1 else 0) s

/-- X3: CLK_CORE is the PLL's, the bulk domain runs, the lanes enter PHASE, staging and ingress resume (R417). -/
def clocksBack (s : State) : State :=
  let s := when (decide (rd s SYS.CORE_SRC = 3)) (bridgeBusy bridgeChange) s
  let s := setCoreSrc 1 { s with pwr := { s.pwr with clocksDown := false, quiet := false } } |> wr SYS.FAST_GATED 0
  if enabled s 0x08 then laneEnable true s else s

/-! ## WAKE_LOG (R413, R415, R427) -/

/-- The WAKE_HEAD registers follow the oldest entry. -/
def showWake (s : State) : State :=
  match s.pwr.wakeLog with
  | (src, rtc, sc) :: _ => s |> wr PWR.WH_VALID 1 |> wr PWR.WH_SRC src |> wr PWR.WH_QUEUED (min 15 s.pwr.wakeLog.length)
      |> wr PWR.WAKE_RTC rtc |> wr PWR.WAKE_SC (scReg sc)
  | [] => s |> wr PWR.WH_VALID 0 |> wr PWR.WH_SRC 0 |> wr PWR.WH_QUEUED 0 |> wr PWR.WAKE_RTC 0 |> wr PWR.WAKE_SC 0

/-- A wake is logged: the WAKE cause, and WAKE_LOG or LATCH_LOST. -/
def logWake (src rtc sc : Nat) (s : State) : State :=
  let s := raise 0x78 2 s
  if s.pwr.wakeLog.length < 16 then showWake { s with pwr := { s.pwr with wakeLog := s.pwr.wakeLog ++ [(src, rtc, sc)] } }
  else s |> inc PWR.LATCH_LOST |> raise 0x78 7

/-- The Dome latches a wake event, or loses it (R413). -/
def domeLatch (src : Nat) (s : State) : State :=
  let d := s.pwr.dome
  { s with pwr := { s.pwr with dome :=
    if d.latched.length < 8 then { d with latched := d.latched ++ [(src, rtcNow s)] } else { d with lost := d.lost + 1 } } }

/-! ## Return from DOZE and NAP (R417) -/

/-- X1 and X2: the controllers return to FIRC, the PLL starts, and the voltage of PRIOR's fence is requested unless it stands. -/
def startReturn (s : State) : State :=
  let s := { s with pwr := { s.pwr with exiting := true, wakeSeen := false, target := none, stcStop := false
                                        stcFrom := if s.pwr.stcStop then s.time.cycle + 800 else s.pwr.stcFrom } }
    |> wr PWR.TRANSIT 1 |> wr PWR.STEP 13 |> wr PWR.CTL_CLK 0 |> when (decide (rd s SYS.CORE_SRC = 3)) (bridgeBusy bridgeChange)
  if ackMv s < needMv s (rd s PWR.PRIOR) then vregRequest (needMv s (rd s PWR.PRIOR)) s else s

/-- A transition is under way: no request is taken (R408). -/
def powerBusy (s : State) : Bool := decide (rd s PWR.TRANSIT = 1)

/-- The checks 2 to 4 of R408. -/
def requestChecks (s : State) (target : Nat) : List (Bool × Code) :=
  [(powerBusy s, .busy), (decide (4 < target), .range),
   (decide (target = rd s PWR.STATE ∨ (target = 0 ∧ rd s PWR.FORCED = 1 ∧ rdS s PWR.TH_WARN ≤ rdS s PWR.TJ)
      ∨ (rd s VREG.V_FAILED = 1 ∧ ackMv s < needMv s target)), .state)]

/-- A low-power entry begins with the request and waits for consent; PRIOR is the state it leaves (R410, R412). -/
def beginEntry (by_ : Option Port) (target : Nat) (s : State) : State :=
  { s with pwr := { s.pwr with target := some target, reqTick := s.time.ticks, reqBy := by_, wakeSeen := false } }
    |> wr PWR.TRANSIT 1 |> wr PWR.STEP (if target = 4 then 6 else 1) |> wr PWR.PRIOR (rd s PWR.STATE)

/-- TRIM at once: the frequency falls; RUN once ACK_MV allows it (R420). -/
def beginScale (target : Nat) (s : State) : State :=
  if ackMv s < needMv s target then
    vregRequest (needMv s target) ({ s with pwr := { s.pwr with target := some target } } |> wr PWR.TRANSIT 1)
  else endTransit (followClock target (takeState target s))

/-- A request that has passed its checks (R407 to R412): from DOZE or NAP one to RUN or TRIM is a wake, and one to another low-power
state follows the return to PRIOR. -/
def acceptRequest (by_ : Option Port) (src target : Nat) (s : State) : State :=
  let s := when by_.isSome (wr PWR.CMD_BUSY 1) s
  if rd s PWR.STATE ≤ 1 then
    if target ≤ 1 then beginScale target s else beginEntry by_ target s
  else
    let s := if target ≤ 1 then logWake src (rtcNow s) s.time.sc s
      else { s with pwr := { s.pwr with after := some target, reqBy := by_ } }
    startReturn s

/-! ## Wakes (R411, R413, R415) -/

/-- An entry to a low-power state is under way. -/
def entering (s : State) : Bool := decide (rd s PWR.TRANSIT = 1) && (match s.pwr.target with | some n => decide (2 ≤ n) | none => false)

/-- A source wakes from a state (R415). -/
def wakesFrom (src st : Nat) : Bool :=
  if src = 1 ∨ src = 2 then decide (2 ≤ st) else if src = 3 ∨ src = 4 then decide (st = 4)
  else if src = 6 then decide (st = 2) else decide (st = 2 ∨ st = 3)

/-- A wake event: it abandons an entry at its next abort point, is latched from H5 on and in HIBERNATE, starts the return from DOZE and
NAP, and is only logged during a return (R411, R413, R417). -/
def wake (src : Nat) (s : State) : State :=
  let st := rd s PWR.STATE
  if hibernating s then (if wakesFrom src 4 then domeLatch src s else s)
  else if entering s then
    if !(wakesFrom src (s.pwr.target.getD 0) || wakesFrom src st) then s
    else if 10 ≤ rd s PWR.STEP ∧ rd s PWR.STEP ≤ 11 then domeLatch src s
    else logWake src (rtcNow s) s.time.sc { s with pwr := { s.pwr with wakeSeen := true, wakeAt := if s.pwr.wakeSeen then s.pwr.wakeAt else s.time.cycle } }
  else if s.pwr.exiting then (if wakesFrom src st || s.pwr.undoing then logWake src (rtcNow s) s.time.sc s else s)
  else if wakesFrom src st then startReturn (logWake src (rtcNow s) s.time.sc s)
  else s

/-- An entry is abandoned at abort point n: what it did is undone (R411). -/
def abandon (n : Nat) (s : State) : State :=
  let s := s |> inc PWR.ABORTS |> wr PWR.LAST_ABORT n |> raise 0x78 1
  let back := s.pwr.clocksDown
  let s := { s with pwr := { s.pwr with undoing := back } }
  if back then startReturn s else endTransit { s with pwr := { s.pwr with quiet := false } }

/-- Go on past abort point n, or abandon the entry there. -/
def abortPoint (n : Nat) (go : State → State) (s : State) : State := if s.pwr.wakeSeen then abandon n s else go s

/-! ## The steps of an entry -/

/-- E5: STATE takes the new value. -/
def enterState (st : Nat) (s : State) : State :=
  endTransit (inc PWR.ENTRIES (takeState st (wr PWR.STEP 5 s)))

/-- The end of E4 and E5; a wake of the cycle in which E5 completes is one from the new state (R411). -/
def endLowering (st : Nat) (s : State) : State :=
  if s.pwr.wakeSeen ∧ s.pwr.wakeAt = s.time.cycle then startReturn (enterState st s) else abortPoint 4 (enterState st) s

/-- E4: the voltage of the low fence. -/
def lowerVoltage (st : Nat) (s : State) : State :=
  let s := wr PWR.STEP 4 s
  if loweredTo s (needMv s st) then endLowering st s else vregRequest (needMv s st) s

/-- The wall-time anchor of a stored SC (R37, R39). -/
def wallAnchor (s : State) : List (Fld × Nat) :=
  if s.sidr.ephHave then [SIDR.EPH_FRAME, SIDR.EPH_DAY, SIDR.EPH_SOD, SIDR.EPH_LEAP].map fun f => (f, rd s f) else []

/-- The domains are disconnected: ATTN_N and the STC line are released (R96, R412). -/
def disconnect (s : State) : State :=
  endTransit (wr PWR.STATE 4 (inc PWR.ENTRIES s)) |> wr ATTN.ASSERTED 0 |> wr ATTN.HOLDOFF 0
    |> fun s => { s with attn := { s.attn with stcLine := false, stcHold := false } }

/-- H6: 720 mV is requested; once it is acknowledged every domain but the Dome is disconnected (R412). -/
def hibernate (s : State) : State :=
  let s := wr PWR.STEP 11 s
  if loweredTo s 720 then disconnect s else vregRequest 720 s

/-- H4 and H5: the STC stops, the LGC hands the totals over and stops, and the Dome stores what it retains (R37, R412). -/
def sealDome (s : State) : State :=
  let d := { s.pwr.dome with totals := totalsPayload s, sc := s.time.sc, rtc := rtcNow s, wall := wallAnchor s, addr := twAddr s }
  let s := { s with pwr := { s.pwr with dome := d } } |> wr SYS.STC_STATE 0 |> wr SYS.LGC_STATE 0 |> wr PWR.STEP 10
  hibernate s

/-- H3: a sealed commit of the totals; when it is over the entry goes on (R62, R412). -/
def sealedCommit (s : State) : State := { wr PWR.STEP 8 s with leg := { s.leg with due := true } }

/-- H3 is over once no commit is due or runs. -/
def afterCommit (s : State) : State :=
  if rd s PWR.STEP = 8 ∧ entering s = true ∧ s.leg.due = false ∧ s.leg.tot.isNone = true then
    abortPoint 3 (fun s => abortPoint 4 sealDome (wr PWR.STEP 9 s)) s
  else s

/-- E2 or H2 is over: the seats have released their engines, or QUIESCE_MAX has passed and they are reclaimed (R410). -/
def quiesceDone (s : State) : State :=
  if !entering s || !(rd s PWR.STEP == 2 || rd s PWR.STEP == 7) then s
  else if quiesceHeld s ≠ [] ∧ s.time.cycle < s.pwr.quiesceAt + rd s PWR.QUIESCE_MAX * frameSteps then s
  else
    let st := s.pwr.target.getD 2
    abortPoint 2 (fun s =>
      if st = 4 then sealedCommit s
      else abortPoint 3 (lowerVoltage st) (clocksLow st (wr PWR.STEP 3 s))) (reclaimHeld s)

/-- QUIESCE_DONE. -/
def execQuiesceDone (t : Nat) (s : State) : Out := ev t s quiesceDone

/-- The LGC refuses consent (R409). -/
def consentRefused (s : State) (st : Nat) : Bool :=
  !lgcRuns s || (decide (3 ≤ st) && (decide (rd s SWCH.STATE ≠ 0 ∧ rd s SWCH.STATE ≠ 5) || decide (rd s BILL.DEL_OPEN = 1)
    || !s.leg.bookings.isEmpty || s.leg.tot.isSome || calRuns s)) || (decide (st = 4) && sealOpen s)

/-- The record of R84 for a request that the LGC refuses; a trigger has no port, and its record names writer 0. -/
def refuseRequest (s : State) : State :=
  let s := match s.pwr.reqBy with
    | some p => refuse p 0x78 0x044 .state s
    | none => wr SYS.LAST_REFUSAL_WRITER 0 (refuse .stc 0x78 0x044 .state s)
  endTransit (wr PWR.CMD_CODE (Code.num .state) s)

/-- Consent in the first commit cycle after the request, then the quiesce step (R409, R410). -/
def consent (s : State) : State :=
  if !entering s || !(rd s PWR.STEP == 1 || rd s PWR.STEP == 6) || decide (s.time.ticks ≤ s.pwr.reqTick) then s
  else
    let st := s.pwr.target.getD 2
    if consentRefused s st then refuseRequest s
    else abortPoint 1 (fun s => quiesce (wr PWR.STEP (if st = 4 then 7 else 2) s)) s

/-! ## Acknowledgements (R420, R422) -/

/-- What waits for a voltage goes on when it stands: RUN after TRIM, E4, H6. A return goes on with WAKE_CLOCK_RESTORE. -/
def voltageReached (s : State) : State :=
  if rd s PWR.TRANSIT = 0 ∨ rd s VREG.V_IN_FLIGHT = 1 then s
  else match s.pwr.target with
    | none => s
    | some st =>
      if st ≤ 1 then (if needMv s st ≤ ackMv s then endTransit (followClock st (takeState st s)) else s)
      else if rd s PWR.STEP = 4 then (if loweredTo s (needMv s st) then endLowering st s else s)
      else if rd s PWR.STEP = 11 then (if loweredTo s 720 then hibernate s else s)
      else s

/-- A transition that waits for a voltage asks again in a commit cycle (R420). -/
def voltageRetry (s : State) : State :=
  if rd s PWR.TRANSIT = 0 then s
  else if s.pwr.exiting then
    if ackMv s < needMv s (rd s PWR.PRIOR) then vregRequest (needMv s (rd s PWR.PRIOR)) s else s
  else match s.pwr.target with
    | none => s
    | some st =>
      let s := voltageReached s
      if rd s PWR.TRANSIT = 0 ∨ s.pwr.target = none then s
      else if st ≤ 1 ∨ rd s PWR.STEP = 4 ∨ rd s PWR.STEP = 11 then vregRequest (needMv s st) s else s

/-- The request in flight is acknowledged: ACK_MV takes the target (R422). -/
def vregAck (mv : Nat) (s : State) : State :=
  let m := rd s VREG.ACK_MODE
  let far := decide (rd s VREG.TARGET_MV + rd s VREG.TOL_MV < mv ∨ mv + rd s VREG.TOL_MV < rd s VREG.TARGET_MV)
  let s := if m = 0 then s else wr VREG.READ_MV mv s
  if rd s VREG.V_IN_FLIGHT = 0 ∨ s.time.cycle < s.pwr.reqAt + rd s VREG.SETTLE_US * 400 ∨ (m ≠ 0 ∧ far = true) then s
  else voltageReached (s |> wr VREG.V_IN_FLIGHT 0 |> wr VREG.ACK_MV (rd s VREG.TARGET_MV) |> wr VREG.FAILS_IN_ROW 0
    |> inc VREG.ACKS |> raise 0x79 4)

/-- VREG_ACK. -/
def execVregAck (t mv : Nat) (s : State) : Out := ev t s (vregAck mv)

/-- No acknowledgement came in time: ACK_MV takes the lower value; RETRY_MAX failures in a row latch FAILED (R420, R422). -/
def vregTimeout (status : Nat) (s : State) : State :=
  if rd s VREG.V_IN_FLIGHT = 0 ∨ s.time.cycle < s.pwr.reqAt + rd s VREG.ACK_TIMEOUT_US * 400 then s
  else
    let n := min 255 (rd s VREG.FAILS_IN_ROW + 1)
    let s := pmbusSend 0x03 0 (pmbusSend 0x79 0 s) |> wr VREG.V_IN_FLIGHT 0 |> wr VREG.ACK_MV (min (rd s VREG.ACK_MV) (rd s VREG.TARGET_MV)) |> inc VREG.FAILS
      |> wr VREG.FAILS_IN_ROW n |> wr VREG.LAST_STATUS_WORD status
    if max 1 (rd s VREG.RETRY_MAX) ≤ n then s |> wr VREG.V_FAILED 1 |> raise 0x79 0 else s

/-- VREG_ACK_TIMEOUT. -/
def execVregAckTimeout (t status : Nat) (s : State) : Out := ev t s (vregTimeout status)

/-- PGOOD_LOST: VREG_PGOOD fell for 400 phase steps while no request is in flight (R422). -/
def execPgoodLost (t : Nat) (s : State) : Out :=
  ev t s fun s => if rd s VREG.V_IN_FLIGHT = 0 then s |> inc VREG.PGOOD_LOSTS |> raise 0x79 2 else s

/-- Checks of a VREG_CTL write (R428). -/
def vregChecks (s : State) (v : Nat) : List (Bool × Code) :=
  let w := wordRows 0x79 0x040
  [(decide (rd s VREG.V_IN_FLIGHT = 1), .busy), (decide (v &&& definedBits w ≠ v), .reserved), (outOfRange 0x79 0x040 v, .range),
   (decide (rd s VREG.V_EN = 1) && decide (v % 128 ≠ rd s VREG.V_ADDR ∨ v / 2 ^ 28 % 4 ≠ rd s VREG.ACK_MODE ∨ v / 2 ^ 30 % 2 ≠ rd s VREG.PEC_EN),
    .state)]

/-- VREG_CTL is written; EN = 1 clears FAILED and reads VOUT_MODE, of which only the linear mode is taken (R421, R422). -/
def vregCtl (p : Port) (v mode : Nat) (s : State) : State :=
  fabricCmd p 0x79 0x040 none (vregChecks s v) (fun s =>
    let s := setRows (fun _ => true) 0x79 0x040 v s
    if v / 2 ^ 31 % 2 = 0 then s
    else
      let s := pmbusSend 0x20 0 s |> wr VREG.V_FAILED 0 |> wr VREG.FAILS_IN_ROW 0
      if mode / 32 % 8 = 0 then s |> wr VREG.MODE_OK 1 |> wrS VREG.MODE_N (toSigned 5 (mode % 32))
      else s |> wr VREG.MODE_OK 0 |> wr VREG.V_EN 0 |> raise 0x79 3) s

/-- VREG_ENABLE. -/
def execVregEnable (t : Nat) (p : Port) (v mode : Nat) (s : State) : Out := evPort p t s (vregCtl p v mode)

/-! ## The voltage loop in a commit cycle (R419) -/

/-- The monitors report; MARGIN is the smallest of COUNT - TARGET. -/
def rosc (counts : List Nat) (s : State) : State :=
  let s := forEach (List.range 8) (fun k => wr (VREG.ROSC_COUNT k) (counts.getD k 0)) s
  let d (k : Nat) : Int := (rd s (VREG.ROSC_COUNT k) : Int) - rd s (VREG.ROSC_TARGET k)
  let m := (List.range 7).foldl (fun a k => min a (d (k + 1))) (d 0)
  { wrS VREG.MARGIN m s with pwr := { s.pwr with marginRun := if (rd s VREG.V_HYST : Int) < m then s.pwr.marginRun + 1 else 0 } }

/-- A tick in which the loop was or was not held at its fence; FENCE_HELD once per episode (R120, R419). -/
def loopHeld (held : Bool) (s : State) : State :=
  let n := if held then s.pwr.heldRun + 1 else 0
  let due := held && decide (max 1 (rd s VREG.V_FENCE_TICKS) ≤ n) && !s.pwr.heldRaised
  let s := wr VREG.V_HELD_TICKS (min 255 n) { s with pwr := { s.pwr with heldRun := n, heldRaised := held && (s.pwr.heldRaised || due) } }
  when due (raise 0x79 1) s

/-- One turn of the loop in RUN and TRIM. -/
def vregLoop (s : State) : State :=
  let st := rd s PWR.STATE
  if 2 ≤ st ∨ rd s PWR.TRANSIT = 1 ∨ rd s VREG.V_EN = 0 ∨ rd s VREG.LOOP_FREEZE = 1 ∨ rd s VREG.V_IN_FLIGHT = 1 ∨ rd s VREG.V_FAILED = 1 then s
  else
    let (lo, hi) := fenceMv s st
    let a := rd s VREG.ACK_MV
    let step := rd s VREG.STEP_MV
    if rdS s VREG.MARGIN < 0 then
      if hi < a + step ∨ a + step < lo then loopHeld true s else vregRequest (a + step) (loopHeld false s)
    else if max 1 (rd s VREG.DOWN_TICKS) ≤ s.pwr.marginRun then
      if a < lo + step ∨ hi + step < a then loopHeld true s else vregRequest (a - step) (loopHeld false s)
    else loopHeld false s

/-- In the commit cycle in which a fence takes effect, ACK_MV outside it calls for the nearer bound (R419). -/
def fenceEffect (s : State) : State :=
  let f := fenceMv s (rd s PWR.STATE)
  if s.pwr.lastFence = some f then s else
  let s := { s with pwr := { s.pwr with lastFence := some f } }
  if rd s PWR.TRANSIT = 1 then s
  else if rd s VREG.ACK_MV < f.1 then vregRequest f.1 s else if f.2 < rd s VREG.ACK_MV then vregRequest f.2 s else s

/-! ## Supervision (R424, R425) -/

/-- A sample of the window comparators with some rail outside its window: now is RAILS_NOW; the fourth in a row marks the rail. -/
def railSample (now : Nat) (s : State) : State :=
  let runs := (List.range 7).map fun k => if bit now k then 0 else s.pwr.rails.getD k 0 + 1
  let s := wr PWR.RAILS_NOW now { s with pwr := { s.pwr with rails := runs } }
  forEach ((List.range 7).filter fun k => runs.getD k 0 == 4) (fun k s =>
    condLost 0 (raise 0x78 6 (wr PWR.RAIL_SEEN (rd s PWR.RAIL_SEEN ||| 2 ^ k) s))) s

/-- RAIL_OUT_OF_WINDOW. -/
def execRailOutOfWindow (t now : Nat) (s : State) : Out := ev t s (railSample now)

/-- Forced TRIM applies in RUN with no transition under way (R425). -/
def forcedTrim (s : State) : State :=
  if 4 ≤ s.pwr.critRun ∧ rd s PWR.STATE = 0 ∧ rd s PWR.TRANSIT = 0 then
    followClock 1 (takeState 1 (s |> wr PWR.FORCED 1 |> raise 0x78 5))
  else s

/-- THERMAL_FORCED_TRIM. -/
def execThermalForcedTrim (t : Nat) (s : State) : Out := ev t s forcedTrim

/-- TJ in a commit cycle, in 0.1 °C (R425). -/
def thermal (tj : Int) (s : State) : State :=
  let hot := decide (rdS s PWR.TH_WARN ≤ tj)
  let out := decide (1500 < tj ∨ tj < -400)
  let s := s |> wrS PWR.TJ tj |> wrS PWR.TJ_MAX (max (rdS s PWR.TJ_MAX) tj)
  let s := when (hot && !s.pwr.warm) (raise 0x78 4) s
  let n := if out then s.pwr.thermRun + 1 else 0
  let c := if rdS s PWR.TH_CRIT ≤ tj ∧ rd s PWR.STATE = 0 then s.pwr.critRun + 1 else 0
  let s := when (n == 4) (condLost 1) { s with pwr := { s.pwr with thermRun := n, critRun := c, warm := hot } }
  forcedTrim s

/-- What the power unit does in a commit cycle, after the billing work (R409, R419, R420, R425). -/
def powerTick (tj : Int) (counts : List Nat) (s : State) : State :=
  vregLoop (fenceEffect (voltageRetry (afterCommit (consent (thermal tj (rosc counts s))))))

/-! ## PWR_CMD and its triggers (R407, R408) -/

/-- PWR_CMD REQUEST from a fabric port; refused while an entry runs, one to RUN or TRIM counts as a wake all the same (R411, R415). -/
def powerRequest (p : Port) (target : Nat) (s : State) : State :=
  let during := decide (p = .stc) && entering s && decide (target ≤ 1)
  let s := fabricCmd p 0x78 0x044 (some PWR.CMD_CODE) ((decide (p ≠ .stc), .locked) :: requestChecks s target)
    (acceptRequest (some p) 6 target) s
  when during (wake 6) s

/-- POWER_REQUEST. -/
def execPowerRequest (t : Nat) (p : Port) (target : Nat) (s : State) : Out := evPort p t s (powerRequest p target)

/-- A trigger to unit 0x78: ACTION 1 REQUEST with ARG 0 to 4 (R408). -/
def powerTrigger (action arg : Nat) (s : State) : State :=
  let during := entering s && decide (action = 1 ∧ arg ≤ 1)
  if action ≠ 1 ∨ (firstFail (requestChecks s arg)).isSome = true then when during (wake 5) (trigRefuse 0x78 s)
  else acceptRequest none 5 arg (trigExec 0x78 s)

/-- POWER_TRIGGER. -/
def execPowerTrigger (t : Nat) (src : TrigSrc) (action arg : Nat) (s : State) : Out := ev t s (arrive src 0x78 (powerTrigger action arg))

/-- CTL_CLK: the controllers move to the controller clock of the present state; refused with STATE while clocks are lowered (R417). -/
def ctlClk (p : Port) (s : State) : State :=
  fabricCmd p 0x78 0x044 (some PWR.CMD_CODE) [(s.pwr.clocksDown || decide (2 ≤ rd s PWR.STATE), .state)]
    (fun s => raise 0x78 8 (wr PWR.CTL_CLK (2 + rd s PWR.STATE) (if rd s PWR.STEP = 15 then wr PWR.STEP 0 s else s))) s

/-- CTL_CLK. -/
def execCtlClk (t : Nat) (p : Port) (s : State) : Out := evPort p t s (ctlClk p)

/-- HOST_WAKE: refused with STATE outside DOZE, NAP and an entry to them (R415). -/
def hostWake (p : Port) (s : State) : State :=
  let st := rd s PWR.STATE
  let low := decide (st = 2 ∨ st = 3) || (entering s && decide (s.pwr.target ≠ some 4))
  fabricCmd p 0x78 0x04C none [(!low, .state)] (wake 7) s

/-- HOST_WAKE. -/
def execHostWake (t : Nat) (p : Port) (s : State) : Out := evPort p t s (hostWake p)

/-- WAKE_POP (R427). -/
def wakePop (p : Port) (s : State) : State :=
  fabricCmd p 0x78 0x0A0 none [(s.pwr.wakeLog.isEmpty, .state)]
    (fun s => showWake { s with pwr := { s.pwr with wakeLog := s.pwr.wakeLog.drop 1 } }) s

/-- WAKE_POP. -/
def execWakePop (t : Nat) (p : Port) (s : State) : Out := evPort p t s (wakePop p)

/-- The return of R417 reaches X3 once the voltage is acknowledged; the PLL has locked. -/
def clockRestore (s : State) : State :=
  if !s.pwr.exiting || decide (rd s VREG.V_IN_FLIGHT = 1) || decide (ackMv s < needMv s (rd s PWR.PRIOR)) then s
  else
    let undo := s.pwr.undoing
    let prior := rd s PWR.PRIOR
    let s := clocksBack s
    let s := if undo ∧ rd s PWR.STATE = prior then s else takeState prior s
    let next := s.pwr.after
    let by_ := s.pwr.reqBy
    let s := wr PWR.STEP 15 (endTransit { s with pwr := { s.pwr with after := none } })
    match next with
    | some n => beginEntry by_ n s
    | none => s

/-- WAKE_CLOCK_RESTORE. -/
def execWakeClockRestore (t : Nat) (s : State) : Out := ev t s clockRestore

/-! ## The Dome's own events (R413 to R418, R449) -/

/-- A command of the Dome, which acts in every state in which VAON holds; the attention tree follows where the die answers. -/
def evDome (t : Nat) (s : State) (f : State → State) : Out :=
  .next (f (advanceTo t s))

/-- The pin of a wake source. -/
def wakePin (s : State) (n : Nat) : WakePin := if n = 0 then s.pwr.dome.pin0 else s.pwr.dome.pin1

/-- Change what the Dome keeps of a wake pin. -/
def modPin (n : Nat) (f : WakePin → WakePin) (s : State) : State :=
  let d := s.pwr.dome
  { s with pwr := { s.pwr with dome := if n = 0 then { d with pin0 := f d.pin0 } else { d with pin1 := f d.pin1 } } }

/-- The guard of a wake pin fails: WAKE_GUARD at once, or at the next exit in HIBERNATE (R416). -/
def wakeGuard (s : State) : State :=
  if hibernating s then { s with pwr := { s.pwr with dome := { s.pwr.dome with guardLate := true } } } else raise 0x78 3 s

/-- A filtered level of WAKEn. An edge of the selected polarity is guarded, counted and wakes; the inactive level ends STUCK. -/
def wakeEdge (n : Nat) (level : Bool) (s : State) : State :=
  if rd s (PWR.WK_EN n) = 0 ∨ (wakePin s n).level = level then modPin n (fun x => { x with level := level }) s else
  let active := level != decide (rd s (PWR.WK_POL n) = 1)
  let now := rtcNow s
  let s := modPin n (fun x => { x with level := level, since := now, stuck := x.stuck && active }) s
  if !active then s else
  let edges := now :: (wakePin s n).edges.filter fun x => decide (now < x + rtcSecond)
  let s := modPin n (fun x => { x with edges := edges }) (inc PWR.WAKE_EDGES s)
  if (wakePin s n).chatter || (wakePin s n).stuck then inc PWR.WAKE_REFUSED s
  else if rd s (PWR.WK_MAX_EDGES n) < edges.length then wakeGuard (inc PWR.WAKE_REFUSED (modPin n (fun x => { x with chatter := true }) s))
  else wake (1 + n) s

/-- WAKE_EDGE. -/
def execWakeEdge (t pin : Nat) (level : Bool) (s : State) : Out := evDome t s (wakeEdge pin level)

/-- WAKE_STUCK: the active level has stood for more than TIMEOUT seconds (R416). -/
def wakeStuck (n : Nat) (s : State) : State :=
  let x := wakePin s n
  let active := x.level != decide (rd s (PWR.WK_POL n) = 1)
  if rd s (PWR.WK_EN n) = 1 ∧ active = true ∧ x.stuck = false ∧ x.since + rd s (PWR.WK_TIMEOUT n) * rtcSecond < rtcNow s then
    wakeGuard (modPin n (fun x => { x with stuck := true }) s)
  else s

/-- WAKE_STUCK. -/
def execWakeStuck (t pin : Nat) (s : State) : Out := evDome t s (wakeStuck pin)

/-- CHATTER of a wake pin ends once the last second holds no more than MAX_EDGES edges (R416, R519). -/
def wakeRecover (n : Nat) (s : State) : State :=
  let edges := (wakePin s n).edges.filter fun x => decide (rtcNow s < x + rtcSecond)
  if edges.length ≤ rd s (PWR.WK_MAX_EDGES n) then modPin n (fun x => { x with chatter := false, edges := edges }) s else s

/-- RTC_ALARM: the RTC count reaches RTC_ALARM (R415). -/
def execRtcAlarm (t : Nat) (s : State) : Out :=
  evDome t s fun s => if rd s PWR.ALARM_EN = 1 ∧ rd s PWR.RTC_ALARM ≤ rtcNow s then wake 3 s else s

/-- ADDRESS_MATCH: in HIBERNATE the matcher compares an address byte with the address it took at entry; the answer is NACK (R449). -/
def execAddressMatch (t addr : Nat) (s : State) : Out :=
  evDome t s fun s => if hibernating s = true ∧ rd s PWR.MATCH_EN = 1 ∧ addr = s.pwr.dome.addr then wake 4 s else s

/-- RAIL_TIMEOUT: the rails have not come; the Dome stays in HIBERNATE and reports at the next exit (R418). -/
def execRailTimeout (t : Nat) (s : State) : Out :=
  evDome t s fun s =>
    if hibernating s = true ∧ s.pwr.dome.latched ≠ [] then { s with pwr := { s.pwr with dome := { s.pwr.dome with railLate := true } } } else s

/-! ## TOTALS_COMMIT_DONE -/

/-- TOTALS_COMMIT_DONE: the commit in progress writes its commit word (R349); an entry to HIBERNATE that waited for it goes on (R412). -/
def execTotalsCommitDone (t : Nat) (s : State) : Out := ev t s fun s => afterCommit (totDone s)

end Sys2Proof.Machine
end

