-- ==== Sys2Proof/Machine/Stc.lean ====
section
/-! DEFINITION. The PCIe resets (R429 to R431), the Ethernet link (R438), the Site Controller's boot, watchdog and flash window (R439 to
R443), the two-wire controller (R450 to R452), the mailbox (R453 to R456) and the STC's command set (R457). -/
namespace Sys2Proof.Machine

/-- A register write of the STC, which the page's LOCK binds as any other port's (R79). -/
def stcWrite (page off : Nat) (act : State → State) (s : State) : State := fabricCmd .stc page off none [] act s

/-! ## PCIe (R431, R458) -/

/-- Every page a port holds is released (R80, R431, R442). -/
def releaseLocks (p : Port) (s : State) : State :=
  forEach ((List.range 256).filter fun g => decide (rd s (HDR.OWNER g) = p.code))
    (fun g s => { s with fab := { s.fab with leases := s.fab.leases.filter fun e => e.1 != g } }
      |> wr (HDR.OWNER g) 0 |> wr (HDR.LOCK g) 0) s

/-- Every register of a page returns to its reset value. -/
def resetPage (p : Nat) (s : State) : State := { s with regs := s.regs.filter fun e => decide (e.1.page ≠ p) }

/-- The deck job rings return to their reset values, and their jobs end without a completion; engines they hold are released. -/
def dropJobs (s : State) : State :=
  let held := (List.range (Variant.engines s.fuse.variant)).filter fun e => decide (rd s (DEAL.ENG_STATE e) = 2 ∧ rd s (DEAL.ENG_SEAT e) = 3)
  let s := forEach held freeEngine { s with deck := { s.deck with jobs := [] } } |> seatIdle 3
  forEach (List.range 8) (fun r s => forEach [CTXQ.RING_EN r, CTXQ.RING_HEAD r, CTXQ.RING_TAIL r, CTXQ.RING_DONE r, CTXQ.CPL_BASE r, CTXQ.DESC_BASE r, CTXQ.RING_SIZE r]
    (fun f => wr f f.reset) s) s

/-- The frame of port 18 that was not fully written: its cells and descriptor are freed as for a drop (R177, R431). -/
def rxAbandon (s : State) : State :=
  inc HOST.RX_ABANDONED (match takeFrame s [18] with
    | some (s', x) => resetIdle x.queue (freeFrame false x.frame s')
    | none => s)

/-- What PERST_N, a hot reset and a function-level reset have in common: the HOST page, the host DMA rings, PCIe locks; a TX frame not
fully read is dropped, and an RX frame not fully written is counted (R431). -/
def hostReset (rxPartial txPartial : Bool) (s : State) : State :=
  let s := dropJobs (releaseLocks .pcie (resetPage 0x80 s))
  let s := { s with host := { s.host with coal := [], wrapped := [], lastTx := 7, vecHigh := [] } }
  when txPartial (dropAt 18 1) (when rxPartial rxAbandon s)

/-- The MSI-X state of a reset function: every vector masked, nothing pending. -/
def msixReset (s : State) : State :=
  { s with host := { s.host with vecMasked := List.range 32, funcMask := false, pba := [], msixStopped := false } }

/-- A window of the mailbox is empty: its registers, its request at a controller and its answer (R453). -/
def emptyWindow (w : Nat) (s : State) : State :=
  let s := { s with stc := { s.stc with waiting := s.stc.waiting.filter (fun r => r.win != w), modWait := s.stc.modWait.filter fun m => m.1 != w }
                    leg := { s.leg with queue := s.leg.queue.filter (fun r => r.win != w), answers := s.leg.answers.filter fun a => a.win != w } }
  let s := s |> wr (MBOX.RSP_VALID w) 0 |> wr (MBOX.RSP_OUT w) 0 |> wr (MBOX.RSP_STATUS w) 0 |> wr (MBOX.RSP_TAG w) 0
    |> wr (MBOX.RSP_CODE w) 0 |> wr (MBOX.RSP_LEN w) 0 |> wr (MBOX.REQ_DEST w) 0 |> wr (MBOX.REQ_TAG w) 0 |> wr (MBOX.REQ_CODE w) 0
    |> wr (MBOX.REQ_LEN w) 0
  forEach (List.range 16) (fun k s => s |> wr (MBOX.REQ_DATA w k) 0 |> wr (MBOX.RSP_DATA w k) 0) s

/-- PERST_N low or a hot reset (R431, R453). -/
def perst (rxPartial txPartial : Bool) (s : State) : State := emptyWindow 0 (msixReset (hostReset rxPartial txPartial s))

/-- PERST_ASSERT. -/
def execPerstAssert (t : Nat) (rxPartial txPartial : Bool) (s : State) : Out := ev t s (perst rxPartial txPartial)
/-- HOT_RESET: as PERST_N (R431). -/
def execHotReset (t : Nat) (rxPartial txPartial : Bool) (s : State) : Out := ev t s fun s => perst rxPartial txPartial s
/-- FUNCTION_LEVEL_RESET (R431). -/
def execFunctionLevelReset (t : Nat) (rxPartial txPartial : Bool) (s : State) : Out :=
  ev t s fun s => raise 0x80 3 (msixReset (hostReset rxPartial txPartial s))

/-- PCIE_LINK_DOWN: the link goes down; one that retrains comes up again at its speed (1 to 3) and width, speed 0 saying that it stays
down (R429, R458). -/
def linkDown (speed width : Nat) (s : State) : State :=
  let s := raise 0x80 2 (wr HOST.LINK_UP 0 s)
  if speed = 0 then s |> wr HOST.LINK_SPEED 0 |> wr HOST.LINK_WIDTH 0
  else s |> wr HOST.LINK_UP 1 |> wr HOST.LINK_SPEED speed |> wr HOST.LINK_WIDTH width

/-- PCIE_LINK_DOWN. -/
def execPcieLinkDown (t speed width : Nat) (s : State) : Out := ev t s (linkDown speed width)

/-- D3HOT: a configuration write of the power state and of the MSI-X function mask; in D3hot DMA and MSI-X stop, and vectors that the
function mask releases send what they hold pending (R431, R432). -/
def configWrite (d3 funcMask : Bool) (s : State) : State :=
  let s := wr HOST.DSTATE (if d3 then 3 else 0) { s with host := { s.host with msixStopped := d3, funcMask := funcMask } }
  if d3 || funcMask then s else
  let free := s.host.pba.filter fun v => !s.host.vecMasked.contains v
  forEach free.reverse msixSend { s with host := { s.host with pba := s.host.pba.filter s.host.vecMasked.contains } }

/-- D3HOT. -/
def execD3hot (t : Nat) (d3 funcMask : Bool) (s : State) : Out := ev t s (configWrite d3 funcMask)

/-! ## The Ethernet link (R438, R459) -/

/-- LINK rises after LINK_FILTER ticks of block lock with no hi_ber and no fault (R438). -/
def ethUp (port : Nat) (s : State) : State :=
  let page := 0x81 + port
  if !enabled s page || Variant.pageAbsent s.fuse.variant page || decide (rd s (ETH.E_LINK port) = 1) then s
  else s |> wr (ETH.E_LINK port) 1 |> wr (ETH.BLOCK_LOCK port) 1 |> wr (ETH.HI_BER port) 0 |> wr (ETH.LOCAL_FAULT port) 0
    |> wr (ETH.REMOTE_FAULT port) 0 |> raise page 0

/-- hi_ber or a loss of block lock drops LINK (R438). -/
def ethDown (port : Nat) (hiBer : Bool) (s : State) : State :=
  let page := 0x81 + port
  if !enabled s page || Variant.pageAbsent s.fuse.variant page then s else
  let was := rd s (ETH.E_LINK port)
  let s := s |> wr (ETH.E_LINK port) 0 |> wrB (ETH.BLOCK_LOCK port) hiBer |> wrB (ETH.HI_BER port) hiBer
  when (was == 1) (raise page 1) (when hiBer (raise page 2) s)

/-- A port is disabled: LINK reads 0 (R459). -/
def ethOff (port : Nat) (s : State) : State :=
  let was := rd s (ETH.E_LINK port)
  let s := s |> wr (ETH.E_LINK port) 0 |> wr (ETH.BLOCK_LOCK port) 0 |> wr (ETH.HI_BER port) 0 |> wr (ETH.LOCAL_FAULT port) 0
    |> wr (ETH.REMOTE_FAULT port) 0
  when (was == 1) (raise (0x81 + port) 1) s

/-- ETH_LINK_UP. -/
def execEthLinkUp (t port : Nat) (s : State) : Out := ev t s (ethUp port)
/-- ETH_LINK_DOWN. -/
def execEthLinkDown (t port : Nat) (hiBer : Bool) (s : State) : Out := ev t s (ethDown port hiBer)

/-! ## The STC runs, stops and starts (R441, R442, R455) -/

/-- The STC executes: it is in RUN, and NAP has not stopped it (R403). -/
def stcRuns (s : State) : Bool := decide (rd s SYS.STC_STATE = 2) && !stcStopped s

/-- The hardware answers a request that the STC leaves unanswered (R455). -/
def stcTimeoutAnswer (r : StcReq) (s : State) : State :=
  mboxAnswer r.win (Code.num .state) r.tag r.code []
    (s |> inc MBOX.STC_TIMEOUTS |> raise 0xF0 6)

/-- Every request that waits for the STC is answered by the hardware (R455). -/
def stcGone (s : State) : State :=
  let l := s.stc.waiting
  forEach l stcTimeoutAnswer { s with stc := { s.stc with waiting := [] } }

/-- The STC restarts: its locks, its window and the requests that wait for it (R441, R442, R453, R455). -/
def stcRestart (prefer : Option Nat) (s : State) : State :=
  let s := emptyWindow 1 (releaseLocks .stc (stcGone s))
  let s := { s with stc := { s.stc with prefer := prefer, autoTrim := false, lineHold := false, forward := false, modWait := none, update := none, keyTodo := [], carry := none
                                        loading := false, age := 0, kickAge := 0 } }
  s |> wr SYS.STC_STATE 3 |> incSat SYS.STC_RESTARTS

/-- A boot starts: STC_STATE reads BOOT while the loader reads the headers (R441, R491). -/
def stcStart (s : State) : State :=
  wr SYS.STC_STATE 1 { s with stc := { s.stc with loading := true, age := 0, kickAge := 0 } }

/-- What the STC counts in a commit cycle, and the start of a boot that is due. -/
def stcTick (s : State) : State :=
  let s := if stcStopped s then s
    else { s with stc := { s.stc with age := s.stc.age + 1, kickAge := if rd s SYS.STC_STATE = 2 then s.stc.kickAge + 1 else 0 } }
  let s := incSat TWIC.MOD_AGE s
  if (rd s SYS.STC_STATE = 0 ∧ lgcRuns s) ∨ rd s SYS.STC_STATE = 3 then stcStart s else s

/-- A slot is valid: MAGIC, LENGTH and CRC (R440). -/
def imageValid (h : List Nat) (crcOk : Bool) : Bool :=
  let n := le (slice h 12 4)
  decide (le (slice h 0 4) = 0x54533434) && decide (4 ≤ n ∧ n ≤ 4194240 ∧ n % 4 = 0) && crcOk

/-- Boots that a slot failed in a row. -/
def slotFails (s : State) (k : Nat) : Nat := if k = 0 then s.stc.failsA else s.stc.failsB

/-- The loader's selection among the candidates (R441). -/
def chooseSlot (s : State) (cA cB : Bool) (genA genB : Nat) : Option Nat :=
  let newest := if cA ∧ cB then some (if genA < genB then 1 else 0) else if cA then some 0 else if cB then some 1 else none
  let named (k : Nat) : Option Nat := if (if k = 0 then cA else cB) then some k else newest
  match s.stc.prefer with
  | some k => named k
  | none => match rd s QSPI.PREFER with
    | 1 => named 0
    | 2 => named 1
    | _ => newest

/-- The headers of both slots have been read: the check of R336, the candidates, and the image that boots, or NO_IMAGE (R441). -/
def stcBoot (a b : List Nat) (aOk bOk : Bool) (s : State) : State :=
  if rd s SYS.STC_STATE ≠ 1 ∨ s.stc.loading = false ∨ s.stc.age < 2 then s else
  let vA := imageValid a aOk
  let vB := imageValid b bOk
  let check (slot : Nat) (h : List Nat) (v : Bool) (s : State) : Bool × State := if v && lgcRuns s then imageCheck slot h s else (false, s)
  let (okA, s) := check 0 a vA s
  let (okB, s) := check 1 b vB s
  let top := max 1 (rd s QSPI.BOOT_FAILS_MAX)
  let gA := if vA then le (slice a 8 4) else 0
  let gB := if vB then le (slice b 8 4) else 0
  let s := s |> wrB QSPI.A_VALID vA |> wrB QSPI.B_VALID vB |> wr QSPI.A_GEN gA |> wr QSPI.B_GEN gB
  match chooseSlot s (okA && decide (slotFails s 0 < top)) (okB && decide (slotFails s 1 < top)) gA gB with
  | some k =>
    let h := if k = 0 then a else b
    { s with stc := { s.stc with loading := false, prefer := none, version := le (slice h 4 4), gen := le (slice h 8 4) } }
      |> wr SYS.STC_IMAGE k |> wr QSPI.B_SLOT k |> wr QSPI.B_FAILS (min 15 (slotFails s k))
  | none => { s with stc := { s.stc with loading := false, prefer := none } } |> wr SYS.STC_STATE 4 |> raise 0x86 1

/-- STC_BOOT: the 64-byte headers of slots A and B, and whether each slot's CRC holds. -/
def execStcBoot (t : Nat) (a b : List Nat) (aOk bOk : Bool) (s : State) : Out := ev t s (stcBoot a b aOk bOk)

/-- Set the count of boots that a slot failed in a row. -/
def setFails (k n : Nat) (s : State) : State :=
  wr QSPI.B_FAILS (min 15 n) { s with stc := if k = 0 then { s.stc with failsA := n } else { s.stc with failsB := n } }

/-- A kick: the first completes a boot, every later one feeds the watchdog (R441, R442). -/
def kick (s : State) : State :=
  if rd s SYS.STC_STATE = 1 ∧ s.stc.loading = false then
    setFails (rd s SYS.STC_IMAGE) 0 (wr SYS.STC_STATE 2 { s with stc := { s.stc with kickAge := 0 } })
  else { s with stc := { s.stc with kickAge := 0 } }

/-- STC_KICK accepts writes from the STC only (R462). -/
def stcKick (p : Port) (s : State) : State := fabricCmd p 0x86 0x05C none [(decide (p ≠ .stc), .locked)] kick s

/-- STC_KICK. -/
def execStcKick (t : Nat) (p : Port) (s : State) : Out := evPort p t s (stcKick p)

/-- STC_WDOG_EXPIRE: no kick for STC_WDOG ticks in RUN (R442). -/
def execStcWdogExpire (t : Nat) (s : State) : Out :=
  ev t s fun s => if stcRuns s && decide (rd s QSPI.STC_WDOG ≤ s.stc.kickAge) then stcRestart none s else s

/-- BOOT_TIMEOUT: a boot without a kick fails and counts against its slot (R441). -/
def bootTimeout (s : State) : State :=
  if rd s SYS.STC_STATE = 1 ∧ s.stc.loading = false ∧ rd s QSPI.BOOT_TIMEOUT ≤ s.stc.age then
    let k := rd s SYS.STC_IMAGE
    stcRestart none (raise 0x86 0 (setFails k (slotFails s k + 1) s))
  else s

/-- BOOT_TIMEOUT. -/
def execBootTimeout (t : Nat) (s : State) : Out := ev t s bootTimeout

/-- STC_CMD RESTART from PCIe, preferring SLOT for one boot (R442, R462). -/
def restartCmd (p : Port) (slot : Nat) (s : State) : State :=
  fabricCmd p 0x86 0x058 none [(decide (p ≠ .pcie), .locked)] (stcRestart (some (slot % 2))) s

/-- STC_RESTART. -/
def execStcRestart (t : Nat) (p : Port) (slot : Nat) (s : State) : Out := evPort p t s (restartCmd p slot)

/-! ## The flash command window (R443, R462) -/

/-- The loader or a command reads the flash. -/
def flashBusy (s : State) : Bool := s.stc.loading || decide (rd s QSPI.FL_BUSY = 1)

/-- PCIe may use the window only while HOST_FLASH is 1 or there is no image. -/
def flashDenied (s : State) (p : Port) : Bool :=
  decide (p ≠ .stc ∧ rd s QSPI.HOST_FLASH = 0 ∧ rd s SYS.STC_STATE ≠ 4)

/-- FL_GO: one command with the bytes of FL_DATA is sent; a write of the flash is recorded with its opcode and address. -/
def flGo (p : Port) (s : State) : State :=
  fabricCmd p 0x86 0x0B0 (some QSPI.FL_CODE) [(flashBusy s, .busy), (flashDenied s p, .state)]
    (fun s => wr QSPI.FL_BUSY 1 s) s

/-- FL_GO. -/
def execFlGo (t : Nat) (p : Port) (s : State) : Out := evPort p t s (flGo p)

/-- FL_DONE: the command completes; one that reads fills FL_DATA with the bytes read (R462). -/
def flDone (data : List Nat) (s : State) : State :=
  if rd s QSPI.FL_BUSY = 0 then s else
  let n := rd s QSPI.FL_LEN
  let out := (List.range 8).flatMap fun k => toLe 4 (rd s (QSPI.FL_DATA k))
  let s := if rd s QSPI.FL_DIR = 0 then
      let b := fit 32 (data.take n)
      forEach (List.range 8) (fun k => wr (QSPI.FL_DATA k) (le (slice b (4 * k) 4))) s
    else { s with stc := { s.stc with flash := s.stc.flash ++ [(rd s QSPI.FL_ADDR, rd s QSPI.FL_OPCODE :: out.take n)] } }
  s |> wr QSPI.FL_BUSY 0 |> raise 0x86 2

/-- FL_DONE. -/
def execFlDone (t : Nat) (data : List Nat) (s : State) : Out := ev t s (flDone data)

/-! ## The two-wire controller (R450 to R452, R461) -/

/-- GO is refused with RANGE (R452). -/
def twcRange (s : State) : Bool := let n := rd s TWIC.TWC_WLEN + rd s TWIC.TWC_RLEN; decide (n = 0 ∨ 8 < n)

/-- TWC_GO from the STC. -/
def twcGo (p : Port) (s : State) : State :=
  fabricCmd p 0x85 0x06C none [(decide (p ≠ .stc), .locked), (decide (rd s TWIC.TWC_BUSY = 1), .busy), (twcRange s, .range)]
    (wr TWIC.TWC_BUSY 1) s

/-- TWC_GO. -/
def execTwcGo (t : Nat) (p : Port) (s : State) : Out := evPort p t s (twcGo p)

/-- A poll of the module: the bytes read, or a failure; POLL_FILTER failures in a row mark the status stale (R451). -/
def modulePoll (result : Nat) (data : List Nat) (s : State) : State :=
  if rd s TWIC.POLL_EN = 0 ∨ s.time.ticks < s.stc.pollTick + rd s TWIC.POLL_TICKS then s else
  let s := when (result == 4) (raise 0x85 2) { s with stc := { s.stc with pollTick := s.time.ticks } }
  if result = 0 then
    let b := fit 8 (data.take (rd s TWIC.POLL_LEN))
    { s with stc := { s.stc with pollFails := 0 } } |> wr (TWIC.MOD_STATUS 0) (le (slice b 0 4)) |> wr (TWIC.MOD_STATUS 1) (le (slice b 4 4))
      |> wr TWIC.MOD_STALE 0 |> wr TWIC.MOD_AGE 0
  else
    let n := s.stc.pollFails + 1
    let s := { s with stc := { s.stc with pollFails := n } }
    if max 1 (rd s TWIC.POLL_FILTER) ≤ n ∧ rd s TWIC.MOD_STALE = 0 then s |> wr TWIC.MOD_STALE 1 |> raise 0x85 0 else s

/-- MODULE_POLL. -/
def execModulePoll (t result : Nat) (data : List Nat) (s : State) : Out := ev t s (modulePoll result data)

/-! ## The mailbox (R453 to R456) -/

/-- The window of a fabric port. -/
def windowOf : Port → Nat
  | .pcie => 0
  | .stc => 1
  | .twi => 2

/-- The LEN bytes that a window's REQ_DATA holds. -/
def reqBytes (s : State) (w : Nat) : List Nat :=
  ((List.range 16).flatMap fun k => toLe 4 (rd s (MBOX.REQ_DATA w k))).take (rd s (MBOX.REQ_LEN w))

/-- DEST or CODE of a request is unknown, or LEN is above 64 (R453, R454, R457). -/
def reqRange (s : State) (w : Nat) : Bool :=
  let c := rd s (MBOX.REQ_CODE w)
  let known := if rd s (MBOX.REQ_DEST w) = 1 then decide (0x81 ≤ c ∧ c ≤ 0x8B) else decide (1 ≤ c ∧ c ≤ 0x0D)
  !known || decide (64 < rd s (MBOX.REQ_LEN w))

/-- A request is copied to INBOX[w] and waits for the STC (R455). -/
def toInbox (w : Nat) (s : State) : State :=
  let i := w / 2
  let s := s |> wr (MBOX.IN_DEST i) (rd s (MBOX.REQ_DEST w)) |> wr (MBOX.IN_TAG i) (rd s (MBOX.REQ_TAG w))
    |> wr (MBOX.IN_CODE i) (rd s (MBOX.REQ_CODE w)) |> wr (MBOX.IN_LEN i) (rd s (MBOX.REQ_LEN w))
  let s := forEach (List.range 16) (fun k => wr (MBOX.IN_DATA i k) (rd s (MBOX.REQ_DATA w k))) s
  raise 0xF0 3 { s with stc := { s.stc with waiting := s.stc.waiting ++
    [{ win := w, tag := rd s (MBOX.REQ_TAG w), code := rd s (MBOX.REQ_CODE w), data := reqBytes s w, tick := s.time.ticks }] } }

/-- The offset of a register of a window. -/
def windowOff (w off : Nat) : Nat := 0x100 + 0x100 * w + off

/-- REQ_POST of a window (R453). -/
def reqPost (p : Port) (w : Nat) (s : State) : State :=
  fabricCmd p 0xF0 (windowOff w 0x44) none
    [(decide (windowOf p ≠ w), .locked), (decide (rd s (MBOX.RSP_OUT w) = 1), .busy), (reqRange s w, .range),
     (decide (rd s (MBOX.REQ_DEST w) = 0 ∧ (w = 1 ∨ rd s SYS.STC_STATE ≠ 2)), .state)]
    (fun s =>
      let s := wr (MBOX.RSP_OUT w) 1 s
      if rd s (MBOX.REQ_DEST w) = 1 then
        lgcPost { win := w, tag := rd s (MBOX.REQ_TAG w), code := rd s (MBOX.REQ_CODE w), data := reqBytes s w } s
      else toInbox w s) s

/-- REQ_POST. -/
def execReqPost (t : Nat) (p : Port) (w : Nat) (s : State) : Out := evPort p t s (reqPost p w)

/-- RSP_ACK clears VALID and OUTSTANDING of a window (R453). -/
def rspAck (p : Port) (w : Nat) (s : State) : State :=
  fabricCmd p 0xF0 (windowOff w 0xC4) none [(decide (windowOf p ≠ w), .locked)]
    (fun s => s |> wr (MBOX.RSP_VALID w) 0 |> wr (MBOX.RSP_OUT w) 0) s

/-- RSP_ACK. -/
def execRspAck (t : Nat) (p : Port) (w : Nat) (s : State) : Out := evPort p t s (rspAck p w)

/-- The window named has a request at the STC that is not answered. -/
def stcWaits (s : State) (w : Nat) : Bool := s.stc.waiting.any fun r => r.win == w

/-- OUT_POST: the STC's answer reaches the window that OUT_HDR names (R455). -/
def outPost (p : Port) (s : State) : State :=
  let w := rd s MBOX.OUT_WINDOW
  fabricCmd p 0xF0 0x644 none [(decide (p ≠ .stc), .locked), (!stcWaits s w, .state)]
    (fun s =>
      let b := ((List.range 16).flatMap fun k => toLe 4 (rd s (MBOX.OUT_DATA k))).take (rd s MBOX.OUT_LEN)
      mboxAnswer w (rd s MBOX.OUT_STATUS) (rd s MBOX.OUT_TAG) (rd s MBOX.OUT_CODE) b
        { s with stc := { s.stc with waiting := s.stc.waiting.filter fun r => r.win != w } }) s

/-- OUT_POST. -/
def execOutPost (t : Nat) (p : Port) (s : State) : Out := evPort p t s (outPost p)

/-- STC_RSP_TIMEOUT of a window (R455). -/
def stcRspTimeout (w : Nat) (s : State) : State :=
  match s.stc.waiting.find? fun r => r.win == w with
  | some r =>
    if r.tick + rd s MBOX.STC_RSP_TIMEOUT ≤ s.time.ticks then
      stcTimeoutAnswer r { s with stc := { s.stc with waiting := s.stc.waiting.filter fun x => x.win != w } }
    else s
  | none => s

/-- STC_RSP_TIMEOUT. -/
def execStcRspTimeout (t w : Nat) (s : State) : Out := ev t s (stcRspTimeout w)

/-- EVT_HEAD follows the queue (R463). -/
def showEvents (s : State) : State :=
  match s.stc.events with
  | (c, a, b) :: _ => s |> wr MBOX.EVT_VALID 1 |> wr MBOX.EVT_CODE c |> wr (MBOX.EVT_DATA 0) a |> wr (MBOX.EVT_DATA 1) b |> raise 0xF0 4
  | [] => s |> wr MBOX.EVT_VALID 0 |> wr MBOX.EVT_CODE 0 |> wr (MBOX.EVT_DATA 0) 0 |> wr (MBOX.EVT_DATA 1) 0

/-- Word 1 of EVT_POST_DATA posts an event of the STC (R456). -/
def evtPost (p : Port) (v : Nat) (s : State) : State :=
  fabricCmd p 0xF0 0x708 none [(decide (p ≠ .stc), .locked), (decide (16 ≤ s.stc.events.length), .exhausted)]
    (fun s => showEvents (wr (MBOX.EVT_POST_DATA 1) v
      { s with stc := { s.stc with events := s.stc.events ++ [(rd s MBOX.EVT_POST_CODE, rd s (MBOX.EVT_POST_DATA 0), v % 2 ^ 32)] } })) s

/-- EVT_POST. -/
def execEvtPost (t : Nat) (p : Port) (v : Nat) (s : State) : Out := evPort p t s (evtPost p v)

/-- EVT_POP (R456, R463). -/
def evtPop (p : Port) (s : State) : State :=
  fabricCmd p 0xF0 0x71C none [(s.stc.events.isEmpty, .state)]
    (fun s => showEvents { s with stc := { s.stc with events := s.stc.events.drop 1 } }) s

/-- EVT_POP. -/
def execEvtPop (t : Nat) (p : Port) (s : State) : Out := evPort p t s (evtPop p)

/-- OEV_HEAD follows the queue (R463). -/
def showOevs (s : State) : State :=
  match s.stc.oevs with
  | (a, sc) :: _ => s |> wr MBOX.OEV_VALID 1 |> wr MBOX.OEV_ARG a |> wr MBOX.OEV_SC (scReg sc) |> raise 0xF0 5
  | [] => s |> wr MBOX.OEV_VALID 0 |> wr MBOX.OEV_ARG 0 |> wr MBOX.OEV_SC 0

/-- A trigger of unit 0xF0: an event for the STC (R456). -/
def stcEvent (occ action arg : Nat) (s : State) : State :=
  if action ≠ 1 ∨ 8 ≤ s.stc.oevs.length ∨ rd s SYS.STC_STATE ≠ 2 then trigRefuse 0xF0 s
  else showOevs (trigExec 0xF0 { s with stc := { s.stc with oevs := s.stc.oevs ++ [(arg, occ)] } })

/-- STC_EVENT. -/
def execStcEvent (t : Nat) (src : TrigSrc) (occ action arg : Nat) (s : State) : Out := ev t s (arrive src 0xF0 (stcEvent occ action arg))

/-- OEV_POP of the STC (R463). -/
def oevPop (p : Port) (s : State) : State :=
  fabricCmd p 0xF0 0x74C none [(decide (p ≠ .stc), .locked), (s.stc.oevs.isEmpty, .state)]
    (fun s => showOevs { s with stc := { s.stc with oevs := s.stc.oevs.drop 1 } }) s

/-- OEV_POP. -/
def execOevPop (t : Nat) (p : Port) (s : State) : Out := evPort p t s (oevPop p)

/-! ## The STC's command set (R457) -/

/-- The STC answers a request: OUT_HDR, OUT_DATA and OUT_POST. -/
def stcAnswer (w tag code status : Nat) (data : List Nat) (s : State) : State :=
  let s := stcWrite 0xF0 0x600 (fun s => s |> wr MBOX.OUT_WINDOW w |> wr MBOX.OUT_STATUS status |> wr MBOX.OUT_TAG tag |> wr MBOX.OUT_CODE code
    |> wr MBOX.OUT_LEN data.length) s
  outPost .stc (forEach (List.range 16) (fun k => stcWrite 0xF0 (0x604 + 4 * k) (wr (MBOX.OUT_DATA k) (le (slice (fit 64 data) (4 * k) 4)))) s)

/-- A command of the STC: the request of a window with that code is carried out by the running STC; the result is its status, its
answer bytes and the state, and none where the answer comes later. -/
def stcCommand (w code : Nat) (act : List Nat → StcReq → State → Option (Nat × List Nat) × State) (s : State) : State :=
  if !stcRuns s then s else
  match s.stc.waiting.find? fun r => r.win == w with
  | some r =>
    if r.code ≠ code then s
    else match act r.data r s with
      | (some (st, d), s) => stcAnswer w r.tag r.code st d s
      | (none, s) => s
  | none => s

/-- GET_INFO. -/
def getInfo (s : State) : List Nat :=
  [rd s SYS.STC_IMAGE] ++ toLe 4 s.stc.version ++ toLe 4 s.stc.gen ++ toLe 2 (rd s SYS.STC_RESTARTS) ++ toLe 4 s.stc.age

/-- GET_INFO of a window. -/
def execGetInfo (t w : Nat) (s : State) : Out := ev t s (stcCommand w 0x01 fun _ _ s => (some (0, getInfo s), s))

/-- POWER: LINE_HOLD refuses DOZE and NAP in OPERATION; else PWR_CMD REQUEST, whose CODE is the answer. -/
def stcPower (target : Nat) (s : State) : Nat × State :=
  if s.stc.lineHold = true ∧ (target = 2 ∨ target = 3) ∧ rd s ACTV.STATE = 4 then (Code.num .state, s)
  else
    let s := powerRequest .stc target s
    (rd s PWR.CMD_CODE, s)

/-- POWER. -/
def execPower (t w : Nat) (s : State) : Out :=
  ev t s (stcCommand w 0x02 fun d _ s => let (c, s) := stcPower (d.getD 0 0) s; (some (c, []), s))

/-- POLICY_SET. -/
def execPolicySet (t w : Nat) (s : State) : Out :=
  ev t s (stcCommand w 0x03 fun d _ s =>
    (some (0, []), { s with stc := { s.stc with autoTrim := bit (d.getD 0 0) 0, lineHold := bit (d.getD 0 0) 1 } }))

/-- AUTO_TRIM: back to RUN once TJ has fallen below TH_WARN; old says whether it stood at or above in the commit cycle before. -/
def autoTrim (was : Bool) (s : State) : State :=
  if s.stc.autoTrim && stcRuns s && was && !s.pwr.warm && decide (rd s PWR.STATE = 1) then powerRequest .stc 0 s else s

/-- A transaction of the STC command window: address, bytes to write, and how many to read. -/
def twcStart (addr : Nat) (tx : List Nat) (rlen : Nat) (s : State) : State :=
  let b := fit 8 tx
  let s := stcWrite 0x85 0x060 (fun s => s |> wr TWIC.TWC_ADDR addr |> wr TWIC.TWC_WLEN tx.length |> wr TWIC.TWC_RLEN rlen) s
  twcGo .stc (forEach [0, 1] (fun k => stcWrite 0x85 (0x064 + 4 * k) (wr (TWIC.TWC_TX k) (le (slice b (4 * k) 4)))) s)

/-- MODULE_READ and MODULE_WRITE: the transaction starts, and its end answers; a busy window keeps the request waiting, and a refused GO
answers with its code. -/
def moduleAccess (write : Bool) (d : List Nat) (r : StcReq) (s : State) : Option (Nat × List Nat) × State :=
  let n := d.getD 2 0
  if n = 0 ∨ 7 < n then (some (Code.num .range, []), s)
  else if rd s TWIC.TWC_BUSY = 1 then (none, s)
  else
    let s := if write then twcStart (d.getD 0 0) (d.getD 1 0 :: fit n (d.drop 3)) 0 s else twcStart (d.getD 0 0) [d.getD 1 0] n s
    if rd s TWIC.TWC_BUSY = 0 then (some (rd s (HDR.REF_CODE 0x85), []), s)
    else (none, { s with stc := { s.stc with modWait := some (r.win, r.tag, r.code) } })

/-- MODULE_READ. -/
def execModuleRead (t w : Nat) (s : State) : Out := ev t s (stcCommand w 0x04 (moduleAccess false))
/-- MODULE_WRITE. -/
def execModuleWrite (t w : Nat) (s : State) : Out := ev t s (stcCommand w 0x05 (moduleAccess true))

/-- TWC_DONE: RESULT, the bytes read and CMD_DONE; the STC answers a module command that waited for it (R452, R457). -/
def twcDone (result : Nat) (data : List Nat) (s : State) : State :=
  if rd s TWIC.TWC_BUSY = 0 then s else
  let n := rd s TWIC.TWC_RLEN
  let b := fit 8 (data.take n)
  let s := s |> wr TWIC.TWC_BUSY 0 |> wr TWIC.TWC_RESULT result |> raise 0x85 1
  let s := if result = 0 ∧ 0 < n then s |> wr (TWIC.TWC_RX 0) (le (slice b 0 4)) |> wr (TWIC.TWC_RX 1) (le (slice b 4 4)) else s
  let s := when (result == 4) (raise 0x85 2) s
  match s.stc.modWait with
  | some (w, tag, code) =>
    stcAnswer w tag code result (if code = 0x04 ∧ result = 0 then data.take n else []) { s with stc := { s.stc with modWait := none } }
  | none => s

/-- TWC_DONE. -/
def execTwcDone (t result : Nat) (data : List Nat) (s : State) : Out := ev t s (twcDone result data)

/-- The STC sends an STC_REPLY with 26 bytes of its own; the result is the status of SEND (R174, R223, R457). -/
def stcSend (body : List Nat) (s : State) : Nat × State :=
  let b := fit 32 (fit 26 body)
  let s := stcWrite 0x0D 0x0B0 (fun s => s |> wr ACTV.UPMSG_TYPE 0x90 |> wr ACTV.UPMSG_SEQ (Config.stcSeq s.stc.draws)) s
  let s := forEach (List.range 8) (fun k => stcWrite 0x0D (0x090 + 4 * k) (wr (ACTV.UPMSG_BODY k) (be (slice b (4 * k) 4))))
    { s with stc := { s.stc with draws := s.stc.draws + 1 } }
  let n := rd s SYS.REFUSAL_COUNT
  let s := upmsgSendCmd .stc s
  (if rd s SYS.REFUSAL_COUNT = n then 0 else rd s (HDR.REF_CODE 0x0D), s)

/-- A report of the STC's own making. -/
def stcReport (s : State) : Nat × State := stcSend (Config.stcReport s.stc.draws) s

/-- PM_REPORT: KIND 0 to 2; the record goes upstream as the firmware lays it out. -/
def execPmReport (t w : Nat) (s : State) : Out :=
  ev t s (stcCommand w 0x06 fun d _ s =>
    if 2 < d.getD 0 0 then (some (Code.num .range, []), s) else let (c, s) := stcReport s; (some (c, []), s))

/-- OAM_SEND: 26 bytes of an STC_REPLY. -/
def execOamSend (t w : Nat) (s : State) : Out :=
  ev t s (stcCommand w 0x07 fun d _ s => let (c, s) := stcSend d s; (some (c, []), s))

/-- IMAGE_BEGIN: SEALED where the LGC refuses the header; otherwise the inactive slot is erased. -/
def imageBegin (h : List Nat) (s : State) : Nat × State :=
  let k := 1 - rd s SYS.STC_IMAGE
  if !lgcRuns s then (Code.num .state, s) else
  let (ok, s) := imageCheck k (fit 64 h) s
  if !ok then (Code.num .sealed, s)
  else (0, { s with stc := { s.stc with update := some { slot := k, header := fit 64 h }, flash := s.stc.flash ++ [(0x400000 * k, [])] } })

/-- IMAGE_BEGIN. -/
def execImageBegin (t w : Nat) (s : State) : Out :=
  ev t s (stcCommand w 0x09 fun d _ s => let (c, s) := imageBegin d s; (some (c, []), s))

/-- IMAGE_DATA: bytes at a body OFFSET. -/
def imageData (d : List Nat) (s : State) : Nat × State :=
  let off := le (slice d 0 4)
  let b := d.drop 4
  match s.stc.update with
  | none => (Code.num .order, s)
  | some u =>
    if off % 4 ≠ 0 ∨ b = [] ∨ le (slice u.header 12 4) < off + b.length then (Code.num .range, s)
    else
      let body := b.zipIdx.foldl (fun l x => aset l (off + x.2) x.1) u.body
      (0, { s with stc := { s.stc with update := some { u with body := body }, flash := s.stc.flash ++ [(0x400000 * u.slot + 0x40 + off, b)] } })

/-- IMAGE_DATA. -/
def execImageData (t w : Nat) (s : State) : Out :=
  ev t s (stcCommand w 0x0A fun d _ s => let (c, s) := imageData d s; (some (c, []), s))

/-- The CRC of an update over its header and body, erased bytes reading as ones (R440). -/
def updateCrc (u : Update) : Nat :=
  crc32 (u.header.take 56 ++ (List.range (le (slice u.header 12 4))).map fun i => aget u.body i 255)

/-- IMAGE_COMMIT: RANGE on a CRC mismatch; otherwise the header is written last. -/
def imageCommit (s : State) : Nat × State :=
  match s.stc.update with
  | none => (Code.num .order, s)
  | some u =>
    if updateCrc u ≠ le (slice u.header 56 4) then (Code.num .range, s)
    else (0, { s with stc := { s.stc with update := none, flash := s.stc.flash ++ [(0x400000 * u.slot, u.header)] } })

/-- IMAGE_COMMIT. -/
def execImageCommit (t w : Nat) (s : State) : Out :=
  ev t s (stcCommand w 0x0B fun _ _ s => let (c, s) := imageCommit s; (some (c, []), s))

/-- ACTIVATION with 1: ACTV's ENABLE is written (R457). -/
def execActivationEnable (t w : Nat) (s : State) : Out :=
  ev t s (stcCommand w 0x0C fun d _ s =>
    if d.getD 0 0 ≠ 1 then (none, s)
    else if lockedOut s .stc 0x0D then (some (Code.num .locked, []), refuse .stc 0x0D 0x004 .locked s)
    else if enabled s 0x0D then (some (0, []), s)
    else (some (0, []), actvEnable true (wr (HDR.ENABLE 0x0D) 1 (renewLease .stc 0x0D s))))

/-- ACTIVATION with 2: ACTV's ENABLE is cleared. -/
def execActivationDisable (t w : Nat) (s : State) : Out :=
  ev t s (stcCommand w 0x0C fun d _ s =>
    if d.getD 0 0 ≠ 2 then (none, s)
    else if lockedOut s .stc 0x0D then (some (Code.num .locked, []), refuse .stc 0x0D 0x004 .locked s)
    else if !enabled s 0x0D then (some (0, []), s)
    else (some (0, []), actvEnable false (wr (HDR.ENABLE 0x0D) 0 (renewLease .stc 0x0D s))))

/-- ACTIVATION with 3: REJOIN, whose status is the answer; any other byte is out of range. -/
def execActivationRejoin (t w : Nat) (s : State) : Out :=
  ev t s (stcCommand w 0x0C fun d _ s =>
    if d.getD 0 0 = 1 ∨ d.getD 0 0 = 2 then (none, s)
    else if d.getD 0 0 ≠ 3 then (some (Code.num .range, []), s)
    else
      let s := rejoinCmd .stc s
      (some (rd s ACTV.CMD_CODE, []), s))

/-- RECORD_FORWARD. -/
def execRecordForward (t w : Nat) (s : State) : Out :=
  ev t s (stcCommand w 0x0D fun d _ s =>
    if 1 < d.getD 0 0 then (some (Code.num .range, []), s)
    else (some (0, []), { s with stc := { s.stc with forward := decide (d.getD 0 0 = 1) } }))

/-- While RECORD_FORWARD is on, the STC sends a delivery record that has become ready upstream (R377, R457). -/
def forwardRecord (s : State) : State := if s.stc.forward && stcRuns s then (stcReport s).2 else s

end Sys2Proof.Machine
end

