-- ==== Sys2Proof/Machine/Repair.lean ====
section
/-! DEFINITION. Self-repair (chapter 19): errors of the SECDED memories, rows and columns and their spares, the sweeper's tests of
engines and slices, RPR_CMD, the record queue, and the ageing monitors. -/
namespace Sys2Proof.Machine

/-! ## The memories and their spares (R464) -/

/-- Rows of each instance of a SECDED memory by its row kind; 0 for a kind that names no row (R464). -/
def rowsOfKind (k : Nat) : Nat :=
  if k = 1 then 4096 else if k = 3 then 128 else if k = 4 then 256 else if k = 5 then 16 else if k = 6 then 32 else 0

/-- Instances of a kind: 16 banks for the packet buffer, else one. -/
def instOfKind (k : Nat) : Nat := if k = 1 ∨ k = 2 then 16 else 1

/-- A row of a SECDED memory. -/
def isRow (r : Nat × Nat × Nat) : Bool := decide (r.2.1 < instOfKind r.1 ∧ r.2.2 < rowsOfKind r.1)

/-- Spares of a kind at manufacture, per instance (R464). -/
def sparesOfKind (k : Nat) : Nat := if k = 1 then 32 else if k = 2 then 2 else if k = 3 ∨ k = 4 then 4 else 1

/-- The register that counts the spares left (R483). -/
def sparesField (k inst : Nat) : Fld :=
  if k = 1 then RPR.ROWS_LEFT inst else if k = 2 then RPR.COLS_LEFT inst else if k = 3 then RPR.SP_DESC
  else if k = 4 then RPR.SP_CLS else if k = 5 then RPR.SP_ALM else RPR.SP_KEY

/-- The lowest spare of a memory that no record in force uses (R471, R472). -/
def freeSpare (s : State) (k inst : Nat) : Option Nat :=
  (List.range (sparesOfKind k)).find? fun n =>
    !(s.rpr.records.any fun w => decide (recKind w = k ∧ (recRow w).2.1 = inst ∧ recSpare w = n))

/-- Spares that copies under way will take. -/
def sparesTaken (s : State) (k inst : Nat) : Nat :=
  if k = 1 then 0 else if k = 2 then (s.rpr.cols.filter fun c => decide (c.1 = inst)).length
  else (s.rpr.due.filter fun d => decide (d.row.1 = k)).length

/-- A spare is left for another repair. -/
def spareLeft (s : State) (k inst : Nat) : Bool := decide (sparesTaken s k inst < rd s (sparesField k inst))

/-- A spare is taken: the lowest free one; SPARES_LOW when the memory reaches SPARES_WARN left; a record (R471, R472, R478, R483). -/
def takeSpare (r : Nat × Nat × Nat) (s : State) : State :=
  let n := rd s (sparesField r.1 r.2.1) - 1
  let sp := (freeSpare s r.1 r.2.1).getD noSpare
  let s := wr (sparesField r.1 r.2.1) n s
  let s := when (decide (r.1 ≠ 2 ∧ n = rd s RPR.SPARES_WARN)) (raise rprPage 4) s
  pushRecord (repairWord r.1 sp r.2.1 r.2.2) 0 s

/-! ## Cells of rows due for retirement (R471) -/

/-- The frame that a place names. -/
def frameAt (s : State) (c : CellAt) : Option QFrame :=
  match c with
  | .free => none
  | .queued q n => (aget s.tm.queues q [])[n]?
  | .staged k target n => (s.tm.staged.find? fun x => x.cont == k && x.target == target).bind fun x => x.frames[n]?.map (·.frame)
  | .burst n => s.burst.frames[n]?.map fun x => x.2.2.frame

/-- Change the frame that a place names. -/
def modFrameAt (c : CellAt) (f : QFrame → QFrame) (s : State) : State :=
  match c with
  | .free => s
  | .queued q n => { s with tm := { s.tm with queues := aset s.tm.queues q ((aget s.tm.queues q []).modify n f) } }
  | .staged k target n => { s with tm := { s.tm with staged := s.tm.staged.map (fun x =>
      if x.cont == k && x.target == target then { x with frames := x.frames.modify n fun y => { y with frame := f y.frame } } else x) } }
  | .burst n => { s with burst := { s.burst with frames := s.burst.frames.modify n fun x =>
      (x.1, x.2.1, { x.2.2 with frame := f x.2.2.frame }) } }

/-- The place can hold the row's cell: a frame with a cell that is in no row due, or the free list with a cell left. -/
def placeOk (s : State) (c : CellAt) : Bool :=
  match c, frameAt s c with
  | .free, _ => decide (0 < s.led.cellsFree)
  | _, some f => decide (f.bad.length < cellsOf f)
  | _, none => false

/-- The row is due. -/
def isDue (s : State) (r : Nat × Nat × Nat) : Bool := s.rpr.due.any fun d => decide (d.row = r)

/-- Note a row as due. -/
def addDue (d : DueRow) (s : State) : State := modRpr (fun x => { x with due := x.due ++ [d] }) s

/-- A packet buffer row becomes due: a free cell goes to QUARANTINED at once, a held one when its frame leaves (R471). -/
def bufDue (r : Nat × Nat × Nat) (why : DueWhy) (c : CellAt) (s : State) : State :=
  if !placeOk s c then s
  else if c = .free then
    addDue { row := r, why := why, stage := .work }
      { s with led := { s.led with cellsFree := s.led.cellsFree - 1, cellsQuar := s.led.cellsQuar + 1 } }
  else addDue { row := r, why := why, stage := .held } (modFrameAt c (fun f => { f with bad := f.bad ++ [4096 * r.2.1 + r.2.2] }) s)

/-- A row of another SECDED memory becomes due: its copy to a spare begins, or, without a spare, it stays in service (R472). -/
def memDue (r : Nat × Nat × Nat) (why : DueWhy) (s : State) : State :=
  if spareLeft s r.1 r.2.1 then addDue { row := r, why := why, stage := .work } s
  else raise rprPage 5 (inc RPR.ROWS_LOST (modRpr (fun x => { x with lost := x.lost ++ [r] }) s))

/-- A row becomes due unless it is due already or has been left without a spare; a later uncorrectable error weighs more than the
corrected ones (R470 to R472). -/
def rowDue (r : Nat × Nat × Nat) (why : DueWhy) (c : CellAt) (s : State) : State :=
  if s.rpr.lost.contains r then s
  else if isDue s r then
    if why = .ue then modRpr (fun x => { x with due := x.due.map fun d => if d.row = r then { d with why := .ue } else d }) s else s
  else if r.1 = 1 then bufDue r why c s
  else memDue r why s

/-! ## Errors (R469, R470, R473) -/

/-- The table of 64 rows with an error of a row added: a count older than CE_WINDOW starts again, and a full table replaces the entry
with the oldest first error (R469). -/
def ceTable (s : State) (r : Nat × Nat × Nat) : CeRow × List CeRow :=
  let rest := s.rpr.ce.filter fun e => decide (e.row ≠ r)
  let fresh : CeRow := { row := r, n := 1, first := s.time.ticks }
  let e := match s.rpr.ce.find? fun e => decide (e.row = r) with
    | some e => if s.time.ticks - e.first ≤ rd s RPR.CE_WINDOW then { e with n := e.n + 1 } else fresh
    | none => fresh
  let oldest := (rest.map (·.first)).foldl min s.time.ticks
  let rest := if rest.length < 64 then rest else
    match rest.find? fun x => decide (x.first = oldest) with
    | some o => rest.erase o
    | none => rest
  (e, rest ++ [e])

/-- The column of a bank is repaired, or its copy waits or runs. -/
def colTaken (s : State) (bank col : Nat) : Bool :=
  repaired s (2, bank, col) || s.rpr.cols.any fun c => decide (c.1 = bank ∧ c.2.1 = col)

/-- A column copy is to be made (R473). -/
def startColumn (bank col : Nat) (s : State) : State := modRpr (fun x => { x with cols := x.cols ++ [(bank, col, 4096)] }) s

/-- With AUTO_COL, four rows of a bank that became due in one CE_WINDOW with the same failing bit start the column's repair (R473). -/
def columnWatch (bank col : Nat) (s : State) : State :=
  let h := (bank, col, s.time.ticks) :: s.rpr.colHist.filter fun x => decide (s.time.ticks - x.2.2 ≤ rd s RPR.CE_WINDOW)
  let s := modRpr (fun x => { x with colHist := h }) s
  if rd s RPR.AUTO_COL = 1 ∧ 4 ≤ (h.filter fun x => decide (x.1 = bank ∧ x.2.1 = col)).length ∧ colTaken s bank col = false ∧
    spareLeft s 2 bank = true then startColumn bank col s else s

/-- A corrected error of a row, with the failing bit of the word and the place of a packet buffer row's cell; the Almanac
counts its own too (R50, R469). -/
def correctedError (r : Nat × Nat × Nat) (col : Nat) (c : CellAt) (s : State) : State :=
  if !isRow r then s else
  let (e, table) := ceTable s r
  let s := inc RPR.CE_TOTAL (modRpr (fun x => { x with ce := table }) s)
  let s := when (decide (r.1 = 5)) (incSat ORRY.CE_COUNT) s
  if rd s RPR.CE_ROW_MAX ≤ e.n ∧ isDue s r = false ∧ s.rpr.lost.contains r = false then
    let s := rowDue r .ce c (raise rprPage 0 s)
    if r.1 = 1 then columnWatch r.2.1 col s else s
  else s

/-- CORRECTED_ERROR. -/
def execCorrectedError (t : Nat) (kind inst row col : Nat) (c : CellAt) (s : State) : Out :=
  ev t s (correctedError (kind, inst, row) col c)

/-- A frame found spoiled before its first byte leaves is dropped, its cells and descriptor leaving as a sent frame's do (R470). -/
def dropSpoiled (q n : Nat) (s : State) : State :=
  match (aget s.tm.queues q [])[n]? with
  | some f =>
    let s := { s with tm := { s.tm with queues := aset s.tm.queues q ((aget s.tm.queues q []).eraseIdx n) } }
    resetIdle q (freeFrame false f (inc RPR.UE_DROPS s))
  | none => s

/-- The datapath handles the spoiled word: at egress to ports 16 to 18 and at staging its frame is dropped; a confirmed container
goes out as read (R470). -/
def spoiledWord (c : CellAt) (u : CellUse) (s : State) : State :=
  match u, c with
  | .egress, .queued q n => if 16 ≤ queuePort s q then dropSpoiled q n s else s
  | .staging, .queued q n => if queuePort s q < 16 then dropSpoiled q n s else s
  | .confirmed, .staged _ _ _ => inc RPR.UE_SENT s
  | .confirmed, .burst _ => inc RPR.UE_SENT s
  | _, _ => s

/-- An uncorrectable error of a row, with the entry of an Almanac row that it spoils, the place of a packet buffer row's cell, and
what read it (R470). -/
def uncorrectableError (r : Nat × Nat × Nat) (entry : Nat) (c : CellAt) (u : CellUse) (s : State) : State :=
  if !isRow r then s else
  let s := raise rprPage 1 (inc RPR.UE_TOTAL s)
  let s := if r.1 = 5 then entryUe (16 * r.2.2 + entry % 16) s else condLost 2 s
  let s := rowDue r .ue c s
  if r.1 = 1 then spoiledWord c u s else s

/-- UNCORRECTABLE_ERROR. -/
def execUncorrectableError (t : Nat) (kind inst row entry : Nat) (c : CellAt) (u : CellUse) (s : State) : Out :=
  ev t s (uncorrectableError (kind, inst, row) entry c u)

/-! ## Rows and columns (R471 to R473) -/

/-- The sweeper runs: SWEEP_EN, in RUN and TRIM (R403, R477). -/
def sweeperRuns (s : State) : Bool := decide (rd s RPR.SWEEP_EN = 1 ∧ rd s PWR.STATE ≤ 1)

/-- The row's work is over: it is due no longer, and has been retired once. -/
def dropDue (r : Nat × Nat × Nat) (s : State) : State :=
  modRpr (fun x => { x with due := x.due.filter (fun d => decide (d.row ≠ r)), once := r :: x.once.filter (fun y => decide (y ≠ r)) }) s

/-- The row's table entry is cleared. -/
def dropCe (r : Nat × Nat × Nat) (s : State) : State := modRpr (fun x => { x with ce := x.ce.filter fun e => decide (e.row ≠ r) }) s

/-- A quarantined cell returns to FREE, both tallies changing in one cycle (R471). -/
def cellFreed (s : State) : State :=
  { s with led := { s.led with cellsFree := s.led.cellsFree + 1, cellsQuar := s.led.cellsQuar - 1 } }

/-- A row switches to its spare (R471, R472). -/
def remapRow (r : Nat × Nat × Nat) (s : State) : State :=
  let s := dropCe r (dropDue r (takeSpare r (raise rprPage 2 (inc RPR.ROWS_REMAPPED s))))
  if r.1 = 1 then cellFreed s else s

/-- A packet buffer row without a spare keeps its cell QUARANTINED for good (R471). -/
def loseRow (r : Nat × Nat × Nat) (s : State) : State :=
  let s := modRpr (fun x => { x with lost := x.lost ++ [r] }) (dropDue r (inc RPR.ROWS_LOST s))
  pushRecord (repairWord r.1 noSpare r.2.1 r.2.2) 0 (raise rprPage 2 (raise rprPage 5 s))

/-- A row has failed its test, or must be retired whatever the test says (R471). -/
def retireRow (d : DueRow) (s : State) : State :=
  if !spareLeft s 1 d.row.2.1 then loseRow d.row s
  else if rd s RPR.AUTO_ROW = 1 ∨ d.why = .retire then remapRow d.row s
  else modRpr (fun x => { x with due := x.due.map fun y => if y.row = d.row then { y with stage := .failed } else y }) s

/-- The test of a quarantined row ends: after corrected errors, a first pass frees it as a transient; a pass of RPR_CMD TEST frees it;
anything else retires it (R471). -/
def rowTested (d : DueRow) (pass : Bool) (s : State) : State :=
  if pass && decide (d.why = .ce) && !s.rpr.once.contains d.row then cellFreed (dropCe d.row (dropDue d.row (inc RPR.TRANSIENTS s)))
  else if pass && decide (d.why = .test) then cellFreed (modRpr (fun x => { x with due := x.due.filter fun y => decide (y.row ≠ d.row) }) s)
  else retireRow d s

/-- ROW_TEST_DONE: due once the row's cell is quarantined and the sweeper works on it (R471). -/
def execRowTestDone (t : Nat) (bank row : Nat) (pass : Bool) (s : State) : Out :=
  ev t s fun s =>
    match s.rpr.due.find? fun d => decide (d.row = (1, bank, row) ∧ d.stage = .work) with
    | some d =>
      if sweeperRuns s = true ∨ d.why = .test ∨ d.why = .retire then rprDone (.row d.row) (rowTested d pass s) else s
    | none => s

/-- ROW_COPY_DONE of a memory other than the packet buffer: the spare switches in (R472). -/
def execRowCopyDone (t : Nat) (kind row : Nat) (s : State) : Out :=
  ev t s fun s =>
    match s.rpr.due.find? fun d => decide (d.row = (kind, 0, row) ∧ kind ≠ 1 ∧ d.stage = .work) with
    | some d => if sweeperRuns s = true ∨ d.why = .retire then remapRow d.row s else s
    | none => s

/-- COLUMN_COPY_DONE: every row of the bank is copied, and the spare column switches in (R473). -/
def execColumnCopyDone (t : Nat) (s : State) : Out :=
  ev t s fun s =>
    match s.rpr.cols with
    | (bank, col, 0) :: rest =>
      rprDone (.column bank col) (takeSpare (2, bank, col) (modRpr (fun x => { x with cols := rest }) s))
    | _ => s

/-! ## Tests of engines and slices (R474, R475) -/

/-- An engine is in a cycle in which the sweeper may test it: grantable or STANDBY, with no seat requesting (R474). -/
def engineIdle (s : State) (e : Nat) : Bool :=
  decide (e < Variant.engines s.fuse.variant) && (List.range 5).all (fun seat => !seatRequests s seat) &&
    (decide (rd s (DEAL.ENG_STATE e) = 1) ||
      (decide (rd s (DEAL.ENG_STATE e) = 0) && !s.deck.freed.contains (e, s.time.cycle) && !s.rpr.engDue.contains e))

/-- The Dealer granted the engine in this cycle, in which its test fails (hard case of chapter 19). -/
def grantedNow (s : State) (e : Nat) : Bool :=
  decide (rd s (DEAL.ENG_STATE e) = 2 ∧ (aget s.deck.hands e {}).start = s.time.cycle)

/-- A failed engine, with AUTO_ENG, retires at once from POOL or STANDBY, or at its release (R474). -/
def engineFails (e : Nat) (s : State) : State :=
  let s := inc RPR.ENG_FAILS s
  if rd s RPR.AUTO_ENG = 0 then s
  else if rd s (DEAL.ENG_STATE e) = 2 then modRpr (fun x => { x with engDue := x.engDue ++ [e] }) s
  else retireEngine e s

/-- ENGINE_TEST: a whole test of an engine by the sweeper, or by RPR_CMD TEST (R474). -/
def execEngineTest (t : Nat) (engine : Nat) (pass : Bool) (s : State) : Out :=
  ev t s fun s =>
    if (sweeperRuns s || decide (s.rpr.cmd = some (.engine engine))) && (engineIdle s engine || (grantedNow s engine && !pass)) then
      rprDone (.engine engine) (when (!pass) (engineFails engine) (inc RPR.ENG_TESTS s))
    else s

/-- SLICE_TEST of a SPARE slice that shadows nothing: a failure raises SLICE_TEST_FAIL, is logged, and the LGC retires the slice at its
next commit cycle (R475, R479). -/
def execSliceTest (t : Nat) (slice : Nat) (pass : Bool) (s : State) : Out :=
  ev t s fun s =>
    if (sweeperRuns s || decide (s.rpr.cmd = some (.slice slice))) && decide (slice < Variant.slices s.fuse.variant) &&
        decide (rd s (AFE.SLICE_ROLE slice) = 3) && !shadows s slice then
      if pass then rprDone (.slice slice) s
      else rprDone (.slice slice) (modRpr (fun x => { x with slices := x.slices ++ [(slice, true)] })
        (metrologyRepair slice (raise rprPage 10 s)))
    else s

/-! ## RPR_CMD (R476, R481) -/

/-- The BAR0 address of RPR_CMD. -/
def rprCmdAddr : Nat := 0x90070

/-- An RPR_CMD executes. -/
def rprBusy (s : State) : Bool := cmdBusy s rprCmdAddr || s.rpr.cmd.isSome

/-- The engines in service. -/
def enginesServing (s : State) : Nat := enginesIn s 0 + enginesIn s 2

/-- The slice that takes over from an ACTIVE one: the DUMMY, or, where the mode cannot be shadowed, a sound spare (R261, R475). -/
def sliceTaker (s : State) (a : Nat) : Option Nat :=
  if noShadow s a then soundSpare s else (dummyOf s).bind fun x => if shadows s x then none else some x

/-- The LGC refuses a slice repair: it does not run, a takeover or a check is under way, no slice can take over, the log is full, or
the slice shadows another (R355, R475, R481). -/
def sliceRefused (s : State) (i : Nat) : Bool :=
  !lgcRuns s || s.rpr.swap.isSome || s.rpr.slices.any (fun x => decide (x.1 = i)) || shadows s i ||
    (decide (rd s (AFE.SLICE_ROLE i) = 1) &&
      (s.afe.takeover.isSome || s.wgh.de.active || (sliceTaker s i).isNone || decide (logSize ≤ s.leg.log.length)))

/-- The resource has been retired already (R481). -/
def alreadyRetired (s : State) (r : Nat × Nat × Nat) : Bool :=
  if r.1 = 0xA then decide (rd s (DEAL.ENG_STATE r.2.2) = 3)
  else if r.1 = 9 then decide (rd s (AFE.SLICE_ROLE r.2.2) = 4)
  else if r.1 = 2 then colTaken s r.2.1 r.2.2
  else repaired s r || s.rpr.lost.contains r || s.rpr.due.any fun d => decide (d.row = r ∧ d.stage ≠ .failed)

/-- INDEX and INSTANCE are in range for the KIND; an engine or slice out of range is ABSENT instead (R464, R481). -/
def indexOk (r : Nat × Nat × Nat) : Bool :=
  if r.1 = 2 then decide (r.2.1 < 16 ∧ r.2.2 < 72)
  else if r.1 = 7 ∨ r.1 = 8 then decide (r.2.1 = 0 ∧ r.2.2 < 2)
  else if r.1 = 9 ∨ r.1 = 0xA then decide (r.2.1 = 0)
  else isRow r

/-- OP of RPR_CMD takes the KIND (R473, R481). -/
def opTakes (op k : Nat) : Bool :=
  if op = 1 then decide (k = 1 ∨ k = 9 ∨ k = 0xA) else if op = 2 then decide (1 ≤ k ∧ k ≤ 0xA) else decide (op = 3 ∧ k = 2)

/-- The checks of RPR_CMD in their order (R481). -/
def rprChecks (p : Port) (op : Nat) (r : Nat × Nat × Nat) (s : State) : List (Bool × Code) :=
  [(decide (p ≠ .stc), .locked), (rprBusy s, .busy)] ++ (if op = 4 then [] else
  [(decide (op ≤ 3 ∧ ((r.1 = 0xA ∧ Variant.engines s.fuse.variant ≤ r.2.2) ∨ (r.1 = 9 ∧ Variant.slices s.fuse.variant ≤ r.2.2))), .absent),
   (!opTakes op r.1 || !indexOk r, .range),
   (alreadyRetired s r || (decide (op = 2 ∧ r.1 = 0xA ∧ rd s (DEAL.ENG_STATE r.2.2) ≠ 1 ∧ enginesServing s ≤ 1) && !spareStandby s)
     || (decide (r.1 = 9) && (sliceRefused s r.2.2 || decide (op = 1 ∧ rd s (AFE.SLICE_ROLE r.2.2) ≠ 3))), .state),
   (decide (2 ≤ op ∧ r.1 ≤ 6) && !spareLeft s r.1 r.2.1, .exhausted),
   (decide (op = 2 ∧ r.1 = 0xA ∧ rd s (DEAL.ENG_STATE r.2.2) = 2), .ledger)])

/-- CMD_DONE of a command that ends within 4 cycles. -/
def rprShort (s : State) : State := raise rprPage 11 (startCmd rprCmdAddr 4 s)

/-- A command waits for its work. -/
def rprOpens (c : RprOpen) (s : State) : State := modRpr (fun x => { x with cmd := some c }) s

/-- TEST: the sweeper tests the row, the engine or the slice now (R471, R474, R475). -/
def rprTestAct (r : Nat × Nat × Nat) (c : CellAt) (s : State) : State :=
  if r.1 = 0xA then rprOpens (.engine r.2.2) s
  else if r.1 = 9 then rprOpens (.slice r.2.2) s
  else
    let s := rowDue r .test c s
    if isDue s r then rprOpens (.row r) s else s

/-- A slice's repair: an ACTIVE slice is shadowed and taken over, any other retires at the LGC's next commit cycle (R475). -/
def rprSliceAct (i : Nat) (s : State) : State :=
  let s := rprOpens (.slice i) s
  if rd s (AFE.SLICE_ROLE i) = 1 then
    match sliceTaker s i with
    | some x => modRpr (fun y => { y with swap := some (x, i) }) (when (!noShadow s i) (shadowCmd .lgc x i) s)
    | none => s
  else modRpr (fun y => { y with slices := y.slices ++ [(i, false)] }) s

/-- RETIRE: the repair path of the resource; for a lane only a record is made (R471 to R476). -/
def rprRetireAct (r : Nat × Nat × Nat) (c : CellAt) (s : State) : State :=
  if r.1 = 9 then rprSliceAct r.2.2 s
  else rprShort (
    if r.1 = 0xA then retireEngine r.2.2 s
    else if r.1 = 7 ∨ r.1 = 8 then pushRecord (repairWord r.1 noSpare 0 r.2.2) 0 s
    else if r.1 = 2 then startColumn r.2.1 r.2.2 s
    else if isDue s r then remapRow r s
    else rowDue r .retire c s)

/-- What an accepted RPR_CMD does, by its OP (R481). -/
def rprAct (op : Nat) (r : Nat × Nat × Nat) (c : CellAt) (s : State) : State :=
  if op = 1 then rprTestAct r c s
  else if op = 2 then rprRetireAct r c s
  else if op = 3 then rprOpens (.column r.2.1 r.2.2) (startColumn r.2.1 r.2.2 s)
  else rprShort (modRpr (fun x => { x with ce := [] }) s)

/-- A write of RPR_CMD (R481). -/
def rprCmd (p : Port) (op : Nat) (r : Nat × Nat × Nat) (c : CellAt) (s : State) : State :=
  fabricCmd p rprPage 0x70 (some RPR.CMD_CODE) (rprChecks p op r s) (rprAct op r c) s

/-- RPR_TEST. -/
def execRprTest (t : Nat) (p : Port) (kind inst idx : Nat) (c : CellAt) (s : State) : Out := evPort p t s (rprCmd p 1 (kind, inst, idx) c)

/-- RPR_RETIRE. -/
def execRprRetire (t : Nat) (p : Port) (kind inst idx : Nat) (c : CellAt) (s : State) : Out := evPort p t s (rprCmd p 2 (kind, inst, idx) c)

/-- RPR_COLUMN. -/
def execRprColumn (t : Nat) (p : Port) (kind inst idx : Nat) (s : State) : Out := evPort p t s (rprCmd p 3 (kind, inst, idx) .free)

/-- CE_CLEAR. -/
def execCeClear (t : Nat) (p : Port) (s : State) : Out := evPort p t s (rprCmd p 4 (0, 0, 0) .free)

/-- The address of an entry of the record region (R439, R467). -/
def entryAddr (half n : Nat) : Nat := 0x800000 + 0x8000 * half + 16 * n

/-- The STC appends an entry for a record word: SEQ, the word, their CRC-32, and the MTAG of KIND SLICE (R467). -/
def appendEntry (word : Nat) (s : State) : State :=
  let b := toLe 4 s.rpr.nextSeq ++ toLe 4 word
  let e := b ++ toLe 4 (crc32 b) ++ toLe 4 (if recKind word = 9 then mtagOf s.rpr.nextSeq word else 0)
  modRpr (fun x => { x with entries := x.entries ++ [e], nextSeq := x.nextSeq + 1 })
    { s with stc := { s.stc with flash := s.stc.flash ++ [(entryAddr s.rpr.half s.rpr.entries.length, e)] } }

/-- The record word of an entry. -/
def entryWord (e : List Nat) : Nat := le (slice e 4 4)

/-- A half of 2,048 entries is full: the STC erases the other one and writes the records still in force into it, with new SEQ values
(R467). -/
def moveHalf (s : State) : State :=
  if s.rpr.entries.length < 2048 then s else
  let h := 1 - s.rpr.half
  let keep := (s.rpr.entries.map entryWord).filter fun w => s.rpr.records.contains w
  forEach keep appendEntry (modRpr (fun x => { x with half := h, entries := [] })
    { s with stc := { s.stc with flash := s.stc.flash ++ [(entryAddr h 0, [])] } })

/-- The STC writes the oldest queued record to flash, and the queue moves on (R467, R478). -/
def writeRecord (s : State) : State :=
  let w := (s.rpr.queue.headD (0, 0)).1
  showRepair (modRpr (fun x => { x with queue := x.queue.drop 1 }) (appendEntry w (moveHalf s)))

/-- REC_POP removes the oldest queued record, whose flash entry the STC has written (R467, R478, R483). -/
def recPopCmd (p : Port) (s : State) : State :=
  fabricCmd p rprPage 0x6C none [(decide (p ≠ .stc), .locked), (decide (s.rpr.queue = []), .state)]
    writeRecord s

/-- REC_POP. -/
def execRecPop (t : Nat) (p : Port) (s : State) : Out := evPort p t s (recPopCmd p)

/-! ## The STC's command REPAIR (R457, R482) -/

/-- REPAIR with OP 1 to 4 is passed to RPR_CMD and answered with its CODE; an OP that is none of R482 is out of range. -/
def execRepairForward (t w : Nat) (c : CellAt) (s : State) : Out :=
  ev t s (stcCommand w 0x08 fun d _ s =>
    let op := d.getD 0 0
    if op = 5 then (none, s)
    else if op < 1 ∨ 4 < op then (some (Code.num .range, []), s)
    else
      let s := rprCmd .stc op (d.getD 1 0, d.getD 2 0, le (slice d 4 2)) c s
      (some (rd s RPR.CMD_CODE, []), s))

/-- Sound SPARE slices (R483). -/
def sparesSound (s : State) : Nat :=
  ((List.range (Variant.slices s.fuse.variant)).filter fun i =>
    decide (rd s (AFE.SLICE_ROLE i) = 3 ∧ rd s (SLICE.FAULT i) = 0)).length

/-- SPARES_LEFT (R482). -/
def sparesReport (s : State) : List Nat :=
  (List.range 16).map (fun b => rd s (RPR.ROWS_LEFT b))
    ++ (List.range 4).map (fun k => rd s (RPR.COLS_LEFT (4 * k)) + 4 * rd s (RPR.COLS_LEFT (4 * k + 1))
      + 16 * rd s (RPR.COLS_LEFT (4 * k + 2)) + 64 * rd s (RPR.COLS_LEFT (4 * k + 3)))
    ++ [rd s RPR.SP_DESC, rd s RPR.SP_CLS, rd s RPR.SP_ALM, rd s RPR.SP_KEY, b2n (spareStandby s), sparesSound s]

/-- REPAIR with OP REPORT. -/
def execRepairReport (t w : Nat) (s : State) : Out :=
  ev t s (stcCommand w 0x08 fun d _ s => if d.getD 0 0 = 5 then (some (0, sparesReport s), s) else (none, s))

/-! ## The commit cycle (R475, R477, R480) -/

/-- The LGC retires the slices due (R475, R479). -/
def lgcRetires (s : State) : State :=
  let l := s.rpr.slices
  forEach l (fun x s => rprDone (.slice x.1) (if rd s (AFE.SLICE_ROLE x.1) = 4 then s else retireSlice x.1 (endShadow x.1 s)))
    (modRpr (fun x => { x with slices := [] }) s)

/-- The replacement of an ACTIVE slice ends without a takeover: CODE STATE (R475, R481). -/
def swapRefused (x a : Nat) (s : State) : State :=
  sliceSwapDone a (wr RPR.CMD_CODE (Code.num .state) (when (decide (shadowOf s x = a)) (releaseShadowCmd .lgc x) s))

/-- The LGC replaces an ACTIVE slice once its shadow has SETTLED: TAKEOVER with RESULT RETIRED, logged as a swap, and a second sound
spare becomes the DUMMY (R294, R475, R479). -/
def lgcReplaces (s : State) : State :=
  match s.rpr.swap with
  | none => s
  | some (x, a) =>
    if s.afe.takeover.isSome then s
    else if rd s (AFE.SLICE_ROLE a) ≠ 1 ∨ logSize ≤ s.leg.log.length ∨ (noShadow s a = false ∧ shadowOf s x ≠ a) then swapRefused x a s
    else if noShadow s a = false ∧ rd s (SLICE.SETTLED x) = 0 then s
    else
      let was := rd s (AFE.SLICE_ROLE x)
      let s := { s with leg := { s.leg with swaps := s.leg.swaps ++
        [{ a := a, x := x, user := rd s (AFE.SLICE_USER a), result := 2, mean := 0 }] } }
      let s := takeoverCmd .lgc x a 2 s
      match (if was = 2 then soundSpare s else none) with
      | some x2 => if x2 = x then s else wr (AFE.SLICE_ROLE x2) 2 s
      | none => s

/-- The kind of the row at a position of the sweep over all 65,968 rows (R464, R477). -/
def sweepKind (n : Nat) : Nat :=
  if n < 65536 then 1 else if n < 65664 then 3 else if n < 65920 then 4 else if n < 65936 then 5 else 6

/-- A tick of the sweeper: it scrubs SWEEP_ROWS rows, and a column copy moves on by as many (R473, R477). -/
def sweepTick (s : State) : State :=
  if !sweeperRuns s then s |> wr RPR.SW_ACTIVITY 0 |> wr RPR.SW_KIND 0 else
  let n := rd s RPR.SWEEP_ROWS
  let p := s.rpr.pos + n
  let s := when (decide (65968 ≤ p)) (inc RPR.SW_PASSES) s
  let cols := match s.rpr.cols with
    | (b, c, l) :: r => (b, c, l - n) :: r
    | [] => []
  let s := modRpr (fun x => { x with pos := p % 65968, cols := cols }) s
  let work := s.rpr.due.find? fun d => decide (d.stage = .work)
  let (a, k) := match work, cols, s.rpr.cmd with
    | some d, _, _ => (if d.row.1 = 1 then 2 else 3, d.row.1)
    | none, _ :: _, _ => (3, 2)
    | none, [], some (.engine _) => (4, 10)
    | none, [], some (.slice _) => (5, 9)
    | none, [], _ => (1, sweepKind s.rpr.pos)
  s |> wr RPR.SW_ACTIVITY a |> wr RPR.SW_KIND k

/-- A monitor's slack has stayed below SLACK_MIN for 4 ticks: MARGIN_LOW, once for the run (R480). -/
def marginCheck (k : Nat) (s : State) : State :=
  if aget s.rpr.low k 0 = 4 then raise rprPage 8 (modRpr (fun x => { x with low := aset x.low k 5 }) s) else s

/-- MARGIN_LOW of a monitor; the commit cycle raises it too. -/
def execMarginLow (t k : Nat) (s : State) : Out := ev t s (marginCheck k)

/-- A monitor's report of a tick: SLACK_PS, SLACK_WORST and AGE_PPM (R480). -/
def ageReport (k : Nat) (m : Int × Int × Nat) (s : State) : State :=
  let s := s |> wrS (RPR.SLACK_PS k) m.1 |> wrS (RPR.SLACK_WORST k) m.2.1 |> wr (RPR.AGE_PPM k) m.2.2
  let run := if rdS s (RPR.SLACK_WORST k) < rd s RPR.SLACK_MIN then min 5 (aget s.rpr.low k 0 + 1) else 0
  let s := marginCheck k (modRpr (fun x => { x with low := aset x.low k run }) s)
  if rd s RPR.AGE_LIMIT ≤ m.2.2 ∧ k ∉ s.rpr.aged then raise rprPage 9 (modRpr (fun x => { x with aged := k :: x.aged }) s) else s

/-- Self-repair in a commit cycle, with the reports of the sixteen monitors; those of the bulk domain report while it runs (R401, R475,
R477, R480). -/
def repairTick (age : List (Int × Int × Nat)) (s : State) : State :=
  let s := if lgcRuns s then lgcReplaces (lgcRetires s) else s
  let s := sweepTick s
  forEach ((List.range 16).filter fun k => decide (k < 8 ∨ rd s PWR.STATE ≤ 1))
    (fun k s => match age[k]? with
      | some m => ageReport k m s
      | none => s) s

end Sys2Proof.Machine
end

