-- ==== Sys2Proof/Machine/Boot.lean ====
section
/-! DEFINITION. Reset, the repair loader, the fabric-ready instant, the exit from HIBERNATE, and the test pins (R37, R418, R466 to R468,
R484 to R487, R498, R503, R517). -/
namespace Sys2Proof.Machine

/-! ## What a reset leaves (R37, R62, R427, R487) -/

/-- A field that no reset clears: WAKE_CFG and HIB_CFG, which the Dome keeps, and NEXT_SEQ, UNLOGGED and the event counters of the log store
(R353, R354, R359, R427). -/
def keptField (f : Fld) : Bool :=
  (decide (f.page = 0x78) && decide (f.off = 0x70 ∨ f.off = 0x74 ∨ f.off = 0x88)) ||
    (decide (f.page = 0x61) && decide (f.off = 0x44 ∨ f.off = 0x48 ∨ (0x50 ≤ f.off ∧ f.off < 0x60)))

/-- The state as a reset leaves it: every register at its reset value, every unit empty. The fuses, the Dome, the sealed stores and what
has left the die stay, and so do the numbers of free values drawn. -/
def afterReset (stage : Stage) (s : State) : State :=
  { time := { cycle := s.time.cycle, stage := stage }
    fuse := s.fuse
    regs := s.regs.filter fun e => keptField e.1
    fab := { cmdCount := s.fab.cmdCount }
    actv := { draws := s.actv.draws }
    wgh := { draws := s.wgh.draws }
    usx := { draws := s.usx.draws }
    deck := { signFails := s.deck.signFails }
    sw := { draws := s.sw.draws }
    leg := { log := s.leg.log, bankA := s.leg.bankA, bankB := s.leg.bankB, roll := s.leg.roll, haltWhy := s.leg.haltWhy
             draws := s.leg.draws }
    stc := { flash := s.stc.flash, draws := s.stc.draws }
    pwr := { rtcBase := s.pwr.rtcBase, dome := s.pwr.dome, pmbus := s.pwr.pmbus }
    host := { msgs := s.host.msgs, dma := s.host.dma }
    tap := s.tap
    tapIr := s.tapIr
    testEn := s.testEn
    pending := s.pending }

/-- RESET_ASSERT: a filtered low RESET_N holds the die in reset with its pins in their reset states (R484, R485). -/
def execResetAssert (t : Nat) (s : State) : Out := evReset t s (afterReset .held)

/-- VAON below 1.55 V holds the die in reset, and what the Dome kept is lost: the RTC count starts anew (R37, R498). -/
def vaonLost (s : State) : State :=
  let s := afterReset .held s
  let gone := s.time.cycle * 32 / 390625 % 2 ^ 48
  { s with
    regs := s.regs.filter fun e => decide (e.1.page ≠ 0x78)
    pwr := { rtcBase := (2 ^ 48 - gone) % 2 ^ 48, pmbus := s.pwr.pmbus } }

/-- VAON_POR. -/
def execVaonPor (t : Nat) (s : State) : Out := evReset t s vaonLost

/-! ## The repair loader (R465 to R468) -/

/-- A step of CRC-5, x^5 + x^2 + 1 (R465). -/
def crc5Step (c : Nat) (b : Bool) : Nat :=
  let top := decide (16 ≤ c) != b
  (2 * c) % 32 ^^^ (if top then 5 else 0)

/-- CRC-5 of bits 31:5 of a record word, the highest bit first, from 0b11111 (R465). -/
def crc5 (w : Nat) : Nat := (List.range 27).foldl (fun c i => crc5Step c (bit w (31 - i))) 31

/-- The record names a resource and a spare that this part has (R464, R465). -/
def recordKnown (s : State) (w : Nat) : Bool :=
  let r := recRow w
  decide (1 ≤ r.1 ∧ r.1 ≤ 0xA) && indexOk r &&
    (if r.1 = 9 then decide (r.2.2 < Variant.slices s.fuse.variant) else if r.1 = 0xA then decide (r.2.2 < Variant.engines s.fuse.variant)
      else if r.1 = 1 then decide (recSpare w = noSpare ∨ recSpare w < 32)
      else if r.1 ≤ 6 then decide (recSpare w < sparesOfKind r.1) else true)

/-- A record names a spare already in use, or a resource already repaired (R468). -/
def recordConflicts (s : State) (w : Nat) : Bool :=
  let r := recRow w
  repaired s r || (decide (r.1 ≤ 6 ∧ recSpare w ≠ noSpare) &&
    s.rpr.records.any fun x => decide (recKind x = r.1 ∧ (recRow x).2.1 = r.2.1 ∧ recSpare x = recSpare w))

/-- A record takes effect (R468). -/
def takeRecord (w : Nat) (s : State) : State :=
  let r := recRow w
  let s := inc RPR.APPLIED (modRpr (fun x => { x with records := x.records ++ [w] }) s)
  if r.1 = 1 ∧ recSpare w = noSpare then
    modRpr (fun x => { x with lost := x.lost ++ [r] })
      { s with led := { s.led with cellsFree := s.led.cellsFree - 1, cellsQuar := s.led.cellsQuar + 1 } }
  else if r.1 ≤ 6 then wr (sparesField r.1 r.2.1) (rd s (sparesField r.1 r.2.1) - 1) s
  else if r.1 = 7 then modRpr (fun x => { x with rxHeld := x.rxHeld ++ [r.2.2] }) s
  else if r.1 = 8 then modRpr (fun x => { x with txLane := r.2.2 }) s
  else if r.1 = 9 then wr (AFE.SLICE_ROLE r.2.2) 4 s
  else dropEngine r.2.2 s

/-- The loader takes a record; a SLICE entry of the flash is applied only where its MTAG verifies (R468). -/
def loadRecord (w : Nat) (tagOk : Bool) (s : State) : State :=
  if !recordKnown s w then s
  else if recordConflicts s w then inc RPR.CONFLICTS s
  else if recKind w = 9 ∧ tagOk = false then raise rprPage 7 (inc RPR.REJECTED s)
  else takeRecord w s

/-- The loader takes a word of the repair fuse field: one in use counts, and one whose CHECK fails is ignored (R465, R466, R483). -/
def loadFuse (w : Nat) (s : State) : State :=
  if bit w 31 = false then s
  else
    let s := inc RPR.FUSE_USED s
    if crc5 w = w % 32 then loadRecord w true s else inc RPR.FUSE_BAD s

/-- The entries of a half up to the one of all ones (R467). -/
def halfEntries (l : List (List Nat)) : List (List Nat) :=
  ((l.take 2048).map (fit 16)).takeWhile fun e => decide (e.any (· ≠ 255))

/-- The CRC-32 of an entry holds (R467). -/
def entryOk (e : List Nat) : Bool := decide (crc32 (e.take 8) = le (slice e 8 4))

/-- MTAG of an entry verifies (R467, log 42). -/
def entryTagOk (e : List Nat) : Bool :=
  decide (cmac (Config.deviceKey 74) (e.take 8 ++ toBe 8 Config.serial) / 2 ^ 96 = le (slice e 12 4))

/-- Insert an entry in the order of SEQ. -/
def insSeq (l : List (List Nat)) (e : List Nat) : List (List Nat) :=
  match l with
  | [] => [e]
  | x :: r => if le (slice e 0 4) < le (slice x 0 4) then e :: x :: r else x :: insSeq r e

/-- The loader: the fuse records in fuse order, then the valid flash entries of both halves in the order of SEQ (R467, R468). -/
def repairLoad (a b : List (List Nat)) (s : State) : State :=
  let s := forEach (s.fuse.repairs.take 32) loadFuse s
  let l := halfEntries a ++ halfEntries b
  let good := (l.filter entryOk).foldl insSeq []
  let s := addTo RPR.FLASH_BAD (l.filter fun e => !entryOk e).length s
  let s := forEach good (fun e s => if bit (le (slice e 4 4)) 31 then loadRecord (le (slice e 4 4)) (entryTagOk e) s else s) s
  match good.getLast? with
  | some e =>
    let h := b2n ((halfEntries b).contains e && !(halfEntries a).contains e)
    modRpr (fun x => { x with nextSeq := le (slice e 0 4) + 1, half := h, entries := halfEntries (if h = 0 then a else b) }) s
  | none => modRpr (fun x => { x with entries := halfEntries a }) s

/-! ## From the release of RESET_N to F (R209, R486, R487) -/

/-- Engines that fail their known-answer tests are RETIRED, the spare first; their records are queued at F (R209). -/
def engineKat (failed : List Nat) (s : State) : State :=
  let n := Variant.engines s.fuse.variant
  let bad := (List.range n).filter fun e => failed.contains e && decide (rd s (DEAL.ENG_STATE e) ≠ 3)
  let s := forEach bad.reverse (fun e s => raise 0x20 4 (dropEngine e s)) s
  modRpr (fun x => { x with engDue := bad }) s

/-- The records of the engines that failed at reset (R209, R478). -/
def katRecords (s : State) : State :=
  forEach s.rpr.engDue (fun e => pushRecord (repairWord 0xA noSpare 0 e) 0) (modRpr (fun x => { x with engDue := [] }) s)

/-- The spare engine of the variant is STANDBY from reset, and MAX_HELD is limited to the engines but one (R209, R238). -/
def spareReset (s : State) : State :=
  let n := Variant.engines s.fuse.variant - 1
  wr (DEAL.MAX_HELD 0) (min 5 n) (wr (DEAL.ENG_STATE n) 1 s)

/-- The straps as the two pulls read them (R444). -/
def sampleStraps (up down : Nat) (s : State) : State :=
  let s := wr TWIT.STRAPS (up % 8) s
  if up % 8 = down % 8 then s else raise 0x84 0 (wr TWIT.STRAP_FLOAT 1 s)

/-- RESET_RELEASE: the straps are sampled, the LGC enters SELFTEST, the repair loader runs, and the round engines are tested (R486). -/
def resetRelease (up down : Nat) (failed : List Nat) (a b : List (List Nat)) (s : State) : State :=
  if s.time.stage ≠ .held then s
  else
    let s := wr SYS.LGC_STATE 1 (sampleStraps up down (spareReset (afterReset .released s)))
    engineKat failed (repairLoad a b s)

/-- RESET_RELEASE. -/
def execResetRelease (t up down : Nat) (failed : List Nat) (a b : List (List Nat)) (s : State) : Out :=
  evReset t s (resetRelease up down failed a b)

/-- A test condition that holds when the ledgers take their initial values is latched at once (R56, R62). -/
def testHeld (s : State) : State := when (s.tap || s.testEn) (condLost 3) s

/-- The first PM second and the first bins begin: at F, and at a wake (R140, R144). -/
def pmStart (s : State) : State :=
  let s := { s with pmon := { s.pmon with sec := { start := s.time.sc, startCycle := s.time.cycle } } }
  { s with pmon := { s.pmon with bin15 := { cur := freshBin s }, binDay := { cur := freshBin s } } }

/-- FABRIC_READY: at F the ledgers have their initial values, CLK_CORE moves to the PLL, the fabric answers, and the SC starts (R486,
R487). -/
def fabricReady (s : State) : State :=
  if s.time.stage ≠ .released then s
  else testHeld (pmStart <| katRecords ({ s with time := { s.time with stage := .running } } |> wr SYS.CORE_SRC 1 |> wr SYS.PLL_LOCK 1))

/-- FABRIC_READY. -/
def execFabricReady (t : Nat) (s : State) : Out := evReset t s fabricReady

/-! ## The exit from HIBERNATE (R37, R413, R418) -/

/-- The SC that an RTC count gives: the stored SC plus the elapsed ticks, each 12,207 1/32 phase steps, rounded to the nearest step
(R37). -/
def domeSc (d : Dome) (rtc : Nat) : Nat :=
  d.sc + (roundDiv ((((rtc + 2 ^ 48 - d.rtc) % 2 ^ 48 * 390625 : Nat) : Int)) 32).toNat

/-- What step 5 restores: the SC, wall time, and the totals for the LGC (R37, R62). -/
def domeRestore (d : Dome) (s : State) : State :=
  let sc := domeSc d (rtcNow s)
  let s := { s with
    time := { s.time with sc := sc, stage := .running }
    leg := { s.leg with retained := d.totals }
    sidr := { s.sidr with ephHave := decide (d.wall ≠ []) } }
  let s := pmStart (forEach d.wall (fun x => wr x.1 x.2) s)
  s |> wr SIDR.SC_VALID 1 |> wr SIDR.WALL_STATE (if d.wall = [] then 0 else 1)

/-- Step 8: the latched events are replayed in order, and what the Dome noted is raised (R413, R416, R418). -/
def domeReplay (d : Dome) (s : State) : State :=
  let s := forEach d.latched (fun x s => logWake x.1 x.2 (domeSc d x.2) s) s
  let s := if 0 < d.lost then raise 0x78 7 (addTo PWR.LATCH_LOST d.lost s) else s
  let s := when d.guardLate (raise 0x78 3) (when d.railLate (raise 0x78 9) s)
  { s with pwr := { s.pwr with dome := { s.pwr.dome with latched := [], lost := 0, guardLate := false, railLate := false } } }

/-- HIBERNATE_EXIT: a latched wake runs the power-up table; the return of R417 follows with PRIOR = RUN (R418). -/
def hibernateExit (failed : List Nat) (a b : List (List Nat)) (s : State) : State :=
  if hibernating s = false ∨ s.pwr.dome.latched = [] then s
  else
    let d := s.pwr.dome
    let straps := rd s TWIT.STRAPS
    let float := rd s TWIT.STRAP_FLOAT
    let s := spareReset (afterReset .running s) |> wr TWIT.STRAPS straps |> wr TWIT.STRAP_FLOAT float
    let s := katRecords (engineKat failed (repairLoad a b s))
    let s := testHeld (domeRestore d s) |> wr SYS.LGC_STATE 1 |> wr SYS.FAST_GATED 1 |> wr PWR.STATE 4 |> wr PWR.PRIOR 0
    let s := { s with pwr := { s.pwr with quiet := true, clocksDown := true } }
    domeReplay d (startReturn s)

/-- HIBERNATE_EXIT. -/
def execHibernateExit (t : Nat) (failed : List Nat) (a b : List (List Nat)) (s : State) : Out :=
  evDome t s (hibernateExit failed a b)

/-! ## Test pins (R503, R517) -/

/-- EXTEST, CLAMP or HIGHZ (R516, R517). -/
def tapHolds (code : Nat) : Bool := decide (code % 32 = 0 ∨ code % 32 = 4 ∨ code % 32 = 5)

/-- IDCODE of the part (R516). -/
def tapIdcode (v : Variant) : Nat :=
  match v with
  | .ts4410 => 0x14410001
  | .ts4320 => 0x14320001
  | .ts4210 => 0x14210001

/-- An instruction code as it acts: every code that R516 does not name is BYPASS. -/
def tapCode (code : Nat) : Nat := if code % 32 ∈ [0, 1, 2, 4, 5] then code % 32 else 0x1F

/-- The register between TDI and TDO: the boundary cells, IDCODE, or one bit of BYPASS (R516). -/
inductive TapData where
  | boundary | idcode (word : Nat) | bypass
  deriving DecidableEq, Repr

/-- The data register that the instruction in force selects (R516). -/
def tapData (s : State) : TapData :=
  if tapCode s.tapIr = 1 then .idcode (tapIdcode s.fuse.variant)
  else if tapCode s.tapIr = 0 ∨ tapCode s.tapIr = 2 then .boundary else .bypass

/-- A TAP instruction: EXTEST, CLAMP and HIGHZ take the switch off at once, force MOD_TXEN low, hold the loops off until
Test-Logic-Reset, and latch COND_LOST.TEST; every other code has no effect on the TS44 (R516, R517). -/
def tapInstruction (code : Nat) (tlr : Bool) (s : State) : State :=
  if tlr then { s with tap := false, tapIr := 1 }
  else
  let s := { s with tapIr := code % 32 }
  if !tapHolds code then s
  else
    let s := condLost 3 { abortBurst s with tap := true }
    swCause .tap (forEach [0, 1] (fun n => wr (LOOP.DRV n) 0) s)

/-- TAP_INSTRUCTION. -/
def execTapInstruction (t code : Nat) (tlr : Bool) (s : State) : Out := ev t s (tapInstruction code tlr)

/-- The filtered level of TEST_EN: while it is high the condition of R56 is lost (R503). -/
def testPin (high : Bool) (s : State) : State := when high (condLost 3) { s with testEn := high }

/-- TEST_EN_ASSERT: a filtered high TEST_EN latches COND_LOST.TEST; the operand holds the level that the filter has reached (R503). -/
def execTestEnAssert (e : PinAt) (s : State) : Out := ev e.t s (testPin e.high)

end Sys2Proof.Machine
end

