-- ==== Sys2Proof/Machine/Pmon.lean ====
section
/-! DEFINITION. Performance monitoring (R140 to R147): PM seconds, availability, the 15-minute and day bins and their closes. -/
namespace Sys2Proof.Machine

/-! ## The second that ends (R140 to R142) -/

/-- The standing defects of four bits from a key on that were detected before now. -/
def standing (s : State) (det key : Nat) : Nat :=
  (List.range 5).foldl (fun a b =>
    if bit det b && decide (aget s.line.detAt (key + b) 0 < s.time.cycle) then a + 2 ^ b else a) 0

/-- The defects of the section detected in a frame of the running second (R142). -/
def secDefs (s : State) : Nat := s.pmon.sec.defs ||| standing s (rd s FRMD.DETECTED) 0

/-- The counts of a path in the running second, with its standing defects (R142). -/
def pathSecNow (s : State) (p : Nat) : PathSec :=
  let x := aget s.pmon.sec.paths p {}
  { x with defs := x.defs ||| standing s (rd s (FRMD.P_DETECTED p)) (8 + 4 * p) }

/-- The section's second is an SES: LOS, LOF, LSC or SF, or SES_FRAMES errored frames (R141). -/
def secSes (s : State) : Bool := decide (secDefs s % 16 ≠ 0 ∨ rd s PMON.SES_FRAMES ≤ s.pmon.sec.errFrames)

/-- The section's second is an ES (R141). -/
def secEs (s : State) : Bool := decide (1 ≤ s.pmon.sec.errFrames ∨ secDefs s ≠ 0) || secSes s

/-- A path's second is an SES: PLM, PATH_SF, LOK, a section defect of levels 1 to 4, or SES_FRAMES errored frames (R141). -/
def pathSes (s : State) (p : Nat) : Bool :=
  let x := pathSecNow s p
  decide (x.defs &&& 0b1011 ≠ 0 ∨ secDefs s ≠ 0 ∨ rd s PMON.SES_FRAMES ≤ x.err)

/-- A path's second is an ES (R141). -/
def pathEs (s : State) (p : Nat) : Bool :=
  let x := pathSecNow s p
  decide (1 ≤ x.err ∨ x.defs ≠ 0 ∨ secDefs s ≠ 0) || pathSes s p

/-- The LS and PLS registers take the counts of the second just ended (R140, R147). -/
def latchSecond (s : State) : State :=
  let x := s.pmon.sec
  let s := s |> wr PMON.LS_SC (scReg x.start) |> wr PMON.LS_FRAMES x.frames |> wr PMON.LS_ERR_FRAMES x.errFrames
    |> wr PMON.LS_BIP x.bip |> wr PMON.LS_CW_CORR x.cwCorr |> wr PMON.LS_CW_UNCORR x.cwUncorr |> wr PMON.LS_DEF (secDefs s)
  forEach (List.range 16) (fun p s =>
    let y := pathSecNow s p
    s |> wr (PMON.PLS_BIP p) y.bip |> wr (PMON.PLS_ERR p) y.err |> wr (PMON.PLS_MISSING p) y.missing
      |> wr (PMON.PLS_BLOCKS p) y.blocks |> wr (PMON.PLS_DEF p) y.defs) s

/-- The ended second as it waits to become final (R142). -/
def endedSecond (s : State) : PmDone :=
  let off := s.pmon.sec.off || !enabled s 0x0A || decide (2 ≤ rd s PWR.STATE)
  let ps := List.range 16
  { sec := { s.pmon.sec with
      defs := secDefs s
      paths := ps.map fun p => (p, pathSecNow s p)
      flags := s.pmon.sec.flags ||| (if quality s = qLOCKED then 0 else 2 ^ 5) }
    endSc := s.time.sc, finSc := s.time.sc + 10 * secondSteps, off := off
    ses := !off && secSes s, es := !off && secEs s, secUa := !off && decide (rd s PMON.SEC_UNAVAIL = 1)
    pSes := if off then [] else ps.filter (pathSes s), pEs := if off then [] else ps.filter (pathEs s)
    pUa := if off then [] else ps.filter fun p => bit (rd s PMON.PATH_UNAVAIL) p }

/-- Change the last ten ended seconds: ten of a kind in a row change availability from the first of them (R142). -/
def lastTen (f : PmDone → PmDone) (s : State) : State :=
  let d := s.pmon.done
  { s with pmon := { s.pmon with done := d.take (d.length - 10) ++ (d.drop (d.length - 10)).map f } }

/-- The section's availability after a classified second (R142). -/
def secAvail (ses : Bool) (s : State) : State :=
  let ua := decide (rd s PMON.SEC_UNAVAIL = 1)
  if ses = ua then { s with pmon := { s.pmon with run := 0 } }
  else if s.pmon.run + 1 < 10 then { s with pmon := { s.pmon with run := s.pmon.run + 1 } }
  else
    let s := { s with pmon := { s.pmon with run := 0 } }
    lastTen (fun d => { d with secUa := ses }) s |> wrB PMON.SEC_UNAVAIL ses |> raise 0x0C 3

/-- A path's availability after a classified second (R142). -/
def pathAvail (p : Nat) (ses : Bool) (s : State) : State :=
  let ua := bit (rd s PMON.PATH_UNAVAIL) p
  let n := aget s.pmon.pRun p 0
  let put (k : Nat) (s : State) : State := { s with pmon := { s.pmon with pRun := aset s.pmon.pRun p k } }
  if ses = ua then put 0 s
  else if n + 1 < 10 then put (n + 1) s
  else
    let w := rd s PMON.PATH_UNAVAIL
    lastTen (fun d => { d with pUa := if ses then p :: d.pUa.filter (· != p) else d.pUa.filter (· != p) }) (put 0 s)
      |> wr PMON.PATH_UNAVAIL (if ses then w + 2 ^ p else w - 2 ^ p) |> raiseSub 0x0C p

/-- Availability follows a classified second; one that is not classified ends the runs (R140, R142, log 24). -/
def availability (d : PmDone) (s : State) : State :=
  if d.off then { s with pmon := { s.pmon with run := 0, pRun := [] } }
  else forEach (List.range 16) (fun p => pathAvail p (d.pSes.contains p)) (secAvail d.ses s)

/-- A PM second ends: its counters are latched and zeroed, and the next begins (R140). -/
def endSecond (s : State) : State :=
  let s := leapMark s
  let d := endedSecond s
  let s := latchSecond s
  let s := { s with pmon := { s.pmon with done := s.pmon.done ++ [d] } }
  let s := availability d s
  { s with pmon := { s.pmon with stepDue := false, sec := { no := s.pmon.sec.no + 1, start := s.time.sc, startCycle := s.time.cycle } } } |> raise 0x0C 0

/-- PM_SECOND: due at an SC frame count that is a multiple of 10,000 at phase 0, and in a step tick (R140). -/
def execPmSecond (t : Nat) (s : State) : Out :=
  ev t s fun s =>
    if s.pmon.stepDue = true ∨ (s.time.sc % secondSteps = 0 ∧ s.pmon.sec.start ≠ s.time.sc) then endSecond s else s

/-! ## Bins (R142 to R144) -/

/-- Add to the numbers of a list, pairwise. -/
def addLists (a b : List Nat) : List Nat := List.zipWith (· + ·) a b

/-- The seven counts a final second gives a path: ES, SES, UAS and the seconds of PLM, PATH_SF, PATH_SD and LOK (R142). -/
def pathCounts (d : PmDone) (p : Nat) : List Nat :=
  let ua := d.pUa.contains p
  let x := aget d.sec.paths p {}
  [b2n (!ua && d.pEs.contains p), b2n (!ua && d.pSes.contains p), b2n ua, b2n (bit x.defs 0), b2n (bit x.defs 1),
   b2n (bit x.defs 2), b2n (bit x.defs 3)]

/-- A final second is added to a bin (R142, R144). -/
def binAdd (d : PmDone) (b : Bin) : Bin :=
  { b with
    flags := suspectOf (b.flags ||| d.sec.flags)
    seconds := b.seconds + 1
    es := b.es + b2n (!d.secUa && d.es), ses := b.ses + b2n (!d.secUa && d.ses), uas := b.uas + b2n d.secUa
    defS := addLists b.defS ((List.range 5).map fun k => b2n (bit d.sec.defs k))
    bip := b.bip + d.sec.bip, cwUncorr := b.cwUncorr + d.sec.cwUncorr
    paths := (List.range 16).map fun p => (p, addLists (aget b.paths p [0, 0, 0, 0, 0, 0, 0]) (pathCounts d p)) }

/-- A final second is added to a bin unless it began before it. -/
def binTake (d : PmDone) (b : Bin) : Bin := if b.first ≤ d.sec.no then binAdd d b else b

/-- A final second is added to the bin in which it lies: the bin that awaits its close, or the current one, in the order of time, which a
backward step does not change (R140, R142, R143). -/
def binSetAdd (d : PmDone) (x : BinSet) : BinSet :=
  match x.closing with
  | some c => if d.sec.no < x.upTo then { x with closing := some (binTake d c) } else { x with cur := binTake d x.cur }
  | none => { x with cur := binTake d x.cur }

/-- SECOND_FINAL: due 10 s after the end of the oldest second that is not final (R142). -/
def execSecondFinal (t : Nat) (s : State) : Out :=
  ev t s fun s =>
    match s.pmon.done with
    | d :: r =>
      if d.finSc ≤ s.time.sc then
        { s with pmon := { s.pmon with done := r, bin15 := binSetAdd d s.pmon.bin15, binDay := binSetAdd d s.pmon.binDay } }
      else s
    | [] => s

/-- The latest second boundary not later than an occurrence, of those whose second is not final, the number of the second that begins
there, and the SC at which the second that ends there becomes final (R143). -/
def boundaryFor (s : State) (occ : Nat) : Nat × Nat × Nat :=
  let ends := s.pmon.done.filter fun d => decide (d.endSc ≤ occ)
  match ends.getLast? with
  | some d => (d.endSc, d.sec.no + 1, d.finSc)
  | none =>
    let x := match s.pmon.done with
      | d :: _ => d.sec
      | [] => s.pmon.sec
    (x.start, x.no, x.start + 10 * secondSteps)

/-- The bins of ACTION 1 (15 minutes) or 2 (day). -/
def binsOf (s : State) (action : Nat) : BinSet := if action = 1 then s.pmon.bin15 else s.pmon.binDay
/-- Put the bins of an action, with the pending bit in PMON_STATUS. -/
def putBins (action : Nat) (x : BinSet) (s : State) : State :=
  let s := { s with pmon := if action = 1 then { s.pmon with bin15 := x } else { s.pmon with binDay := x } }
  if action = 1 then s |> wrB PMON.CLOSE15_PEND x.closing.isSome |> wr PMON.HIST15 x.hist.length
  else s |> wrB PMON.CLOSEDAY_PEND x.closing.isSome |> wr PMON.HISTDAY x.hist.length

/-- A close trigger's effect: it closes its bin, or meets a pending close under POLICY (R143). -/
def binClose (occ action : Nat) (s : State) : State :=
  let x := binsOf s action
  let (b, n, fin) := boundaryFor s occ
  match x.closing with
  | none =>
    trigPend 0x0C (putBins action
      { x with closing := some { x.cur with endSc := b }, upTo := n, closeFin := fin, cur := { first := n, start := b, flags := 0 } } s)
  | some c =>
    if rd s PMON.PM_POLICY = 0 then trigMerge 0x0C s
    else if rd s PMON.PM_POLICY = 1 then trigRefuse 0x0C s
    else trigExec 0x0C (putBins action
      { x with closing := some { c with endSc := b }, upTo := n, closeFin := fin, cur := { x.cur with first := n, start := b } } s)

/-- BIN_CLOSE: a trigger for unit 0x0C with its occurrence SC and ACTION (R143). An action the unit does not have is refused. -/
def execBinClose (t : Nat) (src : TrigSrc) (occ action : Nat) (s : State) : Out :=
  ev t s (arrive src 0x0C fun s => if action = 1 ∨ action = 2 then binClose occ action s else trigRefuse 0x0C s)

/-- A bin's close is complete: it enters history, its cause and SUSPECT are raised, and its trigger is executed (R143, R144). -/
def binEnters (action : Nat) (c : Bin) (s : State) : State :=
  let x := binsOf s action
  let n := if action = 1 then 32 else 7
  let s := putBins action { x with closing := none, hist := (c :: x.hist).take n } s
  when (bit c.flags 6) (raise 0x0C 4) (trigUnpend 0x0C (raise 0x0C action s))

/-- The bin of an action whose close is due: the seconds up to its boundary are final. -/
def closeDue (s : State) (action : Nat) : Option Bin :=
  let x := binsOf s action
  match x.closing with
  | some c => if x.closeFin ≤ s.time.sc ∧ s.pmon.done.all (fun d => decide (x.upTo ≤ d.sec.no)) then some c else none
  | none => none

/-- BIN_HISTORY: the closed bin enters history when its last second is final; the 15-minute bin before the day bin (R143). -/
def execBinHistory (t : Nat) (s : State) : Out :=
  ev t s fun s =>
    match closeDue s 1, closeDue s 2 with
    | some c, _ => binEnters 1 c s
    | none, some c => binEnters 2 c s
    | none, none => s

/-- CLEAR_HISTORY: STATE while a close is pending; else both histories empty and both bins start anew, PARTIAL (R147). -/
def clearHistoryCmd (p : Port) (s : State) : State :=
  fabricCmd p 0x0C 0x048 none [(s.pmon.bin15.closing.isSome || s.pmon.binDay.closing.isSome, .state)]
    (fun s =>
      let b : BinSet := { cur := freshBin s }
      s |> putBins 1 b |> putBins 2 b) s

/-- CLEAR_HISTORY from a fabric port. -/
def execClearHistory (t : Nat) (p : Port) (s : State) : Out := evPort p t s (clearHistoryCmd p)

/-- The selected bin is copied into the window; END reads 0 for a current bin, an index not yet written reads 0 (R147). -/
def loadBin (b : Bin) (start end_ : Nat) (s : State) : State :=
  let s := s |> wr PMON.BIN_START start |> wr PMON.BIN_END end_ |> wr PMON.BIN_FLAGS b.flags |> wr PMON.BIN_SECONDS b.seconds
    |> wr PMON.BIN_ES b.es |> wr PMON.BIN_SES b.ses |> wr PMON.BIN_UAS b.uas
    |> wr PMON.BIP_SUM b.bip |> wr PMON.CW_UNCORR_SUM b.cwUncorr
  let s := forEach (List.range 5) (fun k => wr (PMON.BIN_DEF_S k) (b.defS.getD k 0)) s
  forEach (List.range 16) (fun p => forEach (List.range 7) (fun k => wr (PMON.PBIN p k) ((aget b.paths p []).getD k 0))) s

/-- A write to BIN_SEL (R147). -/
def binSelCmd (p : Port) (v : Nat) (s : State) : State :=
  let kind := bits v 8 8
  let i := bits v 5 0
  fabricCmd p 0x0C 0x080 none
    [(decide (bits v 31 9 ≠ 0 ∨ bits v 7 6 ≠ 0), .reserved), (decide (i > (if kind = 0 then 32 else 7)), .range)]
    (fun s =>
      let x := binsOf s (kind + 1)
      let s := s |> wr PMON.BIN_KIND kind |> wr PMON.BIN_INDEX i
      if i = 0 then loadBin x.cur (scReg x.cur.start) 0 s
      else match x.hist[i - 1]? with
        | some b => loadBin b (scReg b.start) (scReg b.endSc) s
        | none => loadBin { flags := 0 } 0 0 s) s

/-- BIN_SEL from a fabric port, with the word written. -/
def execBinSel (t : Nat) (p : Port) (v : Nat) (s : State) : Out := evPort p t s (binSelCmd p v)

end Sys2Proof.Machine
end

