-- ==== Sys2Proof/Machine/Loop.lean ====
section
/-! DEFINITION. The loop outputs (R265 to R268, R271): their updates, their controller and their guard. -/
namespace Sys2Proof.Machine

/-- A loop's state. -/
def loopOf (s : State) (n : Nat) : LoopU := aget s.loops n {}

/-- Change a loop's state. -/
def modLoop (n : Nat) (f : LoopU → LoopU) (s : State) : State := { s with loops := aset s.loops n (f (loopOf s n)) }

/-- The loop is fitted (R8, R265). -/
def loopFitted (s : State) (n : Nat) : Bool := decide (n < Variant.loops s.fuse.variant)

/-- The loop drives: its page and it are enabled, it is not OPEN, and the TAP does not hold it off (R265, R267, R271, R517). -/
def loopOn (s : State) (n : Nat) : Bool :=
  enabled s 0x5C && decide (rd s (LOOP.LOOP_EN n) = 1 ∧ rd s (LOOP.LOOP_STATE n) ≠ 5) && !s.tap

/-- The fault current in µA (R266). -/
def loopFaultCurrent (s : State) (n : Nat) : Nat := if rd s (LOOP.FAIL_HIGH n) = 1 then 21500 else 3500

/-- What an update finds at the source: its value, or that it faults, or that it holds (R266). -/
inductive LoopValue where
  | fault | hold
  | value (v : Int)
  deriving DecidableEq, Repr

/-- A value with its flags: FAULT, NFT and a blanked or reversal marker (R266). -/
def loopValue (s : State) (n : Nat) (v : Int) (fault nft marker : Bool) : LoopValue :=
  if fault || (nft && decide (rd s (LOOP.NFT_FAULT n) = 1)) then .fault else if marker then .hold else .value v

/-- The source of a loop: HOST; a weigh set's gross value in mg; USX flow in µL/s; USX density in mg/L; a slice's SAMPLE. An index that
names no set or slice gives a free value (R266, R271, R289, R324, R328, log 41). -/
def loopSource (s : State) (n : Nat) : LoopValue :=
  let i := rd s (LOOP.SRC_IDX n)
  let halted := decide (rd s SYS.LGC_STATE = 3)
  match rd s (LOOP.LOOP_SRC n) with
  | 0 => .value (rdS s (LOOP.LOOP_HOST n))
  | 1 =>
    if 8 ≤ i then .value (Config.loopSource i) else
    let f := rd s (WGH.VALUE_FLAGS i)
    loopValue s n (rdS s (WGH.GROSS i)) (bit f 10) (bit f 2 || halted) (bit f 3)
  | 2 =>
    let f := rd s USX.RESULT_FLAGS
    loopValue s n (rdS s USX.Q) false (bit f 4 || halted) (bit f 1)
  | 3 => .value (rdS s USX.RUN_DENSITY)
  | _ =>
    if Variant.slices s.fuse.variant ≤ i then .value (Config.loopSource i) else
    let f := rd s (SLICE.SAMPLE_FLAGS i)
    loopValue s n (rdS s (SLICE.SAMPLE i)) (bit f 1) false (bit f 0 || bit f 4)

/-- The current of a value before its clamp: 4,000 + round(16,000 × (v − ZERO) / (SPAN − ZERO)) (R266). -/
def loopCurrent (s : State) (n : Nat) (v : Int) : Int :=
  let z := rdS s (LOOP.LOOP_ZERO n)
  let d := rdS s (LOOP.LOOP_SPAN n) - z
  4000 + roundDiv (16000 * (v - z) * (if d < 0 then -1 else 1)) d.natAbs

/-- A loop that drives shows its state (R271). -/
def loopState (n st : Nat) (s : State) : State := if loopOn s n then wr (LOOP.LOOP_STATE n) st s else s

/-- The loop drives the fault current (R266). -/
def loopFault (n : Nat) (s : State) : State := loopState n 4 (wr (LOOP.SETPOINT n) (loopFaultCurrent s n) s)

/-- An update takes the value of the source and sets SETPOINT, clamped to the measuring range (R266). -/
def loopUpdate (n : Nat) (s : State) : State :=
  let s := modLoop n (fun u => { u with idle := 0, stale := false }) (inc (LOOP.LOOP_UPDATES n) s)
  match loopSource s n with
  | .fault => loopFault n s
  | .hold => s
  | .value v =>
    let c := loopCurrent s n v
    if c < 3800 then loopState n 2 (wr (LOOP.SETPOINT n) 3800 s)
    else if 20500 < c then loopState n 3 (wr (LOOP.SETPOINT n) 20500 s)
    else loopState n 1 (wr (LOOP.SETPOINT n) c.toNat s)

/-- A trigger to unit 0x5C updates its loop; every trigger is EXECUTED (R268). -/
def loopTrigger (src : TrigSrc) (n : Nat) (s : State) : State :=
  arrive src 0x5C (fun s => loopUpdate n (trigExec 0x5C s)) s

/-- LOOP_UPDATE of a loop that is fitted. -/
def execLoopUpdate (t : Nat) (src : TrigSrc) (arg : Nat) (s : State) : Out :=
  ev t s fun s => if loopFitted s arg then loopTrigger src arg s else s

/-- The guard puts a loop in FAULT (R267). -/
def loopGuardFault (n : Nat) (s : State) : State := raise 0x5C (2 * n) (inc (LOOP.LOOP_FAULTS n) (loopFault n s))

/-- The guard puts a loop in OPEN: DRV is driven off until EN is written to 1 again (R267). -/
def loopGuardOpen (n : Nat) (s : State) : State :=
  raise 0x5C (2 * n + 1) (inc (LOOP.LOOP_FAULTS n) (s |> wr (LOOP.DRV n) 0 |> wr (LOOP.LOOP_STATE n) 5))

/-- The drive code at full scale. -/
def drvFull : Nat := 0xFFFF

/-- The guard judges the current of a frame against the SETPOINT and DRV in force in it (R267). -/
def loopJudge (n cur : Nat) (s : State) : State :=
  let u := loopOf s n
  let off := (cur : Int) - rd s (LOOP.SETPOINT n)
  let err := if rd s (LOOP.LOOP_ERR_MAX n) < off.natAbs then u.err + 1 else 0
  let opn := if cur < 500 ∧ rd s (LOOP.DRV n) = drvFull then u.open_ + 1 else 0
  let lim := max 1 (rd s (LOOP.LOOP_FILTER n))
  let s := modLoop n (fun u => { u with err := min err 256, open_ := min opn 256 }) s
  let s := if lim ≤ err ∧ rd s (LOOP.LOOP_STATE n) ≠ 4 then loopGuardFault n s else s
  if lim ≤ opn then loopGuardOpen n s else s

/-- The controller's new drive code: unchanged where MEASURED equals SETPOINT; how far it moves otherwise is a free value (R265,
log 40). -/
def loopDrive (s : State) (n cur : Nat) : Nat :=
  if cur = rd s (LOOP.SETPOINT n) then rd s (LOOP.DRV n) else Config.loopDrive (rd s (LOOP.DRV n)) (rd s (LOOP.SETPOINT n)) cur % 65536

/-- LOOP_CONTROL of a loop with its current in µA, once per frame: the guard judges, and the controller adjusts DRV, which is held off
while the loop does not drive and keeps its last code in NAP (R265, R267, R403). -/
def loopControl (n cur : Nat) (s : State) : State :=
  if (loopOf s n).frame = some (scFrame s) then s else
  let s := modLoop n (fun u => { u with frame := some (scFrame s) }) (wr (LOOP.LOOP_CURRENT n) cur s)
  if !unitRuns s 0x5C then s
  else if !loopOn s n then wr (LOOP.DRV n) 0 s
  else
    let s := loopJudge n cur s
    if loopOn s n then wr (LOOP.DRV n) (loopDrive s n cur) s else s

/-- LOOP_CONTROL. -/
def execLoopControl (t : Nat) (n cur : Nat) (s : State) : Out :=
  ev t s fun s => if loopFitted s n then loopControl n cur s else s

/-- STALE ticks without an update drive the fault current, as the guard's timeout (R266, R267). -/
def loopStale (n : Nat) (s : State) : State :=
  if loopOn s n = true ∧ (loopOf s n).stale = false ∧ rd s (LOOP.LOOP_STALE n) ≤ (loopOf s n).idle then
    loopGuardFault n (modLoop n (fun u => { u with stale := true }) s)
  else s

/-- LOOP_STALE of a loop; the commit cycle does it too. -/
def execLoopStale (t : Nat) (n : Nat) (s : State) : Out := ev t s fun s => if loopFitted s n then loopStale n s else s

/-- A commit cycle counts the ticks without an update, which none can make in NAP (R266, R403). -/
def loopTick (s : State) : State :=
  if !unitRuns s 0x5C then s else
  forEach (List.range (Variant.loops s.fuse.variant))
    (fun n s => if loopOn s n then loopStale n (modLoop n (fun u => { u with idle := u.idle + 1 }) s) else s) s

/-- EN of a loop, or the ENABLE of the page, has been written: a loop that begins to drive is NORMAL and out of OPEN, one that stops is
OFF with DRV held off (R265, R267, R271). -/
def loopEnable (n : Nat) (s : State) : State :=
  let s := modLoop n (fun _ => {}) s
  if enabled s 0x5C && decide (rd s (LOOP.LOOP_EN n) = 1) then wr (LOOP.LOOP_STATE n) 1 s
  else s |> wr (LOOP.LOOP_STATE n) 0 |> wr (LOOP.DRV n) 0

end Sys2Proof.Machine
end

