-- ==== Sys2Proof/Machine/Orrery.lean ====
section
/-! DEFINITION. The Orrery fires due entries and the trigger pins send their routes; the unit a trigger reaches acts in the same cycle
(R44 to R47, R52, R260). -/
namespace Sys2Proof.Machine

/-- A trigger of unit 0xF1 raises HOST_EVENT with its argument (R52). -/
def hostEvent (arg : Nat) (s : State) : State := trigExec 0xF1 (raise 0x04 3 (wr ORRY.HOST_EVENT_ARG arg s))

/-- A trigger reaches its unit, which acts by its own rules; the events of unit 0x60 are EXECUTED (R46, R54). -/
def deliver (src : TrigSrc) (unit action arg occ : Nat) (s : State) : State :=
  if !actionKnown unit action arg then arrive src unit (trigRefuse unit) s
  else if unit = 0x0C then arrive src unit (binClose occ action) s
  else if unit = 0x22 then arrive src unit (if action = 1 then oamActivate arg else bankActivate arg) s
  else if unit = 0x30 then arrive src unit (blankTrigger occ action arg) s
  else if 0x48 ≤ unit ∧ unit ≤ 0x57 then arrive src unit (convert (unit - 0x48) occ arg) s
  else if unit = 0x5A then arrive src unit (sequence occ action arg) s
  else if unit = 0x5C then loopTrigger src arg s
  else if unit = 0x60 then arrive src unit (trigExec unit) s
  else if unit = 0x70 then
    arrive src unit (if action = 1 then connectTrigger arg else if action = 2 then disconnectTrigger arg else setTotalTrigger arg) s
  else if unit = 0x78 then arrive src unit (powerTrigger action arg) s
  else if unit = 0xF0 then arrive src unit (stcEvent occ action arg) s
  else if unit = 0xF1 then arrive src unit (hostEvent arg) s
  else billTrigger src unit action occ arg s

/-! ## The Orrery (R44 to R47) -/

/-- A due firing: occurrence SC, index, entry, the wall second of the occurrence, and whether a step made it late. -/
structure DueFire where
  occ : Nat
  index : Nat
  entry : AEntry
  wall : Option (Nat × Nat) := none
  late : Bool := false
  owed : Bool := false
  since : Nat := 0
  deriving DecidableEq, Repr

/-- The ordinary due occurrences: the next one of each entry, once the SC has reached it (R42, R43, R45). -/
def dueOrdinary (s : State) : List DueFire :=
  s.orry.entries.filterMap fun x =>
    match nextOcc s x.2 with
    | some (o, w) =>
      if o ≤ s.time.sc then some { occ := o, index := x.1, entry := x.2, wall := w, since := s.time.cycle - (s.time.sc - o) } else none
    | none => none

/-- The firings that a step left to be sent (R45, R47). -/
def dueOwed (s : State) : List DueFire :=
  s.orry.owed.filterMap fun x => (entryAt s x.index).map fun e =>
    { occ := x.occ, index := x.index, entry := e, late := x.late, owed := true, since := x.since }

/-- A due firing goes before another: the lower occurrence SC, then the lower index (R45). -/
def firesBefore (a b : DueFire) : Bool := decide (a.occ < b.occ ∨ (a.occ = b.occ ∧ a.index ≤ b.index))

/-- The first of a list of due firings. -/
def firstDue (l : List DueFire) : Option DueFire :=
  match l with
  | [] => none
  | a :: r => match firstDue r with
    | some b => some (if firesBefore a b then a else b)
    | none => some a

/-- The occurrence is skipped: its conditions are false, or HOLD_NONLEGAL or a halted LGC holds it back (R25, R44, R52). -/
def fireSkipped (s : State) (i : Nat) (e : AEntry) : Bool :=
  !bit e.cond (rd s SIDR.SC_QUALITY) || (bit e.cond 4 && decide (rd s SIDR.WALL_STATE ≠ 2))
    || (bit e.cond 5 && decide (rd s ACTV.STATE ≠ 4)) || (bit e.cond 6 && !stcRuns s)
    || (decide (64 ≤ i) && decide (rd s ORRY.HOLD_NONLEGAL = 1)) || (decide (i < 64) && lgcHalted s)

/-- The occurrence is consumed: LAST_FIRE takes it, whether it fires or is skipped; one that a step left has been taken (R44, R47). -/
def consume (d : DueFire) (s : State) : State :=
  let s := { s with orry := { s.orry with
    firedAt := some s.time.cycle
    owed := s.orry.owed.filter fun x => !(d.owed && decide (x.occ = d.occ ∧ x.index = d.index ∧ x.late = d.late)) } }
  if d.owed then s else putEntry d.index (d.entry.take d.occ d.wall) s

/-- The trigger of a firing (R46). -/
def fireTrig (d : DueFire) (s : State) : Trig :=
  { unit := d.entry.unit, occ := d.occ, fire := s.time.sc, index := d.index, action := d.entry.action, arg := d.entry.arg
    quality := quality s, late := d.late }

/-- LATE_MAX takes the delay of a firing, unless a write of this cycle holds it (R45, R82). -/
def noteDelay (d : DueFire) (s : State) : State :=
  if s.fab.wroteNow.contains ORRY.LATE_MAX.key then s
  else wr ORRY.LATE_MAX (max (rd s ORRY.LATE_MAX) (min 255 (s.time.cycle - d.since))) s

/-- The firing is counted, with its delay or the cause LATE, and its trigger reaches its unit (R45, R46, R53). -/
def sendTrigger (d : DueFire) (s : State) : State :=
  let s := match entryAt s d.index with
    | some e => putEntry d.index { e with fires := e.fires + 1 } s
    | none => s
  let s := inc ORRY.FIRED_TOTAL s
  let s := if d.late then raise 0x04 1 s else noteDelay d s
  let x := fireTrig d s
  deliver .orry x.unit x.action x.arg x.occ { s with orry := { s.orry with trig := some x } }

/-- The firing that is due in this cycle: the lowest occurrence SC and index, where none has fired in it yet (R45). -/
def firingNow (s : State) : Option DueFire :=
  if s.orry.firedAt = some s.time.cycle then none else firstDue (dueOrdinary s ++ dueOwed s)

/-- The Orrery's work of a cycle: at most one firing, the due one with the lowest occurrence SC and index (R45). -/
def orreryFire (s : State) : State :=
  match firingNow s with
  | some d =>
    let s := consume d s
    if fireSkipped s d.index d.entry then inc ORRY.COND_SKIPPED s else sendTrigger d s
  | none => s

/-! ## INSTALL and REMOVE (R48, R49) -/

/-- The old entry of an index fires in the cycle in which a command replaces it, where its firing is the one of that cycle (R49). -/
def fireOld (i : Nat) (s : State) : State :=
  match firingNow s with
  | some d => if d.index = i then orreryFire s else s
  | none => s

/-- INSTALL checks the window's entry and atomically replaces what the slot at W_INDEX held (R48, R49). -/
def almanacInstall (p : Port) (s : State) : State :=
  let w := p.window
  fabricCmd p 0x05 (0x5C + 64 * w) (some (ALM.W_CODE w)) (installChecks s w p.code)
    (fun s => replaceEntry (rd s (ALM.W_INDEX w)) (windowEntry s w p.code) (fireOld (rd s (ALM.W_INDEX w)) (almStart w s))) s

/-- ALMANAC_INSTALL. -/
def execAlmanacInstall (t : Nat) (p : Port) (s : State) : Out := evPort p t s (almanacInstall p)

/-- REMOVE empties the slot at W_INDEX (R48, R49). -/
def almanacRemove (p : Port) (s : State) : State :=
  let w := p.window
  fabricCmd p 0x05 (0x5C + 64 * w) (some (ALM.W_CODE w)) (removeChecks s w p.code)
    (fun s => dropEntry (rd s (ALM.W_INDEX w)) (fireOld (rd s (ALM.W_INDEX w)) (almStart w s))) s

/-- ALMANAC_REMOVE. -/
def execAlmanacRemove (t : Nat) (p : Port) (s : State) : Out := evPort p t s (almanacRemove p)

/-- ORRERY_FIRE. -/
def execOrreryFire (t : Nat) (s : State) : Out := ev t s orreryFire

/-! ## The trigger pins (R260) -/

/-- The selected polarity of a pin: bit 0 rising, bit 1 falling edges (R269). -/
def trigEdge (s : State) (n : Nat) : Nat :=
  match n with
  | 0 => rd s AFE.TRIG_EDGE0
  | 1 => rd s AFE.TRIG_EDGE1
  | 2 => rd s AFE.TRIG_EDGE2
  | _ => rd s AFE.TRIG_EDGE3

/-- A filtered level of TRIG_INn: an edge of the selected polarity is counted and guarded, and sends its route with the SC of the edge at
the ball (R260, R519). -/
def trigPin (n : Nat) (level : Bool) (s : State) : State :=
  if !bit (trigEdge s n) (if level then 0 else 1) then s else
  let s := inc (AFE.TRIG_EDGES n) s
  let keep := s.afe.trigEdges.filter fun x => decide (s.time.cycle < x.2 + secondSteps)
  let s := { s with afe := { s.afe with trigEdges := (n, s.time.cycle) :: keep } }
  let count := (s.afe.trigEdges.filter fun x => decide (x.1 = n)).length
  let u := rd s (AFE.TR_UNIT n)
  if rd s AFE.TRIG_MAX_EDGES < count then
    let s := raise 0x30 3 (inc AFE.PIN_REFUSED s)
    if u = 0 then s else arrive .pin u (trigRefuse u) s
  else if u = 0 then s
  else deliver .pin u (rd s (AFE.TR_ACTION n)) (rd s (AFE.TR_ARG n)) (s.time.sc - rd s AFE.TRIG_FILTER) s

/-- TRIG_IN_EDGE of a pin. -/
def execTrigInEdge (t n : Nat) (level : Bool) (s : State) : Out := ev t s fun s => if n < 4 then trigPin n level s else s

end Sys2Proof.Machine
end

