-- ==== Sys2Proof/Machine/Views.lean ====
section
/-! DEFINITION. What the fabric reads (R6, R8, R12, R70 to R75, R90, R91): which offsets of a page hold registers, the fields that
the machine shows live, and the word a port reads, with the latches of R72. -/
namespace Sys2Proof.Machine

/-! ## Instances (R8, R73) -/

/-- The position of a page within its row of the page map (R73). -/
def pageInstance (p : Nat) : Nat :=
  if 0x03 ≤ p ∧ p ≤ 0x05 then p - 0x03
  else if 0x0A ≤ p ∧ p ≤ 0x0C then p - 0x0A
  else if 0x11 ≤ p ∧ p ≤ 0x13 then p - 0x11
  else if 0x14 ≤ p ∧ p ≤ 0x17 then p - 0x14
  else if 0x18 ≤ p ∧ p ≤ 0x19 then p - 0x18
  else if 0x1A ≤ p ∧ p ≤ 0x1D then p - 0x1A
  else if 0x20 ≤ p ∧ p ≤ 0x23 then p - 0x20
  else if 0x31 ≤ p ∧ p ≤ 0x42 then p - 0x31
  else if 0x49 ≤ p ∧ p ≤ 0x58 then p - 0x49
  else if 0x5A ≤ p ∧ p ≤ 0x5B then p - 0x5A
  else if 0x60 ≤ p ∧ p ≤ 0x61 then p - 0x60
  else if 0x68 ≤ p ∧ p ≤ 0x6A then p - 0x68
  else if 0x78 ≤ p ∧ p ≤ 0x79 then p - 0x78
  else if 0x80 ≤ p ∧ p ≤ 0x82 then p - 0x80
  else if 0x84 ≤ p ∧ p ≤ 0x86 then p - 0x84
  else 0

/-- PAGE_ID of a present page (R73). -/
def pageId (p : Nat) : Nat := 0xC1A0 * 65536 + pageInstance p * 2048 + 256 + p

/-- An offset lies in a group of n instances with a stride, and its instance is not among the fitted ones. -/
def beyond (off base stride n : Nat) (fitted : Nat → Bool) : Bool :=
  decide (base ≤ off ∧ off < base + stride * n) && !fitted ((off - base) / stride)

/-- The word belongs to an instance that is not fitted (R8). -/
def unfitted (s : State) (page off : Nat) : Bool :=
  let v := s.fuse.variant
  let src : Nat → Bool := sourceFitted v
  if page = 0x10 then beyond off 0x80 4 19 src || beyond off 0x100 32 19 src || beyond off 0x400 16 19 src
  else if page = 0x18 ∨ page = 0x19 then beyond off 0x600 4 19 src
  else if page = 0x21 then beyond off 0x100 4 9 fun e => decide (e < Variant.engines v)
  else if page = 0x30 then beyond off 0x180 4 18 fun i => decide (i < Variant.slices v)
  else if page = 0x5C then beyond off 0x100 64 2 fun n => decide (n < Variant.loops v)
  else if page = 0x70 then beyond off 0x100 32 4 fun n => decide (n < Variant.phases v)
  else false

/-- The sub-cause bits of a word that stand for fitted instances (R90). -/
def subFitted (s : State) (page w : Nat) : Nat :=
  let n := if page = 0x48 then Variant.wch s.fuse.variant else subCount page
  2 ^ min 32 (n - 32 * w) - 1

/-- The sub-cause bits of a word that stand for instances of the page (R90). -/
def subDefined (page w : Nat) : Nat := 2 ^ min 32 (subCount page - 32 * w) - 1

/-- The words of a page's sub-cause group. -/
def subWords (page : Nat) : Nat := (subCount page + 31) / 32

/-- A register of the sub-cause group at a base offset: its word (R90). -/
def subWord (page off base : Nat) : Option Nat :=
  if base ≤ off ∧ off < base + 4 * subWords page then some ((off - base) / 4) else none

/-- The live mirror of the snapshot bank stands at its offset + 0x200 (R68). -/
def mirrored (page off : Nat) : Bool := decide (page = 0x02 ∧ 0x300 ≤ off ∧ off < 0x3F0)

/-- The offset whose rows describe a word. -/
def rowsOff (page off : Nat) : Nat := if mirrored page off then off - 0x200 else off

/-- The page's tables assign the offset, a multiple of 4 (R70). -/
def assigned (page off : Nat) : Bool :=
  decide (off < 0x20) || (subWord page off 0xE00).isSome || (subWord page off 0xE80).isSome || (subWord page off 0xF00).isSome
    || !(wordRows page (rowsOff page off)).isEmpty

/-! ## PAGE_STATUS (R73) -/

/-- A command of the page is executing. -/
def pageBusy (s : State) (p : Nat) : Bool :=
  (s.fab.cmds.any fun e => decide (e.1 / 4096 = p ∧ s.time.cycle < e.2))
    || (decide (p = 0x08) && decide (rd s LANE.CMD_BUSY = 1)) || (decide (p = 0x30) && s.afe.takeover.isSome)
    || (decide (p = 0x48) && (List.range 8).any fun k => decide (rd s (WGH.SET_BUSY k) = 1))
    || (decide (p = 0x78) && decide (rd s PWR.CMD_BUSY = 1)) || (decide (p = 0x85) && decide (rd s TWIC.TWC_BUSY = 1))
    || (decide (p = 0x86) && decide (rd s QSPI.FL_BUSY = 1)) || (decide (p = 0x90) && rprBusy s)

/-- The RWC group of a page (R76). -/
def rwcOf (s : State) (p : Nat) : Option RwcGroup := s.fab.rwc.find? fun g => g.page == p

/-- A Boolean as the bit of a place. -/
def atBit (b : Bool) (n : Nat) : Nat := if b then 2 ^ n else 0

/-- PAGE_STATUS of a page. -/
def pageStatus (s : State) (p : Nat) : Nat :=
  atBit (pageBusy s p) 31 + atBit (s.fab.tkPend.any fun e => e.1.page == p) 30
    + atBit (match rwcOf s p with | some g => !g.fields.isEmpty | none => false) 29
    + atBit (match rwcOf s p with | some g => g.armed | none => false) 28 + rd s (HDR.HALTED p) * 2 ^ 27

/-! ## Live fields -/

/-- PAGE_PEND of 32 pages (R101). -/
def pendWord (s : State) (k : Nat) : Nat :=
  ((leafPages s).filter fun p => decide (p / 32 = k) && pagePend s p).foldl (fun a p => a ||| 2 ^ (p % 32)) 0

/-- The wall time registers: 0 until an ephemeris was accepted (R39, R51). -/
def wallFields (s : State) : List (Fld × Nat) :=
  if rd s SIDR.WALL_STATE = 0 then [] else
  let (day, sod, frame, leap) := wallNow s
  [(SIDR.WALL_LEAP, leap), (SIDR.WALL_DAY, day.toNat), (SIDR.WALL_SOD, sod.toNat), (SIDR.WALL_FRAME, frame.toNat)]

/-- The registers of a selected TRIG unit in the bank, from tallies (R68). -/
def trigFields (s : State) (l : List (Nat × TrigTally)) : List (Fld × Nat) :=
  let x := tallyOf l (rd s LEDG.TRIG_SEL)
  [(LEDG.S_SRC_ORRY, x.orry), (LEDG.S_SRC_PIN, x.pin), (LEDG.S_SRC_CMD, x.cmd), (LEDG.S_EXECUTED, x.executed),
   (LEDG.S_MERGED, x.merged), (LEDG.S_REFUSED, x.refused), (LEDG.S_PENDING, x.pend)]

/-- The latest staging of a container, if it holds one (R208). -/
def stagedNow (s : State) (c : Nat) : Option Staged := (s.tm.staged.filter fun x => x.cont == c).getLast?

/-- CONT_STATE of a container (R208). -/
def contFields (s : State) (c : Nat) : List (Fld × Nat) :=
  match stagedNow s c with
  | none => [(BB.STAGE c, 0), (BB.UNIT_BYTES c, 0)]
  | some x =>
    [(BB.STAGE c, if x.confirmed then 3 else if 0 < x.ksLeft then 1 else 2),
     (BB.UNIT_BYTES c, (x.frames.map fun f => unitLen f.frame.data.length).foldl (· + ·) 0)]

/-- The shaper that SH_SEL selects, with its key. -/
def selShaper (s : State) : (Nat × Nat) × Shaper :=
  let k := (rd s SHAPE.SH_KIND, rd s SHAPE.SH_NODE)
  (k, aget s.tm.shapers k {})

/-- A bucket in whole bytes, rounded down. -/
def tokenBytes (t : Int) : Nat := ofSigned 32 (t / (byteUnits : Int))

/-- The shaper window (R205). -/
def shaperFields (s : State) : List (Fld × Nat) :=
  let x := (selShaper s).2.settle
  [(SHAPE.SH_EN, b2n x.en), (SHAPE.SH_CIR, x.cir), (SHAPE.SH_CBS, x.cbs), (SHAPE.SH_PIR, x.pir), (SHAPE.SH_PBS, x.pbs),
   (SHAPE.SH_TOK_C, tokenBytes x.c), (SHAPE.SH_TOK_P, tokenBytes x.p)]

/-- The policer that PL_SEL selects. -/
def selPolicer (s : State) : Policer := aget s.tm.policers (rd s POLICE.PL_SEL) {}

/-- The policer window (R206). -/
def policerFields (s : State) : List (Fld × Nat) :=
  let x := selPolicer s
  [(POLICE.PL_EN, bits x.ctl 31 31), (POLICE.PL_MODE, bits x.ctl 30 30), (POLICE.PL_COLOUR_AWARE, bits x.ctl 29 29),
   (POLICE.PL_RED_PASS, bits x.ctl 28 28), (POLICE.PL_YELLOW_DROP, bits x.ctl 27 27), (POLICE.PL_CIR, x.cir), (POLICE.PL_CBS, x.cbs),
   (POLICE.PL_PIR, x.pir), (POLICE.PL_B2, x.b2), (POLICE.PL_TOK_1, tokenBytes x.t1), (POLICE.PL_TOK_2, tokenBytes x.t2),
   (POLICE.PL_GREEN, x.green), (POLICE.PL_YELLOW, x.yellow), (POLICE.PL_RED, x.red)]

/-- GHOST words of a slot (R203). -/
def ghostFields (s : State) (g : Nat) : List (Fld × Nat) :=
  match s.tm.ghosts.find? fun x => x.1 == g with
  | none => []
  | some (_, x) => [(GHOST.G_VALID g, 1), (GHOST.G_INDEX g, x.index), (GHOST.G_GEN g, x.gen), (GHOST.G_REFCNT g, min x.ref 0xFFFF)]

/-- DEFICIT of a child (R204). -/
def deficitOf (s : State) (lvl n : Nat) : Nat := ofSigned 32 (aget s.tm.children (lvl, n) {}).deficit

/-- SLOT_STATE of the selected key slot (R239). -/
def slotFields (s : State) : List (Fld × Nat) :=
  let n := rd s KEYS.SLOT_SEL
  let k := keySlot s n
  [(KEYS.SLOT_VALID, b2n k.valid), (KEYS.SLOT_SECRET, b2n k.secret), (KEYS.SLOT_KEYLEN, k.keylen), (KEYS.SLOT_USE, min (slotUse s n) 255),
   (KEYS.SLOT_GEN, k.gen % 65536)]

/-- The seats and engines of the Dealer (R238). -/
def dealFields (s : State) (off : Nat) : List (Fld × Nat) :=
  let k := (off - 0xA0) / 4
  let e := (off - 0x100) / 4
  if 0xA0 ≤ off ∧ off < 0xB4 then
    let s := seatIdle k s
    [(DEAL.SEAT_LOST k, rd s (DEAL.SEAT_LOST k)), (DEAL.SEAT_REQ k, b2n (seatRequests s k)), (DEAL.SEAT_EFF k, seatEff s k), (DEAL.SEAT_HELD k, heldBy s k)]
  else if 0x100 ≤ off ∧ rd s (DEAL.ENG_STATE e) = 2 then
    [(DEAL.HELD_CYC e, min ((s.time.cycle - (aget s.deck.hands e {}).start) / bulkDiv s) 0xFFFFF)]
  else []

/-- SLICE_STATUS's copies of the role registers (R269). -/
def sliceFields (s : State) (i : Nat) : List (Fld × Nat) :=
  [(SLICE.ST_LEGAL i, b2n (sliceLegal s i)), (SLICE.ST_ROLE i, rd s (AFE.SLICE_ROLE i)), (SLICE.ST_USER i, rd s (AFE.SLICE_USER i)),
   (SLICE.ST_SHADOW i, rd s (AFE.SLICE_SHADOW i))]

/-- The flags of a value or a result while the LGC is halted: NFT, with NFT_WHY.LGC (R25, R289, R324). -/
def haltedFlags (s : State) (nft why v : Nat) : Nat := if lgcHalted s then v ||| 2 ^ nft ||| 2 ^ why else v

/-- A legal field holds its reset value until the LGC runs (R489). -/
def ranValue (s : State) (f : Fld) : Nat := if s.leg.ran then rd s f else f.reset

/-- The fields of a word that the machine shows live, with their values. -/
def liveFields (s : State) (page off : Nat) : List (Fld × Nat) :=
  if page = 0x00 then [(SYS.TICK_FRAME, scFrame s % 25)]
  else if page = 0x01 then
    [(ATTN.SUMMARY, s.attn.sum), (ATTN.EXT_LOW, b2n (s.attn.extLow && rd s ATTN.ASSERTED == 0)), (ATTN.PAGE_PEND ((off - 0x80) / 4), pendWord s ((off - 0x80) / 4))]
  else if page = 0x02 then trigFields s s.led.snapTrig
  else if page = 0x03 then (SIDR.SC, scReg s.time.sc) :: wallFields s
  else if page = 0x04 then
    [(ORRY.DUE, (dueOrdinary s).length + (dueOwed s).length), (ORRY.SENT_COUNT, aget s.orry.sent (rd s ORRY.SENT_SEL) 0 % 2 ^ 32)]
  else if page = 0x05 then (List.range 3).map fun w => (ALM.W_BUSY w, b2n (cmdBusy s (almCmdAddr w)))
  else if page = 0x08 then
    [(LANE.CMD_BUSY, max (rd s LANE.CMD_BUSY) (b2n (cmdBusy s laneCmdAddr))), (LANE.TX_RETRAIN, b2n (txRetrain s)),
     (LANE.LINK, linkNow s), (LANE.TXD0_STATE, txStateNow s 0), (LANE.TXD1_STATE, txStateNow s 1),
     (LANE.TXEN_PAD, b2n (txenPad s))]
  else if page = 0x0D then
    [(ACTV.CMD_BUSY, b2n (cmdBusy s actvCmdAddr)), (ACTV.UPMSG_BUSY, b2n s.actv.micMsg.isSome),
     (ACTV.UPMSG_QUEUED, min s.actv.upq.length 8)]
  else if page = 0x10 then [(TMGR.CMD_BUSY, b2n (cmdBusy s tmCmdAddr)), (TMGR.OCC_UP, occOf s true), (TMGR.OCC_DN, occOf s false)]
  else if page = 0x12 then (List.range 3).map fun w => (CLSW.W_BUSY w, b2n (cmdBusy s (0x12050 + 64 * w)))
  else if page = 0x13 then
    [(GHOST.IN_USE, s.tm.ghosts.length), (GHOST.MAX_IN_USE, s.tm.ghostMax)] ++ ghostFields s ((off - 0x100) / 8)
  else if 0x14 ≤ page ∧ page ≤ 0x17 then
    let i := (off - 0x100) / 12
    let q := 256 * (page - 0x14) + i
    [(QUE.Q_QUEUED (page - 0x14) i, min (queuedCells s q) 0xFFFF), (QUE.Q_STAGED (page - 0x14) i, min (stagedCells s q) 0xFFFF)]
  else if page = 0x19 then
    [(DEFIC.SUB_DEF ((off - 0x100) / 4), deficitOf s 1 ((off - 0x100) / 4)), (DEFIC.SVC_DEF ((off - 0x500) / 4), deficitOf s 2 ((off - 0x500) / 4)),
     (DEFIC.PORT_DEF ((off - 0x600) / 4), deficitOf s 3 ((off - 0x600) / 4))]
  else if page = 0x1A then shaperFields s
  else if page = 0x1B then policerFields s
  else if page = 0x1D then contFields s ((off - 0x100) / 32)
  else if page = 0x20 then [(DECK.IN_SERVICE, enginesServing s), (DECK.DEC_BUF, decHeld s), (DECK.KS_STORE, ksHeld s)]
  else if page = 0x21 then dealFields s off
  else if page = 0x22 then (KEYS.KEY_BUSY, b2n (cmdBusy s keyCmdAddr)) :: slotFields s
  else if page = 0x30 then [(AFE.CMD_BUSY, b2n (cmdBusy s 0x30140)), (AFE.SWAP_BUSY, b2n s.afe.takeover.isSome)]
  else if 0x31 ≤ page ∧ page ≤ 0x42 then sliceFields s (page - 0x31)
  else if page = 0x48 then
    let k := (off - 0x100) / 256
    [(WGH.VALUE_FLAGS k, haltedFlags s 2 22 (ranValue s (WGH.VALUE_FLAGS k))), (WGH.WIN_FLAGS k, haltedFlags s 2 22 (ranValue s (WGH.WIN_FLAGS k)))]
  else if 0x49 ≤ page ∧ page ≤ 0x58 then [(WCH.CMD_BUSY (page - 0x49), b2n (cmdBusy s (page * 0x1000 + 0x60)))]
  else if page = 0x5A then
    [(USX.CMD_BUSY, b2n (cmdBusy s 0x5A100)), (USX.RESULT_FLAGS, haltedFlags s 4 20 (ranValue s USX.RESULT_FLAGS)),
     (USX.RX_SLICE, ((List.range 18).find? fun i => decide (rd s (AFE.SLICE_ROLE i) = 1 ∧ rd s (AFE.SLICE_USER i) = 16)).getD 31)]
  else if page = 0x70 then [(SWCH.CMD_BUSY, b2n (cmdBusy s swCmdAddr))]
  else if page = 0x78 then [(PWR.RTC, rtcNow s)]
  else if page = 0x84 then [(TWIT.TW_ADDR, twAddr s)]
  else if page = 0x90 then
    [(RPR.CMD_BUSY, b2n (rprBusy s)), (RPR.PENDING_RETIRE, s.rpr.engDue.foldl (fun a e => a ||| 2 ^ e) 0),
     (RPR.ENG_STANDBY, b2n (spareStandby s)), (RPR.SLICES_SPARE, sparesSound s % 4)]
  else []

/-! ## The word a port reads -/

/-- SL fields and the pages of the legal part read their reset values until the LGC runs (R489). -/
def legalHidden (s : State) (page : Nat) (ty : RegTy) : Bool :=
  !s.leg.ran && (ty == .sl || decide (page = 0x60 ∨ page = 0x61 ∨ (0x68 ≤ page ∧ page ≤ 0x6A)))

/-- The value of a row's field that a read shows; the flags of a halted LGC show whatever it has run (R25, R489). -/
def shown (s : State) (page : Nat) (live : List (Fld × Nat)) (x : Row × Fld) : Nat :=
  if legalHidden s page x.1.ty && !(lgcHalted s && live.any fun l => l.1.key == x.2.key) then x.2.reset else
  match live.find? fun l => l.1.key == x.2.key with
  | some (_, v) => v % 2 ^ x.2.w
  | none => rd s x.2

/-- A word of a page's own tables. -/
def tableWord (s : State) (page off : Nat) : Nat :=
  let live := liveFields s page off
  (wordRows page off).foldl (fun a x =>
    if x.1.ty.writeOnly then a else a + x.1.part (shown s page live x) * 2 ^ x.1.lo) 0

/-- A word of the live mirror of the snapshot bank (R68). -/
def mirrorWord (s : State) (off : Nat) : Nat := tableWord (copyTallies s) 0x02 (off - 0x200)

/-- A word of the common header (R73). -/
def headerWord (s : State) (page off : Nat) : Nat :=
  if off = 0x00 then pageId page
  else if off = 0x04 then rd s (HDR.LOCK page) * 2 ^ 31 + rd s (HDR.OWNER page) * 2 ^ 28 + rd s (HDR.ENABLE page)
  else if off = 0x08 then pageStatus s page
  else if off = 0x0C then rd s (HDR.REF_SEQ page) * 65536 + rd s (HDR.REF_CODE page) * 4096 + rd s (HDR.REF_OFF page)
  else if off = 0x10 then rd s (HDR.CAUSE page) + atBit (pointerBit s page) 31
  else if off = 0x14 then clearBits (rd s (HDR.MASK page)) (unfittedBits s page off)
  else if off = 0x1C then rd s (HDR.GROUP_SEQ page) * 65536
  else 0

/-- The word at an offset of a page, a multiple of 4, apart from the latches (R6, R8, R70, R73, R90). -/
def readWord (s : State) (page off : Nat) : Nat :=
  if Variant.pageAbsent s.fuse.variant page then (if off = 0 then 0xDEAD0000 + page else 0)
  else if !pageAssigned page then 0
  else if off < 0x20 then headerWord s page off
  else if unfitted s page off then 0
  else if page = 0x00 ∧ off = 0x40 then Variant.manifest s.fuse.variant
  else if mirrored page off then mirrorWord s off
  else match subWord page off 0xE00, subWord page off 0xE80 with
    | some w, _ => rd s (HDR.SUB_CAUSE page w)
    | _, some w => rd s (HDR.SUB_MASK page w)
    | _, _ => tableWord s page off

/-! ## Latches (R72) -/

/-- The HI word of a pair: the LO row of the same field lies in the word before it. -/
def isHi (page off : Nat) : Bool := (wordRows page (rowsOff page off)).any fun x => x.1.word == 2

/-- The word is the LO word of a pair. -/
def isLo (page off : Nat) : Bool := (wordRows page (rowsOff page off)).any fun x => x.1.word == 1

/-- Consecutive words. -/
def wordsFrom (off n : Nat) : List Nat := (List.range n).map fun k => off + 4 * k

/-- The words that a read of a word latches for the port that reads it (R51, R72, R101, R269, R297, R300). -/
def latchSet (page off : Nat) : List Nat :=
  if page = 0x03 ∧ off = 0x90 then [0x94, 0x98]
  else if 0x31 ≤ page ∧ page ≤ 0x42 ∧ off = 0x58 then wordsFrom 0x5C 3
  else if page = 0x48 ∧ 0x100 ≤ off ∧ off < 0x900 ∧ off % 256 = 0x70 then wordsFrom (off + 4) 8
  else if 0x49 ≤ page ∧ page ≤ 0x58 ∧ off = 0x100 then wordsFrom 0x104 5
  else if isLo page off then [off + 4] else []

/-- The latched value a port holds for a word. -/
def latched (s : State) (p : Port) (page off : Nat) : Option Nat :=
  (s.fab.latches.find? fun l => decide (l.1 = p ∧ l.2.1 = page * 0x1000 + off)).map fun l => l.2.2

/-- Latch words for a port. -/
def latchWords (p : Port) (page : Nat) (offs : List Nat) (s : State) : State :=
  let new := offs.map fun o => (p, page * 0x1000 + o, readWord s page o)
  { s with fab := { s.fab with latches := new ++ s.fab.latches.filter fun l =>
      !(decide (l.1 = p ∧ l.2.1 / 4096 = page) && offs.contains (l.2.1 % 4096)) } }

/-- The word that a port reads: its latched value where it holds one (R72). -/
def readBy (p : Port) (page off : Nat) (s : State) : Nat := (latched s p page off).getD (readWord s page off)

/-- A port reads a word: a latching register latches its companions, but a LO register that the port's latch holds latches nothing
(R72, R297). A read of an absent, unassigned or unfitted register latches nothing. -/
def readAct (p : Port) (page off : Nat) (s : State) : State :=
  if !pagePresent s page || unfitted s page off || (latched s p page off).isSome then s
  else latchWords p page (latchSet page off) s

/-- A word read by a port, with the state that the read leaves. -/
def fabricRead (p : Port) (addr : Nat) (s : State) : Nat × State :=
  let page := addr / 4096
  let off := addr % 4096 / 4 * 4
  (readBy p page off s, readAct p page off s)

end Sys2Proof.Machine
end

