-- ==== Sys2Proof/Machine/Fabric.lean ====
section
/-! DEFINITION. What a fabric write does (R7, R8, R12, R48, R69 to R79, R83 to R85, R90 to R92, R98, R453, R518 and the register
sections of the unit chapters): the checks in the order of R85, the pairs, the TK and RWC fields, the page header, and the routing of
command registers to their operations. -/
namespace Sys2Proof.Machine

/-! ## Which check a refusal names (R85) -/

/-- The place of a code in the order of R85; ABSENT and RESERVED at their places inside a present page. -/
def Code.rank : Code → Nat
  | .width => 3 | .locked => 4 | .busy => 5 | .sealed => 6 | .conflict => 7 | .absent => 8 | .reserved => 9 | .range => 10
  | .order => 11 | .auth => 12 | .state => 13 | .exhausted => 14 | .ledger => 15 | .time => 16

/-- The code of the failing check that stands first in the order of R85. -/
def worst (checks : List (Bool × Code)) : Option Code :=
  checks.foldl (fun a x =>
    if !x.1 then a else
    match a with
    | none => some x.2
    | some c => if x.2.rank < c.rank then some x.2 else a) none

/-- A window of ALMANAC, the classifier or the mailbox accepts writes only from its own port, a register marked STC only from the STC,
STC_CMD only from PCIe (R48, R202, R452, R453, R462, R463). -/
def foreign (p : Port) (page off : Nat) : Bool :=
  (decide (page = 0x05 ∨ page = 0x12) && decide (0x40 ≤ off ∧ off < 0x100 ∧ (off - 0x40) / 64 ≠ p.window))
    || (decide (page = 0xF0) && decide (0x100 ≤ off ∧ off < 0x400 ∧ (off - 0x100) / 256 ≠ windowOf p))
    || (decide (page = 0x86 ∧ off = 0x58) && decide (p ≠ .pcie))
    || (decide (p ≠ .stc) && (wordRows page off).any fun x => x.1.ty == .rws || x.1.ty == .wos)

/-- Checks 1, 2 and 4 of R85 of a write to a word. -/
def gate (s : State) (p : Port) (page off : Nat) : List (Bool × Code) :=
  [(Variant.pageAbsent s.fuse.variant page, .absent), (!pageAssigned page || !assigned page off, .reserved),
   (lockedOut s p page || foreign p page off, .locked)]

/-- The status CODE of a command register, if it has one. -/
def codeField (p : Port) (page off : Nat) : Option Fld :=
  if page = 0x05 ∧ off = 0x5C + 64 * p.window then some (ALM.W_CODE p.window)
  else if page = 0x08 ∧ off = 0x48 then some LANE.CMD_CODE
  else if page = 0x0D ∧ off = 0x7C then some ACTV.CMD_CODE
  else if page = 0x10 ∧ off = 0x54 then some TMGR.CMD_CODE
  else if page = 0x12 ∧ off = 0x50 + 64 * p.window then some (CLSW.W_CODE p.window)
  else if page = 0x22 ∧ off = 0x78 then some KEYS.KEY_CODE
  else if page = 0x30 ∧ off = 0x140 then some AFE.CMD_CODE
  else if page = 0x30 ∧ off = 0x1D0 then some AFE.SWAP_CODE
  else if page = 0x48 ∧ 0x100 ≤ off ∧ off < 0x900 ∧ off % 256 = 0x58 then some (WGH.SET_CODE ((off - 0x100) / 256))
  else if 0x49 ≤ page ∧ page ≤ 0x58 ∧ off = 0x60 then some (WCH.CMD_CODE (page - 0x49))
  else if page = 0x5A ∧ off = 0x100 then some USX.CMD_CODE
  else if page = 0x70 ∧ off = 0x80 then some SWCH.CMD_CODE
  else if page = 0x78 ∧ off = 0x44 then some PWR.CMD_CODE
  else if page = 0x86 ∧ off = 0xB0 then some QSPI.FL_CODE
  else if page = 0x90 ∧ off = 0x70 then some RPR.CMD_CODE
  else none

/-- A refused write: its record, and the status CODE of a command register (R83, R84). -/
def refuseWrite (p : Port) (page off : Nat) (c : Code) (s : State) : State :=
  let s := refuse p page off c s
  match codeField p page off with
  | some f => wr f c.num s
  | none => s

/-- A refused write whose first byte stands at off, in the word w (R83, R84). -/
def refuseAt (p : Port) (page off w : Nat) (c : Code) (s : State) : State :=
  let s := refuse p page off c s
  match codeField p page w with
  | some f => wr f c.num s
  | none => s

/-- An accepted write: the lease of its page starts anew (R80), and then its effect. -/
def guarded (p : Port) (page off : Nat) (checks : List (Bool × Code)) (act : State → State) (s : State) : State :=
  match worst checks with
  | some c => refuseWrite p page off c s
  | none => act (renewLease p page s)

/-! ## The page header (R73, R76, R79, R88 to R92) -/

/-- The SWCH limits no longer fit: the enabled phases carry less than TOTAL_LIMIT (R399). -/
def limitsShort (s : State) : Bool := decide (limitSum s (swEnabled s) < rd s SWCH.TOTAL_LIMIT)

/-- The switch is OFF or LATCHED. -/
def switchOff (s : State) : Bool := decide (rd s SWCH.STATE = 0 ∨ rd s SWCH.STATE = 5)

/-- The checks of a change of a page's ENABLE (R399 and the rules of the metrology pages). -/
def enableChecks (s c : State) (page v : Nat) : List (Bool × Code) :=
  if page = 0x70 then
    [(enabled s page && !enabled c page && !switchOff s, .sealed), (!enabled s page && enabled c page && limitsShort s, .state)]
  else metroChecks s c page 0x004 v

/-- The front end is powered or not: its pairs drive or stop, but a pair in FAULT stays so until its EN is written; powered slices begin
to convert anew (R248, R251, R254, R269). -/
def afeEnable (on : Bool) (s : State) : State :=
  let sound := (List.range 8).filter fun k => decide (rd s (AFE.EXC_STATE k) ≠ 3)
  if on then
    forEach (List.range 18) restartFilters
      (forEach (sound.filter fun k => decide (rd s (AFE.EXC_EN k) = 1)) (fun k s => excApply k 1 (rd s (AFE.EXC_REVERSE k)) s) s)
  else forEach sound (fun k => pairOff k 0) s

/-- What follows a change of a page's ENABLE. -/
def enableAct (page : Nat) (on : Bool) (s : State) : State :=
  if page = 0x08 then laneEnable on s
  else if page = 0x0A then frmdEnable on s
  else if page = 0x0D then actvEnable on s
  else if page = 0x30 then afeEnable on s
  else if 0x31 ≤ page ∧ page ≤ 0x42 then sliceEnable (page - 0x31) on s
  else if 0x49 ≤ page ∧ page ≤ 0x58 then channelEnable (page - 0x49) on s
  else if page = 0x5A then (if on then s else usxOff s)
  else if page = 0x5C then forEach ((List.range 2).filter (loopFitted s)) loopEnable s
  else if page = 0x81 ∨ page = 0x82 then (if on then s else ethOff (page - 0x81) s)
  else s

/-- LOCK = 1 takes a free page, LOCK = 0 from the owner releases it (R79). -/
def lockAct (p : Port) (page v : Nat) (s : State) : State :=
  if bit v 31 then (if rd s (HDR.OWNER page) = 0 then s |> wr (HDR.OWNER page) p.code |> wr (HDR.LOCK page) 1 else s)
  else if rd s (HDR.OWNER page) = p.code then
    { (s |> wr (HDR.OWNER page) 0 |> wr (HDR.LOCK page) 0) with
      fab := { s.fab with leases := s.fab.leases.filter fun e => e.1 != page } }
  else s

/-- A PAGE_CTL write: OWNER is ignored, ENABLE is RO where the page defines no enable (R73, R79). -/
def pageCtl (p : Port) (page v : Nat) (s : State) : State :=
  let c := wr (HDR.ENABLE page) (bits v 0 0) s
  let flips := enabled s page != enabled c page
  guarded p page 0x004
    ([(decide (bits v 30 30 ≠ 0 ∨ bits v 27 1 ≠ 0), .reserved), (decide (enableResets page = 1) && flips, .range)] ++
      enableChecks s c page v)
    (fun s =>
      let s := renewLease p page (lockAct p page v s)
      if flips then enableAct page (bit v 0) (wr (HDR.ENABLE page) (bits v 0 0) s) else s) s

/-- The page's bit 31 of CAUSE is a pointer (R88). -/
def hasPointer (page : Nat) : Bool := decide (0 < subCount page)

/-- A CAUSE write: W1C of the leaves; the pointer is RO, and EVENT of MBOX stays raised while its queue holds an event (R73, R91, R98, R456). -/
def causeClear (p : Port) (page v : Nat) (s : State) : State :=
  guarded p page 0x010
    [(decide (v &&& unfittedBits s page 0x010 ≠ 0), .absent), (decide (clearBits v (causeBits page) ≠ 0), .reserved),
     (hasPointer page && bit v 31 && !pointerBit s page, .range)]
    (fun s => when (decide (page = 0xF0 ∧ s.stc.events ≠ [])) (raise 0xF0 4) (w1c (HDR.CAUSE page) (v % 2 ^ 32) s)) s

/-- A CAUSE_MASK write (R73). -/
def causeMask (p : Port) (page v : Nat) (s : State) : State :=
  guarded p page 0x014 [(decide (v &&& unfittedBits s page 0x014 ≠ 0), .absent), (decide (clearBits v (causeBits page) ≠ 0), .reserved)] (wr (HDR.MASK page) v) s

/-- A CAUSE_FORCE write sets leaves as an event would, for attention only (R91, R92). -/
def causeForce (p : Port) (page v : Nat) (s : State) : State :=
  guarded p page 0x018
    [(decide (v &&& unfittedBits s page 0x018 ≠ 0), .absent), (decide (clearBits v (causeBits page) ≠ 0), .reserved),
     (hasPointer page && bit v 31, .range)]
    (fun s => wr (HDR.CAUSE page) (rd s (HDR.CAUSE page) ||| v) s) s

/-- The checks of a write to a sub-cause word: RESERVED beyond the page's instances, ABSENT for unfitted ones (R90). -/
def subChecks (s : State) (page w v : Nat) : List (Bool × Code) :=
  [(decide (clearBits (v &&& subDefined page w) (subFitted s page w) ≠ 0), .absent), (decide (clearBits v (subDefined page w) ≠ 0), .reserved)]

/-- A SUB_CAUSE write: W1C (R90, R98). -/
def subClear (p : Port) (page w v : Nat) (s : State) : State :=
  guarded p page (0xE00 + 4 * w) (subChecks s page w v)
    (w1c (HDR.SUB_CAUSE page w) v) s

/-- A SUB_MASK write (R90). -/
def subMask (p : Port) (page w v : Nat) (s : State) : State :=
  guarded p page (0xE80 + 4 * w) (subChecks s page w v) (wr (HDR.SUB_MASK page w) v) s

/-- A SUB_FORCE write (R90, R92). -/
def subForce (p : Port) (page w v : Nat) (s : State) : State :=
  guarded p page (0xF00 + 4 * w) (subChecks s page w v)
    (fun s => wr (HDR.SUB_CAUSE page w) (rd s (HDR.SUB_CAUSE page w) ||| v) s) s

/-! ## What the unit chapters check of a write -/

/-- The signed minimum of an adaptive parameter's fence lies above its maximum (R125). -/
def fenceUpside (c : State) (n param : Nat) : Bool := let f := fenceOf c n param; decide (f.2 < f.1)

/-- LANE (R125). -/
def laneChecks (s c : State) (off v : Nat) : List (Bool × Code) :=
  let n := (off - 0x100) / 64
  let rel := (off - 0x100) % 64
  if off = 0x40 then
    [(enabled s 0x08 && decide (v / 2 ^ 23 ≠ storedWord s 0x08 0x40 / 2 ^ 23), .state),
     (decide (rd s LANE.TX_ENABLE = 1 ∧ rd c LANE.TX_ENABLE = 0) && inFlight s, .state)]
  else if off = 0x60 then [(decide (rd c LANE.RTERM_MAX < rd c LANE.RTERM_MIN), .range)]
  else if 0x100 ≤ off ∧ off < 0x1C0 then
    [(if rel = 0 then fenceUpside c n 0 || fenceUpside c n 1
      else if rel = 4 then fenceUpside c n 2 || fenceUpside c n 3 || fenceUpside c n 4
      else if rel = 8 then fenceUpside c n 5 else false, .range)]
  else if 0x1C0 ≤ off ∧ off < 0x1C8 then
    let k := (off - 0x1C0) / 4
    [(decide (rd c (LANE.FIR_MAIN k) < rd c (LANE.FIR_PRE k) + rd c (LANE.FIR_POST k)), .range)]
  else []

/-- FRMD: a window's clear threshold lies below its set threshold (R145). -/
def frmdChecks (c : State) (off : Nat) : List (Bool × Code) :=
  if off = 0x48 then [(decide (rd c FRMD.SF_SET ≤ rd c FRMD.SF_CLR), .range)]
  else if off = 0x4C then [(decide (rd c FRMD.SD_SET ≤ rd c FRMD.SD_CLR), .range)]
  else if off = 0x50 ∨ off = 0x54 then
    [(decide (rd c FRMD.PSF_SET ≤ rd c FRMD.PSF_CLR ∨ rd c FRMD.PSD_SET ≤ rd c FRMD.PSD_CLR), .range)]
  else []

/-- PMON: POLICY stays while a close is pending (R143, R146). -/
def pmonChecks (s c : State) (off : Nat) : List (Bool × Code) :=
  if off = 0x40 then
    [(decide (rd c PMON.PM_POLICY ≠ rd s PMON.PM_POLICY) && (s.pmon.bin15.closing.isSome || s.pmon.binDay.closing.isSome), .ledger)]
  else []

/-- TMGR (R187, R199, R200). -/
def tmgrChecks (s c : State) (off : Nat) : List (Bool × Code) :=
  let k := (off - 0x80) / 4
  if off = 0x40 then
    [(enabled s 0x10 && decide (rd c TMGR.UP_FLAT ≠ rd s TMGR.UP_FLAT ∨ rd c TMGR.DN_FLAT ≠ rd s TMGR.DN_FLAT), .state)]
  else if off = 0x44 then
    [(decide (65536 < rd c TMGR.PART_UP + rd c TMGR.PART_DN), .range),
     (decide (rd c TMGR.PART_UP < rd s TMGR.PART_UP ∧ rd c TMGR.PART_UP < occOf s true), .ledger)]
  else if off = 0x48 then
    [(decide (65536 < rd c TMGR.PART_UP + rd c TMGR.PART_DN), .range),
     (decide (rd c TMGR.PART_DN < rd s TMGR.PART_DN ∧ rd c TMGR.PART_DN < occOf s false), .ledger)]
  else if 0x80 ≤ off ∧ off < 0xCC then
    [(decide (rd c (TMGR.TAG_OFFSET k) % 2 = 1), .range),
     (decide (rd c (TMGR.USE_VID k) ≠ rd s (TMGR.USE_VID k) ∨ rd c (TMGR.USE_PCP k) ≠ rd s (TMGR.USE_PCP k)
        ∨ rd c (TMGR.USE_TAG k) ≠ rd s (TMGR.USE_TAG k)) && s.tm.entries.any fun x => decide (x.2.key / 2 ^ 35 = k), .state)]
  else []

/-- A port number names a port that is not fitted. -/
def portAbsent (s : State) (n : Nat) : Bool := decide (n ≤ 18) && !sourceFitted s.fuse.variant n

/-- Both directions are in flat mode. -/
def allFlat (s : State) : Bool := decide (rd s TMGR.UP_FLAT = 1 ∧ rd s TMGR.DN_FLAT = 1)

/-- A queue page (R199, R204). -/
def queueChecks (s c : State) (inst off : Nat) : List (Bool × Code) :=
  let j := (off - 0x100) / 12
  let rel := (off - 0x100) % 12
  let q := 256 * inst + j
  if off < 0x100 then []
  else if rel = 0 then
    [(allFlat s && portAbsent s (rd c (QUE.Q_PARENT inst j)), .absent), (allFlat s && decide (18 < rd c (QUE.Q_PARENT inst j)), .range),
     (decide (rd s (QUE.Q_EN inst j) = 1 ∧ rd c (QUE.Q_PARENT inst j) ≠ rd s (QUE.Q_PARENT inst j)), .state),
     (decide (rd s (QUE.Q_EN inst j) = 1 ∧ rd c (QUE.Q_EN inst j) = 0) && (busyQueues s).contains q, .ledger)]
  else if rel = 4 then [(decide (rd c (QUE.MAX_DEPTH inst j) < rd c (QUE.YELLOW_MAX inst j)), .range)]
  else []

/-- A subscriber has an enabled queue below it. -/
def subNamed (s : State) (k : Nat) : Bool := (enabledQueues s).any fun q => !flatQueue s q && decide (queueParent s q = k)

/-- A service node has an enabled subscriber below it. -/
def svcNamed (s : State) (k : Nat) : Bool :=
  (List.range 256).any fun n => decide (rd s (SCHED.SUB_EN n) = 1 ∧ rd s (SCHED.SUB_PARENT n) = k)

/-- The scheduler's nodes (R199, R205). -/
def schedChecks (s c : State) (off : Nat) : List (Bool × Code) :=
  if 0x100 ≤ off ∧ off < 0x500 then
    let k := (off - 0x100) / 4
    [(decide (rd s (SCHED.SUB_EN k) = 1 ∧ rd c (SCHED.SUB_PARENT k) ≠ rd s (SCHED.SUB_PARENT k)), .state),
     (decide (rd s (SCHED.SUB_EN k) = 1 ∧ rd c (SCHED.SUB_EN k) = 0) && subNamed s k, .state)]
  else if 0x500 ≤ off ∧ off < 0x600 then
    let k := (off - 0x500) / 4
    [(portAbsent s (rd c (SCHED.SVC_PARENT k)), .absent),
     (decide (rd s (SCHED.SVC_EN k) = 1 ∧ rd c (SCHED.SVC_PARENT k) ≠ rd s (SCHED.SVC_PARENT k)), .state),
     (decide (rd s (SCHED.SVC_EN k) = 1 ∧ rd c (SCHED.SVC_EN k) = 0) && svcNamed s k, .state)]
  else []

/-- The shaper window (R206). -/
def shapeChecks (c : State) (off : Nat) : List (Bool × Code) :=
  if off = 0x40 then [(decide (rd c SHAPE.SH_KIND = 1 ∧ 63 < rd c SHAPE.SH_NODE), .range)]
  else if off = 0x48 ∨ off = 0x50 then [(decide (rd c SHAPE.SH_PIR < rd c SHAPE.SH_CIR), .range)] else []

/-- The policer window (R206). -/
def policeChecks (c : State) (off : Nat) : List (Bool × Code) :=
  if off = 0x40 then [] else
  [(decide (rd c POLICE.PL_CBS = 0 ∧ rd c POLICE.PL_B2 = 0)
      || decide (rd c POLICE.PL_MODE = 1 ∧ rd c POLICE.PL_PIR < rd c POLICE.PL_CIR), .range)]

/-- The burst builder (R199, R208). -/
def bbChecks (s c : State) (off : Nat) : List (Bool × Code) :=
  let k := (off - 0x100) / 32
  if 0x100 ≤ off ∧ (off - 0x100) % 32 = 0 then
    [(decide (rd c (BB.PRED k) = 1 ∧ (rd c (BB.STAGE_CAP k) < 16 ∨ 160000 < rd c (BB.STAGE_CAP k))), .range),
     (decide (rd c (BB.PRED k) ≠ rd s (BB.PRED k)) && (stagedNow s k).isSome, .ledger)]
  else []

/-- The largest HAND_BLOCKS. -/
def maxHand (s : State) : Nat := (List.range 5).foldl (fun a k => max a (rd s (DEAL.HAND_BLOCKS k))) 0

/-- DEAL (R238). -/
def dealChecks (s c : State) (off : Nat) : List (Bool × Code) :=
  let k := (off - 0x80) / 4
  if off = 0x40 then [(decide (rd c DEAL.WDOG < 16 * (2 + 14 * maxHand s)), .range)]
  else if 0x80 ≤ off ∧ off < 0x94 then
    [(seatRange s.fuse.variant c k, .range)]
  else []

/-- A ring's block at a base: while EN is 1 a base takes no write and the size stays, so that a write of RING_CFG may clear EN; the bases
are aligned (R240, R458). -/
def ringChecks (s c : State) (en desc cpl size : Nat → Fld) (base off : Nat) : List (Bool × Code) :=
  let r := (off - base) / 32
  if base ≤ off ∧ off < base + 256 ∧ (off - base) % 32 < 0x14 then
    [(decide (rd c (desc r) % 64 ≠ 0 ∨ rd c (cpl r) % 16 ≠ 0), .range),
     (decide (rd s (en r) = 1 ∧ ((off - base) % 32 < 0x10 ∨ rd c (size r) ≠ rd s (size r))), .state)]
  else []

/-- LOOP (R271, R329). -/
def loopChecks (s c : State) (off : Nat) : List (Bool × Code) :=
  let n := (off - 0x100) / 64
  if off < 0x100 then [] else
  [(decide (Variant.usxPaths s.fuse.variant = 0 ∧ (rd c (LOOP.LOOP_SRC n) = 2 ∨ rd c (LOOP.LOOP_SRC n) = 3)) && decide (off % 64 = 0), .absent),
   (decide (4 ≤ off % 64 ∧ off % 64 < 0x14) && decide (rd c (LOOP.LOOP_ZERO n) = rd c (LOOP.LOOP_SPAN n)), .range)]

/-- RSHUNT times LIMIT_MA in nV. -/
def shuntDrop (s : State) (n : Nat) : Nat := rd s (SWCH.LIMIT_MA n) * rd s (SWCH.RSHUNT n)

/-- SWCH (R389, R391, R399, R400). -/
def swchChecks (s c : State) (off : Nat) : List (Bool × Code) :=
  let n := (off - 0x100) / 32
  let rel := (off - 0x100) % 32
  let tot := (enabled s 0x70 && limitsShort c, Code.range)
  if off = 0x44 ∨ off = 0x48 ∨ off = 0x4C ∨ off = 0x74 ∨ off = 0x78 ∨ off = 0x7C then [(!switchOff s, .state)]
  else if off = 0x50 then [tot]
  else if off = 0x54 then
    [(decide (rd c SWCH.TOTAL_LIMIT < rd c SWCH.DERATE_LIMIT)
        || decide (limitSum s ((swEnabled s).filter fun p => !phaseBad s p) < rd c SWCH.DERATE_LIMIT), .range)]
  else if off = 0x68 ∨ off = 0x6C then
    [(decide (rd c SWCH.OV_MV ≤ rd c SWCH.UV_MV ∨ rd c SWCH.WARN_MV ≤ rd c SWCH.UV_MV), .range)]
  else if off < 0x100 then []
  else if rel = 0 then [(!switchOff s, .state), tot]
  else if rel = 4 then
    [(decide (50000000 < shuntDrop c n ∨ rd c (SWCH.FAST_UV n) * 1000 ≤ shuntDrop c n), .range), tot]
  else []

/-- PWR and VREG: ordered thresholds and fences (R427, R428). -/
def powerChecks (c : State) (page off : Nat) : List (Bool × Code) :=
  let fence (lo hi : Fld) : Bool := decide (rd c hi < rd c lo ∨ rd c lo < 720 ∨ 880 < rd c hi)
  if page = 0x78 ∧ off = 0x58 then [(decide (rd c PWR.TH_CRIT < rd c PWR.TH_WARN), .range)]
  else if page = 0x79 ∧ off = 0x50 then [(fence VREG.RUN_VMIN VREG.RUN_VMAX, .range)]
  else if page = 0x79 ∧ off = 0x54 then [(fence VREG.TRIM_VMIN VREG.TRIM_VMAX, .range)]
  else if page = 0x79 ∧ off = 0x58 then [(fence VREG.LOW_VMIN VREG.LOW_VMAX, .range)]
  else []

/-- The checks that a unit chapter makes of a write that leaves the settings of c. -/
def unitChecks (p : Port) (s c : State) (page off v : Nat) : List (Bool × Code) :=
  if page = 0x02 ∧ off = 0x54 then
    [(unitAbsent s.fuse.variant (rd c LEDG.TRIG_SEL) 0, .absent), (!unitKnown (rd c LEDG.TRIG_SEL), .range)]
  else if page = 0x03 then
    (if off = 0x68 then [(decide (rd c SIDR.MAINS_MAX ≤ rd c SIDR.MAINS_MIN), .range)] else [])
  else if page = 0x08 then laneChecks s c off v
  else if page = 0x0A then frmdChecks c off
  else if page = 0x0C then pmonChecks s c off
  else if page = 0x0D then [(decide (off = 0x48 ∨ off = 0x4C) && enabled s 0x0D, .state)]
  else if page = 0x10 then tmgrChecks s c off
  else if 0x14 ≤ page ∧ page ≤ 0x17 then queueChecks s c (page - 0x14) off
  else if page = 0x18 then schedChecks s c off
  else if page = 0x1A then shapeChecks c off
  else if page = 0x1B then policeChecks c off
  else if page = 0x1D then bbChecks s c off
  else if page = 0x21 then dealChecks s c off
  else if page = 0x23 then ringChecks s c CTXQ.RING_EN CTXQ.DESC_BASE CTXQ.CPL_BASE CTXQ.RING_SIZE 0x100 off
  else if page = 0x5C then loopChecks s c off
  else if page = 0x70 then swchChecks s c off
  else if page = 0x78 ∨ page = 0x79 then powerChecks c page off
  else if page = 0x80 then
    ringChecks s c HOST.RX_EN HOST.RX_DESC_BASE HOST.RX_CPL_BASE HOST.RX_SIZE 0x200 off ++
      ringChecks s c HOST.TX_EN HOST.TX_DESC_BASE HOST.TX_CPL_BASE HOST.TX_SIZE 0x300 off
  else if page = 0x86 ∧ 0x80 ≤ off ∧ off < 0xB0 then [(flashBusy s, .busy), (flashDenied s p, .state)]
  else metroChecks s c page off v

/-! ## What follows an accepted write -/

/-- A condition of the guarantee that still fails latches its bit again, without a cause; GUARANTEE reads 1 once every bit is clear
(R56). -/
def relatch (s : State) : State :=
  let still := b2n (s.pwr.rails.any fun n => decide (4 ≤ n)) + 2 * b2n (decide (4 ≤ s.pwr.thermRun)) + 8 * b2n (s.tap || s.testEn)
  let lost := rd s LEDG.COND_LOST ||| still
  s |> wr LEDG.COND_LOST lost |> wrB LEDG.GUARANTEE (decide (lost = 0))

/-- The selected shaper takes the window's registers, in force from the next refill step (R191, R206). -/
def storeShaper (s : State) : State :=
  let (k, x) := selShaper s
  let y := { x with next := some (decide (rd s SHAPE.SH_EN = 1), rd s SHAPE.SH_CIR, rd s SHAPE.SH_CBS, rd s SHAPE.SH_PIR, rd s SHAPE.SH_PBS) }
  { s with tm := { s.tm with shapers := aset s.tm.shapers k y } }

/-- The selected policer takes the window's registers (R206). -/
def storePolicer (s : State) : State :=
  let y := { selPolicer s with
    ctl := storedWord s 0x1B 0x44, cir := rd s POLICE.PL_CIR, cbs := rd s POLICE.PL_CBS, pir := rd s POLICE.PL_PIR, b2 := rd s POLICE.PL_B2 }
  { s with tm := { s.tm with policers := aset s.tm.policers (rd s POLICE.PL_SEL) y } }

/-- A write of a weigh set's first register: a set that EN or MEMBERS changes starts anew (R283, R291). -/
def setWritten (k : Nat) (s0 s : State) : State :=
  if rd s (WGH.SET_EN k) = rd s0 (WGH.SET_EN k) ∧ rd s (WGH.MEMBERS k) = rd s0 (WGH.MEMBERS k) then s else restartSet k s

/-- A write of a channel's notch enables: a notch enabled in an enabled channel starts (R278, R300). -/
def notchesWritten (c : Nat) (s0 s : State) : State :=
  forEach ((List.range 4).filter fun j => enabled s (0x49 + c) && bit (rd s (WCH.N_EN c)) j && !bit (rd s0 (WCH.N_EN c)) j)
    (notchStart c) s

/-- A ring whose EN is set starts its first pass: PHASE is 1 (R434). -/
def newPass (n : Nat) (en : Fld) (s0 s : State) : State :=
  if rd s en = 1 ∧ rd s0 en = 0 then { s with host := { s.host with wrapped := s.host.wrapped.filter (· != n) } } else s

/-- What follows an accepted write of a register, s0 being the state before it. -/
def written (page off : Nat) (s0 s : State) : State :=
  if page = 0x02 ∧ off = 0x44 then relatch s
  else if page = 0x03 then sidrWritten s
  else if page = 0x08 ∧ off = 0x40 then
    (if rd s LANE.TX_ENABLE = rd s0 LANE.TX_ENABLE then s else txEnable (decide (rd s LANE.TX_ENABLE = 1)) s)
  else if page = 0x0A ∧ off < 0x60 then lofClear s
  else if page = 0x0A ∧ 0x100 ≤ off ∧ off < 0x140 then
    let k := (off - 0x100) / 4
    if rd s (FRMD.PATH_EN k) = rd s0 (FRMD.PATH_EN k) then s else pathEnable k s
  else if page = 0x10 ∧ off = 0x40 then clearFlat s
  else if page = 0x1A then (if off = 0x40 then s else storeShaper s)
  else if page = 0x1B then (if off = 0x40 then s else storePolicer s)
  else if page = 0x20 ∧ off = 0x40 then drainCheck s
  else if page = 0x23 ∧ 0x100 ≤ off ∧ off % 32 = 0x10 then newPass ((off - 0x100) / 32) (CTXQ.RING_EN ((off - 0x100) / 32)) s0 s
  else if page = 0x80 ∧ 0x200 ≤ off ∧ off < 0x300 ∧ off % 32 = 0x10 then newPass (8 + (off - 0x200) / 32) (HOST.RX_EN ((off - 0x200) / 32)) s0 s
  else if page = 0x80 ∧ 0x300 ≤ off ∧ off % 32 = 0x10 then newPass (16 + (off - 0x300) / 32) (HOST.TX_EN ((off - 0x300) / 32)) s0 s
  else if 0x31 ≤ page ∧ page ≤ 0x42 ∧ off = 0x40 then restartConversion (page - 0x31) s
  else if page = 0x48 ∧ 0x100 ≤ off ∧ off % 256 = 0 then setWritten ((off - 0x100) / 256) s0 s
  else if 0x49 ≤ page ∧ page ≤ 0x58 ∧ off = 0x40 then
    (if chCfg s (page - 0x49) = chCfg s0 (page - 0x49) then s else channelCfg (page - 0x49) s)
  else if 0x49 ≤ page ∧ page ≤ 0x58 ∧ off = 0x44 then deadLoadOff (page - 0x49) s
  else if 0x49 ≤ page ∧ page ≤ 0x58 ∧ off = 0x50 then notchesWritten (page - 0x49) s0 s
  else if page = 0x5B ∧ 0x100 ≤ off ∧ off < 0x300 ∧ off % 128 = 0 then
    let p := (off - 0x100) / 128
    if rd s (USP.P_EN p) = rd s0 (USP.P_EN p) then s else pathClear p s
  else if page = 0x5C ∧ 0x100 ≤ off ∧ off % 64 = 0 then loopEnable ((off - 0x100) / 64) s
  else if page = 0x5C ∧ 0x100 ≤ off ∧ off % 64 = 0x18 then
    let n := (off - 0x100) / 64
    if rd s (LOOP.LOOP_SRC n) = 0 then loopTrigger .cmd n s else s
  else if page = 0x68 ∧ off = 0x2C0 then showRecord s
  else s

/-! ## Plain writes (R12, R75, R76, R83) -/

/-- The bits of a word that may be written as 1: those its rows define, less SUMMARY bits 30:26 in the masks (R101). -/
def allowedBits (page off : Nat) : Nat :=
  if page = 0x01 ∧ (off = 0x44 ∨ off = 0x48) then 0x83FFFFFF else definedBits (wordRows page (rowsOff page off))

end Sys2Proof.Machine

namespace Sys2Proof

/-- A row takes the written value at once. -/
def RegTy.direct : RegTy → Bool
  | .rw | .slrw | .rws | .wo => true
  | _ => false

/-- A row that a candidate state takes: every row but RO, W1C and SL ones. -/
def RegTy.candidate : RegTy → Bool
  | .rw | .slrw | .rws | .wo | .tk | .rwc => true
  | _ => false

end Sys2Proof

namespace Sys2Proof.Machine

/-- The window registers of the shaper and policer pages are those of the selection (R206). -/
def loadSelection (page : Nat) (s : State) : State :=
  if page = 0x1A then forEach (shaperFields s) (fun x => wr x.1 x.2) s
  else if page = 0x1B then forEach (policerFields s) (fun x => wr x.1 x.2) s
  else s

/-- A pending TK write of a field stands behind the earlier ones, which it replaces (R75). -/
def tkWrite (f : Fld) (v : Nat) (s : State) : State :=
  { s with fab := { s.fab with tkPend := s.fab.tkPend.filter (fun e => decide (e.1.key ≠ f.key ∨ e.2.2 ≠ s.time.cycle)) ++ [(f, v, s.time.cycle)] } }

/-- An RWC write enters the page's group (R76). -/
def rwcWrite (p : Port) (page : Nat) (f : Fld) (v : Nat) (s : State) : State :=
  let g := (rwcOf s page).getD { page := page, by_ := p }
  let g := { g with fields := g.fields.filter (fun e => decide (e.1.key ≠ f.key)) ++ [(f, v)] }
  { s with fab := { s.fab with rwc := g :: s.fab.rwc.filter fun x => x.page != page } }

/-- A port wrote a field in this cycle: a counter does not count in it (R82). -/
def wrote (f : Fld) (s : State) : State := { s with fab := { s.fab with wroteNow := f.key :: s.fab.wroteNow } }

/-- The effect of an accepted write on one row. -/
def rowWrite (p : Port) (page v : Nat) (x : Row × Fld) (s : State) : State :=
  let new := x.1.merge (rd s x.2) (x.1.take v)
  match x.1.ty with
  | .w1c => w1c x.2 (x.1.take v) s
  | .tk => tkWrite x.2 new s
  | .rwc => rwcWrite p page x.2 new s
  | t => if t.direct then wrote x.2 (wr x.2 new s) else s

/-- An RO row is written with a value other than the one read (R12). -/
def roDiffers (p : Port) (s : State) (page off v : Nat) : Bool :=
  let shows := readBy p page off s
  (wordRows page (rowsOff page off)).any fun x => x.1.ty == .ro && decide (x.1.take v ≠ x.1.take shows)

/-- The RWC group of the page is armed and the word holds an RWC field (R76). -/
def rwcArmed (s : State) (page off : Nat) : Bool :=
  (wordRows page off).any (fun x => x.1.ty == .rwc) && match rwcOf s page with | some g => g.armed | none => false

/-- The checks of a plain write that leaves the settings of c. -/
def plainChecks (p : Port) (s c : State) (page off v : Nat) : List (Bool × Code) :=
  [(rwcArmed s page off, .busy), (decide ((v ^^^ readWord s page off) &&& sealedBits s page off ≠ 0), .sealed), (unfitted s page off || decide (v &&& unfittedBits s page off ≠ 0), .absent),
   (decide (clearBits v (allowedBits page off) ≠ 0), .reserved), (roDiffers p s page off v || outOfRange page off v, .range)]
    ++ unitChecks p s c page off v

/-- A write of a register that starts no command and is no part of a pair. -/
def plainWrite (p : Port) (page off v : Nat) (s : State) : State :=
  let s := loadSelection page s
  guarded p page off (plainChecks p s (setRows (fun x => x.ty.candidate) page off v s) page off v)
    (fun s => written page off s (forEach (wordRows page (rowsOff page off)) (rowWrite p page v) s)) s

/-! ## Pairs (R72) -/

/-- The LO register of a writable pair. -/
def pairLoAt (page off : Nat) : Bool :=
  (wordRows page off).any (fun x => x.1.word == 1 && (x.1.ty == .rw || x.1.ty == .slrw))
    || decide (page = 0x22 ∧ 0x100 ≤ off ∧ off < 0x180 ∧ off % 8 = 0)

/-- The HI register of a writable pair. -/
def pairHiAt (page off : Nat) : Bool :=
  (wordRows page off).any (fun x => x.1.word == 2 && (x.1.ty == .rw || x.1.ty == .slrw))
    || decide (page = 0x22 ∧ 0x100 ≤ off ∧ off < 0x180 ∧ off % 8 = 4)

/-- The held LO write of a port. -/
def heldLoOf (s : State) (p : Port) (addr : Nat) : Option Nat :=
  (s.fab.heldLo.find? fun h => decide (h.1 = p ∧ h.2.1 = addr)).map fun h => h.2.2

/-- Discard a port's held LO write. -/
def dropLo (p : Port) (addr : Nat) (s : State) : State :=
  { s with fab := { s.fab with heldLo := s.fab.heldLo.filter fun h => !decide (h.1 = p ∧ h.2.1 = addr) } }

/-- A LO write is held apart for its port, in place of an earlier one; SERIAL accepts none while ENABLE is 1 (R72, R172). -/
def pairLo (p : Port) (page off v : Nat) (s : State) : State :=
  let addr := page * 0x1000 + off
  guarded p page off [(unfitted s page off, .absent), (decide (page = 0x0D) && enabled s 0x0D, .state)]
    (fun s => let s := dropLo p addr s
      { s with fab := { s.fab with heldLo := (p, addr, v % 2 ^ 32) :: s.fab.heldLo } }) s

/-- The state in which the field of a HI register holds both words. -/
def setPair (page off lo hi : Nat) (s : State) : State :=
  forEach ((wordRows page off).filter fun x => x.1.word == 2) (fun x => wr x.2 (x.1.take hi * 2 ^ 32 + lo)) s

/-- The field of a HI register would change from the value it holds. -/
def pairDiffers (s : State) (page off lo hi : Nat) : Bool :=
  (wordRows page off).any fun x => x.1.word == 2 && decide (x.1.take hi * 2 ^ 32 + lo ≠ rd s x.2)

/-- The HI write checks and applies the pair as one write; without a held LO it is refused with ORDER, and a refusal discards the held LO
(R72). -/
def pairHi (p : Port) (page off v : Nat) (s : State) : State :=
  let held := heldLoOf s p (page * 0x1000 + off - 4)
  let lo := held.getD 0
  let s := dropLo p (page * 0x1000 + off - 4) s
  if page = 0x22 then
    (if held.isNone then guarded p page off [(decide (rd s (KEYS.UPSW_PEND ((off - 0x104) / 8)) = 1), .busy), (true, .order)] id s
     else upswCmd p ((off - 0x104) / 8) lo v s)
  else
    guarded p page off
      ([(decide (sealedBits s page off ≠ 0) && pairDiffers s page off lo v, .sealed), (unfitted s page off, .absent),
        (decide (clearBits v (allowedBits page off) ≠ 0), .reserved), (held.isNone, .order)]
        ++ (if held.isSome then unitChecks p s (setPair page off lo v s) page off v else []))
      (fun s => written page off s (setPair page off lo v s)) s

/-! ## RWC groups (R76, R77) -/

/-- The settings in force with the pending fields of a group. -/
def withGroup (g : RwcGroup) (s : State) : State := forEach g.fields (fun x => wr x.1 x.2) s

/-- The words that a group's fields lie in. -/
def groupWords (g : RwcGroup) : List Nat := (g.fields.map fun x => x.1.addr % 4096).eraseDups

/-- The cross-field checks of a group: the checks of the page's rules on the settings in force with the group. -/
def groupCode (p : Port) (s : State) (g : RwcGroup) : Option Code :=
  let c := withGroup g s
  worst ((groupWords g).flatMap fun off =>
    (outOfRange g.page off (storedWord c g.page off), Code.range) :: unitChecks p s c g.page off (storedWord c g.page off))

/-- A TICK_COMMIT write: COMMIT arms the group, DISCARD empties it (R73, R76). -/
def tickCommit (p : Port) (page v : Nat) (s : State) : State :=
  let g := (rwcOf s page).getD { page := page, by_ := p }
  let commit := bit v 0
  let discard := bit v 1
  let ck := if commit && !g.armed then (groupCode p s g).toList.map fun c => (true, c) else []
  guarded p page 0x01C
    ([(discard && g.armed, .busy), (decide (bits v 15 2 ≠ 0), .reserved),
      (decide (bits v 31 16 ≠ rd s (HDR.GROUP_SEQ page)) || (commit && discard), .range), (commit && g.fields.isEmpty, .state)] ++ ck)
    (fun s =>
      let others := s.fab.rwc.filter fun x => x.page != page
      if discard then { s with fab := { s.fab with rwc := others } }
      else if commit && !g.armed then { s with fab := { s.fab with rwc := { g with armed := true, by_ := p, at_ := s.time.cycle } :: others } }
      else s) s

/-- A TK write of a lane's fences: the parameters outside them move to the nearer bound (R119). -/
def laneFence (e : Fld × Nat × Nat) : Bool := decide (e.1.page = 0x08 ∧ 0x100 ≤ e.1.off ∧ e.1.off < 0x1C0)

/-- The TK writes accepted before this cycle take effect, in the order of their acceptance (R16, R75, R119). -/
def applyDue (s : State) : State :=
  let due := s.fab.tkPend.filter fun e => decide (e.2.2 < s.time.cycle)
  let s := { s with fab := { s.fab with tkPend := s.fab.tkPend.filter fun e => !decide (e.2.2 < s.time.cycle) } }
  let s := forEach due (fun e => wr e.1 e.2.1) s
  if due.any laneFence then forEach (List.range 3) laneClamp s else s

/-- The recheck and application of an armed group in the commit cycle (R77). -/
def groupApply (page : Nat) (s : State) : State :=
  match rwcOf s page with
  | some g =>
    if g.armed = true ∧ g.at_ < s.time.cycle then
      let others := s.fab.rwc.filter fun x => x.page != page
      match groupCode g.by_ s g with
      | some c => refuse g.by_ page 0x01C c { s with fab := { s.fab with rwc := { g with armed := false } :: others } }
      | none => withGroup g (inc (HDR.GROUP_SEQ page) { s with fab := { s.fab with rwc := others } })
    else s
  | none => s

/-! ## Command registers -/

/-- A command register with an OP that the register does not define (R518). -/
def badOp (p : Port) (page off : Nat) (busy : Bool) (s : State) : State :=
  guarded p page off [(busy, .busy), (true, .range)] id s

/-- A WO bit that starts its command when written as 1; a 0 starts nothing. -/
def trigger (p : Port) (page off v : Nat) (act : State → State) (s : State) : State :=
  if bit v 0 then act s else guarded p page off [] id s

/-- The write carries OP 0, which names no command: the write is ignored, whatever its other bits hold (R518, log 50). -/
def opZero (page off v : Nat) : Bool :=
  if page = 0x02 then v % 8 == 0
  else if page = 0x05 ∨ page = 0x12 ∨ page = 0x22 then v % 4 == 0
  else if page = 0x90 then off == 0x70 && bits v 31 28 == 0
  else if page = 0x0C ∨ (page = 0x0D ∧ off = 0xB4) ∨ page = 0x85 ∨ (page = 0x86 ∧ off ≠ 0x58) ∨ page = 0xF0 ∨ (page = 0x78 ∧ off ≠ 0x44) then false
  else v % 16 == 0

/-- A write with 1 in a reserved bit of a command register: ignored with OP 0; else the command's own refusal where its check stands
before RESERVED in R85, else RESERVED. -/
def orReserved (p : Port) (page off v : Nat) (act : State → State) (s : State) : State :=
  if opZero page off v || decide (clearBits v (allowedBits page off) = 0) then act s else
  let t := act s
  if rd t SYS.REFUSAL_COUNT ≠ rd s SYS.REFUSAL_COUNT ∧ [3, 4, 5, 6, 14].contains (rd t (HDR.REF_CODE page)) = true then t
  else refuseWrite p page off .reserved s

/-- LANE_CMD (R126). -/
def laneOp (p : Port) (v : Nat) (x : Outside) (s : State) : State :=
  let n := bits v 10 8
  match bits v 3 0 with
  | 0 => s
  | 1 => retrainCmd p n x.selfOk s
  | 2 => holdCmd p n s
  | 3 => releaseLaneCmd p n s
  | 4 => txSwapCmd p n s
  | 5 => txfltClearCmd p n x.pin s
  | _ => badOp p 0x08 0x48 (cmdBusy s laneCmdAddr || decide (rd s LANE.CMD_BUSY = 1)) s

/-- A LEDG_CMD whose DOMAIN is above 8 is refused with RANGE, after the checks that come before it (R67, R85). -/
def ledgDomain (d : Nat) (act : State → State) (before : List (Bool × Code)) (p : Port) (s : State) : State :=
  if d ≤ 8 then act s else guarded p 0x02 0x40 (before ++ [(true, .range)]) id s

/-- LEDG_CMD (R67). -/
def ledgOp (p : Port) (v : Nat) (s : State) : State :=
  match bits v 2 0 with
  | 0 => s
  | 1 => ledgDomain (bits v 11 8) (snapshotCmd (.fabric p)) [(snapshotTaken s, .busy)] p s
  | 2 => ledgDomain (bits v 11 8) (releaseCmd (.fabric p)) [(notOwner (.fabric p) s, .locked)] p s
  | 3 => clearBreakCmd p (bits v 11 8) s
  | _ => badOp p 0x02 0x40 false s

/-- W_CMD of an ALMANAC window (R53). -/
def almOp (p : Port) (v : Nat) (s : State) : State :=
  match bits v 1 0 with
  | 0 => s
  | 1 => almanacInstall p s
  | 2 => almanacRemove p s
  | _ => almanacRead p s

/-- W_CMD of a classifier window (R202). -/
def clsOp (p : Port) (v : Nat) (s : State) : State :=
  match bits v 1 0 with
  | 0 => s
  | 1 => clsInstallCmd p s
  | 2 => clsRemoveCmd p s
  | _ => clsReadCmd p s

/-- ACTV_CMD (R172, R173). -/
def actvOp (p : Port) (v : Nat) (x : Outside) (s : State) : State :=
  match bits v 3 0 with
  | 0 => s
  | 1 => goOperationCmd p s
  | 2 => clearLockoutCmd p x.pad s
  | 3 => rejoinCmd p s
  | _ => badOp p 0x0D 0x7C (cmdBusy s actvCmdAddr) s

/-- TM_CMD (R200). -/
def tmOp (p : Port) (v : Nat) (s : State) : State :=
  match bits v 3 0 with
  | 0 => s
  | 1 => tmResetCmd p s
  | 2 => flushQueueCmd p (bits v 25 16) s
  | _ => badOp p 0x10 0x54 (cmdBusy s tmCmdAddr) s

/-- KEY_CMD (R239). -/
def keyOp (p : Port) (v : Nat) (s : State) : State :=
  match bits v 1 0 with
  | 0 => s
  | 1 => keyImportCmd p s
  | 2 => keyEraseCmd p s
  | _ => badOp p 0x22 0x78 (cmdBusy s keyCmdAddr) s

/-- SWAP_CMD is SL: a port's write that names an operation is refused with SEALED (R263, R269). -/
def swapOp (p : Port) (v : Nat) (s : State) : State :=
  if bits v 31 30 = 0 then s else guarded p 0x30 0x1D0 [(s.afe.takeover.isSome, .busy), (true, .sealed)] id s

/-- SW_CMD (R399, R400). -/
def swOp (p : Port) (v : Nat) (s : State) : State :=
  match bits v 3 0 with
  | 0 => s
  | 1 => clearLatch p s
  | 2 => phaseClear p (bits v 9 8) s
  | _ => badOp p 0x70 0x80 (cmdBusy s swCmdAddr) s

/-- PWR_CMD (R408, R427). -/
def pwrOp (p : Port) (v : Nat) (s : State) : State :=
  match bits v 3 0 with
  | 0 => s
  | 1 => powerRequest p (bits v 10 8) s
  | 2 => ctlClk p s
  | _ => guarded p 0x78 0x44 [(decide (p ≠ .stc), .locked), (powerBusy s, .busy), (true, .range)] id s

/-- A command register, or a register whose write is a command of its own: what a write does, none for any other register. -/
def command (p : Port) (page off v : Nat) (x : Outside) : Option (State → State) :=
  let rsv (act : State → State) : Option (State → State) := some (orReserved p page off v act)
  let trig (act : State → State) : Option (State → State) := some (orReserved p page off v (trigger p page off v act))
  if page = 0x02 then (if off = 0x40 then rsv (ledgOp p v) else none)
  else if page = 0x03 then (if off = 0x4C then some (advanceCmd p v) else none)
  else if page = 0x05 then (if off % 64 = 0x1C then rsv (almOp p v) else none)
  else if page = 0x08 then (if off = 0x48 then rsv (laneOp p v x) else none)
  else if page = 0x0C then (if off = 0x48 then trig (clearHistoryCmd p) else if off = 0x80 then some (binSelCmd p v) else none)
  else if page = 0x0D then (if off = 0x7C then rsv (actvOp p v x) else if off = 0xB4 then trig (upmsgSendCmd p) else none)
  else if page = 0x10 then (if off = 0x54 then rsv (tmOp p v) else none)
  else if page = 0x12 then (if off % 64 = 0x10 then rsv (clsOp p v) else none)
  else if page = 0x1C then (if off = 0x48 then some (telSelCmd p v) else none)
  else if page = 0x22 then (if off = 0x78 then rsv (keyOp p v) else none)
  else if page = 0x30 then
    (if 0x40 ≤ off ∧ off < 0xC0 then some (pinCfg (.fabric p) ((off - 0x40) / 4) v)
     else if 0xC0 ≤ off ∧ off < 0xE0 then some (excCfg (.fabric p) ((off - 0xC0) / 4) v)
     else if off = 0x140 then some (afeCmd (.fabric p) v) else if off = 0x1D0 then some (swapOp p v) else none)
  else if page = 0x48 then
    (if 0x100 ≤ off ∧ off < 0x900 ∧ off % 256 = 0x58 then
       rsv (fun s => if bits v 3 0 = 0 then s else setCmd p ((off - 0x100) / 256) (bits v 3 0) s) else none)
  else if 0x49 ≤ page ∧ page ≤ 0x58 then
    (if off = 0x60 then
       some (fun s => if bits v 15 0 = 0 then s
         else if bits v 15 0 = 1 then wchConvertCmd p (page - 0x49) (bits v 31 16) s
         else guarded p page off [(cmdBusy s (page * 0x1000 + 0x60), .busy), (channelLegal s (page - 0x49), .sealed), (true, .range)] id s)
     else none)
  else if page = 0x5A then
    (if off = 0x100 then rsv (fun s => if bits v 3 0 = 0 then s else usxCmd p (bits v 3 0) (bits v 24 16) s) else none)
  else if page = 0x61 then (if off = 0x80 then some (readPosCmd p v) else none)
  else if page = 0x70 then (if off = 0x80 then rsv (swOp p v) else none)
  else if page = 0x78 then
    (if off = 0x44 then rsv (pwrOp p v) else if off = 0x4C then trig (hostWake p) else if off = 0xA0 then trig (wakePop p) else none)
  else if page = 0x79 then (if off = 0x40 then some (vregCtl p v x.mode) else none)
  else if page = 0x80 then (if off = 0x180 then some (vecRearmCmd p v) else none)
  else if page = 0x85 then (if off = 0x6C then trig (twcGo p) else none)
  else if page = 0x86 then
    (if off = 0x58 then rsv (fun s => match bits v 3 0 with
        | 0 => s
        | 1 => restartCmd p (bits v 8 8) s
        | _ => badOp p 0x86 0x58 false s)
     else if off = 0x5C then trig (stcKick p) else if off = 0xB0 then trig (flGo p) else none)
  else if page = 0x90 then
    (if off = 0x6C then trig (recPopCmd p)
     else if off = 0x70 then
       rsv (fun s => if bits v 31 28 = 0 then s else rprCmd p (bits v 31 28) (bits v 27 24, bits v 23 20, bits v 15 4) x.cell s)
     else none)
  else if page = 0xF0 then
    (if 0x100 ≤ off ∧ off < 0x400 ∧ off % 256 = 0x44 then trig (reqPost p ((off - 0x100) / 256))
     else if 0x100 ≤ off ∧ off < 0x400 ∧ off % 256 = 0xC4 then trig (rspAck p ((off - 0x100) / 256))
     else if off = 0x644 then trig (outPost p) else if off = 0x708 then some (evtPost p v) else if off = 0x71C then trig (evtPop p)
     else if off = 0x74C then trig (oevPop p) else none)
  else none

/-! ## One 32-bit write -/

/-- A write of the common header (R73). -/
def headerWrite (p : Port) (page off v : Nat) (s : State) : State :=
  if off = 0x04 then pageCtl p page v s
  else if off = 0x10 then causeClear p page v s
  else if off = 0x14 then causeMask p page v s
  else if off = 0x18 then causeForce p page v s
  else if off = 0x1C then tickCommit p page v s
  else
    let rsv := if off = 0x08 then 0x07FF0000 else 0
    guarded p page off [(decide (v &&& rsv ≠ 0), .reserved), (decide (v ≠ readBy p page off s), .range)] id s

/-- The effect of a write whose page, offset and lock passed their checks. -/
def routeWrite (p : Port) (page off v : Nat) (x : Outside) (s : State) : State :=
  if off < 0x20 then headerWrite p page off v s else
  match subWord page off 0xE00, subWord page off 0xE80, subWord page off 0xF00 with
  | some w, _, _ => subClear p page w v s
  | _, some w, _ => subMask p page w v s
  | _, _, some w => subForce p page w v s
  | _, _, _ =>
    match command p page off v x with
    | some act => if unfitted s page off then refuseWrite p page off .absent s else act s
    | none => if pairHiAt page off then pairHi p page off v s else if pairLoAt page off then pairLo p page off v s else plainWrite p page off v s

/-- A 32-bit write of a fabric port (R83): refused in full, or applied. A refused HI write discards the held LO (R72). -/
def fabricWrite (p : Port) (page off v : Nat) (x : Outside) (s : State) : State :=
  match firstFail (gate s p page off) with
  | some c => refuseWrite p page off c (if pairHiAt page off then dropLo p (page * 0x1000 + off - 4) s else s)
  | none => routeWrite p page off v x s

/-- A write of a size or alignment that R71 does not allow: ABSENT and RESERVED stand before WIDTH. A refused write of a HI word
discards the held LO (R72). -/
def badWidth (p : Port) (page off : Nat) (s : State) : State :=
  let w := off / 4 * 4
  let s := if pairHiAt page w then dropLo p (page * 0x1000 + w - 4) s else s
  refuseAt p page off w (((firstFail [(Variant.pageAbsent s.fuse.variant page, .absent),
    (!pageAssigned page || !assigned page w, .reserved)])).getD .width) s

/-- A write of the LGC by its own path (R19). -/
def lgcWrite : LgcWrite → State → State
  | .pinCfg pin v => if pin < 32 then pinCfg .lgc pin v else id
  | .excCfg pair v => if pair < 8 then excCfg .lgc pair v else id
  | .afe v => afeCmd .lgc v
  | .shadow x a => shadowCmd .lgc x a
  | .release x => releaseShadowCmd .lgc x
  | .takeover x a r => takeoverCmd .lgc x a r

/-- The LGC's write of a cycle, before the port's write of it (R19, R71). -/
def secondFirst (x : Outside) (s : State) : State :=
  match x.second with
  | some w => lgcWrite w s
  | none => s

/-- A write of any size (R71): 8 aligned bytes of PCIe are two 32-bit writes in consecutive cycles, the LGC's write of the second cycle
between them. -/
def writeAny (p : Port) (addr size v : Nat) (x : Outside) (s : State) : State :=
  let page := addr / 4096
  let off := addr % 4096
  if size = 4 ∧ addr % 4 = 0 then fabricWrite p page off (v % 2 ^ 32) x s
  else if size = 8 ∧ addr % 8 = 0 ∧ p = .pcie then
    let s := fabricWrite p page off (v % 2 ^ 32) x s
    fabricWrite p page (off + 4) (v / 2 ^ 32 % 2 ^ 32) x
      (secondFirst x (metBy (.writer (.fabric p)) (s.time.cycle + 1) s))
  else badWidth p page off s

/-! ## The rows -/

/-- REGISTER_WRITE. -/
def execRegisterWrite (t : Nat) (p : Port) (addr size v : Nat) (x : Outside) (s : State) : Out :=
  evPort p t s (writeAny p (addr % 2 ^ 20) size v x)

/-- A read of size bytes from a byte address is answered from the words that contain them, in rising order (R71). -/
def readWords (p : Port) (addr size : Nat) (s : State) : State :=
  forEach ((List.range ((addr % 4 + size + 3) / 4)).map fun k => (addr / 4 * 4 + 4 * k) % 2 ^ 20)
    (fun a => readAct p (a / 4096) (a % 4096)) s

/-- LATCHING_READ: a read by a port. -/
def execLatchingRead (t : Nat) (p : Port) (b : Span) (s : State) : Out := evBy .read t s (readWords p b.addr b.size)

/-- A 32-bit write of a row that names its register: the checks of the page, and then the row's effect. -/
def namedWrite (p : Port) (page off : Nat) (act : State → State) (s : State) : State :=
  match firstFail (gate s p page off) with
  | some c => refuseWrite p page off c s
  | none => act s

/-- PAIR_LO_WRITE: nothing where the offset is no LO register of a writable pair. -/
def execPairLoWrite (t : Nat) (p : Port) (page off v : Nat) (s : State) : Out :=
  evPort p t s fun s => if pairLoAt page off then namedWrite p page off (pairLo p page off v) s else s

/-- PAIR_HI_WRITE: nothing where the offset is no HI register of a writable pair. -/
def execPairHiWrite (t : Nat) (p : Port) (page off v : Nat) (s : State) : Out :=
  evPort p t s fun s => if pairHiAt page off then fabricWrite p page off v {} s else s

/-- PAGE_LOCK: a PAGE_CTL write. -/
def execPageLock (t : Nat) (p : Port) (page v : Nat) (s : State) : Out :=
  evPort p t s (namedWrite p page 0x004 (pageCtl p page v))

/-- TICK_COMMIT: a write with COMMIT 1. -/
def execTickCommit (t : Nat) (p : Port) (page v : Nat) (s : State) : Out :=
  evPort p t s fun s => if bit v 0 then namedWrite p page 0x01C (tickCommit p page v) s else s

/-- TICK_DISCARD: a write with DISCARD 1. -/
def execTickDiscard (t : Nat) (p : Port) (page v : Nat) (s : State) : Out :=
  evPort p t s fun s => if bit v 1 then namedWrite p page 0x01C (tickCommit p page v) s else s

/-- RWC_GROUP_APPLY: due in the commit cycle, a step tick included, for an armed group (R77). -/
def execRwcGroupApply (t : Nat) (page : Nat) (s : State) : Out :=
  ev t s fun s => if onTick s || s.sidr.stepTick then groupApply page (applyDue s) else s

/-- CAUSE_CLEAR: a write of CAUSE or of a SUB_CAUSE word. -/
def execCauseClear (t : Nat) (p : Port) (page off v : Nat) (s : State) : Out :=
  evPort p t s fun s =>
    if off = 0x10 then namedWrite p page off (causeClear p page v) s
    else match subWord page off 0xE00 with
      | some w => namedWrite p page off (subClear p page w v) s
      | none => s

/-- CAUSE_FORCE. -/
def execCauseForce (t : Nat) (p : Port) (page v : Nat) (s : State) : Out :=
  evPort p t s (namedWrite p page 0x018 (causeForce p page v))

/-- SUB_FORCE of a word of the page's group. -/
def execSubForce (t : Nat) (p : Port) (page word v : Nat) (s : State) : Out :=
  evPort p t s fun s => if word < subWords page then namedWrite p page (0xF00 + 4 * word) (subForce p page word v) s else s

/-- HOST_HI_WRITE of a loop (R268). -/
def execHostHiWrite (t : Nat) (p : Port) (n v : Nat) (s : State) : Out :=
  evPort p t s fun s => if n < 2 then fabricWrite p 0x5C (0x118 + 64 * n) v {} s else s

/-! ## The hold-off of the pin (R95) -/

/-- The hold-offs whose 400 phase steps have passed end; a condition that holds then drives the line in this cycle (R95, R96). -/
def holdoffEnd (s : State) : State :=
  let s := if rd s ATTN.HOLDOFF = 1 ∧ s.attn.holdEnd ≤ s.time.cycle then attnPin s.time.cycle (wr ATTN.HOLDOFF 0 s) else s
  if s.attn.stcHold = true ∧ s.attn.stcHoldEnd ≤ s.time.cycle then
    attnStc s.time.cycle { s with attn := { s.attn with stcHold := false } }
  else s

/-- HOLDOFF_END, with the level that other devices leave at the ball of ATTN_N from here on (R96). -/
def execHoldoffEnd (e : PinAt) (s : State) : Out :=
  ev e.t s fun s => holdoffEnd { s with attn := { s.attn with extLow := !e.high } }

end Sys2Proof.Machine
end

