-- ==== Sys2Proof/Machine/KeyControl.lean ====
section
/-! DEFINITION. What the STC does with the messages it is delivered (R168): a KEY_CONTROL message becomes writes to the KEYS page, the drain that
an upstream load needs, and the Almanac entry of an OAM activation (R221, R222, R225); a PRICE or CREDIT message goes to the LGC through the
STC's window, and a staged price gets its Almanac entry (R368, R369). When the STC does it is open: here one message in a commit cycle, while
the STC runs (log 219). -/
namespace Sys2Proof.Machine

/-- The slot that a load names: downstream path and phase, upstream container and phase, or OAM set and key (R214, R225). -/
def loadSlot (op target : Nat) : Nat :=
  if op = 1 then 2 * (target / 16) + target % 2 else if op = 2 then 32 + 2 * (target / 16) + target % 2
  else 64 + 2 * (target % 2) + target / 2 % 2

/-- A load: SALT and the wrapped AES-128 key, imported under slot 70 (R216, R225). -/
def stcLoad (m : List Nat) (s : State) : State :=
  let data (k : Nat) : Nat := le (slice m (10 + 4 * k) 4)
  let s := stcWrite 0x22 0x40 (wr KEYS.IMP_SLOT (loadSlot (m.getD 4 0) (m.getD 5 0))) s
  let s := stcWrite 0x22 0x44 (fun s => s |> wr KEYS.IMP_CLEAR 0 |> wr KEYS.IMP_SECRET 1 |> wr KEYS.IMP_KEYLEN 0 |> wr KEYS.IMP_KEK 70
    |> wr KEYS.IMP_LEN 24) s
  let s := stcWrite 0x22 0x48 (wr KEYS.IMP_SALT (be (slice m 6 4))) s
  keyImportCmd .stc (forEach (List.range 6) (fun k => stcWrite 0x22 (0x50 + 4 * k) (wr (KEYS.IMP_DATA k) (data k))) s)

/-- SWITCH_UP arms the upstream phase switch of a container (R221, R225). -/
def stcSwitchUp (m : List Nat) (s : State) : State :=
  let target := m.getD 5 0
  let frame := be (slice m 6 6)
  let act := rd s (KEYS.UPSW_ACT_PHASE (target / 16))
  upswCmd .stc (target / 16) (frame % 2 ^ 32) (2 ^ 31 + target % 2 * 2 ^ 30 + act * 2 ^ 29 + frame / 2 ^ 32) s

/-- The highest index of the fabric's entries that is empty, 255 where none is (log 219). -/
def freeIndex (s : State) : Nat := (((List.range 192).map fun k => 255 - k).find? fun i => (entryAt s i).isNone).getD 255

/-- A one-shot entry that the STC installs for the start of a frame: action 1 of a unit (R41, R42, R224, R368). -/
def activation (unit arg frame : Nat) : AEntry :=
  { target := frame * 65536, unit := unit, action := 1, arg := arg, cond := 15, period := 0, offset := 0, wall := false, late := true
    protect := false, owner := 0, lastFire := none, lastWall := none, missed := 0, fires := 0 }

/-- The STC installs an entry through its Almanac window (R48). -/
def stcInstall (e : AEntry) (s : State) : State :=
  let i := freeIndex s
  almanacInstall .stc (stcWrite 0x05 0x80 (fun s => loadWindow 1 i e s |> wr (ALM.W_INDEX 1) i) s)

/-- ACTIVATE_OAM: the STC installs an entry for the frame (R48, R224, R225). -/
def stcActivate (m : List Nat) (s : State) : State := stcInstall (activation 0x22 (m.getD 5 0 % 2) (be (slice m 6 6))) s

/-- LOAD_UP follows the procedure of R222: drain, import, and release the drain; the message waits until the drain is over. -/
def stcLoadUp (m : List Nat) (s : State) : State :=
  let todo := s.stc.keyTodo.drop 1
  if rd s DECK.UP_DRAIN = 0 then stcWrite 0x20 0x40 (fun s => drainCheck (wr DECK.UP_DRAIN 1 s)) s
  else if s.led.nonceOpen ≠ 0 then s
  else
    let s := stcWrite 0x20 0x40 (fun s => drainCheck (wr DECK.UP_DRAIN 0 s)) (stcLoad m s)
    { s with stc := { s.stc with keyTodo := todo } }

/-- A KEY_CONTROL message is carried out; an OP that R225 does not list has no effect (log 219). -/
def keyControl (m : List Nat) (s : State) : State :=
  let op := m.getD 4 0
  if op = 2 then stcLoadUp m s
  else
    let s := { s with stc := { s.stc with keyTodo := s.stc.keyTodo.drop 1 } }
    if op = 1 ∨ op = 4 then stcLoad m s
    else if op = 3 then stcSwitchUp m s
    else if op = 5 then stcActivate m s
    else s

/-! ## Messages for the LGC (R168, R368, R369) -/

/-- A PRICE or CREDIT message goes to the LGC through the STC's window, once no request of the window is outstanding; TAG is the STC's
(R168, R453). -/
def stcCarry (code : Nat) (m : List Nat) (s : State) : State :=
  if rd s (MBOX.RSP_OUT 1) = 1 then s else
  let tag := Config.stcSeq s.stc.draws
  let s := stcWrite 0xF0 (windowOff 1 0) (fun s => s |> wr (MBOX.REQ_DEST 1) 1 |> wr (MBOX.REQ_TAG 1) tag |> wr (MBOX.REQ_CODE 1) code
    |> wr (MBOX.REQ_LEN 1) 36) { s with stc := { s.stc with draws := s.stc.draws + 1 } }
  let s := forEach (List.range 9) (fun k => stcWrite 0xF0 (windowOff 1 (4 + 4 * k)) (wr (MBOX.REQ_DATA 1 k) (le (slice m (4 * k) 4)))) s
  let s := reqPost .stc 1 s
  if rd s (MBOX.RSP_OUT 1) = 1 then
    { s with stc := { s.stc with carry := some (code, be (slice m 20 6)), keyTodo := s.stc.keyTodo.drop 1 } }
  else s

/-- The answer to a message that the STC carried: it acknowledges it, and installs the activation of a staged price (R368). -/
def stcAnswered (code frame : Nat) (s : State) : State :=
  if rd s (MBOX.RSP_VALID 1) = 0 then s else
  let ok := decide (code = 0x89 ∧ rd s (MBOX.RSP_STATUS 1) = 0)
  let s := rspAck .stc 1 { s with stc := { s.stc with carry := none } }
  if ok then stcInstall (activation 0x68 0 frame) s else s

/-- The STC acts on the answer that it waits for, or on the first message delivered to it. -/
def keyTick (s : State) : State :=
  if !stcRuns s then s else
  match s.stc.carry, s.stc.keyTodo with
  | some (code, frame), _ => stcAnswered code frame s
  | none, m :: _ =>
    if m.getD 2 0 = 0x12 then stcCarry 0x89 m s else if m.getD 2 0 = 0x13 then stcCarry 0x88 m s else keyControl m s
  | none, [] => s

end Sys2Proof.Machine
end

