-- ==== Sys2Proof/Machine/Tick.lean ====
section
/-! DEFINITION. The commit cycle (R15 to R17, R57, R58, R75, R77, R80, R198, R367): the TK writes that are due, the slow-plane work of
the tick in its order, and the ledger checks at its end. -/
namespace Sys2Proof.Machine

/-! ## Leases (R80) -/

/-- The lease of a locked page has ended: LOCK_LEASE ticks without an accepted write from its owner. -/
def leaseEnded (s : State) (page : Nat) : Bool :=
  decide (rd s (HDR.OWNER page) ≠ 0 ∧ rd s SYS.LOCK_LEASE ≠ 0) &&
    s.fab.leases.any fun e => decide (e.1 = page ∧ e.2 + rd s SYS.LOCK_LEASE ≤ s.time.ticks)

/-- The lock of a page expires: LOCK_EXPIRED records the page and the owner, and the SYS cause is raised. -/
def leaseExpire (page : Nat) (s : State) : State :=
  if leaseEnded s page then
    { s with fab := { s.fab with leases := s.fab.leases.filter fun e => e.1 != page } }
      |> event SYS.LOCK_EXP_VALID 1 |> wr SYS.LOCK_EXP_OWNER (rd s (HDR.OWNER page)) |> wr SYS.LOCK_EXP_PAGE page
      |> wr (HDR.OWNER page) 0 |> wr (HDR.LOCK page) 0 |> raise 0 0
  else s

/-- LOCK_LEASE_EXPIRE of a page, due in a commit cycle; the commit cycle does it too. -/
def execLockLeaseExpire (t : Nat) (page : Nat) (s : State) : Out := ev t s (leaseExpire page)

/-- The TK writes that are due take effect, and then the armed RWC groups are checked once more and applied (R16, R75, R77). -/
def applyTk (s : State) : State :=
  let s := applyDue s
  forEach (s.fab.rwc.map (·.page)) groupApply s

/-! ## The LGC's work of a tick -/

/-- Set k formed a value in this commit cycle: it used a new sample and missed none (R280, R328). -/
def formedNow (s0 s : State) (k : Nat) : Bool :=
  decide ((setU s k).lastB ≠ (setU s0 k).lastB ∧ rd s (WGH.SET_MISSED k) = rd s0 (WGH.SET_MISSED k))

/-- The weighing work, with RUN_DENSITY where the open delivery uses flow and WEIGH_SET formed a value (R280, R328). -/
def weighDensity (s0 : State) : State :=
  let s := weighTick s0
  if rd s BILL.DEL_OPEN = 1 ∧ rd s BILL.USE_USX = 1 ∧ formedNow s0 s (rd s USX.WEIGH_SET) = true then runDensity (rd s BILL.DEL_VOL) s else s

/-- The measured volume is handed to billing (R323, R373, R375). -/
def handVolume (s : State) : State :=
  let (v, nft, s) := handOff (openUnattr s)
  takeVolume v nft s

/-- The delivery records of this commit cycle: signed ones are booked, and forwarded while RECORD_FORWARD is on (R373, R377, R457). -/
def bookRecords (s : State) : State :=
  let t := bookSigned s
  if t.bill.toSign.length < s.bill.toSign.length then forwardRecord t else t

/-- The commits, the identification, the log store, the enables and the locks that a running LGC has under way (R247, R334, R346,
R349, R356, R490). -/
def storeWork (s : State) : State := lockNewPins <| enableWhenDue (reinstall (idOverdue (rollOverdue (calWork (totOverdue s)))))

/-- The measurements of the tick: flow results, weighing, and the volume handed on (R280, R308, R323). -/
def measureWork (s : State) : State := handVolume (weighDensity (usxResults s))

/-- The billing work in the order of R367, after what the LGC saw of the switch and of the breaks (R63, R398). -/
def billWork (s : State) : State :=
  closeIdleUnattr (billAfter (takeRequests (billTriggers (watchBreaks (switchSeen s)))))

/-- The LGC's work of a commit cycle in RUN; the totals commit starts last, for the bookings of the tick (R349). -/
def lgcWork (s : State) : State :=
  if lgcRuns s then totStart (bookRecords (billWork (measureWork (storeWork s)))) else switchSeen s

/-- The answers due in this commit cycle; a halted LGC answers every request with STATE (R333). -/
def answerWork (s : State) : State := if lgcHalted s then haltAnswers s else giveAnswers s

/-! ## The hardware's work of a tick -/

/-- Notches, lanes and the switch in a commit cycle (R120, R278, R388). -/
def unitTicks (s : State) : State :=
  switchTick (forEach (List.range 3) laneTick (forEach (List.range (Variant.wch s.fuse.variant)) notchTick s))

/-- Power, the thermal policy, the loops and self-repair, after the billing work (R266, R419, R425, R477, R480). -/
def powerWork (tj : Int) (rosc : List Nat) (age : List (Int × Int × Nat)) (s : State) : State :=
  repairTick age (loopTick (autoTrim s.pwr.warm (powerTick tj rosc s)))

/-- The end of a commit cycle: queue telemetry, the balances, a pending snapshot, ended leases, and the audit log (R57, R58, R80, R198,
R353). -/
def endOfCycle (s : State) : State :=
  let s := checkBalances (telTick s)
  let s := if snapshotDue s then takeSnapshot s else s
  let s := forEach (s.fab.leases.map (·.1)) leaseExpire s
  if lgcRuns s then logFlush s else s

/-- The commit cycle of a tick. -/
def commitCycle (tj : Int) (rosc : List Nat) (age : List (Int × Int × Nat)) (s : State) : State :=
  let s := { s with time := { s.time with ticks := s.time.ticks + 1, tickSc := s.time.sc }, sidr := { s.sidr with stepTick := false } }
  let s := keyTick <| stcTick (goRun (applyTk (wr SIDR.TICK_SC (scReg s.time.sc) s)))
  endOfCycle (powerWork tj rosc age (leftOpen (sessionTimeout (lgcWork (unitTicks (answerWork s))))))

/-- The present cycle is a commit cycle that has not run: a tick boundary, or the step tick (R15, R35). -/
def commitDue (s : State) : Bool := s.sidr.stepTick || (onTick s && decide (s.time.ticks = 0 ∨ s.time.tickSc ≠ s.time.sc))

/-- TICK_COMMIT_CYCLE, with the junction temperature in 0.1 °C, the counts of the eight ring oscillators and the reports of the sixteen
ageing monitors sampled in it. -/
def execTickCommitCycle (t : Nat) (tj : Int) (rosc : List Nat) (age : List (Int × Int × Nat)) (s : State) : Out :=
  ev t s fun s => if commitDue s then commitCycle tj rosc age s else s

end Sys2Proof.Machine
end

