-- ==== Sys2Proof/Machine/Twowire.lean ====
section
/-! DEFINITION. The two-wire target (R444 to R448), and the recovery of the guards that count edges in a sliding interval (R519). -/
namespace Sys2Proof.Machine

/-! ## The address byte (R444, R448) -/

/-- The target's fabric bridge is busy. -/
def bridgeIsBusy (s : State) : Bool := decide (s.time.cycle < s.stc.twBusy)

/-- A transaction addressed to the target is acknowledged, and runs; a busy bridge gives NACK, which only counts. -/
def addressed (addr : Nat) (act : State → State) (s : State) : State :=
  if addr ≠ twAddr s then s else if bridgeIsBusy s then inc TWIT.BUSY_NACKS s else act s

/-! ## Framing (R446, R447) -/

/-- The pages that the target does not reach. -/
def excluded (page : Nat) : Bool := decide (page = 0x22 ∨ page = 0x23 ∨ page = 0x80 ∨ page = 0x86)

/-- The write part of a transaction: its page, its offset, its data bytes, and whether its PEC agrees. -/
structure Frame where
  page : Nat
  off : Nat
  data : List Nat
  pecOk : Bool
  deriving DecidableEq, Repr

/-- The write part read as PAGE, OFF_HI, OFF_LO, data and, with PEC, a PEC byte over every byte from the address byte on; none where
the header is incomplete. -/
def frameOf (s : State) (addr : Nat) (bytes : List Nat) : Option Frame :=
  match bytes with
  | page :: hi :: lo :: body =>
    if rd s TWIT.TW_PEC = 1 ∧ body ≠ [] then
      some { page := page, off := hi * 256 + lo, data := body.dropLast
             pecOk := decide (crc8 (addr * 2 :: page :: hi :: lo :: body.dropLast) = body.getLast?.getD 0) }
    else some { page := page, off := hi * 256 + lo, data := body, pecOk := true }
  | _ => none

/-- The target gives NACK to a byte of the write part, apart from its page. -/
def frameNack (f : Frame) : Bool := decide (4096 ≤ f.off ∨ f.off % 4 ≠ 0 ∨ 32 < f.data.length)

/-- The groups of 4 data bytes, most significant byte first; trailing bytes that complete none are left out. -/
def groupsOf (data : List Nat) : List Nat := (List.range (data.length / 4)).map fun k => be (slice data (4 * k) 4)

/-- The word after n words from an offset of a page; past the end of the page its start follows (log 45). -/
def wordAfter (page off n : Nat) : Nat × Nat := (page, (off + 4 * n) % 4096)

/-- The groups execute as consecutive 32-bit writes of the two-wire port, one a cycle, and the bridge is busy for at most 64 cycles (R446,
R448). -/
def groupWrites (f : Frame) (x : Outside) (s : State) : State :=
  let g := groupsOf f.data
  let s := forEach g.zipIdx (fun w s =>
    fabricWrite .twi f.page ((f.off + 4 * w.2) % 4096) w.1 x (metBy (.writer (.fabric .twi)) s.time.cycle s)) s
  let s := if g = [] then s else bridgeBusy 64 s
  let s := when (decide (f.data.length % 4 ≠ 0)) (inc TWIT.SHORT_GROUPS) s
  { s with stc := { s.stc with twNext := wordAfter f.page f.off g.length } }

/-- A write part at its STOP or repeated START: a NACK leaves it without effect, a PEC mismatch discards every group; the result says
whether the transaction goes on. -/
def writePart (addr : Nat) (bytes : List Nat) (x : Outside) (s : State) : Bool × State :=
  match bytes, frameOf s addr bytes with
  | page :: _, f =>
    if excluded page then (false, inc TWIT.PAGE_NACKS s)
    else match f with
      | some f =>
        if frameNack f then (false, s)
        else if !f.pecOk then (false, s |> inc TWIT.TRANSACTIONS |> inc TWIT.PEC_FAILS |> raise 0x84 1)
        else (true, groupWrites f x s)
      | none => (true, s)
  | [], _ => (true, s)

/-- TWO_WIRE_WRITE, at the STOP of the transaction, or where its address is given NACK. -/
def execTwoWireWrite (t : Nat) (addr : Nat) (bytes : List Nat) (x : Outside) (s : State) : Out :=
  ev t s (addressed addr fun s =>
    let (ok, s) := writePart addr bytes x s
    if ok then inc TWIT.TRANSACTIONS s else s)

/-! ## Reads (R446) -/

/-- The target fetches a word, with the latches of a two-wire read; the next word follows. -/
def fetchWord (s : State) : State :=
  let s := readAct .twi s.stc.twNext.1 s.stc.twNext.2 s
  { s with stc := { s.stc with twNext := wordAfter s.stc.twNext.1 s.stc.twNext.2 1 } }

/-- Fetch n words. -/
def fetchWords : Nat → State → State
  | 0, s => s
  | n + 1, s => fetchWords n (fetchWord s)

/-- TWO_WIRE_READ of n words, after the write part that names its offset, or on from the word after the last one addressed. -/
def execTwoWireRead (t : Nat) (addr : Nat) (head : Option (List Nat)) (n : Nat) (s : State) : Out :=
  ev t s (addressed addr fun s =>
    match head with
    | none => inc TWIT.TRANSACTIONS (fetchWords n s)
    | some h =>
      let (ok, s) := writePart addr h {} s
      if ok then inc TWIT.TRANSACTIONS (fetchWords n s) else s)

/-- SCL_TIMEOUT: the transaction is abandoned without executing it (R445). -/
def execSclTimeout (t : Nat) (s : State) : Out := ev t s fun s => s |> inc TWIT.TW_TIMEOUTS |> raise 0x84 2

/-! ## Guards (R519) -/

/-- The range of a guard recovers, if its count is at or below the limit now. -/
def guardRecover (g : Guard) (s : State) : State :=
  match g with
  | .modSd => sdRecover s
  | .blank => blankRecover s
  | .sealSw => sealRecover s
  | .pwrWarn => warnRecover s
  | .wake n => if n < 2 then wakeRecover n s else s

/-- RANGE_RECOVERY; the wake pins' guards stand in the Dome, and recover in HIBERNATE too. -/
def execRangeRecovery (t : Nat) (guard : Guard) (s : State) : Out :=
  match guard with
  | .wake n => evDome t s (guardRecover (.wake n))
  | g => ev t s (guardRecover g)

end Sys2Proof.Machine
end

