-- ==== Sys2Proof/Machine/Dispatch.lean ====
section
/-! DEFINITION. The dispatch: one arm per command. -/
namespace Sys2Proof.Machine

def exec (i : Instr) (s : State) : Host.Outcome State Fault Refusal :=
  match i with
  | .registerWrite t p addr size v x => Sys2Proof.Machine.execRegisterWrite t p addr size v x s
  | .latchingRead t p b => Sys2Proof.Machine.execLatchingRead t p b s
  | .pairLoWrite t p page off v => Sys2Proof.Machine.execPairLoWrite t p page off v s
  | .pairHiWrite t p page off v => Sys2Proof.Machine.execPairHiWrite t p page off v s
  | .pageLock t p page v => Sys2Proof.Machine.execPageLock t p page v s
  | .lockLeaseExpire t page => Sys2Proof.Machine.execLockLeaseExpire t page s
  | .tickCommit t p page v => Sys2Proof.Machine.execTickCommit t p page v s
  | .tickDiscard t p page v => Sys2Proof.Machine.execTickDiscard t p page v s
  | .rwcGroupApply t page => Sys2Proof.Machine.execRwcGroupApply t page s
  | .tickCommitCycle t tj rosc age => Sys2Proof.Machine.execTickCommitCycle t tj rosc age s
  | .causeClear t p page off v => Sys2Proof.Machine.execCauseClear t p page off v s
  | .causeForce t p page v => Sys2Proof.Machine.execCauseForce t p page v s
  | .subForce t p page word v => Sys2Proof.Machine.execSubForce t p page word v s
  | .holdoffEnd e => Sys2Proof.Machine.execHoldoffEnd e s
  | .vecRearm t p v => Sys2Proof.Machine.execVecRearm t p v s
  | .coalTimeout t vec => Sys2Proof.Machine.execCoalTimeout t vec s
  | .advanceWrite t p v => Sys2Proof.Machine.execAdvanceWrite t p v s
  | .advanceApply t => Sys2Proof.Machine.execAdvanceApply t s
  | .learnMeasurement t ppb => Sys2Proof.Machine.execLearnMeasurement t ppb s
  | .uncertGrowth t => Sys2Proof.Machine.execUncertGrowth t s
  | .mainsCrossing t => Sys2Proof.Machine.execMainsCrossing t s
  | .mainsTimeout t => Sys2Proof.Machine.execMainsTimeout t s
  | .slewAdjustment t => Sys2Proof.Machine.execSlewAdjustment t s
  | .scStep t => Sys2Proof.Machine.execScStep t s
  | .ephemeris t => Sys2Proof.Machine.execEphemeris t s
  | .ephTimeout t => Sys2Proof.Machine.execEphTimeout t s
  | .orreryFire t => Sys2Proof.Machine.execOrreryFire t s
  | .almanacInstall t p => Sys2Proof.Machine.execAlmanacInstall t p s
  | .almanacRemove t p => Sys2Proof.Machine.execAlmanacRemove t p s
  | .almanacRead t p => Sys2Proof.Machine.execAlmanacRead t p s
  | .entryUe t index => Sys2Proof.Machine.execEntryUe t index s
  | .snapshot t w => Sys2Proof.Machine.execSnapshot t w s
  | .snapshotCopy t => Sys2Proof.Machine.execSnapshotCopy t s
  | .snapshotRelease t w => Sys2Proof.Machine.execSnapshotRelease t w s
  | .clearBreak t p domain => Sys2Proof.Machine.execClearBreak t p domain s
  | .lanePhaseDone t lane centre => Sys2Proof.Machine.execLanePhaseDone t lane centre s
  | .laneAdaptDone t lane => Sys2Proof.Machine.execLaneAdaptDone t lane s
  | .laneDeskewDone t lane x => Sys2Proof.Machine.execLaneDeskewDone t lane x s
  | .laneWindow t lane corrected eye ampOk x => Sys2Proof.Machine.execLaneWindow t lane corrected eye ampOk x s
  | .trainTimeout t lane => Sys2Proof.Machine.execTrainTimeout t lane s
  | .laneRetry t lane => Sys2Proof.Machine.execLaneRetry t lane s
  | .eqUpdate t lane param ask => Sys2Proof.Machine.execEqUpdate t lane param ask s
  | .fenceHeld t lane => Sys2Proof.Machine.execFenceHeld t lane s
  | .retrain t p lane selfOk => Sys2Proof.Machine.execRetrain t p lane selfOk s
  | .laneHold t p lane => Sys2Proof.Machine.execLaneHold t p lane s
  | .laneRelease t p lane => Sys2Proof.Machine.execLaneRelease t p lane s
  | .txSwap t p lane => Sys2Proof.Machine.execTxSwap t p lane s
  | .txDriverFault t => Sys2Proof.Machine.execTxDriverFault t s
  | .txSwapDone t selfOk => Sys2Proof.Machine.execTxSwapDone t selfOk s
  | .txTrainingDone t => Sys2Proof.Machine.execTxTrainingDone t s
  | .txfltClear t p lane pin => Sys2Proof.Machine.execTxfltClear t p lane pin s
  | .modSdEdge t level => Sys2Proof.Machine.execModSdEdge t level s
  | .sdContradict t => Sys2Proof.Machine.execSdContradict t s
  | .modTxfltAssert e => Sys2Proof.Machine.execModTxfltAssert e s
  | .txfltTimeout t => Sys2Proof.Machine.execTxfltTimeout t s
  | .rxcTimeout t => Sys2Proof.Machine.execRxcTimeout t s
  | .rxcWindow t ppm => Sys2Proof.Machine.execRxcWindow t ppm s
  | .downstreamFrame t x => Sys2Proof.Machine.execDownstreamFrame t x s
  | .losDetect t => Sys2Proof.Machine.execLosDetect t s
  | .losClear t => Sys2Proof.Machine.execLosClear t s
  | .lofDetect t => Sys2Proof.Machine.execLofDetect t s
  | .sfWindow t => Sys2Proof.Machine.execSfWindow t s
  | .sdWindow t => Sys2Proof.Machine.execSdWindow t s
  | .pmSecond t => Sys2Proof.Machine.execPmSecond t s
  | .secondFinal t => Sys2Proof.Machine.execSecondFinal t s
  | .binClose t src occ action => Sys2Proof.Machine.execBinClose t src occ action s
  | .binHistory t => Sys2Proof.Machine.execBinHistory t s
  | .clearHistory t p => Sys2Proof.Machine.execClearHistory t p s
  | .binSel t p v => Sys2Proof.Machine.execBinSel t p v s
  | .grantEntry t => Sys2Proof.Machine.execGrantEntry t s
  | .burstLaunch t => Sys2Proof.Machine.execBurstLaunch t s
  | .burstProfile t => Sys2Proof.Machine.execBurstProfile t s
  | .assignId t => Sys2Proof.Machine.execAssignId t s
  | .rangingTime t => Sys2Proof.Machine.execRangingTime t s
  | .deactivate t => Sys2Proof.Machine.execDeactivate t s
  | .disable t => Sys2Proof.Machine.execDisable t s
  | .enable t => Sys2Proof.Machine.execEnable t s
  | .popup t => Sys2Proof.Machine.execPopup t s
  | .pathConfig t full => Sys2Proof.Machine.execPathConfig t full s
  | .keyControl t full => Sys2Proof.Machine.execKeyControl t full s
  | .price t full => Sys2Proof.Machine.execPrice t full s
  | .credit t full => Sys2Proof.Machine.execCredit t full s
  | .oamRequest t full => Sys2Proof.Machine.execOamRequest t full s
  | .to1Expire t => Sys2Proof.Machine.execTo1Expire t s
  | .to2Expire t => Sys2Proof.Machine.execTo2Expire t s
  | .goOperation t p => Sys2Proof.Machine.execGoOperation t p s
  | .clearLockout t p pad => Sys2Proof.Machine.execClearLockout t p pad s
  | .rejoin t p => Sys2Proof.Machine.execRejoin t p s
  | .upmsgSend t p => Sys2Proof.Machine.execUpmsgSend t p s
  | .roguePad t => Sys2Proof.Machine.execRoguePad t s
  | .txenLow t => Sys2Proof.Machine.execTxenLow t s
  | .ingressFrame t src d => Sys2Proof.Machine.execIngressFrame t src d s
  | .clsInstall t p => Sys2Proof.Machine.execClsInstall t p s
  | .clsRemove t p => Sys2Proof.Machine.execClsRemove t p s
  | .clsRead t p => Sys2Proof.Machine.execClsRead t p s
  | .egressFrame t ready bufs => Sys2Proof.Machine.execEgressFrame t ready bufs s
  | .staging t => Sys2Proof.Machine.execStaging t s
  | .tokenRefill t => Sys2Proof.Machine.execTokenRefill t s
  | .tmReset t p => Sys2Proof.Machine.execTmReset t p s
  | .flushQueue t p q => Sys2Proof.Machine.execFlushQueue t p q s
  | .telSel t p v => Sys2Proof.Machine.execTelSel t p v s
  | .keyImport t p => Sys2Proof.Machine.execKeyImport t p s
  | .keyErase t p => Sys2Proof.Machine.execKeyErase t p s
  | .upswArm t p cont lo hi => Sys2Proof.Machine.execUpswArm t p cont lo hi s
  | .drained t => Sys2Proof.Machine.execDrained t s
  | .oamSetActivate t src arg => Sys2Proof.Machine.execOamSetActivate t src arg s
  | .hostBankActivate t src arg => Sys2Proof.Machine.execHostBankActivate t src arg s
  | .doorbell t off v word32 => Sys2Proof.Machine.execDoorbell t off v word32 s
  | .hostJob t desc ctx => Sys2Proof.Machine.execHostJob t desc ctx s
  | .hostJobDone t ring aad tag rdErr wrErr => Sys2Proof.Machine.execHostJobDone t ring aad tag rdErr wrErr s
  | .dealerRound t x => Sys2Proof.Machine.execDealerRound t x s
  | .engineRelease t h => Sys2Proof.Machine.execEngineRelease t h s
  | .dealerReclaim t engine => Sys2Proof.Machine.execDealerReclaim t engine s
  | .pinCfgWrite t w pin v => Sys2Proof.Machine.execPinCfgWrite t w pin v s
  | .excCfgWrite t w pair v => Sys2Proof.Machine.execExcCfgWrite t w pair v s
  | .excReversal t pair => Sys2Proof.Machine.execExcReversal t pair s
  | .excGuardFrame t pair current pm limited => Sys2Proof.Machine.execExcGuardFrame t pair current pm limited s
  | .excTimeout t pair => Sys2Proof.Machine.execExcTimeout t pair s
  | .sliceSample t slice raw cm => Sys2Proof.Machine.execSliceSample t slice raw cm s
  | .sliceStall t slice => Sys2Proof.Machine.execSliceStall t slice s
  | .blankTrigger t src occ action arg => Sys2Proof.Machine.execBlankTrigger t src occ action arg s
  | .afeBlank t w v => Sys2Proof.Machine.execAfeBlank t w v s
  | .blankWindowEnd t group => Sys2Proof.Machine.execBlankWindowEnd t group s
  | .blankEdge t => Sys2Proof.Machine.execBlankEdge t s
  | .blankFall t => Sys2Proof.Machine.execBlankFall t s
  | .blankStuck t => Sys2Proof.Machine.execBlankStuck t s
  | .trigInEdge t n level => Sys2Proof.Machine.execTrigInEdge t n level s
  | .shadow t w x a => Sys2Proof.Machine.execShadow t w x a s
  | .shadowRelease t w x => Sys2Proof.Machine.execShadowRelease t w x s
  | .takeover t w x a result => Sys2Proof.Machine.execTakeover t w x a result s
  | .takeoverApply t => Sys2Proof.Machine.execTakeoverApply t s
  | .loopUpdate t src arg => Sys2Proof.Machine.execLoopUpdate t src arg s
  | .hostHiWrite t p n v => Sys2Proof.Machine.execHostHiWrite t p n v s
  | .loopControl t n cur => Sys2Proof.Machine.execLoopControl t n cur s
  | .loopStale t n => Sys2Proof.Machine.execLoopStale t n s
  | .weighOutput t chan => Sys2Proof.Machine.execWeighOutput t chan s
  | .notchFenceHeld t chan notch => Sys2Proof.Machine.execNotchFenceHeld t chan notch s
  | .zeroStale t set => Sys2Proof.Machine.execZeroStale t set s
  | .zero t p set => Sys2Proof.Machine.execZero t p set s
  | .tare t p set => Sys2Proof.Machine.execTare t p set s
  | .presetTare t p set => Sys2Proof.Machine.execPresetTare t p set s
  | .clearTare t p set => Sys2Proof.Machine.execClearTare t p set s
  | .setCmdExecute t set => Sys2Proof.Machine.execSetCmdExecute t set s
  | .convert t src chan occ action arg => Sys2Proof.Machine.execConvert t src chan occ action arg s
  | .wchConvert t p chan arg => Sys2Proof.Machine.execWchConvert t p chan arg s
  | .winDone t set => Sys2Proof.Machine.execWinDone t set s
  | .deCheck t => Sys2Proof.Machine.execDeCheck t s
  | .sequence t src occ action arg => Sys2Proof.Machine.execSequence t src occ action arg s
  | .usxSequenceCmd t p arg => Sys2Proof.Machine.execUsxSequenceCmd t p arg s
  | .usxShot t stamps amp => Sys2Proof.Machine.execUsxShot t stamps amp s
  | .discharge t time => Sys2Proof.Machine.execDischarge t time s
  | .sequenceEnd t => Sys2Proof.Machine.execSequenceEnd t s
  | .tempHoldExpire t port => Sys2Proof.Machine.execTempHoldExpire t port s
  | .getLegalId t => Sys2Proof.Machine.execGetLegalId t s
  | .idComputeDone t => Sys2Proof.Machine.execIdComputeDone t s
  | .logRead t => Sys2Proof.Machine.execLogRead t s
  | .sessionStart t => Sys2Proof.Machine.execSessionStart t s
  | .sessionResponse t => Sys2Proof.Machine.execSessionResponse t s
  | .paramRead t => Sys2Proof.Machine.execParamRead t s
  | .paramWrite t => Sys2Proof.Machine.execParamWrite t s
  | .commit t => Sys2Proof.Machine.execCommit t s
  | .calCommitDone t => Sys2Proof.Machine.execCalCommitDone t s
  | .sessionDiscard t => Sys2Proof.Machine.execSessionDiscard t s
  | .rollover t => Sys2Proof.Machine.execRollover t s
  | .sessionClearBreak t => Sys2Proof.Machine.execSessionClearBreak t s
  | .sessionClose t => Sys2Proof.Machine.execSessionClose t s
  | .sessionTimeout t => Sys2Proof.Machine.execSessionTimeout t s
  | .stcImageCheck t => Sys2Proof.Machine.execStcImageCheck t s
  | .sealSwEdge t => Sys2Proof.Machine.execSealSwEdge t s
  | .sealLeftOpen t => Sys2Proof.Machine.execSealLeftOpen t s
  | .tamper t on => Sys2Proof.Machine.execTamper t on s
  | .vresSample t mv => Sys2Proof.Machine.execVresSample t mv s
  | .totalsCommit t => Sys2Proof.Machine.execTotalsCommit t s
  | .readPos t p pos => Sys2Proof.Machine.execReadPos t p pos s
  | .lgcHalt t reason => Sys2Proof.Machine.execLgcHalt t reason s
  | .selftestDone t romOk => Sys2Proof.Machine.execSelftestDone t romOk s
  | .deliveryOpen t => Sys2Proof.Machine.execDeliveryOpen t s
  | .deliveryStop t => Sys2Proof.Machine.execDeliveryStop t s
  | .topup t => Sys2Proof.Machine.execTopup t s
  | .expire t => Sys2Proof.Machine.execExpire t s
  | .accountClose t => Sys2Proof.Machine.execAccountClose t s
  | .accountOpen t => Sys2Proof.Machine.execAccountOpen t s
  | .priceStage t => Sys2Proof.Machine.execPriceStage t s
  | .emergency t => Sys2Proof.Machine.execEmergency t s
  | .activatePrices t src occ arg => Sys2Proof.Machine.execActivatePrices t src occ arg s
  | .tarfEvaluate t src occ arg => Sys2Proof.Machine.execTarfEvaluate t src occ arg s
  | .prepEvaluate t src occ arg => Sys2Proof.Machine.execPrepEvaluate t src occ arg s
  | .arm t src occ arg => Sys2Proof.Machine.execArm t src occ arg s
  | .deliveryClose t => Sys2Proof.Machine.execDeliveryClose t s
  | .deliveryBook t => Sys2Proof.Machine.execDeliveryBook t s
  | .unattributedClose t => Sys2Proof.Machine.execUnattributedClose t s
  | .connect t src arg => Sys2Proof.Machine.execConnect t src arg s
  | .disconnect t src arg => Sys2Proof.Machine.execDisconnect t src arg s
  | .setTotal t src arg => Sys2Proof.Machine.execSetTotal t src arg s
  | .switchSample t vin vout v cm => Sys2Proof.Machine.execSwitchSample t vin vout v cm s
  | .fastTrip t phase => Sys2Proof.Machine.execFastTrip t phase s
  | .rampTimeout t => Sys2Proof.Machine.execRampTimeout t s
  | .rampOffDone t => Sys2Proof.Machine.execRampOffDone t s
  | .retryBackoffEnd t => Sys2Proof.Machine.execRetryBackoffEnd t s
  | .retryCountReset t => Sys2Proof.Machine.execRetryCountReset t s
  | .pwrWarnAssert t => Sys2Proof.Machine.execPwrWarnAssert t s
  | .pwrWarnDeassert t => Sys2Proof.Machine.execPwrWarnDeassert t s
  | .warnStuck t => Sys2Proof.Machine.execWarnStuck t s
  | .weldCheck t => Sys2Proof.Machine.execWeldCheck t s
  | .clearLatch t p => Sys2Proof.Machine.execClearLatch t p s
  | .phaseClear t p phase => Sys2Proof.Machine.execPhaseClear t p phase s
  | .powerRequest t p target => Sys2Proof.Machine.execPowerRequest t p target s
  | .powerTrigger t src action arg => Sys2Proof.Machine.execPowerTrigger t src action arg s
  | .ctlClk t p => Sys2Proof.Machine.execCtlClk t p s
  | .quiesceDone t => Sys2Proof.Machine.execQuiesceDone t s
  | .wakeEdge t pin level => Sys2Proof.Machine.execWakeEdge t pin level s
  | .wakeStuck t pin => Sys2Proof.Machine.execWakeStuck t pin s
  | .rtcAlarm t => Sys2Proof.Machine.execRtcAlarm t s
  | .addressMatch t addr => Sys2Proof.Machine.execAddressMatch t addr s
  | .hostWake t p => Sys2Proof.Machine.execHostWake t p s
  | .wakeClockRestore t => Sys2Proof.Machine.execWakeClockRestore t s
  | .hibernateExit t failed a b => Sys2Proof.Machine.execHibernateExit t failed a b s
  | .railTimeout t => Sys2Proof.Machine.execRailTimeout t s
  | .wakePop t p => Sys2Proof.Machine.execWakePop t p s
  | .vregAck t mv => Sys2Proof.Machine.execVregAck t mv s
  | .vregAckTimeout t status => Sys2Proof.Machine.execVregAckTimeout t status s
  | .pgoodLost t => Sys2Proof.Machine.execPgoodLost t s
  | .vregEnable t p v mode => Sys2Proof.Machine.execVregEnable t p v mode s
  | .railOutOfWindow t now => Sys2Proof.Machine.execRailOutOfWindow t now s
  | .thermalForcedTrim t => Sys2Proof.Machine.execThermalForcedTrim t s
  | .perstAssert t rxPartial txPartial => Sys2Proof.Machine.execPerstAssert t rxPartial txPartial s
  | .hotReset t rxPartial txPartial => Sys2Proof.Machine.execHotReset t rxPartial txPartial s
  | .functionLevelReset t rxPartial txPartial => Sys2Proof.Machine.execFunctionLevelReset t rxPartial txPartial s
  | .hostTxFrame t descs data err => Sys2Proof.Machine.execHostTxFrame t descs data err s
  | .ethLinkUp t port => Sys2Proof.Machine.execEthLinkUp t port s
  | .ethLinkDown t port hiBer => Sys2Proof.Machine.execEthLinkDown t port hiBer s
  | .stcBoot t a b aOk bOk => Sys2Proof.Machine.execStcBoot t a b aOk bOk s
  | .stcKick t p => Sys2Proof.Machine.execStcKick t p s
  | .stcWdogExpire t => Sys2Proof.Machine.execStcWdogExpire t s
  | .bootTimeout t => Sys2Proof.Machine.execBootTimeout t s
  | .stcRestart t p slot => Sys2Proof.Machine.execStcRestart t p slot s
  | .flGo t p => Sys2Proof.Machine.execFlGo t p s
  | .flDone t data => Sys2Proof.Machine.execFlDone t data s
  | .twoWireWrite t addr bytes x => Sys2Proof.Machine.execTwoWireWrite t addr bytes x s
  | .twoWireRead t addr head n => Sys2Proof.Machine.execTwoWireRead t addr head n s
  | .sclTimeout t => Sys2Proof.Machine.execSclTimeout t s
  | .twcGo t p => Sys2Proof.Machine.execTwcGo t p s
  | .twcDone t result data => Sys2Proof.Machine.execTwcDone t result data s
  | .modulePoll t result data => Sys2Proof.Machine.execModulePoll t result data s
  | .reqPost t p w => Sys2Proof.Machine.execReqPost t p w s
  | .rspAck t p w => Sys2Proof.Machine.execRspAck t p w s
  | .outPost t p => Sys2Proof.Machine.execOutPost t p s
  | .stcRspTimeout t w => Sys2Proof.Machine.execStcRspTimeout t w s
  | .evtPost t p v => Sys2Proof.Machine.execEvtPost t p v s
  | .evtPop t p => Sys2Proof.Machine.execEvtPop t p s
  | .oevPop t p => Sys2Proof.Machine.execOevPop t p s
  | .stcEvent t src occ action arg => Sys2Proof.Machine.execStcEvent t src occ action arg s
  | .getInfo t w => Sys2Proof.Machine.execGetInfo t w s
  | .power t w => Sys2Proof.Machine.execPower t w s
  | .policySet t w => Sys2Proof.Machine.execPolicySet t w s
  | .moduleRead t w => Sys2Proof.Machine.execModuleRead t w s
  | .moduleWrite t w => Sys2Proof.Machine.execModuleWrite t w s
  | .pmReport t w => Sys2Proof.Machine.execPmReport t w s
  | .oamSend t w => Sys2Proof.Machine.execOamSend t w s
  | .repairForward t w cell => Sys2Proof.Machine.execRepairForward t w cell s
  | .repairReport t w => Sys2Proof.Machine.execRepairReport t w s
  | .imageBegin t w => Sys2Proof.Machine.execImageBegin t w s
  | .imageData t w => Sys2Proof.Machine.execImageData t w s
  | .imageCommit t w => Sys2Proof.Machine.execImageCommit t w s
  | .activationEnable t w => Sys2Proof.Machine.execActivationEnable t w s
  | .activationDisable t w => Sys2Proof.Machine.execActivationDisable t w s
  | .activationRejoin t w => Sys2Proof.Machine.execActivationRejoin t w s
  | .recordForward t w => Sys2Proof.Machine.execRecordForward t w s
  | .correctedError t kind inst row col cell => Sys2Proof.Machine.execCorrectedError t kind inst row col cell s
  | .uncorrectableError t kind inst row entry cell use => Sys2Proof.Machine.execUncorrectableError t kind inst row entry cell use s
  | .rowTestDone t bank row pass => Sys2Proof.Machine.execRowTestDone t bank row pass s
  | .rowCopyDone t kind row => Sys2Proof.Machine.execRowCopyDone t kind row s
  | .columnCopyDone t => Sys2Proof.Machine.execColumnCopyDone t s
  | .engineTest t engine pass => Sys2Proof.Machine.execEngineTest t engine pass s
  | .sliceTest t slice pass => Sys2Proof.Machine.execSliceTest t slice pass s
  | .rprTest t p kind inst idx cell => Sys2Proof.Machine.execRprTest t p kind inst idx cell s
  | .rprRetire t p kind inst idx cell => Sys2Proof.Machine.execRprRetire t p kind inst idx cell s
  | .rprColumn t p kind inst idx => Sys2Proof.Machine.execRprColumn t p kind inst idx s
  | .ceClear t p => Sys2Proof.Machine.execCeClear t p s
  | .recPop t p => Sys2Proof.Machine.execRecPop t p s
  | .marginLow t k => Sys2Proof.Machine.execMarginLow t k s
  | .resetAssert t => Sys2Proof.Machine.execResetAssert t s
  | .resetRelease t up down failed a b => Sys2Proof.Machine.execResetRelease t up down failed a b s
  | .fabricReady t => Sys2Proof.Machine.execFabricReady t s
  | .vaonPor t => Sys2Proof.Machine.execVaonPor t s
  | .tapInstruction t code tlr => Sys2Proof.Machine.execTapInstruction t code tlr s
  | .testEnAssert e => Sys2Proof.Machine.execTestEnAssert e s
  | .rangeRecovery t guard => Sys2Proof.Machine.execRangeRecovery t guard s
  | .totalsCommitDone t => Sys2Proof.Machine.execTotalsCommitDone t s
  | .rolloverDone t => Sys2Proof.Machine.execRolloverDone t s
  | .pcieLinkDown t speed width => Sys2Proof.Machine.execPcieLinkDown t speed width s
  | .d3hot t d3 funcMask => Sys2Proof.Machine.execD3hot t d3 funcMask s

end Sys2Proof.Machine
end

