-- ==== Sys2Proof/Machine/Step.lean ====
section
/-! DEFINITION. One step: the command at the front of the queue, or one idle core cycle. -/
namespace Sys2Proof.Machine

/-- One core cycle passes on an empty queue (log 2). -/
def idle (s : State) : State := advanceTo (s.time.cycle + 1) s

/-- Take the command at the front of the queue and run it on the state with the queue's rest; on an empty queue one core
cycle passes. -/
def step (s : State) : Host.Outcome State Fault Refusal :=
  match s.pending with
  | [] => .next (idle s)
  | c :: rest => exec c { s with pending := rest }

/-- Put the command that a table word spells at the front of the queue; the table gives no row a word, so none is put. -/
def State.withFetchWord (s : State) (nbits w : Nat) : State :=
  match decodeTableWord nbits w with
  | some c => { s with pending := c :: s.pending }
  | none => s

end Sys2Proof.Machine
end

