-- ==== Sys2Proof/Safety.lean ====
section
/-! DEFINITION. The terms in which the claims are stated: the state a command meets, an accepted write, a step that answers, the
attention tree in step with its leaves, and the field file in its canonical form. -/
namespace Sys2Proof.Machine

/-- The step answers a next state that satisfies P. -/
def stepsTo (s : State) (P : State → Prop) : Prop := ∃ t, step s = .next t ∧ P t

/-- A command at core cycle t meets the state m: the die answers the fabric, time has passed to t, and what a burst has sent by then
is out (R96, R402). -/
def meets (t : Nat) (s m : State) : Prop := fabricAnswers s = true ∧ m = met t s

/-- A command of a comer that takes a turn in its cycle meets the state m, in the cycle in which the comer is served (R71, R81, R98). -/
def meetsBy (c : Comer) (t : Nat) (s m : State) : Prop := fabricAnswers s = true ∧ m = metBy c t s

/-- A write of a fabric port meets the state m. -/
abbrev meetsFrom (p : Port) (t : Nat) (s m : State) : Prop := meetsBy (.writer (.fabric p)) t s m

/-- No page check refuses a 32-bit write of the port: the page is present and assigned, and no other port has locked it (R7, R70, R79). -/
def opens (s : State) (p : Port) (page : Nat) : Prop :=
  Variant.pageAbsent s.fuse.variant page = false ∧ pageAssigned page = true ∧ lockedOut s p page = false

/-- No page check refuses a 32-bit write of the port at an offset, and the offset is the port's own to write (R48, R70, R79). -/
def opensAt (s : State) (p : Port) (page off : Nat) : Prop :=
  opens s p page ∧ assigned page off = true ∧ foreign p page off = false

/-- The state in which the effect of an accepted write of a command register begins: the lease of its page runs anew (R80), and its
status CODE reads NONE (R84). -/
def accepted (p : Port) (page : Nat) (codeF : Option Fld) (s : State) : State :=
  match codeF with
  | some f => wr f 0 (renewLease p page s)
  | none => renewLease p page s

/-- The state after a refused write: the record of R84, and the status CODE of the command register (R83). -/
def refusedAs (p : Port) (page off : Nat) (codeF : Option Fld) (c : Code) (s : State) : State :=
  match codeF with
  | some f => wr f c.num (refuse p page off c s)
  | none => refuse p page off c s

/-- No page check refuses a write of the writer; the LGC's writes pass them (R73, R79). -/
def opensTo (s : State) (w : Writer) (page : Nat) : Prop :=
  match w with
  | .fabric p => opens s p page
  | .lgc => True

/-- The state in which the effect of an accepted write of a writer begins (R80, R84). -/
def acceptedBy (w : Writer) (page : Nat) (codeF : Option Fld) (s : State) : State :=
  match w, codeF with
  | .fabric p, _ => accepted p page codeF s
  | .lgc, some f => wr f 0 s
  | .lgc, none => s

/-- The state after a refused command of a writer: the LGC, which is no fabric port, has no refusal recorded (R59, R84). -/
def turnedAway (w : Writer) (page off : Nat) (c : Code) (s : State) : State :=
  match w with
  | .fabric p => refuse p page off c s
  | .lgc => s

/-- A trigger has reached a unit and is counted under its source, an Orrery trigger in SENT too (R46, R54). -/
def arrived (src : TrigSrc) (u : Nat) (s : State) : State :=
  if src = .orry then { countSrc src u s with orry := { s.orry with sent := aset s.orry.sent u (aget s.orry.sent u 0 + 1) } }
  else countSrc src u s

/-- The unit takes triggers: no TRIG break halts it, and it runs in the power state (R63, R403). -/
def takesTriggers (s : State) (u : Nat) : Prop := unitHalted s u = false ∧ unitRuns s u = true

/-- The attention tree is in step with its leaves: SUMMARY is that of the leaves; ATTN_N is not asserted on a condition that is gone, and is
asserted on one that holds outside the hold-off (R93, R95). -/
def attnFollows (s : State) : Prop :=
  fabricAnswers s = true →
    s.attn.sum = summary s
      ∧ (clearBits (summary s) (rd s ATTN.PIN_MASK) = 0 → rd s ATTN.ASSERTED ≠ 1)
      ∧ (clearBits (summary s) (rd s ATTN.PIN_MASK) ≠ 0 → rd s ATTN.HOLDOFF = 0 → rd s ATTN.ASSERTED ≠ 0)

/-- The condition of the STC's attention line: SUMMARY under STC_MASK, or an unmasked private leaf of MBOX (R96). -/
def stcCondition (s : State) : Bool := clearBits (summary s) (rd s ATTN.STC_MASK) != 0 || stcPrivate s

/-- The STC's attention line is in step: asserted where its condition holds outside the hold-off, and released where it does not (R96). -/
def stcFollows (s : State) : Prop :=
  fabricAnswers s = true → (s.attn.stcHold = false → stcCondition s = true → s.attn.stcLine = true)
    ∧ (stcCondition s = false → s.attn.stcLine = false)

/-- The commands of the reset sequence and of the Dome, the only ones that a die in HIBERNATE or held in reset answers (R402, R418,
R484, R486). -/
def outsideFabric : Instr → Bool
  | .wakeEdge .. | .wakeStuck .. | .rtcAlarm .. | .addressMatch .. | .hibernateExit .. | .railTimeout .. | .resetAssert .. | .resetRelease ..
  | .fabricReady .. | .vaonPor .. => true
  | .rangeRecovery _ (.wake _) => true
  | _ => false

/-- The request r is at the front of the LGC's queue in a commit cycle of a running LGC that may still take one, and b is the state
in which its service runs: the billing triggers of the cycle have acted and the request is taken (R333, R367). -/
def takes (r : LgcReq) (m b : State) : Prop :=
  onTick m = true ∧ lgcRuns m = true ∧ ∃ q, m.leg.queue = r :: q ∧ (billTriggers m).leg.queue = r :: q ∧ takenNow (billTriggers m) < 4
    ∧ (r.code = 0x88 → r.checked = true) ∧ b = { billTriggers m with leg := { (billTriggers m).leg with
        queue := q, taken := takenNow (billTriggers m) + 1, takenSc := tickNo (billTriggers m) } }

/-- A session command with the next SEQ and a right TAG in an open session, and a is the state in which its operation runs (R341). -/
def inSession (r : LgcReq) (b a : State) : Prop :=
  sealOpen b = true ∧ 21 ≤ r.data.length ∧ r.data.drop (r.data.length - 16) = sessionTag b (r.data.take (r.data.length - 16))
    ∧ le (slice r.data 0 4) = rd b LEGL.SESSION_SEQ + 1
    ∧ a = wr LEGL.SESSION_SEQ (le (slice r.data 0 4))
      { b with leg := { b.leg with badTags := 0, accepted := b.leg.accepted + 1, lastCmd := b.time.ticks } }

/-- The argument bytes of a session command (R341). -/
def sessionArgs (r : LgcReq) : List Nat := (r.data.take (r.data.length - 16)).drop 5

/-- The ATTN vectors that have sent are those whose expression is non-zero now (R432). -/
def vectorsFollow (s : State) : Prop :=
  fabricAnswers s = true →
    s.host.vecHigh = (List.range 32).filter fun v => decide (rd s (HOST.VEC_KIND v) = 1) && vecExpr s (summary s) v

/-- The whole attention tree is in step with its leaves (R93, R95, R96, R432). -/
def treeFollows (s : State) : Prop := attnFollows s ∧ stcFollows s ∧ vectorsFollow s

/-- The core cycle by which two cycles of the register fabric have ended (R94). -/
def twoCycles (s : State) : Nat := (s.time.cycle / fabricPeriod s + 2) * fabricPeriod s

end Sys2Proof.Machine
end

