-- ==== Sys2Proof/Certificates/Slice0/Obligations.lean ====
section
/-! DEFINITION. The statements for the provers. Most say of a family of commands, for each command, that it answers a next state and
which one. -/
open Sys2Proof Sys2Proof.Machine

/-- For every command c and queue rest, step of a state whose queue is c followed by rest is exec of c on that state with the queue
rest; on an empty queue step lets one core cycle pass, which is the model's choice (log 2); no table word spells a command, so
placing one changes nothing (the table gives no row bits). -/
def Obligations.StepRunsTheFrontCommand : Prop :=
  (∀ (c : Instr) (rest : List Instr) (s : State), step { s with pending := c :: rest } = exec c { s with pending := rest })
  ∧ (∀ s : State, s.pending = [] → step s = .next (advanceTo (s.time.cycle + 1) s))
  ∧ (∀ (n w : Nat) (s : State), s.withFetchWord n w = s)

/-- From every state, with whatever command in front of the queue or none, step answers a next state, never a fault or a refusal.
Two cycles of the register fabric after that state, and at every later time before the next command, where the die answers the
fabric, SUMMARY is that of its leaves, ATTN_N is asserted when an unmasked summary bit stands outside the hold-off and is not
asserted when none stands, the STC's line likewise under its own mask and its private leaves, and the ATTN vectors as last seen are
those whose expression is non-zero. -/
def Obligations.EveryStepAnswersAndTheTreeFollows : Prop :=
  ∀ s : State, stepsTo s fun u => ∀ n : Nat, twoCycles u ≤ n → treeFollows (advanceTo n u)

/-- State.reset has an empty queue, SC 0, SC_VALID 0, SC_QUALITY FREE (3), WALL_STATE NONE (0), the die answers the fabric, no unit is
halted and all nine balances hold, and the attention tree is in step with its leaves. That State.reset is the instant F is the
model's choice (log 3). -/
def Obligations.ResetState : Prop :=
  State.reset.pending = [] ∧ State.reset.time.sc = 0 ∧ rd State.reset SIDR.SC_VALID = 0 ∧ rd State.reset SIDR.SC_QUALITY = 3
  ∧ rd State.reset SIDR.WALL_STATE = 0 ∧ fabricAnswers State.reset = true ∧ (∀ u, unitHalted State.reset u = false)
  ∧ (∀ d, balanced State.reset d = true) ∧ treeFollows State.reset

/-- On a state whose die does not answer the fabric, every command outside the reset sequence and the Dome answers the state in which
time has passed to the command, and nothing else: no register, no ledger, no queue and no store changes. -/
def Obligations.ADieAsleepOnlyLetsTimePass : Prop :=
  ∀ (c : Instr) (s : State), outsideFabric c = false → fabricAnswers s = false → ∃ t, exec c s = .next (advanceTo t s)

/-- A read of an absent page by a port reads 0 at every offset but 0, where it reads 0xDEAD_0000 with the page number, and latches
nothing, so that the next read reads the same; a register write of any size and alignment to it is refused: CODE 5 and the offset
stand in REFUSAL of SYS, LAST_REFUSAL names the page, REFUSAL_COUNT counts it, an aligned 8-byte write of PCIe as its two 32-bit
writes, and every write row that names its register is refused alike. USX is absent from a TS4320 and reads PAGE_ID 0xDEAD_005A. -/
def Obligations.AbsentPagesReadAndRefuse : Prop :=
  (∀ (p : Port) (page off : Nat) (s : State), Variant.pageAbsent s.fuse.variant page = true → latched s p page off = none →
    readBy p page off s = (if off = 0 then 0xDEAD0000 + page else 0) ∧ readAct p page off s = s)
  ∧ (∀ (t page off size v : Nat) (p : Port) (x : Outside) (s m : State), meetsFrom p t s m → page < 256 → off < 4096 →
    Variant.pageAbsent m.fuse.variant page = true →
    ∃ n, exec (.registerWrite t p (page * 0x1000 + off) size v x) s = .next (n) ∧ rd n (HDR.REF_CODE 0) = 5
      ∧ rd n SYS.LAST_REFUSAL_PAGE = page ∧ rd n SYS.REFUSED = 1
      ∧ ((size = 8 ∧ (page * 0x1000 + off) % 8 = 0 ∧ p = .pcie →
          rd n SYS.REFUSAL_COUNT = (rd m SYS.REFUSAL_COUNT + 2) % 2 ^ 32 ∧ rd n (HDR.REF_OFF 0) = off + 4)
        ∧ (¬ (size = 8 ∧ (page * 0x1000 + off) % 8 = 0 ∧ p = .pcie) →
          rd n SYS.REFUSAL_COUNT = (rd m SYS.REFUSAL_COUNT + 1) % 2 ^ 32 ∧ rd n (HDR.REF_OFF 0) = off)))
  ∧ (∀ (p : Port) (page off : Nat) (act : State → State) (s : State), Variant.pageAbsent s.fuse.variant page = true →
    namedWrite p page off act s = refuseWrite p page off .absent s)
  ∧ (∀ (p : Port) (page off : Nat) (codeF : Option Fld) (checks : List (Bool × Code)) (act : State → State) (s : State),
    Variant.pageAbsent s.fuse.variant page = true → fabricCmd p page off codeF checks act s = refusedAs p page off codeF .absent s)
  ∧ (∀ (p : Port) (page off : Nat) (s : State), Variant.pageAbsent s.fuse.variant page = true → page < 256 → off < 4096 →
    rd (refuse p page off .absent s) (HDR.REF_CODE 0) = 5 ∧ rd (refuse p page off .absent s) (HDR.REF_OFF 0) = off
    ∧ rd (refuse p page off .absent s) SYS.REFUSAL_COUNT = (rd s SYS.REFUSAL_COUNT + 1) % 2 ^ 32)
  ∧ Variant.pageAbsent .ts4320 0x5A = true

/-- A CAUSE_FORCE of LEDG that its page admits sets the written bits of CAUSE. Outside the CAUSE of LEDG and the ATTN page no register
changes, so that no BREAK bit is set; no ledger, no halt of a unit, no queue of the LGC, the switch or the traffic manager
changes, and no entry of the audit log is added. -/
def Obligations.ForcedLedgerCausesOnlyRaise : Prop :=
  ∀ (t v : Nat) (p : Port) (s m : State), meetsFrom p t s m → opensAt m p 0x02 0x018 → clearBits v (causeBits 0x02) = 0 → v < 2 ^ 32 →
    (hasPointer 0x02 = true → bit v 31 = false) →
    ∃ n, exec (.causeForce t p 0x02 v) s = .next n ∧ rd n (HDR.CAUSE 0x02) = (rd m (HDR.CAUSE 0x02) ||| v) % 2 ^ 32
      ∧ (∀ f : Fld, f.key ≠ (HDR.CAUSE 0x02).key → f.key / 131072 ≠ 1 → rd n f = rd m f)
      ∧ rd n LEDG.BREAK = rd m LEDG.BREAK ∧ (∀ u, unitHalted n u = unitHalted m u)
      ∧ n.led = m.led ∧ n.leg = m.leg ∧ n.bill = m.bill ∧ n.sw = m.sw ∧ n.tm = m.tm ∧ n.orry = m.orry

/-- REGISTER_WRITE to a register of the unit tables, LATCHING_READ, PAIR_LO_WRITE, PAIR_HI_WRITE, PAGE_LOCK and LOCK_LEASE_EXPIRE each
answer the next state that their rules give: a plain write whose checks all pass writes each row of its word and restarts the
lease; a read leaves what readAct says; a LO write is held apart for its port in place of an earlier one; the HI write with a held
LO writes the pair as one value and discards the held LO; LOCK = 1 on a free page takes it for the writer; an ended lease frees
the page, records it in LOCK_EXPIRED and raises the SYS cause. -/
def Obligations.PortWritesComplete : Prop :=
  (∀ (t : Nat) (p : Port) (page off v : Nat) (x : Outside) (s m l : State), meetsFrom p t s m → opensAt m p page off →
    page < 256 → off < 0xE00 → off % 4 = 0 → 0x20 ≤ off → v < 2 ^ 32 → command p page off v x = none →
    pairHiAt page off = false → pairLoAt page off = false → l = loadSelection page m →
    worst (plainChecks p l (setRows (fun r => r.ty.candidate) page off v l) page off v) = none →
    exec (.registerWrite t p (page * 0x1000 + off) 4 v x) s =
      .next (written page off (renewLease p page l)
        (forEach (wordRows page (rowsOff page off)) (rowWrite p page v) (renewLease p page l))))
  ∧ (∀ (t : Nat) (p : Port) (page off : Nat) (s m : State), meetsBy .read t s m → page < 256 → off < 4096 → off % 4 = 0 →
    exec (.latchingRead t p ⟨page * 0x1000 + off, 4⟩) s = .next (readAct p page off m)
    ∧ (off + 4 < 4096 → exec (.latchingRead t p ⟨page * 0x1000 + off, 8⟩) s = .next (readAct p page (off + 4) (readAct p page off m))))
  ∧ (∀ (t : Nat) (p : Port) (page off v : Nat) (s m a : State), meetsFrom p t s m → opensAt m p page off →
    pairLoAt page off = true → unfitted m page off = false → (page = 0x0D → enabled m 0x0D = false) → a = renewLease p page m →
    exec (.pairLoWrite t p page off v) s = .next ({ a with fab := { a.fab with
      heldLo := (p, page * 0x1000 + off, v % 2 ^ 32) :: a.fab.heldLo.filter fun h => !decide (h.1 = p ∧ h.2.1 = page * 0x1000 + off) } }))
  ∧ (∀ (t : Nat) (p : Port) (page off v lo : Nat) (s m d a : State), meetsFrom p t s m → opensAt m p page off → off < 0xE00 → 0x20 ≤ off →
    pairHiAt page off = true → page ≠ 0x22 → command p page off v {} = none → heldLoOf m p (page * 0x1000 + off - 4) = some lo →
    d = dropLo p (page * 0x1000 + off - 4) m → (sealedBits d page off = 0 ∨ pairDiffers d page off lo v = false) → unfitted d page off = false →
    clearBits v (allowedBits page off) = 0 → worst (unitChecks p d (setPair page off lo v d) page off v) = none →
    a = renewLease p page d →
    exec (.pairHiWrite t p page off v) s = .next (written page off a (setPair page off lo v a)))
  ∧ (∀ (t : Nat) (p : Port) (page v : Nat) (s m : State), meetsFrom p t s m → opensAt m p page 0x004 → rd m (HDR.OWNER page) = 0 →
    v = 2 ^ 31 + rd m (HDR.ENABLE page) → rd m (HDR.ENABLE page) < 2 →
    worst (enableChecks m (wr (HDR.ENABLE page) (rd m (HDR.ENABLE page)) m) page v) = none →
    exec (.pageLock t p page v) s =
      .next (renewLease p page (m |> wr (HDR.OWNER page) p.code |> wr (HDR.LOCK page) 1)))
  ∧ (∀ (t page : Nat) (s m : State), meets t s m → leaseEnded m page = true →
    exec (.lockLeaseExpire t page) s = .next ({ m with fab := { m.fab with leases := m.fab.leases.filter fun e => e.1 != page } }
      |> event SYS.LOCK_EXP_VALID 1 |> wr SYS.LOCK_EXP_OWNER (rd m (HDR.OWNER page)) |> wr SYS.LOCK_EXP_PAGE page
      |> wr (HDR.OWNER page) 0 |> wr (HDR.LOCK page) 0 |> raise 0 0))

/-- TICK_COMMIT arms a page's pending group against the writer; TICK_DISCARD empties it; RWC_GROUP_APPLY applies an armed group that
passes its recheck and increments GROUP_SEQ; CAUSE_CLEAR clears the written leaves of CAUSE or of a SUB_CAUSE word and no other;
CAUSE_FORCE and SUB_FORCE set the written bits; HOLDOFF_END ends the hold-offs that have lasted their time; VEC_REARM sends the
messages of the named ATTN vectors whose expression is non-zero; COAL_TIMEOUT sends the message of a coalescing vector. -/
def Obligations.GroupAndCauseCommandsComplete : Prop :=
  (∀ (t : Nat) (p : Port) (page v : Nat) (g : RwcGroup) (s m a : State), meetsFrom p t s m → opensAt m p page 0x01C → rwcOf m page = some g →
    g.armed = false → g.fields ≠ [] → groupCode p m g = none → v = 1 + 65536 * rd m (HDR.GROUP_SEQ page) →
    rd m (HDR.GROUP_SEQ page) < 65536 → a = renewLease p page m →
    exec (.tickCommit t p page v) s = .next ({ a with fab := { a.fab with
      rwc := { g with armed := true, by_ := p, at_ := a.time.cycle } :: a.fab.rwc.filter fun x => x.page != page } }))
  ∧ (∀ (t : Nat) (p : Port) (page v : Nat) (g : RwcGroup) (s m a : State), meetsFrom p t s m → opensAt m p page 0x01C → rwcOf m page = some g →
    g.armed = false → v = 2 + 65536 * rd m (HDR.GROUP_SEQ page) → rd m (HDR.GROUP_SEQ page) < 65536 → a = renewLease p page m →
    exec (.tickDiscard t p page v) s = .next ({ a with fab := { a.fab with rwc := a.fab.rwc.filter fun x => x.page != page } }))
  ∧ (∀ (t page : Nat) (g : RwcGroup) (s m b : State), meets t s m → onTick m = true ∨ m.sidr.stepTick = true → b = applyDue m →
    rwcOf b page = some g → g.armed = true → g.at_ < b.time.cycle → groupCode g.by_ b g = none →
    exec (.rwcGroupApply t page) s = .next (forEach g.fields (fun x => wr x.1 x.2)
      (inc (HDR.GROUP_SEQ page) { b with fab := { b.fab with rwc := b.fab.rwc.filter fun x => x.page != page } })))
  ∧ (∀ (t : Nat) (p : Port) (page v : Nat) (s m a : State), meetsFrom p t s m → opensAt m p page 0x010 → clearBits v (causeBits page) = 0 →
    v &&& unfittedBits m page 0x010 = 0 → (hasPointer page = true → bit v 31 = true → pointerBit m page = true) → v < 2 ^ 32 →
    a = renewLease p page m →
    exec (.causeClear t p page 0x010 v) s =
      .next (when (decide (page = 0xF0 ∧ m.stc.events ≠ [])) (raise 0xF0 4) (w1c (HDR.CAUSE page) v a)))
  ∧ (∀ (t : Nat) (p : Port) (page w v : Nat) (s m a : State), meetsFrom p t s m → opensAt m p page (0xE00 + 4 * w) →
    subWord page (0xE00 + 4 * w) 0xE00 = some w → clearBits (v &&& subDefined page w) (subFitted m page w) = 0 →
    clearBits v (subDefined page w) = 0 → a = renewLease p page m →
    exec (.causeClear t p page (0xE00 + 4 * w) v) s =
      .next (w1c (HDR.SUB_CAUSE page w) v a))
  ∧ (∀ (page b v : Nat) (s : State), b < 32 →
    bit (rd (w1c (HDR.CAUSE page) v (raise page b s)) (HDR.CAUSE page)) b = true
    ∧ bit (rd (raise page b (w1c (HDR.CAUSE page) v s)) (HDR.CAUSE page)) b = true)
  ∧ (∀ (page b v : Nat) (s : State), b < 32 → bit (setNow s (HDR.CAUSE page)) b = false →
    bit (rd (w1c (HDR.CAUSE page) v s) (HDR.CAUSE page)) b = (bit (rd s (HDR.CAUSE page)) b && !bit v b))
  ∧ (∀ (t : Nat) (p : Port) (page v : Nat) (s m a : State), meetsFrom p t s m → opensAt m p page 0x018 → clearBits v (causeBits page) = 0 →
    v &&& unfittedBits m page 0x018 = 0 → (hasPointer page = true → bit v 31 = false) → a = renewLease p page m →
    exec (.causeForce t p page v) s = .next (wr (HDR.CAUSE page) (rd a (HDR.CAUSE page) ||| v) a))
  ∧ (∀ (t : Nat) (p : Port) (page w v : Nat) (s m a : State), meetsFrom p t s m → opensAt m p page (0xF00 + 4 * w) → w < subWords page →
    clearBits (v &&& subDefined page w) (subFitted m page w) = 0 → clearBits v (subDefined page w) = 0 → a = renewLease p page m →
    exec (.subForce t p page w v) s = .next (wr (HDR.SUB_CAUSE page w) (rd a (HDR.SUB_CAUSE page w) ||| v) a))
  ∧ (∀ (t : Nat) (high : Bool) (s m b : State), meets t s m → b = { m with attn := { m.attn with extLow := !high } } →
    rd m ATTN.HOLDOFF = 1 → m.attn.holdEnd ≤ m.time.cycle → m.attn.stcHold = false →
    exec (.holdoffEnd ⟨t, high⟩) s = .next (attnPin m.time.cycle (wr ATTN.HOLDOFF 0 b)))
  ∧ (∀ (t : Nat) (high : Bool) (s m b : State), meets t s m → b = { m with attn := { m.attn with extLow := !high } } →
    rd m ATTN.HOLDOFF = 0 → m.attn.stcHold = true → m.attn.stcHoldEnd ≤ m.time.cycle →
    exec (.holdoffEnd ⟨t, high⟩) s = .next (attnStc m.time.cycle { b with attn := { b.attn with stcHold := false } }))
  ∧ (∀ (t : Nat) (p : Port) (v k : Nat) (s m a : State), meetsFrom p t s m → opens m p 0x80 → v = 2 ^ k → k < 32 → a = renewLease p 0x80 m →
    rd a (HOST.VEC_KIND k) = 1 → vecExpr a a.attn.sum k = true →
    exec (.vecRearm t p v) s = .next (msixSend k a))
  ∧ (∀ (t vec n first : Nat) (s m : State), meets t s m → m.host.coal.find? (fun e => e.1 == vec) = some (vec, n, first) →
    first + 400 * rd m (HOST.COAL_US vec) ≤ m.time.cycle →
    exec (.coalTimeout t vec) s = .next (msixSend vec { m with host := { m.host with coal := adel m.host.coal vec } }))

/-- TICK_COMMIT_CYCLE in a cycle that is a tick boundary not yet run, or the step tick, answers the next state in which the count of
commit cycles has advanced, TICK_SC shows the SC of the tick, the TK writes accepted before it and the armed groups are applied,
and then the slow-plane work of the tick has run in its order. -/
def Obligations.CommitCycleCompletes : Prop :=
  ∀ (t : Nat) (tj : Int) (rosc : List Nat) (age : List (Int × Int × Nat)) (s m b : State), meets t s m →
    (m.sidr.stepTick = true ∨ (m.time.sc % tickSteps = 0 ∧ (m.time.ticks = 0 ∨ m.time.tickSc ≠ m.time.sc))) →
    b = wr SIDR.TICK_SC (scReg m.time.sc) { m with
      time := { m.time with ticks := m.time.ticks + 1, tickSc := m.time.sc }, sidr := { m.sidr with stepTick := false } } →
    exec (.tickCommitCycle t tj rosc age) s = .next (endOfCycle (powerWork tj rosc age (leftOpen (sessionTimeout
      (lgcWork (unitTicks (answerWork (keyTick (stcTick (goRun (applyTk b)))))))))))

/-- In a commit cycle the fields whose TK writes were accepted in an earlier cycle take the written values, the last accepted write of
a field standing; the writes accepted in the commit cycle itself stay pending, and a field with no due write, outside the lane
fences and the armed groups, keeps its value. -/
def Obligations.TkWriteWaitsForItsTick : Prop :=
  ∀ (s : State) (f : Fld), s.fab.rwc = [] → (∀ e ∈ s.fab.tkPend, laneFence e = false) → (∀ e ∈ s.fab.tkPend, e.1.key = f.key → e.1 = f) →
    (applyTk s).fab.tkPend = s.fab.tkPend.filter (fun e => decide (s.time.cycle ≤ e.2.2))
    ∧ rd (applyTk s) f =
        match (s.fab.tkPend.filter fun e => decide (e.2.2 < s.time.cycle ∧ e.1.key = f.key)).getLast? with
        | some e => e.2.1 % 2 ^ f.w
        | none => rd s f

/-- ADVANCE_WRITE within five frames waits for its frame boundary; ADVANCE_APPLY then puts BITS and ADVANCE_VALID in force;
LEARN_MEASUREMENT within the range takes the first measurement as LEARN_PPB; UNCERT_GROWTH adds the bound times 0.4 steps,
saturating; MAINS_CROSSING within the guard counts, and sets MAINS_OK at 50 in a row; MAINS_TIMEOUT clears MAINS_OK and raises
MAINS_GUARD; SLEW_ADJUSTMENT moves the SC by one step towards the target and SLEW_REMAIN with it; SC_STEP gives the SC its new
value; EPH_TIMEOUT lets WALL_STATE follow R40. SC_STEP and EPH_TIMEOUT are said through the shared operations stepSc and
updateWall. -/
def Obligations.SiderealCommandsComplete : Prop :=
  (∀ (t : Nat) (p : Port) (v : Nat) (s m a : State), meetsFrom p t s m → opens m p 0x03 → bits v 30 24 = 0 → bits v 23 0 ≤ 12800000 →
    a = renewLease p 0x03 m →
    exec (.advanceWrite t p v) s =
      .next ({ a with sidr := { a.sidr with advPend := some (bit v 31, bits v 23 0, a.time.cycle) } }))
  ∧ (∀ (t : Nat) (valid : Bool) (b c : Nat) (s m a : State), meets t s m → m.sidr.advPend = some (valid, b, c) → scPhase m = 0 →
    c < m.time.cycle → a = { (m |> wr SIDR.ADV_BITS b |> wrB SIDR.ADV_VALID valid) with sidr := { m.sidr with advPend := none, fine := b % 64 } } →
    (lineUsableNow a = false → rd a SIDR.LINE_USABLE = 0 → rd m SIDR.LINE_USABLE = 0 → exec (.advanceApply t) s = .next a)
    ∧ (lineUsableNow a = true → rd a SIDR.LINE_USABLE = 1 → rd m SIDR.LINE_USABLE = 1 →
      b ≤ rd m SIDR.ADV_BITS + 64 → rd m SIDR.ADV_BITS ≤ b + 64 →
      exec (.advanceApply t) s = .next (if b / 64 = rd m SIDR.ADV_BITS / 64 then a else { a with sidr := { a.sidr with
        oneStep := some (((b / 64 : Nat) : Int) - (rd m SIDR.ADV_BITS / 64 : Nat), b % 64), fine := m.sidr.fine } })))
  ∧ (∀ (t : Nat) (ppb : Int) (s m : State), meets t s m → quality m = qLOCKED → m.sidr.learnStamp + secondSteps ≤ m.time.cycle →
    -100000 ≤ ppb → ppb ≤ 100000 → m.sidr.learnStarted = false → m.sidr.learnSecs < 255 →
    exec (.learnMeasurement t ppb) s = .next ({ wrS SIDR.LEARN_PPB ppb m with
      sidr := { m.sidr with learnStamp := m.time.cycle, learnSecs := m.sidr.learnSecs + 1, learnStarted := true, learnAvg := 65536 * ppb } }))
  ∧ (∀ (t : Nat) (ppb a : Int) (s m : State), meets t s m → quality m = qLOCKED → m.sidr.learnStamp + secondSteps ≤ m.time.cycle →
    -100000 ≤ ppb → ppb ≤ 100000 → m.sidr.learnStarted = true → a = m.sidr.learnAvg + (65536 * ppb - m.sidr.learnAvg) / 256 →
    exec (.learnMeasurement t ppb) s = .next (when (decide (256 ≤ m.sidr.learnSecs + 1)) (wr SIDR.LEARN_VALID 1)
      { wrS SIDR.LEARN_PPB ((a + 32768) / 65536) m with
        sidr := { m.sidr with learnStamp := m.time.cycle, learnSecs := m.sidr.learnSecs + 1, learnAvg := a } }))
  ∧ (∀ (t : Nat) (ppb : Int) (s m : State), meets t s m → quality m = qLOCKED → m.sidr.learnStamp + secondSteps ≤ m.time.cycle →
    (ppb < -100000 ∨ 100000 < ppb) →
    exec (.learnMeasurement t ppb) s = .next (when (decide (rd m SIDR.LEARN_VALID = 1)) (raise 0x03 6) { wr SIDR.LEARN_VALID 0 m with
      sidr := { m.sidr with learnStamp := m.time.cycle, learnSecs := 0, learnStarted := false } }))
  ∧ (∀ (t f : Nat) (s m : State), meets t s m → quality m ≠ qLOCKED → quality m ≠ qHOLDOVER →
    m.sidr.uncStamp + secondSteps ≤ m.time.cycle → f = m.sidr.uncFifths + 2 * uncertBound m →
    exec (.uncertGrowth t) s = .next ({ wr SIDR.SC_UNCERT (min (f / 5) 0xFFFFFFFF) m with
      sidr := { m.sidr with uncFifths := f, uncStamp := m.time.cycle } }))
  ∧ (∀ (t l x : Nat) (s m : State), meets t s m → m.sidr.mainsLast = some l → quality m = qFREE → rd m SIDR.MERIDIAN_EN = 0 →
    x = m.time.sc - rd m SIDR.MAINS_FILTER → rd m SIDR.MAINS_MIN * frameSteps ≤ x - l → x - l ≤ rd m SIDR.MAINS_MAX * frameSteps →
    exec (.mainsCrossing t) s = .next (when (decide (50 ≤ m.sidr.mainsRun + 1)) (wr SIDR.MAINS_OK 1)
      { m with sidr := { m.sidr with mainsLast := some x, mainsTimedOut := false, mainsRun := m.sidr.mainsRun + 1
                                     mainsOkRun := if rd m SIDR.MAINS_OK = 1 then m.sidr.mainsOkRun + 1 else 0 } }))
  ∧ (∀ (t l : Nat) (s m : State), meets t s m → m.sidr.mainsLast = some l → m.sidr.mainsTimedOut = false → quality m ≠ qMERIDIAN →
    l + rd m SIDR.MAINS_TIMEOUT * frameSteps ≤ m.time.sc →
    exec (.mainsTimeout t) s = .next ({ (m |> wr SIDR.MAINS_OK 0 |> raise 0x03 5) with
      sidr := { m.sidr with mainsTimedOut := true, mainsRun := 0, mainsOkRun := 0 } }))
  ∧ (∀ (t : Nat) (d : Int) (s m : State), meets t s m → scPhase m ≠ 0 → scPhase m % 1000 = 0 → m.sidr.lastAdj ≠ some m.time.sc →
    (scPhase m = 1000 → m.sidr.oneStep = none) → (d = 1 ∧ 1 < slewRem m ∨ d = -1 ∧ slewRem m < -1) →
    exec (.slewAdjustment t) s = .next ({ wrS SIDR.SLEW_REMAIN (slewRem m - d) m with
      time := { m.time with sc := ((m.time.sc : Int) + d).toNat }, sidr := { m.sidr with lastAdj := some m.time.sc } }))
  ∧ (∀ (t f : Nat) (d : Int) (s m : State), meets t s m → scPhase m = 1000 → m.sidr.lastAdj ≠ some m.time.sc →
    m.sidr.oneStep = some (d, f) → slewRem m = 0 →
    exec (.slewAdjustment t) s = .next ({ m with
      time := { m.time with sc := ((m.time.sc : Int) + d).toNat }
      sidr := { m.sidr with lastAdj := some m.time.sc, oneStep := none, fine := f } }))
  ∧ (∀ (t : Nat) (e : Int) (s m : State), meets t s m → m.sidr.stepE = some e → ((m.time.sc : Int) + e) % tickSteps = 0 →
    exec (.scStep t) s = .next (stepSc e m))
  ∧ (∀ (t : Nat) (s m : State), meets t s m → exec (.ephTimeout t) s = .next (updateWall m))

/-- A step by E of the SC whose old value plus E is not below 0 leaves the SC at that value, SC_VALID 1, STEP_SC the new value,
STEP_FRAMES E in whole frames, STEP_COUNT one more unless it stands at its largest value, the step tick due and no correction
pending; it fires no trigger. -/
def Obligations.StepGivesTheSc : Prop :=
  ∀ (e : Int) (s : State), 0 ≤ (s.time.sc : Int) + e →
    (((stepSc e s).time.sc : Int) = (s.time.sc : Int) + e)
    ∧ rd (stepSc e s) SIDR.SC_VALID = 1
    ∧ rd (stepSc e s) SIDR.STEP_SC = scReg ((s.time.sc : Int) + e).toNat % 2 ^ 64
    ∧ rd (stepSc e s) SIDR.STEP_FRAMES = ofSigned SIDR.STEP_FRAMES.w (e / frameSteps) % 2 ^ SIDR.STEP_FRAMES.w
    ∧ rd (stepSc e s) SIDR.STEP_COUNT = min (rd s SIDR.STEP_COUNT + 1) SIDR.STEP_COUNT.top % 2 ^ SIDR.STEP_COUNT.w
    ∧ (stepSc e s).sidr.stepTick = true ∧ (stepSc e s).sidr.stepE = none
    ∧ (stepSc e s).orry.sent = s.orry.sent

/-- With SC_VALID 1 a correction of at most 40,000 phase steps, other than 0, sets SLEWING and SLEW_REMAIN and steps nothing;
otherwise a step is pending and no slew runs. Neither moves the SC nor changes SC_QUALITY at once. -/
def Obligations.CorrectionBySlewOrStep : Prop :=
  ∀ (e : Int) (s : State), e ≠ 0 → -(2 : Int) ^ 31 ≤ e → e < (2 : Int) ^ 31 →
    (e.natAbs ≤ frameSteps → rd s SIDR.SC_VALID = 1 →
      slewRem (beginCorrection e s) = e ∧ rd (beginCorrection e s) SIDR.SLEWING = 1 ∧ (beginCorrection e s).sidr.stepE = none)
    ∧ (frameSteps < e.natAbs ∨ rd s SIDR.SC_VALID = 0 →
      slewRem (beginCorrection e s) = 0 ∧ rd (beginCorrection e s) SIDR.SLEWING = 0 ∧ (beginCorrection e s).sidr.stepE = some e)
    ∧ (beginCorrection e s).time = s.time ∧ quality (beginCorrection e s) = quality s

/-- SLEW_ADJUSTMENT at phase 0, or at a phase that is no multiple of 1,000, changes nothing but the passing of time; the adjustment
that brings SLEW_REMAIN to 0 moves the SC by one step, clears SLEWING and raises SLEW_DONE. -/
def Obligations.SlewMovesOneStep : Prop :=
  (∀ (t : Nat) (s m : State), meets t s m → scPhase m = 0 ∨ scPhase m % 1000 ≠ 0 → exec (.slewAdjustment t) s = .next (m))
  ∧ (∀ (t : Nat) (d : Int) (s m : State), meets t s m → scPhase m ≠ 0 → scPhase m % 1000 = 0 → m.sidr.lastAdj ≠ some m.time.sc →
    (scPhase m = 1000 → m.sidr.oneStep = none) → (d = 1 ∨ d = -1) → slewRem m = d → rd m SIDR.LINE_USABLE = 0 →
    exec (.slewAdjustment t) s = .next (m |> wrS SIDR.SLEW_REMAIN 0 |> wr SIDR.SLEWING 0 |> raise 0x03 7 |> fun s =>
      { s with time := { m.time with sc := ((m.time.sc : Int) + d).toNat }, sidr := { m.sidr with lastAdj := some m.time.sc } }))

/-- A message out of range is counted as rejected and raises EPH_REJECT, and leaves the run in progress; while no wall time exists the
first message in range is accepted; a disagreeing message before the FILTER-th of its run is counted as rejected and raises
EPH_REJECT. A rejected message leaves EPH_FRAME, EPH_DAY, EPH_SOD and EPH_LEAP as they were. -/
def Obligations.EphemerisGuard : Prop :=
  ∀ (e : Eph) (s : State),
    (ephInRange s e = false →
      ephMessage e s = (leapMark s |> incSat SIDR.EPH_REJECTED |> raise 0x03 4) ∧ (ephMessage e s).sidr.ephRun = s.sidr.ephRun
      ∧ lastEph (ephMessage e s) = lastEph s)
    ∧ (ephInRange s e = true → s.sidr.ephHave = false → e.frame < 2 ^ 48 → e.day < 2 ^ 20 → e.sod < 2 ^ 17 → e.leap < 4 →
      lastEph (ephMessage e s) = e ∧ (ephMessage e s).sidr.ephHave = true ∧ (ephMessage e s).sidr.ephRun = none)
    ∧ (ephInRange s e = true → s.sidr.ephHave = true → ephAgrees (lastEph s) e = false → ephRunLen s e < rd s SIDR.EPH_FILTER →
      ephMessage e s = (leapMark { s with sidr := { s.sidr with ephRun := some (e, ephRunLen s e) } } |> incSat SIDR.EPH_REJECTED |> raise 0x03 4)
      ∧ lastEph (ephMessage e s) = lastEph s)

/-- ALMANAC_INSTALL replaces the slot at W_INDEX by the window's entry, ALMANAC_REMOVE empties it, ALMANAC_READ loads the window from
it; ORRERY_FIRE consumes the first due occurrence and sends its trigger, or counts a skipped one; ENTRY_UE empties the entry and
records its index; SNAPSHOT makes its writer the owner of a pending snapshot; SNAPSHOT_COPY takes a snapshot accepted before its
commit cycle; SNAPSHOT_RELEASE frees the bank; CLEAR_BREAK ends the break of a domain that balances. -/
def Obligations.OrreryAndLedgerCommandsComplete : Prop :=
  (∀ (t w i : Nat) (p : Port) (e : AEntry) (s m a : State), meetsFrom p t s m → opens m p 0x05 → w = p.window → i = rd m (ALM.W_INDEX w) →
    e = windowEntry m w p.code → cmdBusy m (almCmdAddr w) = false → 64 ≤ i → actionLegalOnly m e.unit e.action e.arg = false →
    protectedFrom m i p.code = false → unitAbsent m.fuse.variant e.unit e.arg = false →
    entryRange e (rd m (ALM.W_TIMEBASE w)) = false → (e.wall = true → rd m SIDR.WALL_STATE ≠ 0) → tooSoon m e = false →
    a = accepted p 0x05 (some (ALM.W_CODE w)) m →
    exec (.almanacInstall t p) s = .next (replaceEntry (rd a (ALM.W_INDEX w)) (windowEntry a w p.code)
      (fireOld (rd a (ALM.W_INDEX w)) (startCmd (almCmdAddr w) 4 a))))
  ∧ (∀ (t w : Nat) (p : Port) (s m a : State), meetsFrom p t s m → opens m p 0x05 → w = p.window → cmdBusy m (almCmdAddr w) = false →
    64 ≤ rd m (ALM.W_INDEX w) → protectedFrom m (rd m (ALM.W_INDEX w)) p.code = false → a = accepted p 0x05 (some (ALM.W_CODE w)) m →
    exec (.almanacRemove t p) s = .next (dropEntry (rd a (ALM.W_INDEX w)) (fireOld (rd a (ALM.W_INDEX w)) (startCmd (almCmdAddr w) 4 a))))
  ∧ (∀ (t w : Nat) (p : Port) (s m a : State), meetsFrom p t s m → opens m p 0x05 → w = p.window → cmdBusy m (almCmdAddr w) = false →
    a = startCmd (almCmdAddr w) 4 (accepted p 0x05 (some (ALM.W_CODE w)) m) →
    exec (.almanacRead t p) s = .next (match entryAt a (rd a (ALM.W_INDEX w)) with
      | some e => loadWindow w (rd a (ALM.W_INDEX w)) e a
      | none => clearWindow w a))
  ∧ (∀ (t : Nat) (d : DueFire) (s m : State), meets t s m → m.orry.firedAt ≠ some m.time.cycle →
    firstDue (dueOrdinary m ++ dueOwed m) = some d → fireSkipped (consume d m) d.index d.entry = false →
    exec (.orreryFire t) s = .next (sendTrigger d (consume d m)))
  ∧ (∀ (t : Nat) (d : DueFire) (s m : State), meets t s m → m.orry.firedAt ≠ some m.time.cycle →
    firstDue (dueOrdinary m ++ dueOwed m) = some d → fireSkipped (consume d m) d.index d.entry = true →
    exec (.orreryFire t) s = .next (inc ORRY.COND_SKIPPED (consume d m)))
  ∧ (∀ (t index : Nat) (e : AEntry) (s m : State), meets t s m → entryAt m index = some e → 64 ≤ index →
    exec (.entryUe t index) s = .next (dropEntry index m |> wr ORRY.UE_INDEX index |> wr ORRY.UE_SEEN 1 |> raise 0x04 2 |> condLost 2))
  ∧ (∀ (t : Nat) (w : Writer) (s m a : State), meetsBy (.writer w) t s m → opensTo m w 0x02 → rd m LEDG.SNAP_HELD = 0 →
    rd m LEDG.SNAP_PENDING = 0 → a = acceptedBy w 0x02 none m →
    exec (.snapshot t w) s = .next ({ a with led := { a.led with snapAt := a.time.cycle } }
      |> wr LEDG.SNAP_PENDING 1 |> wr LEDG.SNAP_OWNER (Writer.code w)))
  ∧ (∀ (t : Nat) (s m : State), meets t s m → rd m LEDG.SNAP_PENDING = 1 → m.led.snapAt < m.time.cycle →
    (m.time.sc % tickSteps = 0 ∨ m.sidr.stepTick = true) →
    exec (.snapshotCopy t) s = .next (takeSnapshot m))
  ∧ (∀ (t : Nat) (w : Writer) (s m : State), meetsBy (.writer w) t s m → opensTo m w 0x02 → rd m LEDG.SNAP_HELD = 1 →
    rd m LEDG.SNAP_OWNER = Writer.code w →
    exec (.snapshotRelease t w) s = .next (wr LEDG.SNAP_HELD 0 (acceptedBy w 0x02 none m)))
  ∧ (∀ (t d : Nat) (p : Port) (s m : State), meetsFrom p t s m → opens m p 0x02 → d < 6 → balanced m d = true →
    exec (.clearBreak t p d) s = .next (endBreak d (renewLease p 0x02 m)))

/-- Of the due firings the one taken stands before every other in the order of occurrence SC and index; the occurrence it consumes
becomes the entry's LAST_FIRE, and an SC entry's next occurrence then lies after it. -/
def Obligations.OrreryFiresTheLowest : Prop :=
  (∀ (l : List DueFire) (d : DueFire), firstDue l = some d →
    d ∈ l ∧ ∀ e ∈ l, d.occ < e.occ ∨ (d.occ = e.occ ∧ d.index ≤ e.index))
  ∧ (∀ (d : DueFire) (s : State), d.owed = false →
    entryAt (consume d s) d.index = some { d.entry with
      lastFire := some d.occ, lastWall := if d.wall.isSome then d.wall else d.entry.lastWall })
  ∧ (∀ (e : AEntry) (o n : Nat) (w : Option (Nat × Nat)) (s : State), e.wall = false → e.lastFire = some o →
    nextOcc s e = some (n, w) → o < n)

/-- A trigger that a unit executes, merges or refuses keeps the unit's TRIG balance, and one that reaches a unit halted by a TRIG
break, or one that does not run in the power state, counts as REFUSED and does nothing else; an Orrery trigger increments SENT of
its unit. -/
def Obligations.TriggersAreCountedOnce : Prop :=
  (∀ (src : TrigSrc) (u : Nat) (f : Nat → State → State) (s : State), (f = trigExec ∨ f = trigMerge ∨ f = trigRefuse ∨ f = trigPend) →
    trigBalanced (tallyOf s.led.trig u) = true → trigBalanced (tallyOf (arrive src u (f u) s).led.trig u) = true)
  ∧ (∀ (src : TrigSrc) (u : Nat) (act : State → State) (s : State), (unitHalted s u = true ∨ unitRuns s u = false) →
    (tallyOf (arrive src u act s).led.trig u).refused = (tallyOf s.led.trig u).refused + 1
    ∧ (tallyOf (arrive src u act s).led.trig u).executed = (tallyOf s.led.trig u).executed
    ∧ (arrive src u act s).regs = s.regs)
  ∧ (∀ (u : Nat) (s : State), aget (arrive .orry u (trigExec u) s).orry.sent u 0 = aget s.orry.sent u 0 + 1)

/-- A SNAPSHOT while one is pending is accepted and leaves the owner; a SNAPSHOT while one is held is refused with BUSY; RELEASE from
another writer is refused with LOCKED and with nothing held it is refused with STATE; the copy increments SNAP_SEQ, records the
SC, sets SNAP_HELD, raises SNAP_READY, and shows every CELLS, DESC, CREDIT and NONCE tally as it stood. -/
def Obligations.SnapshotBankHasOneOwner : Prop :=
  (∀ (t : Nat) (w : Writer) (s m : State), meetsBy (.writer w) t s m → opensTo m w 0x02 → rd m LEDG.SNAP_HELD = 0 →
    rd m LEDG.SNAP_PENDING = 1 → exec (.snapshot t w) s = .next (acceptedBy w 0x02 none m))
  ∧ (∀ (t : Nat) (w : Writer) (s m : State), meetsBy (.writer w) t s m → opensTo m w 0x02 → rd m LEDG.SNAP_HELD = 1 →
    exec (.snapshot t w) s = .next (turnedAway w 0x02 0x040 .busy m))
  ∧ (∀ (t : Nat) (w : Writer) (s m : State), meetsBy (.writer w) t s m → opensTo m w 0x02 → rd m LEDG.SNAP_HELD = 1 →
    rd m LEDG.SNAP_OWNER ≠ Writer.code w →
    exec (.snapshotRelease t w) s = .next (turnedAway w 0x02 0x040 .locked m))
  ∧ (∀ (t : Nat) (w : Writer) (s m : State), meetsBy (.writer w) t s m → opensTo m w 0x02 → rd m LEDG.SNAP_HELD = 0 →
    exec (.snapshotRelease t w) s = .next (turnedAway w 0x02 0x040 .state m))
  ∧ (∀ (s : State),
    rd (takeSnapshot s) LEDG.SNAP_SEQ = (rd s LEDG.SNAP_SEQ + 1) % 2 ^ LEDG.SNAP_SEQ.w
    ∧ rd (takeSnapshot s) LEDG.SNAP_SC = scReg s.time.sc % 2 ^ 64
    ∧ rd (takeSnapshot s) LEDG.SNAP_HELD = 1 ∧ rd (takeSnapshot s) LEDG.SNAP_PENDING = 0
    ∧ bit (rd (takeSnapshot s) (HDR.CAUSE 0x02)) 0 = true
    ∧ rd (takeSnapshot s) LEDG.S_CELLS_FREE = s.led.cellsFree % 2 ^ LEDG.S_CELLS_FREE.w
    ∧ rd (takeSnapshot s) LEDG.S_CELLS_QUEUED = s.led.cellsQueued % 2 ^ LEDG.S_CELLS_QUEUED.w
    ∧ rd (takeSnapshot s) LEDG.S_CELLS_STAGED = s.led.cellsStaged % 2 ^ LEDG.S_CELLS_STAGED.w
    ∧ rd (takeSnapshot s) LEDG.S_DESC_FREE = s.led.descFree % 2 ^ LEDG.S_DESC_FREE.w
    ∧ rd (takeSnapshot s) LEDG.S_SPEC_DEBIT = s.led.specDebit % 2 ^ LEDG.S_SPEC_DEBIT.w
    ∧ rd (takeSnapshot s) LEDG.S_NONCE_OPEN = s.led.nonceOpen % 2 ^ LEDG.S_NONCE_OPEN.w
    ∧ (takeSnapshot s).led.snapTrig = s.led.trig)

/-- LANE_PHASE_DONE, LANE_ADAPT_DONE and LANE_DESKEW_DONE move a lane on through its training; LANE_WINDOW shows what the window
counted and judges it; TRAIN_TIMEOUT declares a lane DOWN; LANE_RETRY returns a DOWN lane to PHASE; EQ_UPDATE moves a parameter
within its fence; FENCE_HELD raises its cause once; LANE_HOLD and LANE_RELEASE hold and release a lane; SD_CONTRADICT ignores a
contradicted MOD_SD; RXC_TIMEOUT fails the RXC guard; RXC_WINDOW shows the measured offset. -/
def Obligations.ReceiveLaneCommandsComplete : Prop :=
  (∀ (t lane centre : Nat) (s m : State), meets t s m → lane < 3 → rxState m lane = 1 → (rxOf m lane).entered + 4096 ≤ m.time.cycle →
    exec (.lanePhaseDone t lane centre) s = .next (rxEnter lane 2 (presetEq lane (wr (LANE.LIVE_CENTRE lane) centre m))))
  ∧ (∀ (t lane : Nat) (s m : State), meets t s m → lane < 3 → rxState m lane = 2 → (rxOf m lane).entered + 16384 ≤ m.time.cycle →
    exec (.laneAdaptDone t lane) s = .next (rxEnter lane 3 m))
  ∧ (∀ (t lane cand hits : Nat) (off : Int) (s m : State), meets t s m → lane < 3 → rxState m lane = 3 → 1 ≤ cand →
    cand ≤ fullSearch m → (rxOf m lane).entered + searchSteps m cand ≤ m.time.cycle →
    (aligns m lane off hits = true → exec (.laneDeskewDone t lane ⟨off, cand, hits⟩) s = .next (rxEnter lane 4 m))
    ∧ (aligns m lane off hits = false → cand = fullSearch m → exec (.laneDeskewDone t lane ⟨off, cand, hits⟩) s = .next (rxEnter lane 1 m)))
  ∧ (∀ (t lane errors eye : Nat) (ok : Bool) (corrected : List Nat) (x : CheckSeen) (s m b : State), meets t s m → lane < 3 →
    (rxState m lane = 4 ∨ rxState m lane = 5) → (rxOf m lane).winStart + 4096 ≤ m.time.cycle → errors = attributed corrected x lane →
    b = modRx lane (fun x => { x with winStart := m.time.cycle }) (m |> wr (LANE.ERR_LAST lane) (min errors 0xFFFF)
      |> wr (LANE.EYE_LAST lane) eye |> addTo (LANE.ERR_TOTAL lane) errors |> countMismatches lane x.mismatches.length) →
    exec (.laneWindow t lane corrected eye ok x) s = .next (judgeWindow lane
      (decide (rd b LANE.ERR_MAX < errors) || decide (eye < rd b LANE.EYE_MIN) || !ok) b))
  ∧ (∀ (t lane : Nat) (s m : State), meets t s m → lane < 3 → 1 ≤ rxState m lane → rxState m lane ≤ 4 →
    (rxOf m lane).phaseTick + rd m LANE.TRAIN_TIMEOUT ≤ m.time.ticks →
    exec (.trainTimeout t lane) s = .next (rxEnter lane 6 (raise 0x08 16 m)))
  ∧ (∀ (t lane : Nat) (s m : State), meets t s m → lane < 3 → rxState m lane = 6 → rd m LANE.RXC_OK = 1 →
    (rxOf m lane).downTick + rd m LANE.RETRY_TICKS ≤ m.time.ticks →
    exec (.laneRetry t lane) s = .next (rxEnter lane 1 m))
  ∧ (∀ (t lane param n h : Nat) (ask lo hi cur : Int) (s m : State), meets t s m → lane < 3 → param < 6 →
    (rxState m lane = 2 ∨ rxState m lane = 4 ∨ rxState m lane = 5) →
    rd m (LANE.FREEZE lane) = 0 → spacedBy (assocN (rxOf m lane).updated param) 256 m.time.cycle = true →
    (lo, hi) = fenceOf m lane param → (n, h) = tickUpdOf (rxOf m lane) param → cur = liveOf m lane param →
    exec (.eqUpdate t lane param ask) s = .next (modRx lane (fun x => { x with
        updated := (param, m.time.cycle) :: x.updated.filter (fun e => e.1 != param)
        tickUpd := (param, n + 1, h + if cur = hi ∧ hi < ask ∨ cur = lo ∧ ask < lo then 1 else 0) ::
          x.tickUpd.filter (fun e => e.1 != param) })
      (wrS (liveF lane param) (if ask < lo then lo else if hi < ask then hi else ask) m)))
  ∧ (∀ (t lane : Nat) (s m : State), meets t s m → lane < 3 → rd m LANE.FENCE_TICKS ≤ rd m (LANE.HELD_TICKS lane) →
    0 < rd m (LANE.HELD_TICKS lane) → (rxOf m lane).fenceRaised = false →
    exec (.fenceHeld t lane) s = .next (raise 0x08 (13 + lane) (modRx lane (fun x => { x with fenceRaised := true }) m)))
  ∧ (∀ (t lane : Nat) (p : Port) (s m a : State), meetsFrom p t s m → opens m p 0x08 → lane < 3 → enabled m 0x08 = true →
    cmdBusy m laneCmdAddr = false → rd m LANE.CMD_BUSY = 0 → leavesTooFew m lane = false → rxState m lane ≠ 7 →
    a = accepted p 0x08 (some LANE.CMD_CODE) m →
    exec (.laneHold t p lane) s = .next (rxEnter lane 7 (raise 0x08 18 (startCmd laneCmdAddr 4 a))))
  ∧ (∀ (t lane : Nat) (p : Port) (s m a : State), meetsFrom p t s m → opens m p 0x08 → lane < 3 → enabled m 0x08 = true →
    cmdBusy m laneCmdAddr = false → rd m LANE.CMD_BUSY = 0 → rxState m lane = 7 → a = accepted p 0x08 (some LANE.CMD_CODE) m →
    exec (.laneRelease t p lane) s = .next (modRx lane (fun x => { x with released := true })
      (rxEnter lane 1 (raise 0x08 18 (startCmd laneCmdAddr 4 a)))))
  ∧ (∀ (t : Nat) (s m b : State), meets t s m → rd m LANE.SD_FILT = 0 → m.lane.sdIgnored = false →
    m.lane.sdLowTick + rd m LANE.SD_TIMEOUT ≤ m.time.ticks →
    2 ≤ ((List.range 3).filter fun n => passedSince m n m.lane.sdLowCycle).length →
    b = { (m |> incSat LANE.SD_FAILS |> raise 0x08 7) with lane := { m.lane with sdIgnored := true } } →
    exec (.sdContradict t) s = .next (updateLink b))
  ∧ (∀ (t : Nat) (s m : State), meets t s m → rd m LANE.RXC_OK = 1 → exec (.rxcTimeout t) s = .next (rxcFail m))
  ∧ (∀ (t : Nat) (ppm : Int) (s m : State), meets t s m → rd m LANE.RXC_OK = 1 → ppm.natAbs ≤ rd m LANE.RXC_RANGE_PPM →
    exec (.rxcWindow t ppm) s = .next ({ wrS LANE.RXC_PPM ppm m with lane := { m.lane with rxcRun := m.lane.rxcRun + 1 } }))

/-- A lane that enters DOWN from another state reads DOWN, counts in DOWN_COUNT and raises its cause; a lane in CHECK or UP whose
failing run reaches FILTER is DOWN; RXC failing puts every lane that is neither OFF nor HELD into DOWN and reads RXC_OK 0; LINK
reads DOWN while LANE is disabled, while RXC_OK is 0 or while MOD_SD is low, and it then raises LINK_DOWN if it read otherwise. -/
def Obligations.LanesFallAndReturn : Prop :=
  (∀ (n : Nat) (s : State), n < 3 → rxState s n ≠ 6 →
    rxState (rxEnter n 6 s) n = 6 ∧ bit (rd (rxEnter n 6 s) (HDR.CAUSE 0x08)) n = true
    ∧ rd (rxEnter n 6 s) (LANE.DOWN_COUNT n) = min (rd s (LANE.DOWN_COUNT n) + 1) (LANE.DOWN_COUNT n).top % 2 ^ (LANE.DOWN_COUNT n).w)
  ∧ (∀ (n : Nat) (s : State), n < 3 → max 1 (rd s LANE.RX_FILTER) ≤ (rxOf s n).failRun + 1 → rxState (judgeWindow n true s) n = 6)
  ∧ (∀ (n : Nat) (s : State), n < 3 → rd (rxcFail s) LANE.RXC_OK = 0
    ∧ rxState (rxcFail s) n = if rxState s n = 0 ∨ rxState s n = 7 then rxState s n else 6)
  ∧ (∀ (s : State), (enabled s 0x08 = false ∨ rd s LANE.RXC_OK = 0 ∨ sdLevel s = false) →
    rd (updateLink s) LANE.LINK = 0 ∧ (rd s LANE.LINK ≠ 0 → bit (rd (updateLink s) (HDR.CAUSE 0x08)) 4 = true))

/-- RETRAIN returns a receive lane to PHASE; TX_SWAP starts the named lane's training and counts the substitution; TX_DRIVER_FAULT
starts the substitution to the spare, and without one puts the lane DOWN and raises TX_DOWN; TX_SWAP_DONE makes the new lane ACTIVE; TX_TRAINING_DONE makes the trained
lane ACTIVE; TXFLT_CLEAR ends the TXFLT guard's substitute; MOD_SD_EDGE takes the level; MOD_TXFLT_ASSERT while MOD_TXEN is driven
low ends in LOCKOUT; TXFLT_TIMEOUT fails the guard. Grants that a retraining costs are declined. -/
def Obligations.TransmitLaneCommandsComplete : Prop :=
  (∀ (t lane : Nat) (p : Port) (ok : Bool) (s m a : State), meetsFrom p t s m → opens m p 0x08 → lane < 3 → enabled m 0x08 = true →
    cmdBusy m laneCmdAddr = false → rd m LANE.CMD_BUSY = 0 → leavesTooFew m lane = false → a = accepted p 0x08 (some LANE.CMD_CODE) m →
    exec (.retrain t p lane ok) s =
      .next (noteFall (fun _ => declinePlans (rxEnter lane 1 (raise 0x08 18 (startCmd laneCmdAddr 4 a)))) m))
  ∧ (∀ (t k : Nat) (p : Port) (s m a : State), meetsFrom p t s m → opens m p 0x08 → k < 2 → enabled m 0x08 = true →
    cmdBusy m laneCmdAddr = false → rd m LANE.CMD_BUSY = 0 → rd m (txStateF k) ≠ 3 → rd m (txStateF k) ≠ 6 → txRetrain m = false →
    a = accepted p 0x08 (some LANE.CMD_CODE) m →
    exec (.txSwap t p (k + 4)) s = .next (noteFall (fun _ => declinePlans (startSwap k true false a)) m)
    ∧ (startSwap k true false a).lane.swap = some ⟨k, max a.time.cycle (flightEnd a), true, false⟩)
  ∧ (∀ (t k : Nat) (s m a : State), meets t s m → txActive m = some k →
    a = abortBurst (m |> raise 0x08 (10 + k) |> incSat LANE.TX_FAILS) → a.lane.swap = none →
    (rd a LANE.TX_AUTO = 0 ∨ rd a (txStateF (1 - k)) ≠ 0 → exec (.txDriverFault t) s = .next (noteFall (fun _ =>
      declinePlans (updateLink (txLowFrom a.time.cycle (raise 0x08 17 (wr (txStateF k) 6 a))))) m))
    ∧ (rd a LANE.TX_AUTO = 1 → rd a (txStateF (1 - k)) = 0 → exec (.txDriverFault t) s = .next (noteFall (fun _ =>
      declinePlans (startSwap (1 - k) false true a)) m)))
  ∧ (∀ (t : Nat) (w : TxSwap) (s m : State), meets t s m → m.lane.swap = some w → w.start + trainSteps m + 4 ≤ m.time.cycle →
    m.time.cycle ≤ w.start + rd m LANE.TX_TIMEOUT * tickSteps → exec (.txSwapDone t true) s = .next (finishSwap w m))
  ∧ (∀ (t c : Nat) (s m : State), meets t s m → m.lane.txTrain = some c → c + 4096 ≤ m.time.cycle →
    exec (.txTrainingDone t) s = .next (updateLink
      { (m |> wr (txStateF m.rpr.txLane) 3 |> wr LANE.TX_ACTIVE m.rpr.txLane) with lane := { m.lane with txTrain := none } }))
  ∧ (∀ (t : Nat) (p : Port) (s m a : State), meetsFrom p t s m → opens (wr LANE.TXFLT_FILT 0 m) p 0x08 → enabled m 0x08 = true →
    cmdBusy m laneCmdAddr = false → rd m LANE.CMD_BUSY = 0 → m.lane.fltGuard = true →
    a = accepted p 0x08 (some LANE.CMD_CODE) (wr LANE.TXFLT_FILT 0 m) →
    exec (.txfltClear t p 0 false) s =
      .next (raise 0x08 18 (startCmd laneCmdAddr 4 { a with lane := { a.lane with fltGuard := false } })))
  ∧ (∀ (t : Nat) (edges : List Nat) (s m : State), meets t s m → edges = inSecond m.time.cycle (m.time.cycle :: m.lane.sdEdges) →
    edges.length ≤ rd m LANE.SD_MAX_EDGES →
    exec (.modSdEdge t true) s = .next (updateLink
      { wr LANE.SD_FILT 1 m with lane := { m.lane with sdEdges := edges, sdIgnored := false } }))
  ∧ (∀ (t : Nat) (s m : State), meets t s m → txenDriven m = false →
    exec (.modTxfltAssert ⟨t, true⟩) s = .next (lockout 2 (txfltAssert m)))
  ∧ (∀ (t : Nat) (s m : State), meets t s m → exec (.modTxfltAssert ⟨t, false⟩) s = .next (wr LANE.TXFLT_FILT 0 m))
  ∧ (∀ (t : Nat) (s m : State), meets t s m → rd m LANE.TXFLT_FILT = 1 → m.lane.fltTick + rd m LANE.TXFLT_TIMEOUT ≤ m.time.ticks →
    m.lane.fltGuard = false →
    exec (.txfltTimeout t) s = .next (lockout 3 (txfltFail (abortBurst m))))

/-- DOWNSTREAM_FRAME in SYNC is decoded, and in HUNT a good candidate leads to PRESYNC; LOS_DETECT, LOS_CLEAR and LOF_DETECT follow
their times; SF_WINDOW and SD_WINDOW end a window; PM_SECOND ends a second; SECOND_FINAL adds a final second to its bins;
BIN_CLOSE with no close pending pends one; BIN_HISTORY enters a closed bin; CLEAR_HISTORY empties both histories; BIN_SEL shows
the selected bin. -/
def Obligations.LineCommandsComplete : Prop :=
  (∀ (t sub : Nat) (x0 x1 x2 : List Nat) (f : RxFrame) (s m : State), meets t s m → f = rxFrame (lineBytes m x0 x1 x2) →
    enabled m 0x0A = true → linkLost (rd m LANE.LINK) = false → rd m FRMD.DELIN = 2 → 8 * m.time.cycle + sub = m.line.nextAt →
    f.psErrors ≤ rd m FRMD.PSYNC_TOL →
    exec (.downstreamFrame t ⟨sub, x0, x1, x2⟩) s = .next (tryStandby (syncFrame false f
      { m with line := { m.line with nextAt := m.line.nextAt + frameBytesLen, miss := 0 } })))
  ∧ (∀ (t sub k c : Nat) (x0 x1 x2 : List Nat) (s m : State), meets t s m → enabled m 0x0A = true →
    linkLost (rd m LANE.LINK) = false → rd m FRMD.DELIN = 0 → findSync 0 (lineBytes m x0 x1 x2) = some (k, c) →
    exec (.downstreamFrame t ⟨sub, x0, x1, x2⟩) s = .next ({ wr FRMD.DELIN 1 m with
      line := { m.line with prev := c, nextAt := 8 * m.time.cycle + sub + k + frameBytesLen } }))
  ∧ (∀ (t : Nat) (s m : State), meets t s m → enabled m 0x0A = true → linkLost (rd m LANE.LINK) = true →
    m.lane.linkBad + rd m FRMD.LOS_SET ≤ m.time.cycle → exec (.losDetect t) s = .next (detect 0 m))
  ∧ (∀ (t : Nat) (s m : State), meets t s m → linkLost (rd m LANE.LINK) = false →
    m.lane.linkGood + rd m FRMD.LOS_CLR * frameSteps ≤ m.time.cycle → exec (.losClear t) s = .next (undetect 0 m))
  ∧ (∀ (t : Nat) (s m : State), meets t s m → enabled m 0x0A = true → rd m FRMD.DELIN ≠ 2 →
    m.line.outAt + rd m FRMD.LOF_SET * frameSteps ≤ m.time.cycle → exec (.lofDetect t) s = .next (detect 1 m))
  ∧ (∀ (t : Nat) (s m : State), meets t s m → enabled m 0x0A = true → scPhase m = 0 → scFrame m % 100 = 0 → m.line.sfAt ≠ some m.time.sc →
    exec (.sfWindow t) s = .next (declare (when (sdDue m) sdWindow (sfWindow m))))
  ∧ (∀ (t : Nat) (s m : State), meets t s m → enabled m 0x0A = true → scPhase m = 0 → scFrame m % 10000 = 0 →
    m.line.sdAt ≠ some m.time.sc → exec (.sdWindow t) s = .next (declare (sdWindow (when (sfDue m) sfWindow m))))
  ∧ (∀ (t : Nat) (s m : State), meets t s m → m.time.sc % secondSteps = 0 → m.pmon.sec.start ≠ m.time.sc →
    exec (.pmSecond t) s = .next (endSecond m))
  ∧ (∀ (t : Nat) (d : PmDone) (r : List PmDone) (s m : State), meets t s m → m.pmon.done = d :: r → d.finSc ≤ m.time.sc →
    exec (.secondFinal t) s = .next ({ m with
      pmon := { m.pmon with done := r, bin15 := binSetAdd d m.pmon.bin15, binDay := binSetAdd d m.pmon.binDay } }))
  ∧ (∀ (t occ b n fin : Nat) (src : TrigSrc) (s m c : State), meets t s m → c = arrived src 0x0C m → takesTriggers c 0x0C →
    m.pmon.bin15.closing = none → (b, n, fin) = boundaryFor m occ →
    exec (.binClose t src occ 1) s = .next (trigPend 0x0C (putBins 1 { c.pmon.bin15 with
      closing := some { c.pmon.bin15.cur with endSc := b }, upTo := n, closeFin := fin
      cur := { first := n, start := b, flags := 0 } } c)))
  ∧ (∀ (t : Nat) (c : Bin) (s m : State), meets t s m → closeDue m 1 = some c → exec (.binHistory t) s = .next (binEnters 1 c m))
  ∧ (∀ (t : Nat) (p : Port) (b : BinSet) (s m a : State), meetsFrom p t s m → opens m p 0x0C → m.pmon.bin15.closing = none →
    m.pmon.binDay.closing = none → a = renewLease p 0x0C m → b = { cur := freshBin a } →
    exec (.clearHistory t p) s = .next (putBins 2 b (putBins 1 b a)))
  ∧ (∀ (t : Nat) (p : Port) (s m a : State), meetsFrom p t s m → opens m p 0x0C → a = renewLease p 0x0C m →
    exec (.binSel t p 0) s = .next (loadBin m.pmon.bin15.cur (scReg m.pmon.bin15.cur.start) 0
      (a |> wr PMON.BIN_KIND 0 |> wr PMON.BIN_INDEX 0)))

/-- After a section defect is newly detected it stands in DETECTED with those that stood before, DECLARED holds the highest of them
alone, and for LOS ADVANCE_VALID reads 0; a cleared defect no longer stands, and DECLARED again holds the highest of the rest. -/
def Obligations.DefectsAreDeclaredByRank : Prop :=
  (∀ (b : Nat) (s : State), b < 5 → bit (rd s FRMD.DETECTED) b = false → rd s FRMD.DETECTED < 32 →
    rd (detect b s) FRMD.DETECTED = rd s FRMD.DETECTED + 2 ^ b
    ∧ rd (detect b s) FRMD.DECLARED = highest (rd s FRMD.DETECTED + 2 ^ b) ∧ (b = 0 → rd (detect b s) SIDR.ADV_VALID = 0))
  ∧ (∀ (b : Nat) (s : State), b < 5 → bit (rd s FRMD.DETECTED) b = true → rd s FRMD.DETECTED < 32 →
    rd (undetect b s) FRMD.DETECTED = rd s FRMD.DETECTED - 2 ^ b
    ∧ rd (undetect b s) FRMD.DECLARED = highest (rd s FRMD.DETECTED - 2 ^ b))

/-- GRANT_ENTRY in RANGING plans the ranging burst of an own entry; BURST_LAUNCH sends the earliest burst that is due; TO1_EXPIRE and
TO2_EXPIRE end their states; GO_OPERATION, CLEAR_LOCKOUT and REJOIN make their transitions; UPMSG_SEND hands the message to seat
4; ROGUE_PAD ends in LOCKOUT with reason 1; TXEN_LOW raises its cause. -/
def Obligations.ActivationCommandsComplete : Prop :=
  (∀ (t k : Nat) (b : List Nat) (r : List (Nat × List Nat)) (g : Grant) (p : Plan) (s m a o c : State), meets t s m →
    m.line.grants = (k, b) :: r → g = grantOf b → a = { m with line := { m.line with grants := r } } → g.crcOk = true →
    rd m ACTV.STATE = 3 → g.term = rd m ACTV.TERM_ID → p = planOf a g → o = { a with line := { a.line with owned := a.line.owned + 1 } } →
    entryBad o g p = false → c = inc (ACTV.CNT 0) o → entryLate c k p = false → fallsInRetrain c p = false →
    exec (.grantEntry t) s = .next ({ c with
      burst := { c.burst with plans := c.burst.plans ++ [p] }
      line := { c.line with own := ((planSpan c p).1, (planSpan c p).2, 16) :: c.line.own } }))
  ∧ (∀ (t : Nat) (p : Plan) (s m : State), meets t s m →
    (m.burst.plans.filter fun p => decide (launchCycle m p ≤ m.time.cycle)).foldl (sooner m) none = some p →
    txForcedLow m = false → (∀ c, contOf m p = some c → c.ksLeft = 0) →
    exec (.burstLaunch t) s = .next (noteFall (fun _ => stageWaiting (sendBurst p m)) m))
  ∧ (∀ (t k : Nat) (s m : State), meets t s m → m.actv.to1 = some k → k + rd m ACTV.TO1 ≤ m.time.ticks →
    exec (.to1Expire t) s = .next (goState 1 (raise 0x0D 8 m)))
  ∧ (∀ (t k : Nat) (s m : State), meets t s m → to2Start m = some k → k + rd m ACTV.TO2 ≤ m.time.ticks →
    exec (.to2Expire t) s = .next (tryStandby (goState 0 (raise 0x0D 9 m))))
  ∧ (∀ (t : Nat) (p : Port) (s m a : State), meetsFrom p t s m → opens m p 0x0D → cmdBusy m actvCmdAddr = false → rd m ACTV.STATE = 3 →
    rd m ACTV.RANGED_FLAG = 1 → rd m SIDR.ADV_VALID = 1 → rd m SIDR.ADV_BITS = rd m ACTV.RANGED_ADVANCE →
    a = accepted p 0x0D (some ACTV.CMD_CODE) m → exec (.goOperation t p) s = .next (goState 4 (startCmd actvCmdAddr 4 a)))
  ∧ (∀ (t : Nat) (p : Port) (s m b a : State), meetsFrom p t s m → b = { m with actv := { m.actv with padHigh := false } } → opens b p 0x0D →
    cmdBusy m actvCmdAddr = false → rd m ACTV.STATE = 7 → m.lane.fltGuard = false → a = accepted p 0x0D (some ACTV.CMD_CODE) b →
    exec (.clearLockout t p false) s = .next (tryStandby (goState 0 (startCmd actvCmdAddr 4 a))))
  ∧ (∀ (t : Nat) (p : Port) (s m a : State), meetsFrom p t s m → opens m p 0x0D → cmdBusy m actvCmdAddr = false → 1 ≤ rd m ACTV.STATE →
    rd m ACTV.STATE ≤ 5 → a = accepted p 0x0D (some ACTV.CMD_CODE) m →
    exec (.rejoin t p) s = .next (toInitial (startCmd actvCmdAddr 4 a)))
  ∧ (∀ (t : Nat) (p : Port) (s m a : State), meetsFrom p t s m → opens m p 0x0D → m.actv.micMsg = none → rd m ACTV.UPMSG_TYPE = 0x90 →
    rd m ACTV.STATE = 4 → m.actv.upq.length < 8 → a = renewLease p 0x0D m →
    exec (.upmsgSend t p) s = .next ({ a with actv := { a.actv with
      micMsg := some (oamMessage (rd a ACTV.TERM_ID) 0x90 (rd a ACTV.UPMSG_SEQ) (upmsgBody a)) } }))
  ∧ (∀ (t : Nat) (s m : State), meets t s m → txenDriven m = false → m.burst.txFall + rd m ACTV.ROGUE_FILTER ≤ m.time.cycle →
    exec (.roguePad t) s = .next (lockout 1 { m with actv := { m.actv with padHigh := true } }))
  ∧ (∀ (t : Nat) (s m : State), meets t s m → txenDriven m = true → riseAt m + 4000 ≤ m.time.cycle →
    exec (.txenLow t) s = .next (raise 0x0D 13 { m with actv := { m.actv with padHigh := false, padLow := some (riseAt m) } }))

/-- For each message type: where the next waiting message has that TYPE, a good form and a state that accepts it, the command answers
the state in which its effect has taken place and the messages behind it wait. An authenticated message whose MIC seat 4 found
right is delivered to the STC's queue of at most 32 messages, one whose MIC it found wrong is discarded, and one that it has not
checked waits. -/
def Obligations.HeadEndMessagesComplete : Prop :=
  (∀ (t f k : Nat) (b : List Nat) (r : List (Nat × Nat × List Nat)) (s m : State), meets t s m → m.line.oam = (f, k, b) :: r → msgType b = 0x01 →
    profileOk m k b = true → rd m ACTV.STATE ≠ 7 → exec (.burstProfile t) s = .next (skimOam r (noMic (burstProfile b m))))
  ∧ (∀ (t f k : Nat) (b : List Nat) (r : List (Nat × Nat × List Nat)) (s m : State), meets t s m → m.line.oam = (f, k, b) :: r → msgType b = 0x02 →
    unusedZero b 14 = true → be (slice b 12 2) ≤ 0xFFD → rd m ACTV.STATE = 2 → serialMatch m b = true →
    exec (.assignId t) s = .next (skimOam r (noMic (wr ACTV.TERM_ID (be (slice b 12 2)) (goState 3 (inc (ACTV.CNT 7) m))))))
  ∧ (∀ (t f k : Nat) (b : List Nat) (r : List (Nat × Nat × List Nat)) (s m : State), meets t s m → m.line.oam = (f, k, b) :: r → msgType b = 0x03 →
    unusedZero b 9 = true → (rd m ACTV.STATE = 3 ∨ rd m ACTV.STATE = 4) → exec (.rangingTime t) s = .next (skimOam r (noMic (rangingTime b m))))
  ∧ (∀ (t f k : Nat) (b : List Nat) (r : List (Nat × Nat × List Nat)) (s m : State), meets t s m → m.line.oam = (f, k, b) :: r → msgType b = 0x04 →
    unusedZero b 4 = true → 1 ≤ rd m ACTV.STATE → rd m ACTV.STATE ≤ 5 →
    exec (.deactivate t) s = .next (skimOam r (noMic (toInitial (inc (ACTV.CNT 7) m)))))
  ∧ (∀ (t f k : Nat) (b : List Nat) (r : List (Nat × Nat × List Nat)) (s m : State), meets t s m → m.line.oam = (f, k, b) :: r → msgType b = 0x05 →
    unusedZero b 12 = true → rd m ACTV.STATE ≠ 7 → serialMatch m b = true →
    exec (.disable t) s = .next (skimOam r (noMic (goState 6 (inc (ACTV.CNT 7) m)))))
  ∧ (∀ (t f k : Nat) (b : List Nat) (r : List (Nat × Nat × List Nat)) (s m : State), meets t s m → m.line.oam = (f, k, b) :: r → msgType b = 0x06 →
    unusedZero b 12 = true → rd m ACTV.STATE = 6 → (serialMatch m b = true ∨ be (slice b 4 8) = 2 ^ 64 - 1) →
    exec (.enable t) s = .next (skimOam r (noMic (goState 1 (inc (ACTV.CNT 7) m)))))
  ∧ (∀ (t f k : Nat) (b : List Nat) (r : List (Nat × Nat × List Nat)) (s m : State), meets t s m → m.line.oam = (f, k, b) :: r → msgType b = 0x07 →
    unusedZero b 4 = true → rd m ACTV.STATE = 5 → rd m FRMD.DETECTED % 8 = 0 → exec (.popup t) s = .next (skimOam r (noMic (popup b m))))
  ∧ (∀ (t f k : Nat) (b : List Nat) (r : List (Nat × Nat × List Nat)) (s m : State), meets t s m → m.line.oam = (f, k, b) :: r → msgType b = 0x08 →
    ephFormOk m k b = true → rd m ACTV.EPH_AUTH = 0 →
    exec (.ephemeris t) s = .next (skimOam r (noMic (ephMessage (ephOf b) (inc (ACTV.CNT 7) m)))))
  ∧ (∀ (t f k ty : Nat) (c : Instr) (b : List Nat) (r : List (Nat × Nat × List Nat)) (s m : State), meets t s m → m.line.oam = (f, k, b) :: r →
    msgType b = ty → be (slice b 0 2) % 16 = 0 → rd m SYS.STC_STATE = 2 →
    ((ty = 0x10 ∧ c = .pathConfig t false) ∨ (ty = 0x11 ∧ c = .keyControl t false) ∨ (ty = 0x12 ∧ c = .price t false)
      ∨ (ty = 0x13 ∧ c = .credit t false) ∨ (ty = 0x14 ∧ c = .oamRequest t false)) →
    (m.actv.mic = some true → exec c s = .next (skimOam r (noMic { inc (ACTV.CNT 7) m with
      actv := { m.actv with stcRx := (m.actv.stcRx ++ [b]).drop (m.actv.stcRx.length - 31) }
      stc := { m.stc with keyTodo := if 0x11 ≤ ty ∧ ty ≤ 0x13 then m.stc.keyTodo ++ [b] else m.stc.keyTodo } })))
    ∧ (m.actv.mic = some false → exec c s = .next (skimOam r (noMic (inc (ACTV.CNT 8) m |> raise 0x0D 10))))
    ∧ (m.actv.mic = none → exec c s = .next m))

/-- A transition to another state reads the new state and raises STATE_CHANGE; outside RANGING, OPERATION and INTERMITTENT the TERM_ID
reads 0xFFF; on entry to STANDBY PROFILE_VALID reads 0; outside OPERATION and INTERMITTENT the ranged and popup flags read 0;
LOCKOUT records its reason and is not entered twice; a return to INITIAL leaves HALTED and LOCKOUT as they are. -/
def Obligations.ActivationTransitions : Prop :=
  (∀ (st : Nat) (s : State), st < 8 → rd s ACTV.STATE ≠ st →
    rd (goState st s) ACTV.STATE = st ∧ bit (rd (goState st s) (HDR.CAUSE 0x0D)) 0 = true
    ∧ (st ≠ 3 → st ≠ 4 → st ≠ 5 → rd (goState st s) ACTV.TERM_ID = 0xFFF)
    ∧ (st = 1 → rd (goState st s) ACTV.PROFILE_VALID = 0)
    ∧ (st ≠ 4 → st ≠ 5 → rd (goState st s) ACTV.RANGED_FLAG = 0 ∧ rd (goState st s) ACTV.POPUP_SEEN = 0))
  ∧ (∀ (why : Nat) (s : State), why < 4 → (rd s ACTV.STATE = 7 → lockout why s = s)
    ∧ (rd s ACTV.STATE ≠ 7 → rd (lockout why s) ACTV.STATE = 7 ∧ rd (lockout why s) ACTV.LOCKOUT_WHY = why))
  ∧ (∀ (s : State), (rd s ACTV.STATE = 6 ∨ rd s ACTV.STATE = 7) → toInitial s = s)

/-- A RANGING_TIME that is no repeat, with ZONE at most 4 and EQD at most 2,560,000 bit periods, gives RANGED_ADVANCE as ZONE x
2,560,000 + EQD; with a larger value it leaves RANGED_ADVANCE, shows the value and raises its cause; neither touches ADVANCE. -/
def Obligations.EqualizationDelayIsGuarded : Prop :=
  ∀ (b : List Nat) (s : State), isDup s s.actv.lastRang b = false →
    (b.getD 4 0 ≤ 4 → be (slice b 5 4) ≤ 2560000 →
      rd (rangingTime b s) ACTV.RANGED_ADVANCE = b.getD 4 0 * 2560000 + be (slice b 5 4) ∧ rd (rangingTime b s) ACTV.RANGED_FLAG = 1
      ∧ rd (rangingTime b s) SIDR.ADV_BITS = rd s SIDR.ADV_BITS)
    ∧ ((4 < b.getD 4 0 ∨ 2560000 < be (slice b 5 4)) →
      rd (rangingTime b s) ACTV.RANGED_ADVANCE = rd s ACTV.RANGED_ADVANCE ∧ bit (rd (rangingTime b s) (HDR.CAUSE 0x0D)) 4 = true
      ∧ rd (rangingTime b s) SIDR.ADV_BITS = rd s SIDR.ADV_BITS)

/-- INGRESS_FRAME of a good frame without an entry enters the source's default queue; CLS_INSTALL, CLS_REMOVE and CLS_READ act on the
entry of the window's key; EGRESS_FRAME sends the frame that the scheduler chooses; STAGING stages once the entries of a used map
are processed; TOKEN_REFILL refills every bucket; TM_RESET and FLUSH_QUEUE empty queues; TEL_SEL shows a queue's telemetry. -/
def Obligations.TrafficManagerCommandsComplete : Prop :=
  (∀ (t src q : Nat) (up : Bool) (d : List Nat) (f : QFrame) (s m a : State), meetsBy (.ingress src) t s m → src < 16 →
    a = (m |> inc (TMGR.SRC_CNT src 0) |> inc CLS.LOOKUPS |> inc CLS.MISSES) → enabled m 0x10 = true → tmHalted m = false → bulkRuns m = true →
    64 ≤ d.length → d.length ≤ 9728 → tagShort m src d = false → findKey m (lookupKey m src d) = none → rd m (TMGR.MISS_DROP src) = 0 →
    q = rd m (TMGR.DEFAULT_QUEUE src) → f = { data := d, src := src, enq := m.time.sc } → rd m (QUE.Q_EN (q / 256) (q % 256)) = 1 →
    queuedCells m q + stagedCells m q + cellsOf f ≤ rd m (QUE.MAX_DEPTH (q / 256) (q % 256)) → up = upPort (queuePort m q) →
    occOf m up + cellsOf f ≤ rd m (if up then TMGR.PART_UP else TMGR.PART_DN) → cellsOf f ≤ m.led.cellsFree → 0 < m.led.descFree →
    exec (.ingressFrame t src d) s = .next (enqueue q f a))
  ∧ (∀ (t src : Nat) (d : List Nat) (s m : State), meetsBy (.ingress src) t s m → (src = 16 ∨ src = 17) → sourceFitted m.fuse.variant src = true →
    rd m (ETH.E_LINK (src - 16)) = 1 → fcsHolds d = true → be (slice d 12 2) ≠ 0x8808 →
    exec (.ingressFrame t src d) s = .next (ingress src d (inc (ETH.E_RX_FRAMES (src - 16)) m)))
  ∧ (∀ (t w i g key : Nat) (p : Port) (s m a c : State), meetsFrom p t s m → opens m p 0x12 → w = p.window → key = windowKey m w →
    cmdBusy m (0x12050 + 64 * w) = false → sourceFitted m.fuse.variant (key / 2 ^ 35) = true → keyRange m key = false →
    installIndex m key = some i → noGhost m key = false →
    a = startCmd (0x12050 + 64 * w) 4 (accepted p 0x12 (some (CLSW.W_CODE w)) m) →
    c = (match findKey m key with | some (j, e) => toGhost j e a | none => a) → g = nextGen c i →
    exec (.clsInstall t p) s = .next (wr (CLSW.W_INDEX w) i
      (let b := setEntry i (some ⟨key, windowAction a w, g, 0, match findKey m key with | some (_, e) => e.hits | none => 0⟩) c
       { b with tm := { b.tm with gens := aset b.tm.gens i g } })))
  ∧ (∀ (t w i key : Nat) (e : CEntry) (p : Port) (s m a : State), meetsFrom p t s m → opens m p 0x12 → w = p.window → key = windowKey m w →
    cmdBusy m (0x12050 + 64 * w) = false → sourceFitted m.fuse.variant (key / 2 ^ 35) = true → keyRange m key = false →
    findKey m key = some (i, e) → noGhost m key = false → a = startCmd (0x12050 + 64 * w) 4 (accepted p 0x12 (some (CLSW.W_CODE w)) m) →
    exec (.clsRemove t p) s = .next (setEntry i none (toGhost i e a)))
  ∧ (∀ (t : Nat) (ready bufs : List Nat) (x : SFrame) (s m c : State), meets t s m → enabled m 0x10 = true → tmHalted m = false →
    bulkRuns m = true → takeFrame m (egressPorts m ready) = some (c, x) →
    exec (.egressFrame t ready bufs) s = .next (resetIdle x.queue
      (if queuePort m x.queue = 18 then hostEgress bufs x c else ethEgress (queuePort m x.queue) x c)))
  ∧ (∀ (t : Nat) (s m : State), meets t s m → m.line.mapUsed = true → m.line.grants = [] →
    exec (.staging t) s = .next (stageAll (endOfMap { m with line := { m.line with mapUsed := false } })))
  ∧ (∀ (t : Nat) (s m : State), meets t s m → bulkRuns m = true → scPhase m % 1000 = 0 → m.tm.lastRefill ≠ some m.time.sc →
    exec (.tokenRefill t) s = .next ({ m with tm := { m.tm with
      lastRefill := some m.time.sc
      shapers := m.tm.shapers.map fun x => (x.1, refillShaper x.2)
      policers := m.tm.policers.map fun x => (x.1, refillPolicer x.2) } }))
  ∧ (∀ (t : Nat) (p : Port) (s m a : State), meetsFrom p t s m → opens m p 0x10 → cmdBusy m tmCmdAddr = false → enabled m 0x10 = false →
    a = withdrawAll 5 (accepted p 0x10 (some TMGR.CMD_CODE) m) →
    exec (.tmReset t p) s = .next (raise 0x10 5 (startCmd tmCmdAddr tickSteps (tmReinit (forEach (fullQueues a) (flushQueue fun _ => true) a)))))
  ∧ (∀ (t q : Nat) (p : Port) (s m a : State), meetsFrom p t s m → opens m p 0x10 → cmdBusy m tmCmdAddr = false → q ≤ 1023 →
    stagedCells m q = 0 → a = accepted p 0x10 (some TMGR.CMD_CODE) m →
    exec (.flushQueue t p q) s = .next (raise 0x10 5 (startCmd tmCmdAddr 16 (flushQueue (fun f => f.enq != a.time.sc) q a))))
  ∧ (∀ (t q : Nat) (p : Port) (s m a : State), meetsFrom p t s m → opens m p 0x1C → q ≤ 1023 → a = renewLease p 0x1C m →
    exec (.telSel t p q) s = .next (loadTel (aget a.tm.tel q {}) (a |> wr TEL.TEL_QUEUE q |> wr TEL.TEL_CLEAR 0)))
  ∧ (∀ (t w : Nat) (p : Port) (s m a : State), meetsFrom p t s m → opens m p 0x12 → w = p.window → cmdBusy m (0x12050 + 64 * w) = false →
    a = startCmd (0x12050 + 64 * w) 4 (accepted p 0x12 (some (CLSW.W_CODE w)) m) →
    exec (.clsRead t p) s = .next (loadCls w ((a.tm.entries.find? fun x => x.1 == rd a (CLSW.W_INDEX w)).map (·.2)) a))

/-- The CELLS and DESC balances hold after a frame is admitted or dropped if they held before, whatever check drops it; they hold
after a queued or staged frame is freed whose cells and descriptor are counted in use. -/
def Obligations.CellsAndDescriptorsAreConserved : Prop :=
  (∀ (src q : Nat) (f : QFrame) (s : State), balanced s 0 = true → balanced s 1 = true →
    balanced (takeIn src q f s) 0 = true ∧ balanced (takeIn src q f s) 1 = true)
  ∧ (∀ (staged : Bool) (f : QFrame) (s : State), balanced s 0 = true → balanced s 1 = true →
    cellsOf f ≤ (if staged then s.led.cellsStaged else s.led.cellsQueued) → f.bad.length ≤ cellsOf f → 0 < s.led.descInUse →
    balanced (freeFrame staged f s) 0 = true ∧ balanced (freeFrame staged f s) 1 = true)

/-- While the traffic manager is disabled or halted, and for a frame shorter than 64 or longer than 9,728 bytes, the frame is counted
as received and as DROP_ERR at its source, and no queue, cell or descriptor changes; a frame whose entry drops it counts as
DROP_CLS. -/
def Obligations.FramesDroppedAreCounted : Prop :=
  (∀ (src : Nat) (d : List Nat) (s : State), src < 19 → (rd s (HDR.ENABLE 0x10) = 0 ∨ tmHalted s = true ∨ d.length < 64 ∨ 9728 < d.length) →
    rd (ingress src d s) (TMGR.SRC_CNT src 1) = (rd s (TMGR.SRC_CNT src 1) + 1) % 2 ^ (TMGR.SRC_CNT src 1).w
    ∧ rd (ingress src d s) (TMGR.SRC_CNT src 0) = (rd s (TMGR.SRC_CNT src 0) + 1) % 2 ^ (TMGR.SRC_CNT src 0).w
    ∧ (ingress src d s).tm.queues = s.tm.queues ∧ (ingress src d s).led = s.led)
  ∧ (∀ (src i : Nat) (e : CEntry) (d : List Nat) (s : State), src < 19 → rd s (HDR.ENABLE 0x10) = 1 → tmHalted s = false → bulkRuns s = true →
    64 ≤ d.length → d.length ≤ 9728 → findKey s (lookupKey s src d) = some (i, e) → bit e.action 31 = true →
    rd (ingress src d s) (TMGR.SRC_CNT src 2) = (rd s (TMGR.SRC_CNT src 2) + 1) % 2 ^ (TMGR.SRC_CNT src 2).w
    ∧ (ingress src d s).tm.queues = s.tm.queues ∧ (ingress src d s).led = s.led)

/-- KEY_IMPORT loads the slot and KEY_ERASE empties it, each incrementing its GEN; UPSW_ARM arms a phase switch; DRAINED raises its
cause once the last counter block is spent; OAM_SET_ACTIVATE and HOST_BANK_ACTIVATE select; DOORBELL sets the TAIL of an enabled
ring; HOST_JOB fetches a job; HOST_JOB_DONE ends a ring's oldest job; DEALER_ROUND grants one engine; ENGINE_RELEASE and
DEALER_RECLAIM return an engine. -/
def Obligations.CipherDeckCommandsComplete : Prop :=
  (∀ (t n : Nat) (k : List Nat) (p : Port) (s m a : State), meetsFrom p t s m → opens m p 0x22 → n = rd m KEYS.IMP_SLOT →
    cmdBusy m keyCmdAddr = false → slotUse m n = 0 → n ≠ 68 → n ≠ 69 → (n < 72 ∨ 95 < n) → impRange m n = false → impKey m = some k →
    (upSlot n = true → m.led.nonceOpen = 0) → a = accepted p 0x22 (some KEYS.KEY_CODE) m →
    exec (.keyImport t p) s = .next (keyChanged n ((if n = 64 then wr (KEYS.UP_IV_COUNT 0) 0 else
        if n = 66 then wr (KEYS.UP_IV_COUNT 1) 0 else id) (setSlot n
      { valid := true, secret := !hostSlot n || decide (rd a KEYS.IMP_SECRET = 1), keylen := rd a KEYS.IMP_KEYLEN
        salt := rd a KEYS.IMP_SALT, gen := ((keySlot a n).gen + 1) % 2 ^ 32, key := k } a))))
  ∧ (∀ (t n : Nat) (p : Port) (s m a : State), meetsFrom p t s m → opens m p 0x22 → n = rd m KEYS.IMP_SLOT →
    cmdBusy m keyCmdAddr = false → slotUse m n = 0 → n ≠ 68 → n ≠ 69 → (n < 71 ∨ 95 < n) →
    (upSlot n = true → m.led.nonceOpen = 0) → a = accepted p 0x22 (some KEYS.KEY_CODE) m →
    exec (.keyErase t p) s = .next (keyChanged n (setSlot n
      { secret := (keySlot a n).secret, gen := ((keySlot a n).gen + 1) % 2 ^ 32 } a)))
  ∧ (∀ (t c lo hi : Nat) (p : Port) (s m a : State), meetsFrom p t s m → opens m p 0x22 → c < 16 → rd m (KEYS.UPSW_PEND c) = 0 →
    bits hi 28 16 = 0 → bits hi 29 29 = rd m (KEYS.UPSW_ACT_PHASE c) → a = renewLease p 0x22 m →
    exec (.upswArm t p c lo hi) s = .next (a |> wr (KEYS.UPSW_LO c) lo |> wr (KEYS.UPSW_PEND c) (bits hi 31 31)
      |> wr (KEYS.UPSW_PHASE c) (bits hi 30 30) |> wr (KEYS.UPSW_FRAME_HI c) (bits hi 15 0)))
  ∧ (∀ (t : Nat) (s m : State), meets t s m → rd m DECK.UP_DRAIN = 1 → m.led.nonceOpen = 0 → m.deck.drained = false →
    exec (.drained t) s = .next ({ raise 0x20 3 m with deck := { m.deck with drained := true } }))
  ∧ (∀ (t arg : Nat) (src : TrigSrc) (s m c : State), meets t s m → c = arrived src 0x22 m → takesTriggers c 0x22 →
    exec (.oamSetActivate t src arg) s = .next (trigExec 0x22 (wr KEYS.ACT_FRAME (scFrame m) (wr KEYS.OAM_SET (arg % 2)
      { c with deck := { c.deck with prevSet := rd m KEYS.OAM_SET } }))))
  ∧ (∀ (t arg : Nat) (src : TrigSrc) (s m c : State), meets t s m → c = arrived src 0x22 m → takesTriggers c 0x22 →
    exec (.hostBankActivate t src arg) s = .next (trigExec 0x22 (wr KEYS.HOST_BANK (arg % 2) c)))
  ∧ (∀ (t n v : Nat) (s m : State), meets t s m → n < 24 → rd m (ringEn n) = 1 → v < ringSlots m n →
    exec (.doorbell t (4 * n) v true) s = .next (wr (ringTail n) v m))
  ∧ (∀ (t r : Nat) (desc ctx d : List Nat) (s m : State), meets t s m → d = fit 64 desc →
    (ringOrder m.deck.lastRing).find? (fun r => decide (rd m (CTXQ.RING_EN r) = 1 ∧ ringHeld m r ≠ 0)) = some r →
    jobsRunning m < rd m (DEAL.MAX_HELD 3) → dmaRuns m = true →
    exec (.hostJob t desc ctx) s = .next (ringNext r { m with deck := { m.deck with lastRing := r, jobs := m.deck.jobs ++
      [{ ring := r, index := rd m (CTXQ.RING_HEAD r), desc := d, slot := jobSlot m d
         ctx := if jobFlag d 0 then (restoreRecord d ctx).getD [] else ctx, left := jobBlocks d
         ended := (jobCheck m d ctx).map (·.1), refused := (jobCheck m d ctx).isSome
         counted := ((jobCheck m d ctx).map (·.2)).getD false }] } }))
  ∧ (∀ (t ring st : Nat) (j : Job) (aad tag : List Nat) (rdErr wrErr : Bool) (s m a : State), meets t s m →
    m.deck.jobs.find? (fun j => j.ring == ring) = some j → j.ended = some st → a = jobComplete j st (jobWritten j) m →
    a.deck.jobs.contains j = false →
    exec (.hostJobDone t ring aad tag rdErr wrErr) s = .next (seatsIdle (forEach (handsFor a 3 (jobWork j)) (fun h => freeEngine h.1) a)))
  ∧ (∀ (t ring : Nat) (j : Job) (r : JobResult) (aad tag : List Nat) (s m a : State), meets t s m →
    m.deck.jobs.find? (fun j => j.ring == ring) = some j → j.ended = none → j.left = 0 →
    r = jobResult (keySlot m j.slot) j j.input (fit (jobAad j.desc) aad) tag →
    a = jobComplete j r.status (if jobOp j.desc = 7 ∧ r.status ≠ 0 then 0 else jobLen j.desc)
      (jobWrites (keySlot m j.slot) j r m) → a.deck.jobs.contains j = false →
    exec (.hostJobDone t ring aad tag false false) s = .next (seatsIdle (forEach (handsFor a 3 (jobWork j)) (fun h => freeEngine h.1) a)))
  ∧ (∀ (t declared : Nat) (stalled : List (Nat × Nat)) (s m : State), meets t s m → broken m 5 = false →
    m.deck.lastRound ≠ some m.time.cycle →
    exec (.dealerRound t ⟨declared, stalled⟩) s = .next (dealRound declared stalled m))
  ∧ (∀ (t e : Nat) (h : Hand) (input : List Nat) (s m : State), meets t s m → rd m (DEAL.ENG_STATE e) = 2 →
    h = aget m.deck.hands e {} → h.endAt ≤ m.time.cycle →
    exec (.engineRelease t ⟨e, input⟩) s = .next (seatsIdle (handDone (rd m (DEAL.ENG_SEAT e)) h input (freeEngine e m))))
  ∧ (∀ (t e : Nat) (h : Hand) (s m a : State), meets t s m → rd m (DEAL.ENG_STATE e) = 2 → h = aget m.deck.hands e {} →
    h.start + rd m DEAL.WDOG * bulkDiv m ≤ m.time.cycle → a = (freeEngine e m |> inc DEAL.RECLAIMS |> raise 0x21 0) →
    exec (.dealerReclaim t e) s = .next (seatsIdle (reclaimWork (rd m (DEAL.ENG_SEAT e)) h a)))

/-- The seat that wins a round requests, and no other requesting seat has a higher effective priority, nor the same with an older last
win or, among equals, a lower number; a grant of an engine in POOL keeps the ENGINE balance, and so does its release; the granted
engine reads HELD by the seat and the seat's LOST reads 0. -/
def Obligations.DealerGrantsByPriority : Prop :=
  (∀ (s : State) (seats : List Nat) (w : Nat), winner s seats = some w → w ∈ seats ∧ ∀ b ∈ seats, b ≠ w →
    seatEff s b < seatEff s w ∨ (seatEff s b = seatEff s w ∧ (winAge s w < winAge s b ∨ (winAge s w = winAge s b ∧ w < b))))
  ∧ (∀ (e seat : Nat) (h : Hand) (s : State), e < Variant.engines s.fuse.variant → seat < 5 → rd s (DEAL.ENG_STATE e) = 0 →
    balanced s 5 = true → balanced (grantEngine e seat h s) 5 = true
      ∧ rd (grantEngine e seat h s) (DEAL.ENG_STATE e) = 2 ∧ rd (grantEngine e seat h s) (DEAL.ENG_SEAT e) = seat
      ∧ rd (grantEngine e seat h s) (DEAL.SEAT_LOST seat) = 0)
  ∧ (∀ (e : Nat) (s : State), e < Variant.engines s.fuse.variant → rd s (DEAL.ENG_STATE e) = 2 → s.rpr.engDue = [] →
    balanced s 5 = true → balanced (freeEngine e s) 5 = true ∧ rd (freeEngine e s) (DEAL.ENG_STATE e) = 0)

/-- An import or erase of an upstream line key zeroes the NONCE tallies, which then balance, and forgets the slot's frames; a change
of any other key leaves them. IMPORT and ERASE of an upstream line key while NONCE.OPEN is not 0 are refused with LEDGER and load
nothing. -/
def Obligations.NonceBlocksAreBounded : Prop :=
  (∀ (n : Nat) (s : State), upSlot n = true → balanced (keyChanged n s) 4 = true ∧ (keyChanged n s).led.nonceOpen = 0
    ∧ aget (keyChanged n s).deck.topFrame n 0 = 0)
  ∧ (∀ (n : Nat) (s : State), upSlot n = false → (keyChanged n s).led = s.led ∧ (keyChanged n s).deck = s.deck)
  ∧ (∀ (t n : Nat) (p : Port) (s m : State), meetsFrom p t s m → opens m p 0x22 → n = rd m KEYS.IMP_SLOT → cmdBusy m keyCmdAddr = false →
    slotUse m n = 0 → upSlot n = true → m.led.nonceOpen ≠ 0 →
    exec (.keyErase t p) s = .next (refusedAs p 0x22 0x078 (some KEYS.KEY_CODE) .ledger m))

/-- PIN_CFG_WRITE assigns a pin; EXC_CFG_WRITE sets a pair; EXC_REVERSAL exchanges an enabled reversing pair; EXC_GUARD_FRAME shows
and judges a frame; EXC_TIMEOUT puts a pair held in current limit into FAULT; BLANK_TRIGGER and AFE_BLANK open a window;
BLANK_WINDOW_END closes it; BLANK_EDGE, BLANK_FALL and BLANK_STUCK follow the pin; TRIG_IN_EDGE of a selected edge counts. -/
def Obligations.FrontEndCommandsComplete : Prop :=
  (∀ (t n v : Nat) (w : Writer) (s m a b : State), meetsBy (.writer w) t s m → n < 32 → opensTo m w 0x30 → v = bits v 30 30 * 2 ^ 30 + bits v 11 8 * 256 + bits v 4 0 →
    rd m (AFE.LEGAL_LOCK n) = 0 → rd m (AFE.PIN_ROLE n) = 0 → bits v 11 8 ≠ 0 → pinConflict m n (bits v 11 8) (bits v 4 0) = false →
    (sliceRole (bits v 11 8) = true → bits v 4 0 < Variant.slices m.fuse.variant ∧ rd m (AFE.SLICE_ROLE (bits v 4 0)) ≤ 1) →
    pinRange (bits v 11 8) (bits v 4 0) = false → ownerOn m 0 (rd m (AFE.PIN_OWNER n)) = false →
    ownerOn m (bits v 11 8) (bits v 4 0) = false → a = acceptedBy w 0x30 none m →
    b = (a |> wr (AFE.LEGAL_LOCK n) 0 |> wr (AFE.OPEN_PULL n) (bits v 30 30) |> wr (AFE.PIN_ROLE n) (bits v 11 8)
      |> wr (AFE.PIN_OWNER n) (bits v 4 0)) →
    exec (.pinCfgWrite t w n v) s = .next { b with afe := { b.afe with hiz := aset b.afe.hiz n (b.time.cycle + 400) } })
  ∧ (∀ (t k v : Nat) (w : Writer) (s m a : State), meetsBy (.writer w) t s m → k < 8 → opensTo m w 0x30 → (w = .lgc ∨ pairLegal m k = false) →
    bits v 31 31 = 0 → bits v 29 24 = 0 → bits v 15 9 = 0 → bits v 7 6 = 0 → 2 ≤ bits v 23 16 → 1 ≤ bits v 5 0 → bits v 5 0 ≤ 60 →
    ilimSum m k 0 (bits v 5 0) ≤ 150 →
    a = (acceptedBy w 0x30 none m |> wr (AFE.REV_PERIOD k) (bits v 23 16) |> wr (AFE.EXC_SENSE k) (bits v 8 8) |> wr (AFE.ILIM k) (bits v 5 0)
      |> wr (AFE.EXC_REVERSE k) (bits v 30 30) |> wr (AFE.EXC_EN k) 0 |> wr (AFE.EXC_STATE k) 0 |> wr (AFE.REVERSED k) 0) →
    exec (.excCfgWrite t w k v) s = .next (modPair k (fun _ => {}) a))
  ∧ (∀ (t k : Nat) (s m b : State), meets t s m → k < 8 → enabled m 0x30 = true → pairOn m k = true → rd m (AFE.EXC_REVERSE k) = 1 →
    scPhase m = 0 → scFrame m % rd m (AFE.REV_PERIOD k) = 0 → (pairOf m k).gridFrom < m.time.sc →
    b = revInstant k (wr (AFE.REVERSED k) (1 - rd m (AFE.REVERSED k)) m) →
    exec (.excReversal t k) s = .next (modPair k (fun x => { x with gridFrom := m.time.sc }) b))
  ∧ (∀ (t k current pm : Nat) (s m : State) (lim : Bool), meets t s m → k < 8 → enabled m 0x30 = true → pairOn m k = true →
    (pairOf m k).lastFrame ≠ some (scFrame m) →
    exec (.excGuardFrame t k current pm lim) s = .next (excGuard k current pm lim m))
  ∧ (∀ (t k : Nat) (s m : State), meets t s m → k < 8 → rd m (AFE.EXC_STATE k) = 2 → rd m AFE.EXC_TIMEOUT ≤ (pairOf m k).limit →
    exec (.excTimeout t k) s =
      .next (raise 0x30 0 (modPair k (fun _ => {}) (m |> wr (AFE.EXC_STATE k) 3 |> wr (AFE.REVERSED k) 0))))
  ∧ (∀ (t occ g arg : Nat) (src : TrigSrc) (s m c : State), meets t s m → c = arrived src 0x30 m → takesTriggers c 0x30 → g < 8 → 1 ≤ arg →
    arg < 65536 → m.afe.windows.find? (fun x => x.1 == g) = none →
    exec (.blankTrigger t src occ (g + 1) arg) s =
      .next (trigExec 0x30 (inc AFE.WINDOWS (openWindow g occ (occ + arg * frameSteps) c))))
  ∧ (∀ (t g n v : Nat) (w : Writer) (s m a c : State), meetsBy (.writer w) t s m → opensTo m w 0x30 → (w = .lgc ∨ 4 ≤ g) → g < 8 → 1 ≤ n → n < 65536 →
    v = n * 65536 + g * 256 + 1 → cmdBusy m 0x30140 = false → a = raise 0x30 6 (startCmd 0x30140 4 (acceptedBy w 0x30 (some AFE.CMD_CODE) m)) →
    c = arrived .cmd 0x30 a → takesTriggers c 0x30 → m.afe.windows.find? (fun x => x.1 == g) = none →
    exec (.afeBlank t w v) s = .next (trigExec 0x30 (inc AFE.WINDOWS (openWindow g m.time.sc (m.time.sc + n * frameSteps) c))))
  ∧ (∀ (t g w0 w1 : Nat) (s m b : State), meets t s m → g < 8 → m.afe.windows.find? (fun x => x.1 == g) = some (g, w0, w1) → w1 ≤ m.time.sc →
    b = wr AFE.BLANK_OPEN (clearBits (rd m AFE.BLANK_OPEN) (2 ^ g)) { m with afe := { m.afe with windows := adel m.afe.windows g } } →
    exec (.blankWindowEnd t g) s = .next (retire (2 ^ g) w0 w1 b))
  ∧ (∀ (t : Nat) (edges : List Nat) (s m b c : State), meets t s m → rd m AFE.PIN_FILT = 0 → m.afe.chatter = false → m.afe.pinWin = none →
    edges = (m.time.cycle :: m.afe.blankEdges).filter (fun c => decide (m.time.cycle < c + secondSteps)) →
    edges.length ≤ rd m AFE.BLANK_MAX_EDGES →
    b = ({ m with afe := { m.afe with blankEdges := edges, highTick := m.time.ticks } } |> wr AFE.PIN_FILT 1 |> inc AFE.BLANK_EDGES) →
    c = arrived .pin 0x30 b → takesTriggers c 0x30 →
    exec (.blankEdge t) s = .next (trigExec 0x30 (inc AFE.WINDOWS
      { c with afe := { c.afe with pinWin := some ⟨rd c AFE.BLANK_PIN_GROUPS, c.time.sc, none⟩ } })))
  ∧ (∀ (t : Nat) (s m b : State), meets t s m → rd m AFE.PIN_FILT = 1 →
    b = wr AFE.PIN_FILT 0 { m with afe := { m.afe with stuck := false } } →
    exec (.blankFall t) s = .next (pinCloses (wrB AFE.PIN_IGNORED m.afe.chatter b)))
  ∧ (∀ (t : Nat) (s m : State), meets t s m → rd m AFE.PIN_FILT = 1 → m.afe.stuck = false →
    m.afe.highTick + rd m AFE.BLANK_TIMEOUT < m.time.ticks →
    exec (.blankStuck t) s = .next (pinCloses (wr AFE.PIN_IGNORED 1 (raise 0x30 2 { m with afe := { m.afe with stuck := true } }))))
  ∧ (∀ (t n : Nat) (level : Bool) (s m b : State), meets t s m → n < 4 → bit (trigEdge m n) (if level then 0 else 1) = true →
    b = { inc (AFE.TRIG_EDGES n) m with afe := { m.afe with
      trigEdges := (n, m.time.cycle) :: m.afe.trigEdges.filter fun x => decide (m.time.cycle < x.2 + secondSteps) } } →
    (b.afe.trigEdges.filter fun x => decide (x.1 = n)).length ≤ rd m AFE.TRIG_MAX_EDGES →
    exec (.trigInEdge t n level) s = .next (if rd b (AFE.TR_UNIT n) = 0 then b else
      deliver .pin (rd b (AFE.TR_UNIT n)) (rd b (AFE.TR_ACTION n)) (rd b (AFE.TR_ARG n)) (b.time.sc - rd b AFE.TRIG_FILTER) b))

/-- SLICE_SAMPLE delivers the sample that is due; SLICE_STALL puts a slice without samples into its guard; SHADOW, SHADOW_RELEASE and
TAKEOVER of the LGC act, a fabric port's are refused with SEALED; TAKEOVER_APPLY exchanges the slices at its instant. -/
def Obligations.SlicesComplete : Prop :=
  (∀ (t i b pos cm : Nat) (raw : Int) (s m : State), meets t s m → i < Variant.slices m.fuse.variant → slicePowered m i = true →
    converts m i = true → sampleMode (rd m (SLICE.MODE (cfgSlice m i))) = true → sampleDue m i = some (b, pos) →
    exec (.sliceSample t i raw cm) s = .next (sample i b pos raw cm m))
  ∧ (∀ (t i : Nat) (s m : State), meets t s m → i < Variant.slices m.fuse.variant → enabled m (0x31 + i) = true →
    slicePowered m i = true → sampleMode (rd m (SLICE.MODE i)) = true → (sliceOf m i).stalled = false → (sliceOf m i).failing = false →
    (sliceOf m i).lastCycle + rd m (SLICE.TIMEOUT i) * frameSteps ≤ m.time.cycle →
    exec (.sliceStall t i) s = .next (modSlice i (fun x => { x with stalled := true, good := 0, failing := true }) m
      |> wr (SLICE.STALL i) 1 |> wr (SLICE.FAULT i) 1 |> inc (SLICE.GUARD_FAILS i) |> raise (0x31 + i) 0))
  ∧ (∀ (t x a : Nat) (s m : State), meetsBy (.writer .lgc) t s m → m.afe.takeover = none → x < Variant.slices m.fuse.variant → a < Variant.slices m.fuse.variant →
    a < 32 → x < 32 → isSpare m x = true → noShadow m a = false → rd m (AFE.SLICE_ROLE a) = 1 →
    exec (.shadow t .lgc x a) s = .next (startShadow x a (wr AFE.SWAP_CODE 0 m)))
  ∧ (∀ (t x : Nat) (s m : State), meetsBy (.writer .lgc) t s m → m.afe.takeover = none → x < Variant.slices m.fuse.variant → shadows m x = true →
    exec (.shadowRelease t .lgc x) s =
      .next (wr AFE.SWAP_CODE 0 m |> wr (AFE.SLICE_SHADOW x) 31 |> wr (SLICE.SETTLED x) 0))
  ∧ (∀ (t x a r : Nat) (s m : State), meetsBy (.writer .lgc) t s m → m.afe.takeover = none → x < Variant.slices m.fuse.variant → a < Variant.slices m.fuse.variant →
    noShadow m a = false → shadowOf m x = a → rd m (SLICE.SETTLED x) = 1 → (r = 1 ∨ r = 2) →
    exec (.takeover t .lgc x a r) s =
      .next ({ wr AFE.SWAP_CODE 0 m with afe := { m.afe with takeover := some (x, a, r, m.time.sc) } }))
  ∧ (∀ (t x a r acc : Nat) (s m : State), meets t s m → m.afe.takeover = some (x, a, r, acc) → takeoverDue m a acc = true →
    exec (.takeoverApply t) s = .next (takeover x a r m))
  ∧ (∀ (t x a : Nat) (p : Port) (s m : State), meetsBy (.writer (.fabric p)) t s m → opens m p 0x30 → m.afe.takeover = none →
    exec (.shadow t (.fabric p) x a) s = .next (refusedAs p 0x30 0x1D0 (some AFE.SWAP_CODE) .sealed m))

/-- A sample of a slice that shadows none and is shadowed by none, pos being the place of its end b on the SC's present line: where a
reversal instant falls in its support it reads 0 with REVERSAL and without BLANKED, else where the support meets a blanking window of
the slice it reads 0 with BLANKED, and in both cases the slice guard's FAULT stays as it was; every other sample reads its matched
value with neither flag. It counts in SAMPLES, and SAMPLE_SC is its end. -/
def Obligations.SamplesAreFlagged : Prop :=
  ∀ (i b pos sup cm : Nat) (raw : Int) (rev : Prop) (s u : State), i < 18 → shadows s i = false → (∀ j < 18, j ≠ i → shadowOf s j ≠ i) →
    sup = rateSupport (rd s (SLICE.RATE (cfgSlice s i))) → (rev ↔ ∃ r ∈ revsOf s i, r < pos ∧ pos ≤ r + sup) → u = sample i b pos raw cm s →
    (rev → rdS u (SLICE.SAMPLE i) = 0 ∧ bit (rd u (SLICE.SAMPLE_FLAGS i)) 4 = true ∧ bit (rd u (SLICE.SAMPLE_FLAGS i)) 0 = false
      ∧ rd u (SLICE.FAULT i) = rd s (SLICE.FAULT i))
    ∧ (¬ rev → blankedAt s i pos sup = true → rdS u (SLICE.SAMPLE i) = 0 ∧ bit (rd u (SLICE.SAMPLE_FLAGS i)) 0 = true
      ∧ bit (rd u (SLICE.SAMPLE_FLAGS i)) 4 = false ∧ rd u (SLICE.FAULT i) = rd s (SLICE.FAULT i))
    ∧ (¬ rev → blankedAt s i pos sup = false →
      rdS u (SLICE.SAMPLE i) = matched s i (satSample (if reversedAt s i pos = true then -raw else raw))
      ∧ bit (rd u (SLICE.SAMPLE_FLAGS i)) 0 = false ∧ bit (rd u (SLICE.SAMPLE_FLAGS i)) 4 = false)
    ∧ rd u (SLICE.SAMPLE_SC i) = scReg b % 2 ^ 64
    ∧ rd u (SLICE.SAMPLES i) = (rd s (SLICE.SAMPLES i) + 1) % 2 ^ (SLICE.SAMPLES i).w

/-- LOOP_UPDATE of a fitted loop is a trigger to unit 0x5C, EXECUTED, which updates the loop; HOST_HI_WRITE with a held LO writes HOST
and, with SRC HOST, updates the loop as a command trigger; LOOP_CONTROL, once per frame, shows the current, lets the guard judge
and then adjusts DRV of a loop that drives, and holds DRV off otherwise; LOOP_STALE drives the fault current of a loop that has
gone STALE ticks without an update. -/
def Obligations.LoopOutputsComplete : Prop :=
  (∀ (t n : Nat) (src : TrigSrc) (s m c : State), meets t s m → n < Variant.loops m.fuse.variant → c = arrived src 0x5C m →
    takesTriggers c 0x5C → exec (.loopUpdate t src n) s = .next (loopUpdate n (trigExec 0x5C c)))
  ∧ (∀ (t n v lo : Nat) (p : Port) (s m d a b c : State), meetsFrom p t s m → n < 2 → opensAt m p 0x5C (0x118 + 64 * n) →
    heldLoOf m p (0x5C114 + 64 * n) = some lo → d = dropLo p (0x5C114 + 64 * n) m →
    (sealedBits d 0x5C (0x118 + 64 * n) = 0 ∨ pairDiffers d 0x5C (0x118 + 64 * n) lo v = false) → unfitted d 0x5C (0x118 + 64 * n) = false → clearBits v (allowedBits 0x5C (0x118 + 64 * n)) = 0 →
    worst (unitChecks p d (setPair 0x5C (0x118 + 64 * n) lo v d) 0x5C (0x118 + 64 * n) v) = none →
    a = renewLease p 0x5C d → b = setPair 0x5C (0x118 + 64 * n) lo v a → rd b (LOOP.LOOP_SRC n) = 0 →
    c = arrived .cmd 0x5C b → takesTriggers c 0x5C →
    exec (.hostHiWrite t p n v) s = .next (loopUpdate n (trigExec 0x5C c)))
  ∧ (∀ (t n cur : Nat) (s m a b : State), meets t s m → n < Variant.loops m.fuse.variant → unitRuns m 0x5C = true →
    (loopOf m n).frame ≠ some (scFrame m) →
    a = modLoop n (fun u => { u with frame := some (scFrame m) }) (wr (LOOP.LOOP_CURRENT n) cur m) → b = loopJudge n cur a →
    exec (.loopControl t n cur) s = .next (if loopOn a n = false then wr (LOOP.DRV n) 0 a
      else if loopOn b n = true then wr (LOOP.DRV n) (loopDrive b n cur) b else b))
  ∧ (∀ (t n : Nat) (s m : State), meets t s m → n < Variant.loops m.fuse.variant → loopOn m n = true → (loopOf m n).stale = false →
    rd m (LOOP.LOOP_STALE n) ≤ (loopOf m n).idle →
    exec (.loopStale t n) s = .next (loopGuardFault n (modLoop n (fun u => { u with stale := true }) m)))

/-- After an update of a loop, SETPOINT is 4,000 + round(16,000 (v − ZERO) / (SPAN − ZERO)) clamped to 3,800 to 20,500 where the
source gives the value v, the fault current of FAIL where the source faults, and unchanged where it gives a marker; UPDATES is one
more in each case, a loop that does not drive keeps its STATE, and no other register of the die changes, nor does the guard raise
a cause. -/
def Obligations.LoopUpdateFollowsItsSource : Prop :=
  ∀ (n : Nat) (s : State), n < 2 →
    (∀ v : Int, loopSource (modLoop n (fun u => { u with idle := 0, stale := false }) (inc (LOOP.LOOP_UPDATES n) s)) n = .value v →
      (rd (loopUpdate n s) (LOOP.SETPOINT n) : Int) = max 3800 (min 20500 (loopCurrent s n v)))
    ∧ (loopSource (modLoop n (fun u => { u with idle := 0, stale := false }) (inc (LOOP.LOOP_UPDATES n) s)) n = .fault →
      rd (loopUpdate n s) (LOOP.SETPOINT n) = if rd s (LOOP.FAIL_HIGH n) = 1 then 21500 else 3500)
    ∧ (loopSource (modLoop n (fun u => { u with idle := 0, stale := false }) (inc (LOOP.LOOP_UPDATES n) s)) n = .hold →
      rd (loopUpdate n s) (LOOP.SETPOINT n) = rd s (LOOP.SETPOINT n))
    ∧ rd (loopUpdate n s) (LOOP.LOOP_UPDATES n) = (rd s (LOOP.LOOP_UPDATES n) + 1) % 2 ^ (LOOP.LOOP_UPDATES n).w
    ∧ (loopOn s n = false → rd (loopUpdate n s) (LOOP.LOOP_STATE n) = rd s (LOOP.LOOP_STATE n))
    ∧ (∀ f : Fld, f.key ≠ (LOOP.SETPOINT n).key → f.key ≠ (LOOP.LOOP_UPDATES n).key → f.key ≠ (LOOP.LOOP_STATE n).key →
      rd (loopUpdate n s) f = rd s f)

/-- WEIGH_OUTPUT delivers the output of a grid point that is due; NOTCH_FENCE_HELD raises FENCE_HELD after FENCE_TICKS ticks;
ZERO_STALE sets the flag beyond ZT_STALE_LIMIT; ZERO, TARE, PRESET_TARE and CLEAR_TARE with no BUSY and a valid argument wait for
the commit cycle; SET_CMD_EXECUTE in the commit cycle carries the command out, or ends it with STATE; CONVERT and WCH_CONVERT
trigger the channel's unit; WIN_DONE ends a window whose last output is formed; DE_CHECK judges a dwell that is over. -/
def Obligations.WeighingCommandsComplete : Prop :=
  (∀ (t c b : Nat) (s m : State), meets t s m → c < 16 → enabled m (0x49 + c) = true → outputDue m c = some b →
    exec (.weighOutput t c) s = .next (output c b m))
  ∧ (∀ (t c j : Nat) (s m : State), meets t s m → c < 16 → j < 4 → rd m (WCH.N_FENCE_TICKS c) ≤ (notchOf m c j).held → 0 < (notchOf m c j).held →
    (notchOf m c j).raised = false →
    exec (.notchFenceHeld t c j) s = .next (raise (0x49 + c) 2 (modNotch c j (fun x => { x with raised := true }) m)))
  ∧ (∀ (t k : Nat) (s m : State), meets t s m → k < 8 → setOn m k = true → (setU m k).isStale = false →
    rd m (WGH.ZT_STALE_LIMIT k) * 400 < (setU m k).stale →
    exec (.zeroStale t k) s = .next (logEvent 0x40 0x48 (staleData k (setU m k) 0)
      (raise 0x48 2 (modSet k (fun u => { u with isStale := true }) m))))
  ∧ (∀ (t k op : Nat) (p : Port) (c : Instr) (s m a : State), meetsFrom p t s m → k < 8 → opens m p 0x48 → (setU m k).cmd = none →
    (op = 1 ∧ c = .zero t p k ∨ op = 2 ∧ c = .tare t p k ∨ op = 4 ∧ c = .clearTare t p k ∨ op = 3 ∧ c = .presetTare t p k ∧
      0 < rdS m (WGH.CMD_ARG k) ∧ rdS m (WGH.CMD_ARG k) ≤ (rd m (WGH.MAX_E k) * rd m (WGH.E_MG k) : Nat) ∧
      rdS m (WGH.CMD_ARG k) % (rd m (WGH.E_MG k) : Int) = 0) →
    a = accepted p 0x48 (some (WGH.SET_CODE k)) m →
    exec c s = .next (wr (WGH.SET_BUSY k) 1
      (modSet k (fun u => { u with cmd := some (op, rdS m (WGH.CMD_ARG k), p), cmdSc := m.time.sc }) a)))
  ∧ (∀ (t k op : Nat) (arg : Int) (p : Port) (s m a : State), meets t s m → k < 8 → onTick m = true → lgcRuns m = true →
    (setU m k).cmd = some (op, arg, p) → (setU m k).cmdSc < m.time.sc → setCmdState m k op = false →
    a = modSet k (fun u => { u with cmd := none }) m →
    exec (.setCmdExecute t k) s =
      .next (raise 0x48 5 (wr (WGH.SET_BUSY k) 0 (wr (WGH.SET_CODE k) 0 (setCmdAct k op arg a)))))
  ∧ (∀ (t k op : Nat) (arg : Int) (p : Port) (s m a : State), meets t s m → k < 8 → onTick m = true → lgcRuns m = true →
    (setU m k).cmd = some (op, arg, p) → (setU m k).cmdSc < m.time.sc → setCmdState m k op = true →
    a = modSet k (fun u => { u with cmd := none }) m →
    exec (.setCmdExecute t k) s = .next (raise 0x48 5 (wr (WGH.SET_BUSY k) 0
      (wr (WGH.SET_CODE k) 8 (refuse p 0x48 (0x158 + 0x100 * k) .state a)))))
  ∧ (∀ (t c k occ n : Nat) (src : TrigSrc) (s m a : State), meets t s m → c < 16 → a = arrived src (0x48 + c) m →
    takesTriggers a (0x48 + c) → setOf a c = some k → 1 ≤ n → n ≤ 4095 → rd a (WGH.SET_EN k) ≠ 0 → (setU a k).win = none →
    exec (.convert t src c occ 1 n) s = .next (trigExec (0x48 + c) (startWindow k occ n a)))
  ∧ (∀ (t c k n : Nat) (p : Port) (s m a : State), meetsFrom p t s m → c < 16 → opens m p (0x49 + c) →
    cmdBusy m ((0x49 + c) * 0x1000 + 0x060) = false → channelLegal m c = false → 1 ≤ n → n ≤ 4095 →
    a = arrived .cmd (0x48 + c) (raise (0x49 + c) 4 (startCmd ((0x49 + c) * 0x1000 + 0x060) 4 (accepted p (0x49 + c) (some (WCH.CMD_CODE c)) m))) →
    takesTriggers a (0x48 + c) → setOf a c = some k → rd a (WGH.SET_EN k) ≠ 0 → (setU a k).win = none →
    exec (.wchConvert t p c n) s = .next (trigExec (0x48 + c) (startWindow k m.time.sc n a)))
  ∧ (∀ (t k : Nat) (w : WWin) (s m : State), meets t s m → k < 8 → (setU m k).win = some w → w.last ≤ (setU m k).lastB.getD 0 →
    exec (.winDone t k) s = .next (finishWindow k w m))
  ∧ (∀ (t : Nat) (s m : State), meets t s m → onTick m = true → lgcRuns m = true → dwellOver m = true →
    exec (.deCheck t) s = .next (deJudge m))

/-- A CONVERT trigger with a count of 1 to 4,095 of an enabled set whose window runs: with POLICY 0 it pends, in unit PENDING, once,
and a second one is MERGED and changes no window; with POLICY 1 it is REFUSED and the window goes on; with POLICY 2 it is EXECUTED
and the window starts anew over the outputs after its own occurrence. A trigger with a count of 0 or above 4,095, or for a channel
in no set or a set that is not enabled, is REFUSED and starts nothing. -/
def Obligations.WindowsFollowTheirPolicy : Prop :=
  ∀ (c k occ n : Nat) (w : WWin) (s : State), setOf s c = some k → (setU s k).win = some w →
    ((n = 0 ∨ 4095 < n ∨ rd s (WGH.SET_EN k) = 0) → convert c occ n s = trigRefuse (0x48 + c) s)
    ∧ (1 ≤ n → n ≤ 4095 → rd s (WGH.SET_EN k) ≠ 0 →
      (rd s (WGH.SET_POLICY k) = 0 → (setU s k).pend = none →
        (setU (convert c occ n s) k).pend = some (n, 0x48 + c) ∧ (setU (convert c occ n s) k).win = some w
        ∧ (convert c occ n s).led = (trigPend (0x48 + c) s).led ∧ rd (convert c occ n s) (WGH.WIN_STATE k) = 2)
      ∧ (rd s (WGH.SET_POLICY k) = 0 → (setU s k).pend ≠ none → convert c occ n s = trigMerge (0x48 + c) s)
      ∧ (rd s (WGH.SET_POLICY k) = 1 → convert c occ n s = trigRefuse (0x48 + c) s)
      ∧ (2 ≤ rd s (WGH.SET_POLICY k) →
        (setU (convert c occ n s) k).win = some (windowFrom occ ((occ / setSpacing s k + 1) * setSpacing s k) (setSpacing s k) n)))

/-- The gross of a mass lies within half of e of it and is a multiple of e, halves moving away from zero; a formed value shows NET =
GROSS − TARE; its NFT flag is set when any NFT_WHY bit is set or a halted chain stands behind a legal set, and only then. -/
def Obligations.ValuesAreRoundedAndFlagged : Prop :=
  (∀ (k : Nat) (mz : Int) (s : State), 0 < rd s (WGH.E_MG k) →
    2 * (roundE s k mz * mgUnit - mz).natAbs ≤ rd s (WGH.E_MG k) * 2 ^ 333 ∧ (rd s (WGH.E_MG k) : Int) ∣ roundE s k mz
    ∧ (2 * (roundE s k mz * mgUnit - mz).natAbs = rd s (WGH.E_MG k) * 2 ^ 333 → mz.natAbs ≤ (roundE s k mz * mgUnit).natAbs))
  ∧ (∀ (k outFlags : Nat) (mz gross : Int) (stable : Bool) (s : State),
    (bit (buildFlags s k mz gross outFlags stable) 2 = true ↔
      bits (buildFlags s k mz gross outFlags stable) 23 16 ≠ 0 ∨ haltedNft s k = true)
    ∧ bit (buildFlags s k mz gross outFlags stable) 0 = stable
    ∧ bit (buildFlags s k mz gross outFlags stable) 12 = (setU s k).z.isNone)

/-- SEQUENCE is a trigger of unit 0x5A that starts a sequence on a free enabled unit whose paths are all enabled; USX_SEQUENCE_CMD of
a mask without legal paths does the same from a port, and with a legal path is refused with SEALED; USX_SHOT takes the shot of a
slot that is due, and DISCHARGE its discharge time, OPEN above DIS_TIMEOUT; SEQUENCE_END queues the result, or discards it and
counts SEQ_OVERRUN with the queue full; TEMP_HOLD_EXPIRE ends the held temperature T_HOLD seconds after the fault. -/
def Obligations.UltrasonicCommandsComplete : Prop :=
  (∀ (t occ arg : Nat) (src : TrigSrc) (s m c : State), meets t s m → c = arrived src 0x5A m → takesTriggers c 0x5A → seqArgOk arg = true →
    enabled c 0x5A = true → rd c SYS.CORE_SRC ≠ 0 → ((maskPaths (arg % 16)).all fun q => decide (rd c (USP.P_EN q) ≠ 0)) = true →
    c.usx.seq = none → exec (.sequence t src occ 1 arg) s = .next (trigExec 0x5A (startSeq occ arg c)))
  ∧ (∀ (t arg : Nat) (p : Port) (s m c : State), meetsFrom p t s m → opens m p 0x5A → cmdBusy m 0x5A100 = false → maskLegal m (arg % 16) = false →
    seqArgOk arg = true →
    c = arrived .cmd 0x5A (raise 0x5A 8 (startCmd 0x5A100 4 (accepted p 0x5A (some USX.CMD_CODE) m))) → takesTriggers c 0x5A →
    enabled c 0x5A = true → rd c SYS.CORE_SRC ≠ 0 → ((maskPaths (arg % 16)).all fun q => decide (rd c (USP.P_EN q) ≠ 0)) = true →
    c.usx.seq = none → exec (.usxSequenceCmd t p arg) s = .next (trigExec 0x5A (startSeq m.time.sc arg c)))
  ∧ (∀ (t arg : Nat) (p : Port) (s m : State), meetsFrom p t s m → opens m p 0x5A → cmdBusy m 0x5A100 = false → maskLegal m (arg % 16) = true →
    exec (.usxSequenceCmd t p arg) s = .next (refusedAs p 0x5A 0x100 (some USX.CMD_CODE) .sealed m))
  ∧ (∀ (t amp : Nat) (stamps : List Nat) (q : Seq) (s m : State), meets t s m → m.usx.seq = some q → q.slot < seqShots m q → slotDue m q = true →
    exec (.usxShot t stamps amp) s = .next (shot (if stamps.headD 0 < 250 * rd m (USP.RX_OPEN (shotOf q).1) then []
      else stamps.take (rd m (USP.NZC (shotOf q).1))) amp q m))
  ∧ (∀ (t time : Nat) (q : Seq) (s m : State), meets t s m → m.usx.seq = some q → seqShots m q ≤ q.slot → q.slot < seqSlots m q →
    slotDue m q = true →
    exec (.discharge t time) s = .next ({ m with usx := { m.usx with seq := some { q with
      slot := q.slot + 1, times := q.times ++ [if time ≤ 250 * rd m USX.DIS_TIMEOUT then some time else none] } } }))
  ∧ (∀ (t : Nat) (q : Seq) (s m : State), meets t s m → m.usx.seq = some q → seqSlots m q ≤ q.slot → m.usx.pend = none →
    m.usx.results.length < 8 → exec (.sequenceEnd t) s = .next (raise 0x5A 0 (inc USX.SEQS
      { m with usx := { m.usx with seq := none, results := m.usx.results ++ [q] } })))
  ∧ (∀ (t : Nat) (q : Seq) (s m : State), meets t s m → m.usx.seq = some q → seqSlots m q ≤ q.slot → m.usx.pend = none →
    8 ≤ m.usx.results.length →
    exec (.sequenceEnd t) s = .next (raise 0x5A 1 (inc USX.SEQ_OVERRUN { m with usx := { m.usx with seq := none } })))
  ∧ (∀ (t k : Nat) (s m : State), meets t s m → k < 3 → bit (rd m USX.T_FAULT) k = true →
    (rtdU m k).since + rd m USX.T_HOLD * secondSteps ≤ m.time.cycle →
    exec (.tempHoldExpire t k) s = .next (modRtd k (fun x => { x with expired := true }) m))

/-- A shot counts in SHOTS; one whose receive window meets a blanking window or the move of the receive pin counts in SHOTS_BLANKED
and not in SHOTS_BAD, and is judged by nothing; one without a stamp is bad for NO ARRIVAL, one outside TOF_MIN to TOF_MAX for TOF,
one outside AMP_MIN to AMP_MAX for AMPLITUDE, in that order, and counts in SHOTS_BAD; a good shot adds its TOF to the sequence and
leaves SHOTS_BAD. Each moves the sequence by one slot. -/
def Obligations.ShotsAreJudgedInOrder : Prop :=
  ∀ (stamps : List Nat) (amp : Nat) (q : Seq) (s : State) (p : Nat), p = (shotOf q).1 → p < 4 →
    (shotBlanked (inc (USP.SHOTS p) s) q p = true ∨ shotMoved (inc (USP.SHOTS p) s) q p = true →
      rd (shot stamps amp q s) (USP.SHOTS_BAD p) = rd s (USP.SHOTS_BAD p)
      ∧ rd (shot stamps amp q s) (USP.SHOTS_BLANKED p) = (rd s (USP.SHOTS_BLANKED p) + 1) % 2 ^ (USP.SHOTS_BLANKED p).w
      ∧ (shot stamps amp q s).usx.paths = s.usx.paths)
    ∧ (shotBlanked (inc (USP.SHOTS p) s) q p = false → shotMoved (inc (USP.SHOTS p) s) q p = false →
      shotReason (inc (USP.SHOTS p) s) p (shotOf q).2.2 stamps amp ≠ 0 →
      rd (shot stamps amp q s) (USP.SHOTS_BAD p) = (rd s (USP.SHOTS_BAD p) + 1) % 2 ^ (USP.SHOTS_BAD p).w
      ∧ (pathX (shot stamps amp q s) p).reason = shotReason (inc (USP.SHOTS p) s) p (shotOf q).2.2 stamps amp)
    ∧ (∀ d : Nat, shotReason s p d [] amp = 1)
    ∧ (∀ d : Nat, stamps ≠ [] → (shotReason s p d stamps amp = 2 ↔
      meanStamps stamps < rd s (USP.TOF_MIN p) * tofUnit ∨ rd s (USP.TOF_MAX p) * tofUnit < meanStamps stamps))
    ∧ (∀ d : Nat, stamps ≠ [] → rd s (USP.TOF_MIN p) * tofUnit ≤ meanStamps stamps → meanStamps stamps ≤ rd s (USP.TOF_MAX p) * tofUnit →
      (shotReason s p d stamps amp = 3 ↔ amp < rd s (USP.AMP_MIN p) ∨ rd s (USP.AMP_MAX p) < amp))
    ∧ (shotBlanked (inc (USP.SHOTS p) s) q p = false → shotMoved (inc (USP.SHOTS p) s) q p = false →
      shotReason (inc (USP.SHOTS p) s) p (shotOf q).2.2 stamps amp = 0 →
      (shot stamps amp q s).usx.seq.map Seq.good = some (q.good ++ [(p, (shotOf q).2.1, (shotOf q).2.2, meanStamps stamps)])
      ∧ rd (shot stamps amp q s) (USP.SHOTS_BAD p) = rd s (USP.SHOTS_BAD p))
    ∧ rd (shot stamps amp q s) (USP.SHOTS p) = (rd s (USP.SHOTS p) + 1) % 2 ^ (USP.SHOTS p).w
    ∧ (shot stamps amp q s).usx.seq.map Seq.slot = some (q.slot + 1)

/-- A request at the front of the LGC's queue is served in a commit cycle of the running LGC, and its answer stands for the next tick:
GET_LEGAL_ID, LOG_READ of an entry that is held, SESSION_START with the seal ARMED, SESSION_RESPONSE with the right response, the
session commands PARAM_READ, PARAM_WRITE, COMMIT, DISCARD, ROLLOVER, CLEAR_BREAK and CLOSE with the next SEQ and a right TAG, and
STC_IMAGE_CHECK. -/
def Obligations.SealedServicesComplete : Prop :=
  (∀ (t : Nat) (r : LgcReq) (s m b : State), meets t s m → r.code = 0x81 → takes r m b →
    exec (.getLegalId t) s = .next (answerNext r 0 (toLe 4 (rd b LEGL.ROM_VERSION) ++ toLe 4 (rd b LEGL.ROM_CRC)
      ++ toLe 4 (rd b LEGL.ID_CRC) ++ (List.range 4).flatMap (fun k => toLe 4 (rd b (LEGL.ID_CMAC k))) ++ [rd b LEGL.ID_VALID]) b))
  ∧ (∀ (t : Nat) (r : LgcReq) (e : LogEntry) (s m b : State), meets t s m → r.code = 0x82 → takes r m b →
    b.leg.log[le (slice r.data 0 2)]? = some e → exec (.logRead t) s = .next (answerNext r 0 (logBytes e) b))
  ∧ (∀ (t : Nat) (r : LgcReq) (n : List Nat) (s m b : State), meets t s m → r.code = 0x83 → takes r m b → rd b LEGL.SEAL_STATE = 1 →
    rd b BILL.DEL_OPEN ≠ 1 → b.leg.lockUntil ≤ b.time.ticks → n = toBe 16 (Config.nonce b.leg.draws) →
    exec (.sessionStart t) s = .next (answerNext r 0 (n ++ serialBytes b ++ toLe 4 (rd b LEGL.ID_CRC)) { b with leg := { b.leg with
      draws := b.leg.draws + 1,
      nonce := some { bytes := n, tick := b.time.ticks, station := le (slice r.data 0 4), officer := le (slice r.data 4 4) } } }))
  ∧ (∀ (t : Nat) (r : LgcReq) (n : Nonce) (s m b : State), meets t s m → r.code = 0x84 → takes r m b → rd b LEGL.SEAL_STATE = 1 →
    b.leg.nonce = some n → b.time.ticks ≤ n.tick + 4000 → slice r.data 0 16 = sessionResp b n →
    exec (.sessionResponse t) s = .next (answerNext r 0 [] (openSession n b)))
  ∧ (∀ (t i : Nat) (r : LgcReq) (s m b a : State), meets t s m → r.code = 0x85 → r.data.getD 4 0 = 1 → takes r m b → inSession r b a →
    i = le (slice (sessionArgs r) 0 2) → i < 1018 →
    exec (.paramRead t) s = .next (answerNext r 0
      (sessionBytes a (le (slice r.data 0 4)) 1 0 (toLe 8 (a.leg.edit.getD i erased))) a))
  ∧ (∀ (t i : Nat) (r : LgcReq) (s m b a c : State), meets t s m → r.code = 0x85 → r.data.getD 4 0 = 2 → takes r m b → inSession r b a →
    i = le (slice (sessionArgs r) 0 2) → i < 1018 →
    c = { a with leg := { a.leg with edit := putRecord i (le (slice (sessionArgs r) 2 8)) a.leg.edit } } →
    exec (.paramWrite t) s = .next (answerNext r 0 (sessionBytes c (le (slice r.data 0 4)) 2 0 []) c))
  ∧ (∀ (t : Nat) (r : LgcReq) (k : Bank) (l : List Nat) (s m b a : State), meets t s m → r.code = 0x85 → r.data.getD 4 0 = 3 →
    takes r m b → inSession r b a → a.leg.cal = none → commitRange a = false → rd a BILL.DEL_OPEN ≠ 1 →
    (vresOk a = true → a.leg.log.length < 4032) →
    k = bankAt a (rd a LEGL.ACTIVE_BANK) → l = listed a.leg.edit →
    exec (.commit t) s = .next (calWork { a with leg := { a.leg with cal := some {
        gen := (max (bankTop a.leg.bankA) (bankTop a.leg.bankB) + 1) % 2 ^ 32, old := rd a LEGL.ACTIVE_GEN,
        changed := recordsChanged k.params l, params := l, start := none, waitTo := a.time.ticks + rd a LEGL.VRES_TIMEOUT,
        req := r, seq := le (slice r.data 0 4) } } }))
  ∧ (∀ (t : Nat) (r : LgcReq) (s m b a c : State), meets t s m → r.code = 0x85 → r.data.getD 4 0 = 4 → takes r m b → inSession r b a →
    c = { a with leg := { a.leg with edit := (bankAt a (rd a LEGL.ACTIVE_BANK)).params } } →
    exec (.sessionDiscard t) s = .next (answerNext r 0 (sessionBytes c (le (slice r.data 0 4)) 4 0 []) c))
  ∧ (∀ (t : Nat) (r : LgcReq) (s m b a : State), meets t s m → r.code = 0x85 → r.data.getD 4 0 = 5 → takes r m b → inSession r b a →
    a.leg.roll = none → slice (sessionArgs r) 0 8 = lastChain a → 4032 ≤ a.leg.log.length →
    exec (.rollover t) s = .next ({ a with leg := { a.leg with roll := some (a.time.cycle, r, le (slice r.data 0 4)) } }))
  ∧ (∀ (t d : Nat) (r : LgcReq) (s m b a : State), meets t s m → r.code = 0x85 → r.data.getD 4 0 = 6 → takes r m b → inSession r b a →
    d = (sessionArgs r).getD 0 0 → 6 ≤ d → d ≤ 8 → balanced a d = true →
    exec (.sessionClearBreak t) s =
      .next (answerNext r 0 (sessionBytes (endBreak d a) (le (slice r.data 0 4)) 6 0 []) (endBreak d a)))
  ∧ (∀ (t : Nat) (r : LgcReq) (s m b a : State), meets t s m → r.code = 0x85 → r.data.getD 4 0 = 7 → takes r m b → inSession r b a →
    exec (.sessionClose t) s =
      .next (endSession 4 (answerNext r 0 (sessionBytes a (le (slice r.data 0 4)) 7 0 []) a)))
  ∧ (∀ (t : Nat) (r : LgcReq) (s m b : State), meets t s m → r.code = 0x8B → takes r m b →
    exec (.stcImageCheck t) s = .next (if imageRefused b (fit 64 r.data) = true then
      answerNext r 0 [0] (logEvent 0x70 0x86 ([0xFF] ++ slice (fit 64 r.data) 4 4) b) else answerNext r 0 [1] b))

/-- ID_COMPUTE_DONE shows LEGAL_ID; SEAL_SW_EDGE closes or arms the seal; SEAL_LEFT_OPEN and TAMPER raise and log; SESSION_TIMEOUT
ends a silent session; VRES_SAMPLE judges; TOTALS_COMMIT starts the due commit with VRES satisfied and TOTALS_COMMIT_DONE makes
its bookings visible; CAL_COMMIT_DONE makes the inactive bank the active one; ROLLOVER_DONE erases the log and answers; READ_POS
loads an entry. -/
def Obligations.SealAndStoreCommandsComplete : Prop :=
  (∀ (t k : Nat) (s m : State), meets t s m → m.leg.idStart = some k → lgcRuns m = true →
    exec (.idComputeDone t) s = .next (idDone m))
  ∧ (∀ (t : Nat) (s m b : State), meets t s m → rd m LEGL.SW_FILT = 1 → (sealEdges m).length < rd m LEGL.SEAL_MAX_EDGES →
    b = wr LEGL.SW_FILT 0 { m with leg := { m.leg with edges := m.time.cycle :: sealEdges m } } →
    exec (.sealSwEdge t) s = .next (sealFollow (endSession 1 b)))
  ∧ (∀ (t : Nat) (s m b : State), meets t s m → rd m LEGL.SW_FILT = 0 → (sealEdges m).length < rd m LEGL.SEAL_MAX_EDGES →
    m.leg.chatter = false → sealOpen m = false →
    b = wr LEGL.SW_FILT 1 { m with leg := { m.leg with
      edges := m.time.cycle :: sealEdges m, rose := m.time.ticks, noSession := true, leftLogged := false } } →
    exec (.sealSwEdge t) s = .next (if rd m LEGL.SEAL_STATE = 1 then b else
      when (lgcRuns m) (logEvent 0x10 0x60 [1, rd m LEGL.TAMPER_FILT]) (raise 0x60 0 (wr LEGL.SEAL_STATE 1 b))))
  ∧ (∀ (t : Nat) (s m : State), meets t s m → rd m LEGL.SW_FILT = 1 → m.leg.noSession = true → m.leg.leftLogged = false →
    m.leg.rose + 400 * rd m LEGL.OPEN_TIMEOUT ≤ m.time.ticks → lgcRuns m = true →
    exec (.sealLeftOpen t) s = .next (logEvent 0x11 0x60 (sealLevels m)
      (raise 0x60 1 { m with leg := { m.leg with leftLogged := true } })))
  ∧ (∀ (t : Nat) (s m b : State), meets t s m → rd m LEGL.TAMPER_FILT = 0 → lgcRuns m = true → m.leg.tamperAt = none →
    b = raise 0x60 2 (inc LEGL.TAMPER_COUNT (endSession 3 (wr LEGL.TAMPER_FILT 1 m))) →
    exec (.tamper t true) s = .next (logEvent 0x16 0x60 ([rd b LEGL.SW_FILT] ++ toLe 4 (rd b LEGL.TAMPER_COUNT))
      { b with leg := { b.leg with tamperAt := some b.time.cycle } }))
  ∧ (∀ (t : Nat) (s m : State), meets t s m → exec (.tamper t false) s = .next (wr LEGL.TAMPER_FILT 0 m))
  ∧ (∀ (t : Nat) (s m : State), meets t s m → sealOpen m = true → m.leg.lastCmd + 400 * rd m LEGL.SESSION_TIMEOUT ≤ m.time.ticks →
    exec (.sessionTimeout t) s = .next (endSession 5 m))
  ∧ (∀ (t mv : Nat) (s m b : State), meets t s m → rd m LEGL.VRES_MIN ≤ mv → mv ≤ rd m LEGL.VRES_MAX →
    b = { m with leg := { m.leg with vresRun := m.leg.vresRun + 1 } } →
    exec (.vresSample t mv) s = .next (b |> wr LEGL.VRES_NOW mv
      |> wrB LEGL.VRES_OK (decide (max 1 (rd m LEGL.VRES_FILTER) ≤ m.leg.vresRun + 1))))
  ∧ (∀ (t mv : Nat) (s m b : State), meets t s m → (mv < rd m LEGL.VRES_MIN ∨ rd m LEGL.VRES_MAX < mv) →
    b = { m with leg := { m.leg with vresRun := 0 } } →
    exec (.vresSample t mv) s = .next (raise 0x60 3 (b |> wr LEGL.VRES_NOW mv |> wr LEGL.VRES_OK 0)))
  ∧ (∀ (t b n : Nat) (p : List Nat) (s m a : State), meets t s m → onTick m = true → lgcRuns m = true → m.leg.tot = none → m.leg.due = true →
    calRuns m = false → rd m LEGL.STORE_LOST = 0 → rd m LEGL.VRES_OK = 1 → b = rd m LEGL.ACTIVE_BANK →
    n = (if billHalted m = true then 0 else m.leg.bookings.length) → p = totalsPayload (if billHalted m = true then m else view m) →
    a = modBank b (fun k => { k with journal := aset k.journal (nextSlot m) { payload := p } }) m →
    exec (.totalsCommit t) s = .next (showCommit { a with leg := { a.leg with due := false, tot := some {
        slot := nextSlot m, seq := (rd m LEGL.TOTALS_SEQ + 1) % 2 ^ 32, start := a.time.cycle, payload := p, covers := n } } }))
  ∧ (∀ (t : Nat) (x : TotRun) (s m : State), meets t s m → m.leg.tot = some x →
    exec (.totalsCommitDone t) s = .next (afterCommit (totDone m)))
  ∧ (∀ (t : Nat) (c : CalRun) (s m : State), meets t s m → m.leg.cal = some c → c.start.isSome = true → c.done = false →
    exec (.calCommitDone t) s = .next (calDone c m))
  ∧ (∀ (t c seq : Nat) (r : LgcReq) (s m : State), meets t s m → m.leg.roll = some (c, r, seq) → sealOpen (eraseLog m) = true →
    exec (.rolloverDone t) s = .next (mboxAnswer r.win 0 r.tag r.code (sessionBytes (eraseLog m) seq 5 0 []) (eraseLog m)))
  ∧ (∀ (t pos : Nat) (p : Port) (s m a : State), meetsFrom p t s m → opens m p 0x61 → pos < 4096 → pos < m.leg.log.length →
    a = (accepted p 0x61 none m |> wr ALOG.READ_POS pos |> wr ALOG.READ_READY 1) →
    exec (.readPos t p pos) s = .next (forEach (List.range 12)
      (fun k => wr (ALOG.ENTRY k) (le (slice (logBytes (m.leg.log.getD pos {})) (4 * k) 4))) a))

/-- Writing an entry to a log of fewer than 4,096 entries appends exactly it, with SEQ = NEXT_SEQ and the CHAIN computed over the last
entry's CHAIN, NEXT_SEQ is one more, and no earlier entry changes; a full log stays as it is and UNLOGGED counts. USED reads the
number of entries. -/
def Obligations.LogIsAppended : Prop :=
  ∀ (e : LogEntry) (s : State),
    (s.leg.log.length < 4096 →
      (logWrite e s).leg.log = s.leg.log ++ [{ e with
        seq := rd s ALOG.NEXT_SEQ, chain := chainAfter (lastChain s) { e with seq := rd s ALOG.NEXT_SEQ } }]
      ∧ rd (logWrite e s) ALOG.NEXT_SEQ = (rd s ALOG.NEXT_SEQ + 1) % 2 ^ 32
      ∧ rd (logWrite e s) ALOG.UNLOGGED = rd s ALOG.UNLOGGED
      ∧ rd (logWrite e s) ALOG.LOG_USED = s.leg.log.length + 1)
    ∧ (4096 ≤ s.leg.log.length → (logWrite e s).leg = s.leg
      ∧ rd (logWrite e s) ALOG.UNLOGGED = (rd s ALOG.UNLOGGED + 1) % 2 ^ 32 ∧ rd (logWrite e s) ALOG.NEXT_SEQ = rd s ALOG.NEXT_SEQ)

/-- Outside a session every session command is refused with STATE and has no effect; in one, a command whose TAG or SEQ is wrong is
refused with AUTH and leaves the edit buffer or ends the session; the end of a session empties the edit buffer, takes SEAL_STATE
to ARMED or CLOSED, and raises SEAL_STATE; no session begins but by SESSION_RESPONSE with the response to the LGC's own nonce. -/
def Obligations.OnlyTheSealOpensASession : Prop :=
  (∀ (r : LgcReq) (s : State), sealOpen s = false → sessionCmd r s = answerNext r 8 [] s)
  ∧ (∀ (d : List Nat) (s : State), sealOpen s = true → d.drop (d.length - 16) ≠ sessionTag s (d.take (d.length - 16)) →
    (sessionAccept d s).1 = some .auth ∧ ((sessionAccept d s).2.leg.edit = s.leg.edit ∨ (sessionAccept d s).2.leg.edit = [])
    ∧ (2 ≤ s.leg.badTags → sealOpen (sessionAccept d s).2 = false))
  ∧ (∀ (reason : Nat) (s : State), sealOpen s = true → (endSession reason s).leg.edit = [] ∧ sealOpen (endSession reason s) = false
    ∧ bit (rd (endSession reason s) (HDR.CAUSE 0x60)) 0 = true ∧ rd (endSession reason s) LEGL.STATION_ID = 0)
  ∧ (∀ (d : List Nat) (s : State), sealOpen s = false → sealOpen (sessionResponse d s).2.2 = true →
    rd s LEGL.SEAL_STATE = 1 ∧ ∃ n, s.leg.nonce = some n ∧ slice d 0 16 = sessionResp s n ∧ s.time.ticks ≤ n.tick + 4000)

/-- TOPUP, EXPIRE, CLOSE and OPEN of an account with a body in range, a right VTAG and a state that allows it make a booking and are
answered with OK; PRICE stages prices and EMERGENCY books; DELIVERY_OPEN opens a delivery and DELIVERY_STOP stops it; the triggers
ACTIVATE_PRICES, EVALUATE and ARM are latched for the next commit cycle; DELIVERY_CLOSE, DELIVERY_BOOK and UNATTRIBUTED_CLOSE do
their step in a commit cycle in which it is due. -/
def Obligations.BillingCommandsComplete : Prop :=
  (∀ (t op : Nat) (c : Instr) (r : LgcReq) (x : List Nat) (s m b : State), meets t s m → r.code = 0x88 → r.data.getD 4 0 = op → takes r m b →
    (op = 1 ∧ c = .topup t ∨ op = 2 ∧ c = .expire t ∨ op = 3 ∧ c = .accountClose t ∨ op = 4 ∧ c = .accountOpen t) → x = fit 36 r.data →
    creditRange b x = false → slice x 20 8 = voucherTag b x → creditState b x = false →
    exec c s = .next (answerNext r 0 []
      (makeBooking (.credit op (x.getD 5 0) (be (slice x 8 4)) (be (slice x 12 8)) (bit (x.getD 6 0) 0)) b)))
  ∧ (∀ (t : Nat) (r : LgcReq) (x : List Nat) (s m b a : State), meets t s m → r.code = 0x89 → r.win = 1 → takes r m b → x = fit 36 r.data →
    x.getD 4 0 = 1 → x.getD 5 0 ≤ 7 → x.getD 6 0 = 0 → x.getD 7 0 = 0 → (slice x 26 10).all (· == 0) = true →
    scFrame b + 25 ≤ be (slice x 20 6) →
    a = (b |> wr (BILL.ST_PRICE_MASS (x.getD 5 0)) (be (slice x 8 4)) |> wr (BILL.ST_PRICE_VOL (x.getD 5 0)) (be (slice x 12 4))
      |> wr (BILL.ST_PRICE_SVC (x.getD 5 0)) (be (slice x 16 4)) |> wr BILL.STAGED_ACT (be (slice x 20 6)) |> wr BILL.STAGED_PEND 1
      |> raise 0x68 4) → exec (.priceStage t) s = .next (answerNext r 0 [] a))
  ∧ (∀ (t a : Nat) (r : LgcReq) (s m b v : State), meets t s m → r.code = 0x8A → takes r m b → v = view b → a = r.data.getD 0 0 → a ≤ 7 →
    rd v (PREP.A_OPEN a) ≠ 0 → rd v (PREP.EMERG_OUT a) = 0 → 0 < rd v (PREP.E_AMT a) → balanceOf v a < rd v (PREP.E_AMT a) →
    bookingBlocked b = false → exec (.emergency t) s = .next (answerNext r 0 [] (makeBooking (.emergency a) b)))
  ∧ (∀ (t : Nat) (r : LgcReq) (s m b a : State), meets t s m → r.code = 0x86 → takes r m b →
    (bit (r.data.getD 2 0) 1 = true → Variant.usxPaths b.fuse.variant ≠ 0) → openRange r.data = false → openState b r.data = false →
    b.leg.log.length < 4096 → a = openDelivery r.data b →
    exec (.deliveryOpen t) s = .next (answerNext r 0 (toLe 4 (rd a BILL.DEL_NO)) a))
  ∧ (∀ (t : Nat) (r : LgcReq) (s m b : State), meets t s m → r.code = 0x87 → takes r m b → rd b BILL.DEL_OPEN ≠ 0 →
    le (slice r.data 0 4) = rd b BILL.DEL_NO → exec (.deliveryStop t) s = .next (answerNext r 0 [] (stopDelivery 2 b)))
  ∧ (∀ (t u act occ arg : Nat) (src : TrigSrc) (c : Instr) (s m a : State), meets t s m → a = arrived src u m → takesTriggers a u →
    (u = 0x68 ∧ act = 1 ∧ c = .activatePrices t src occ arg ∨ u = 0x69 ∧ act = 1 ∧ c = .tarfEvaluate t src occ arg
      ∨ u = 0x6A ∧ act = 1 ∧ c = .prepEvaluate t src occ arg ∨ u = 0x6A ∧ act = 2 ∧ c = .arm t src occ arg) →
    actionKnown u act arg = true → lgcRuns a = true → a.bill.queue.length < 8 →
    exec c s = .next (trigExec u { a with bill := { a.bill with queue := a.bill.queue ++ [⟨u, act, occ, scFrame a⟩] } }))
  ∧ (∀ (t : Nat) (x : Int × Bool × Nat) (s m : State), meets t s m → onTick m = true → lgcRuns m = true → deliveryDue m = some x →
    exec (.deliveryClose t) s = .next (closeWith m.bill.reason (some x) m))
  ∧ (∀ (t : Nat) (d : DelBook) (l : List DelBook) (rec_ : List Nat) (s m b : State), meets t s m → onTick m = true → lgcRuns m = true →
    m.bill.toSign = d :: l → m.deck.signed = true → billHalted m = false → m.leg.bookings.length < 8 → rec_ = d.record ++ recordTag m d.record →
    b = { m with bill := { m.bill with toSign := l, records := (rec_ :: m.bill.records).take 32 },
                 deck := { m.deck with signing := !l.isEmpty, signed := false } } →
    exec (.deliveryBook t) s = .next (raise 0x68 2 (makeBooking (.delivery { d with record := rec_ }) (showRecord b))))
  ∧ (∀ (t no sc : Nat) (u : Unattr) (s m : State), meets t s m → onTick m = true → lgcRuns m = true → m.bill.unattr = some u → u.no = some (no, sc) →
    u.lastTick + rd m BILL.UNATTR_IDLE ≤ m.time.ticks → exec (.unattributedClose t) s = .next (closeUnattr m))

/-- In each account LOADED − CONSUMED − EXPIRED = BALANCE + EMERG_OUT, over signed 64-bit registers, is kept by every booking of a
top-up, an expiry, an emergency activation or a delivery that stays within the number range; the charge of a quantity is the whole
part of quantity × price and the RESIDUE carried over, plus the service charge, and what is left over is the new RESIDUE. -/
def Obligations.MoneyIsConserved : Prop :=
  (∀ (op a voucher amount : Nat) (auto : Bool) (s : State), a < 8 → (op = 1 ∨ op = 2) → amount < 2 ^ 63 →
    (-2 ^ 63 ≤ balanceOf s a - amount) → balanceOf s a + amount < 2 ^ 63 → (-2 ^ 63 ≤ emergOf s a) → emergOf s a ≤ 0 →
    rd s (PREP.LOADED a) + amount < 2 ^ 63 → rd s (PREP.EXPIRED a) + amount < 2 ^ 63 →
    (rd s (PREP.LOADED a) : Int) - rd s (PREP.CONSUMED a) - rd s (PREP.EXPIRED a) = balanceOf s a + emergOf s a →
    (rd (bookCredit op a voucher amount auto s) (PREP.LOADED a) : Int) - rd (bookCredit op a voucher amount auto s) (PREP.CONSUMED a)
      - rd (bookCredit op a voucher amount auto s) (PREP.EXPIRED a)
      = balanceOf (bookCredit op a voucher amount auto s) a + emergOf (bookCredit op a voucher amount auto s) a
    ∧ rd (bookCredit op a voucher amount auto s) (PREP.VOUCHER a) = voucher % 2 ^ 32)
  ∧ (∀ (a : Nat) (s : State), a < 8 → rd s (PREP.E_AMT a) < 2 ^ 62 → (-2 ^ 62 ≤ balanceOf s a) → balanceOf s a < 2 ^ 62 →
    (-2 ^ 62 ≤ emergOf s a) → emergOf s a < 2 ^ 62 →
    balanceOf (bookEmergency a s) a + emergOf (bookEmergency a s) a = balanceOf s a + emergOf s a
    ∧ balanceOf (bookEmergency a s) a = balanceOf s a + rd s (PREP.E_AMT a))
  ∧ (∀ q price n priceSvc residue : Nat, residue < 1000000 →
    (chargeOf q price n priceSvc residue).2 < 1000000
    ∧ 1000000 * (chargeOf q price n priceSvc residue).1 + (chargeOf q price n priceSvc residue).2
      = q * price + residue + 1000000 * (n * priceSvc))

/-- Making a booking changes no register and asks for a totals commit; the completion of a commit applies exactly the bookings it
covers, in the order they were made, keeps the later ones waiting with a further commit due, and writes the commit's SEQ; one whose
bookings a break of MONEY, MASS or VOL stops applies none of them and leaves all of them waiting with a commit due; what the LGC's
later work sees is the registers as all waiting bookings will leave them. -/
def Obligations.BookingsWaitForTheirCommit : Prop :=
  (∀ (b : Booking) (s : State), (makeBooking b s).regs = s.regs ∧ (makeBooking b s).leg.due = true
    ∧ view (makeBooking b s) = applyBooking b { view s with leg := { (view s).leg with
        bookings := s.leg.bookings ++ [b], due := true } })
  ∧ (∀ (x : TotRun) (s : State), s.leg.tot = some x → billHalted s = true → 0 < x.covers →
    (totDone s).leg.bookings = s.leg.bookings ∧ (totDone s).leg.due = true ∧ (totDone s).leg.tot = none ∧ (totDone s).led = s.led
    ∧ rd (totDone s) LEGL.TOTALS_SEQ = rd s LEGL.TOTALS_SEQ ∧ ∀ a < 8, rd (totDone s) (PREP.BALANCE a) = rd s (PREP.BALANCE a))
  ∧ (∀ (x : TotRun) (s : State), s.leg.tot = some x → (billHalted s = false ∨ x.covers = 0) →
    (totDone s).leg.bookings = s.leg.bookings.drop x.covers ∧ (totDone s).leg.tot = none
    ∧ ((totDone s).leg.due = true ↔ s.leg.due = true ∨ s.leg.bookings.drop x.covers ≠ [])
    ∧ rd (totDone s) LEGL.TOTALS_SEQ = x.seq % 2 ^ 32
    ∧ ∀ a < 8, rd (totDone s) (PREP.BALANCE a) = rd (forEach (s.leg.bookings.take x.covers) applyBooking s) (PREP.BALANCE a))

/-- CONNECT in OFF with VIN_OK and the page enabled begins RAMP_UP; DISCONNECT stops RAMP_UP, ON or RETRY_WAIT and is MERGED
elsewhere; SET_TOTAL sets a TOTAL_LIMIT that fits; SWITCH_SAMPLE judges a sample; FAST_TRIP and RAMP_TIMEOUT trip; RAMP_OFF_DONE
enters OFF; RETRY_BACKOFF_END retries; RETRY_COUNT_RESET, the edges of PWR_WARN_N, WARN_STUCK and WELD_CHECK act when due;
CLEAR_LATCH and PHASE_CLEAR act in their states; LGC_HALT and SELFTEST_DONE change the LGC's state. -/
def Obligations.SwitchCommandsComplete : Prop :=
  (∀ (t : Nat) (src : TrigSrc) (s m c : State), meets t s m → c = arrived src 0x70 m → takesTriggers c 0x70 → swFound c = 0 →
    rd c PWR.STATE ≠ 3 → rd c SWCH.VIN_OK = 1 → enabled c 0x70 = true →
    exec (.connect t src 0) s = .next (trigExec 0x70 (swCause .connect (wr SWCH.DERATED 0 c))))
  ∧ (∀ (t : Nat) (src : TrigSrc) (s m c : State), meets t s m → c = arrived src 0x70 m → takesTriggers c 0x70 →
    (swFound c = 1 ∨ swFound c = 2 ∨ swFound c = 4) →
    exec (.disconnect t src 0) s = .next (trigExec 0x70 (swCause .disconnect c)))
  ∧ (∀ (t : Nat) (src : TrigSrc) (s m c : State), meets t s m → c = arrived src 0x70 m → takesTriggers c 0x70 →
    (swFound c = 3 ∨ swFound c = 5 ∨ swFound c = 0 ∧ c.sw.causes = []) →
    exec (.disconnect t src 0) s = .next (trigMerge 0x70 c))
  ∧ (∀ (t arg : Nat) (src : TrigSrc) (s m c : State), meets t s m → c = arrived src 0x70 m → takesTriggers c 0x70 → 1 ≤ arg → arg ≤ 65535 →
    totalLimitFits c (100 * arg) = true →
    exec (.setTotal t src arg) s = .next (trigExec 0x70 (wr SWCH.TOTAL_LIMIT (100 * arg) c)))
  ∧ (∀ (t vin vout : Nat) (v : List Int) (cm : List Nat) (s m : State), meets t s m →
    exec (.switchSample t vin vout v cm) s = .next (switchSample vin vout v cm m))
  ∧ (∀ (t p : Nat) (s m : State), meets t s m → 1 ≤ swFound m → swFound m ≤ 3 → p ∈ swEnabled m →
    exec (.fastTrip t p) s = .next (swTrip 1 (some p) m))
  ∧ (∀ (t : Nat) (s m : State), meets t s m → rd m SWCH.STATE = 1 → m.sw.rampStart + rd m SWCH.RAMP_MAX * frameSteps ≤ m.time.cycle →
    exec (.rampTimeout t) s = .next (swTrip 4 none m))
  ∧ (∀ (t : Nat) (s m : State), meets t s m → rd m SWCH.STATE = 3 →
    exec (.rampOffDone t) s = .next (enterOff { m with sw := { m.sw with causes := [] } }))
  ∧ (∀ (t : Nat) (s m : State), meets t s m → rd m SWCH.STATE = 4 → m.sw.waitUntil ≤ m.time.cycle → (m.sw.causes = [] ∨ m.sw.causeAt ≠ m.time.cycle) →
    m.tap = false →
    exec (.retryBackoffEnd t) s = .next (rampUp (m |> (fun s => { s with sw := { s.sw with
      causes := [.retry], causeAt := s.time.cycle, base := swBase s } }) |> inc SWCH.RETRY_K |> inc SWCH.RETRIES_DONE)))
  ∧ (∀ (t : Nat) (s m : State), meets t s m → rd m SWCH.STATE = 2 → rd m SWCH.RESET_TICKS ≤ m.sw.onRun →
    exec (.retryCountReset t) s = .next (wr SWCH.RETRY_K 0 m))
  ∧ (∀ (t : Nat) (s m : State), meets t s m → m.sw.pinLow = false → (warnEdges m).length < rd m SWCH.WARN_MAX_EDGES →
    exec (.pwrWarnAssert t) s = .next (warnFollow (warnCount { m with sw := { m.sw with
      pinLow := true, pinEdges := m.time.cycle :: warnEdges m, lowTick := m.time.ticks } })))
  ∧ (∀ (t : Nat) (s m : State), meets t s m → m.sw.pinLow = true →
    exec (.pwrWarnDeassert t) s = .next (warnFollow { m with sw := { m.sw with pinLow := false, stuck := false } }))
  ∧ (∀ (t : Nat) (s m : State), meets t s m → m.sw.pinLow = true → m.sw.stuck = false → rd m SWCH.WARN_INT = 0 →
    m.sw.lowTick + rd m SWCH.WARN_TIMEOUT ≤ m.time.ticks →
    exec (.warnStuck t) s = .next (warnFollow (raise 0x70 7 { m with sw := { m.sw with stuck := true } })))
  ∧ (∀ (t : Nat) (s m : State), meets t s m → exec (.weldCheck t) s = .next (weldCheck m))
  ∧ (∀ (t : Nat) (p : Port) (s m a : State), meetsFrom p t s m → opens m p 0x70 → cmdBusy m swCmdAddr = false → rd m SWCH.STATE = 5 →
    a = accepted p 0x70 (some SWCH.CMD_CODE) m →
    exec (.clearLatch t p) s = .next (raise 0x70 9 (enterOff (startCmd swCmdAddr 4 { a with sw := { a.sw with causes := [] } }))))
  ∧ (∀ (t q : Nat) (p : Port) (s m a : State), meetsFrom p t s m → opens m p 0x70 → cmdBusy m swCmdAddr = false →
    q < Variant.phases m.fuse.variant → (rd m SWCH.STATE = 0 ∨ rd m SWCH.STATE = 5) → phaseBad m q = true →
    a = accepted p 0x70 (some SWCH.CMD_CODE) m →
    exec (.phaseClear t p q) s = .next (raise 0x70 9 (startCmd swCmdAddr 4 { a with sw := { a.sw with causes := [] } }
      |> wr (SWCH.PH_OPEN q) 0 |> wr (SWCH.SENSE_LOST q) 0 |> wr (SWCH.LOST_WHY q) 0 |> wr SWCH.DERATE_LIMIT 0)))
  ∧ (∀ (t why : Nat) (s m : State), meets t s m → rd m SYS.LGC_STATE ≠ 3 →
    exec (.lgcHalt t why) s = .next (swCause .halt (endSession 7 (raise 0x60 7 (wr SYS.LGC_STATE 3
      { m with leg := { m.leg with tot := none, haltWhy := why, idStart := none } })))))
  ∧ (∀ (t : Nat) (s m : State), meets t s m → rd m SYS.LGC_STATE = 1 → m.leg.selfDone = false →
    exec (.selftestDone t true) s = .next (selftestEnd m) ∧ exec (.selftestDone t false) s = .next (lgcHalt 2 m))

/-- A trip of RAMP_UP or ON, alone in its cycle, leads to RETRY_WAIT with the gates off and a wait of BACKOFF × 2^k frames while k is
below RETRIES, and otherwise to LATCHED with the cause and LATCHES one more; a VIN fault in RAMP_UP or ON leads to OFF whatever
trip or connect stands in its cycle, and a halt of the LGC prevails over a VIN fault in the reason; no cause of a cycle leaves
LATCHED. -/
def Obligations.TripsAreRetriedOrLatched : Prop :=
  (∀ (st : Nat) (s : State), s.tap = false → (st = 1 ∨ st = 2) → rd s SWCH.RETRY_K < rd s SWCH.RETRIES →
    rd (swNext [.trip] st s) SWCH.STATE = 4 ∧ (swNext [.trip] st s).sw.gatesOff = s.time.cycle
    ∧ (swNext [.trip] st s).sw.waitUntil = s.time.cycle + rd s SWCH.BACKOFF * 2 ^ rd s SWCH.RETRY_K * 40000)
  ∧ (∀ (st : Nat) (s : State), s.tap = false → (st = 1 ∨ st = 2) → rd s SWCH.RETRIES ≤ rd s SWCH.RETRY_K →
    rd (swNext [.trip] st s) SWCH.STATE = 5 ∧ rd (swNext [.trip] st s) SWCH.STOP_WHY = 2
    ∧ bit (rd (swNext [.trip] st s) (HDR.CAUSE 0x70)) 1 = true
    ∧ rd (swNext [.trip] st s) SWCH.LATCHES = (rd s SWCH.LATCHES + 1) % 2 ^ SWCH.LATCHES.w)
  ∧ (∀ (l : List SwCause) (st : Nat) (s : State), s.tap = false → (st = 1 ∨ st = 2) → SwCause.vin ∈ l →
    rd (swNext l st s) SWCH.STATE = 0 ∧ rd (swNext l st s) SWCH.STOP_WHY = (if SwCause.halt ∈ l then 5 else 4))
  ∧ (∀ (l : List SwCause) (st : Nat) (s : State), s.tap = false → st = 5 → rd s SWCH.STATE = 5 → rd (swNext l st s) SWCH.STATE = 5)

/-- POWER_REQUEST of the STC and POWER_TRIGGER to a state that the checks of R408 allow begin the transition; QUIESCE_DONE goes on to
the next step; VREG_ENABLE writes VREG_CTL; VREG_ACK acknowledges the request in flight and VREG_ACK_TIMEOUT counts a failure;
PGOOD_LOST counts with no request in flight; RAIL_OUT_OF_WINDOW judges the rails; THERMAL_FORCED_TRIM forces TRIM; CTL_CLK moves
the controllers' clock; HOST_WAKE wakes; WAKE_CLOCK_RESTORE ends a return; WAKE_POP takes the oldest wake. -/
def Obligations.PowerCommandsComplete : Prop :=
  (∀ (t target : Nat) (s m a : State), meetsFrom .stc t s m → opens m .stc 0x78 → firstFail (requestChecks m target) = none → entering m = false →
    a = accepted .stc 0x78 (some PWR.CMD_CODE) m →
    exec (.powerRequest t .stc target) s = .next (acceptRequest (some .stc) 6 target a))
  ∧ (∀ (t arg : Nat) (src : TrigSrc) (s m c : State), meets t s m → c = arrived src 0x78 m → takesTriggers c 0x78 →
    firstFail (requestChecks c arg) = none →
    exec (.powerTrigger t src 1 arg) s = .next (acceptRequest none 5 arg (trigExec 0x78 c)))
  ∧ (∀ (t : Nat) (s m : State), meets t s m → entering m = true → rd m PWR.STEP = 7 → quiesceHeld m = [] → m.pwr.wakeSeen = false →
    m.pwr.target = some 4 → exec (.quiesceDone t) s = .next (sealedCommit m))
  ∧ (∀ (t st : Nat) (s m : State), meets t s m → entering m = true → rd m PWR.STEP = 2 → quiesceHeld m = [] → m.pwr.wakeSeen = false →
    m.pwr.target = some st → (st = 2 ∨ st = 3) →
    exec (.quiesceDone t) s = .next (abortPoint 3 (lowerVoltage st) (clocksLow st (wr PWR.STEP 3 m))))
  ∧ (∀ (t v mode : Nat) (p : Port) (s m a : State), meetsFrom p t s m → opens m p 0x79 → firstFail (vregChecks m v) = none →
    a = setRows (fun _ => true) 0x79 0x040 v (accepted p 0x79 none m) →
    exec (.vregEnable t p v mode) s = .next (if v / 2 ^ 31 % 2 = 0 then a
      else if mode / 32 % 8 = 0 then pmbusSend 0x20 0 a |> wr VREG.V_FAILED 0 |> wr VREG.FAILS_IN_ROW 0 |> wr VREG.MODE_OK 1
        |> wrS VREG.MODE_N (toSigned 5 (mode % 32))
      else pmbusSend 0x20 0 a |> wr VREG.V_FAILED 0 |> wr VREG.FAILS_IN_ROW 0 |> wr VREG.MODE_OK 0 |> wr VREG.V_EN 0 |> raise 0x79 3))
  ∧ (∀ (t mv : Nat) (s m a : State), meets t s m → rd m VREG.V_IN_FLIGHT = 1 → m.pwr.reqAt + rd m VREG.SETTLE_US * 400 ≤ m.time.cycle →
    (rd m VREG.ACK_MODE = 0 ∨ mv ≤ rd m VREG.TARGET_MV + rd m VREG.TOL_MV ∧ rd m VREG.TARGET_MV ≤ mv + rd m VREG.TOL_MV) →
    a = (if rd m VREG.ACK_MODE = 0 then m else wr VREG.READ_MV mv m) →
    exec (.vregAck t mv) s = .next (voltageReached (a |> wr VREG.V_IN_FLIGHT 0 |> wr VREG.ACK_MV (rd m VREG.TARGET_MV)
      |> wr VREG.FAILS_IN_ROW 0 |> inc VREG.ACKS |> raise 0x79 4)))
  ∧ (∀ (t st n : Nat) (s m a : State), meets t s m → rd m VREG.V_IN_FLIGHT = 1 → m.pwr.reqAt + rd m VREG.ACK_TIMEOUT_US * 400 ≤ m.time.cycle →
    n = min 255 (rd m VREG.FAILS_IN_ROW + 1) →
    a = (pmbusSend 0x03 0 (pmbusSend 0x79 0 m) |> wr VREG.V_IN_FLIGHT 0 |> wr VREG.ACK_MV (min (rd m VREG.ACK_MV) (rd m VREG.TARGET_MV)) |> inc VREG.FAILS
      |> wr VREG.FAILS_IN_ROW n |> wr VREG.LAST_STATUS_WORD st) →
    exec (.vregAckTimeout t st) s =
      .next (if max 1 (rd m VREG.RETRY_MAX) ≤ n then raise 0x79 0 (wr VREG.V_FAILED 1 a) else a))
  ∧ (∀ (t : Nat) (s m : State), meets t s m → rd m VREG.V_IN_FLIGHT = 0 →
    exec (.pgoodLost t) s = .next (raise 0x79 2 (inc VREG.PGOOD_LOSTS m)))
  ∧ (∀ (t now : Nat) (s m : State), meets t s m → exec (.railOutOfWindow t now) s = .next (railSample now m))
  ∧ (∀ (t : Nat) (s m : State), meets t s m → 4 ≤ m.pwr.critRun → rd m PWR.STATE = 0 → rd m PWR.TRANSIT = 0 →
    exec (.thermalForcedTrim t) s = .next (followClock 1 (takeState 1 (m |> wr PWR.FORCED 1 |> raise 0x78 5))))
  ∧ (∀ (t : Nat) (p : Port) (s m a : State), meetsFrom p t s m → opens m p 0x78 → m.pwr.clocksDown = false → rd m PWR.STATE < 2 →
    a = accepted p 0x78 (some PWR.CMD_CODE) m →
    exec (.ctlClk t p) s = .next (raise 0x78 8 (wr PWR.CTL_CLK (2 + rd a PWR.STATE) (if rd a PWR.STEP = 15 then wr PWR.STEP 0 a else a))))
  ∧ (∀ (t : Nat) (p : Port) (s m a : State), meetsFrom p t s m → opens m p 0x78 →
    (rd m PWR.STATE = 2 ∨ rd m PWR.STATE = 3 ∨ entering m = true ∧ m.pwr.target ≠ some 4) →
    a = accepted p 0x78 none m → exec (.hostWake t p) s = .next (wake 7 a))
  ∧ (∀ (t : Nat) (s m b c : State), meets t s m → m.pwr.exiting = true → rd m VREG.V_IN_FLIGHT = 0 → needMv m (rd m PWR.PRIOR) ≤ ackMv m →
    b = (if m.pwr.undoing = true ∧ rd (clocksBack m) PWR.STATE = rd m PWR.PRIOR then clocksBack m
      else takeState (rd m PWR.PRIOR) (clocksBack m)) →
    c = wr PWR.STEP 15 (endTransit { b with pwr := { b.pwr with after := none } }) →
    exec (.wakeClockRestore t) s = .next (match b.pwr.after with
      | some n => beginEntry b.pwr.reqBy n c
      | none => c))
  ∧ (∀ (t : Nat) (p : Port) (s m a : State), meetsFrom p t s m → opens m p 0x78 → m.pwr.wakeLog ≠ [] → a = accepted p 0x78 none m →
    exec (.wakePop t p) s = .next (showWake { a with pwr := { a.pwr with wakeLog := a.pwr.wakeLog.drop 1 } }))

/-- WAKE_EDGE of an active edge within the guard counts and wakes; WAKE_STUCK puts a pin's guard into STUCK; RTC_ALARM and
ADDRESS_MATCH wake where they are enabled and match; RAIL_TIMEOUT is kept for the next exit; and none of them needs a die that
answers the fabric. RESET_ASSERT and VAON_POR hold the die in reset; RESET_RELEASE of a held die samples the straps, starts the
LGC's SELFTEST, and loads the repairs; FABRIC_READY of a released die starts the fabric; HIBERNATE_EXIT with a latched wake runs
the power-up and begins the return; a TAP instruction that drives the pins holds the outputs off until Test-Logic-Reset and every other
only takes the instruction register, and TEST_EN latches COND_LOST while it is high. -/
def Obligations.DomeAndResetCommandsComplete : Prop :=
  (∀ (t n : Nat) (level : Bool) (s m a : State), m = advanceTo t s → rd m (PWR.WK_EN n) = 1 → (wakePin m n).level ≠ level →
    level = !decide (rd m (PWR.WK_POL n) = 1) →
    a = modPin n (fun x => { x with edges := rtcNow m :: (wakePin m n).edges.filter fun x => decide (rtcNow m < x + rtcSecond) })
      (inc PWR.WAKE_EDGES (modPin n (fun x => { x with level := level, since := rtcNow m }) m)) →
    (wakePin a n).chatter = false → (wakePin a n).stuck = false → (wakePin a n).edges.length ≤ rd m (PWR.WK_MAX_EDGES n) →
    exec (.wakeEdge t n level) s = .next ((wake (1 + n) a)))
  ∧ (∀ (t n : Nat) (s m : State), m = advanceTo t s → rd m (PWR.WK_EN n) = 1 → (wakePin m n).stuck = false →
    (wakePin m n).level = (!decide (rd m (PWR.WK_POL n) = 1)) → (wakePin m n).since + rd m (PWR.WK_TIMEOUT n) * rtcSecond < rtcNow m →
    exec (.wakeStuck t n) s = .next ((wakeGuard (modPin n (fun x => { x with stuck := true }) m))))
  ∧ (∀ (t : Nat) (s m : State), m = advanceTo t s → rd m PWR.ALARM_EN = 1 → rd m PWR.RTC_ALARM ≤ rtcNow m →
    exec (.rtcAlarm t) s = .next ((wake 3 m)))
  ∧ (∀ (t : Nat) (s m : State), m = advanceTo t s → hibernating m = true → rd m PWR.MATCH_EN = 1 →
    exec (.addressMatch t m.pwr.dome.addr) s = .next ((domeLatch 4 m)))
  ∧ (∀ (t : Nat) (s m : State), m = advanceTo t s → hibernating m = true → m.pwr.dome.latched ≠ [] →
    exec (.railTimeout t) s = .next { m with pwr := { m.pwr with dome := { m.pwr.dome with railLate := true } } })
  ∧ (∀ (t : Nat) (s m : State), m = advanceTo t s → exec (.resetAssert t) s = .next (afterReset .held m)
    ∧ exec (.vaonPor t) s = .next (vaonLost m))
  ∧ (∀ (t up down : Nat) (failed : List Nat) (a b : List (List Nat)) (s m : State), m = advanceTo t s → m.time.stage = .held →
    exec (.resetRelease t up down failed a b) s = .next (engineKat failed (repairLoad a b
      (wr SYS.LGC_STATE 1 (sampleStraps up down (spareReset (afterReset .released m)))))))
  ∧ (∀ (t : Nat) (s m : State), m = advanceTo t s → m.time.stage = .released →
    exec (.fabricReady t) s = .next (testHeld (pmStart (katRecords ({ m with time := { m.time with stage := .running } }
      |> wr SYS.CORE_SRC 1 |> wr SYS.PLL_LOCK 1)))))
  ∧ (∀ (t : Nat) (failed : List Nat) (a b : List (List Nat)) (s m r : State), m = advanceTo t s → hibernating m = true →
    m.pwr.dome.latched ≠ [] →
    r = (testHeld (domeRestore m.pwr.dome (katRecords (engineKat failed (repairLoad a b (spareReset (afterReset .running m)
      |> wr TWIT.STRAPS (rd m TWIT.STRAPS) |> wr TWIT.STRAP_FLOAT (rd m TWIT.STRAP_FLOAT))))))
      |> wr SYS.LGC_STATE 1 |> wr SYS.FAST_GATED 1 |> wr PWR.STATE 4 |> wr PWR.PRIOR 0) →
    exec (.hibernateExit t failed a b) s = .next ((domeReplay m.pwr.dome
      (startReturn { r with pwr := { r.pwr with quiet := true, clocksDown := true } }))))
  ∧ (∀ (t code : Nat) (s m a : State), meets t s m → a = { m with tapIr := code % 32 } →
    (tapHolds code = true → exec (.tapInstruction t code false) s = .next (swCause .tap (wr (LOOP.DRV 1) 0 (wr (LOOP.DRV 0) 0
      (condLost 3 { abortBurst a with tap := true })))))
    ∧ (tapHolds code = false → exec (.tapInstruction t code false) s = .next a)
    ∧ exec (.tapInstruction t code true) s = .next { m with tap := false, tapIr := 1 })
  ∧ (∀ (t : Nat) (s m : State), meets t s m → exec (.testEnAssert ⟨t, true⟩) s = .next (condLost 3 { m with testEn := true })
    ∧ exec (.testEnAssert ⟨t, false⟩) s = .next { m with testEn := false })

/-- In HIBERNATE a source that wakes from it is latched while fewer than eight are, with the RTC count, and counted as lost otherwise,
and changes no register; in DOZE or NAP it is logged and the return begins; during an entry before H5 it is logged, and the
entry's next abort point undoes the entry, counts ABORTS and shows the point. -/
def Obligations.WakesAreKept : Prop :=
  (∀ (src : Nat) (s : State), hibernating s = true → wakesFrom src 4 = true → (wake src s).regs = s.regs
    ∧ (s.pwr.dome.latched.length < 8 → (wake src s).pwr.dome.latched = s.pwr.dome.latched ++ [(src, rtcNow s)])
    ∧ (8 ≤ s.pwr.dome.latched.length → (wake src s).pwr.dome.lost = s.pwr.dome.lost + 1))
  ∧ (∀ (src : Nat) (s : State), (rd s PWR.STATE = 2 ∨ rd s PWR.STATE = 3) → entering s = false → s.pwr.exiting = false →
    wakesFrom src (rd s PWR.STATE) = true → s.pwr.wakeLog.length < 16 →
    (wake src s).pwr.exiting = true ∧ rd (wake src s) PWR.TRANSIT = 1 ∧ rd (wake src s) PWR.CTL_CLK = 0
    ∧ (wake src s).pwr.wakeLog = s.pwr.wakeLog ++ [(src, rtcNow s, s.time.sc)] ∧ rd (wake src s) PWR.STATE = rd s PWR.STATE)
  ∧ (∀ (n : Nat) (go : State → State) (s : State), s.pwr.wakeSeen = true → s.pwr.clocksDown = false → n < 8 →
    rd (abortPoint n go s) PWR.LAST_ABORT = n ∧ rd (abortPoint n go s) PWR.TRANSIT = 0 ∧ rd (abortPoint n go s) PWR.STATE = rd s PWR.STATE
    ∧ rd (abortPoint n go s) PWR.ABORTS = (rd s PWR.ABORTS + 1) % 2 ^ PWR.ABORTS.w ∧ (abortPoint n go s).pwr.quiet = false)

/-- CORRECTED_ERROR and UNCORRECTABLE_ERROR of a row count and make it due; ROW_TEST_DONE, ROW_COPY_DONE and COLUMN_COPY_DONE end the
work on a row or a column; ENGINE_TEST and SLICE_TEST take their result; RPR_TEST, RPR_RETIRE, RPR_COLUMN and CE_CLEAR of the STC
with all checks passed act by their OP, and REPAIR forwards them with the CODE as its answer; REC_POP writes the oldest queued record
to the repair store and removes it; MARGIN_LOW is raised once a run of 4. -/
def Obligations.RepairCommandsComplete : Prop :=
  (∀ (t k i row col : Nat) (c : CellAt) (s m : State), meets t s m → isRow (k, i, row) = true →
    exec (.correctedError t k i row col c) s = .next (correctedError (k, i, row) col c m))
  ∧ (∀ (t k i row col : Nat) (c : CellAt) (s m : State), meets t s m → isRow (k, i, row) = true → k ≠ 5 →
    (ceTable m (k, i, row)).1.n < rd m RPR.CE_ROW_MAX →
    exec (.correctedError t k i row col c) s = .next (inc RPR.CE_TOTAL
      { m with rpr := { m.rpr with ce := (ceTable m (k, i, row)).2 } }))
  ∧ (∀ (t k i row e : Nat) (c : CellAt) (u : CellUse) (s m : State), meets t s m → isRow (k, i, row) = true → 1 < k → k ≠ 5 →
    exec (.uncorrectableError t k i row e c u) s =
      .next (rowDue (k, i, row) .ue c (condLost 2 (raise 0x90 1 (inc RPR.UE_TOTAL m)))))
  ∧ (∀ (t bank row : Nat) (pass : Bool) (d : DueRow) (s m : State), meets t s m →
    (m.rpr.due.find? fun d => decide (d.row = (1, bank, row) ∧ d.stage = .work)) = some d →
    (sweeperRuns m = true ∨ d.why = .test ∨ d.why = .retire) →
    exec (.rowTestDone t bank row pass) s = .next (rprDone (.row d.row) (rowTested d pass m)))
  ∧ (∀ (t k row : Nat) (d : DueRow) (s m : State), meets t s m →
    (m.rpr.due.find? fun d => decide (d.row = (k, 0, row) ∧ k ≠ 1 ∧ d.stage = .work)) = some d → (sweeperRuns m = true ∨ d.why = .retire) →
    exec (.rowCopyDone t k row) s = .next (remapRow d.row m))
  ∧ (∀ (t bank col : Nat) (l : List (Nat × Nat × Nat)) (s m : State), meets t s m → m.rpr.cols = (bank, col, 0) :: l →
    exec (.columnCopyDone t) s =
      .next (rprDone (.column bank col) (takeSpare (2, bank, col) { m with rpr := { m.rpr with cols := l } })))
  ∧ (∀ (t e : Nat) (s m : State), meets t s m → sweeperRuns m = true → engineIdle m e = true →
    exec (.engineTest t e true) s = .next (rprDone (.engine e) (inc RPR.ENG_TESTS m))
    ∧ exec (.engineTest t e false) s = .next (rprDone (.engine e) (engineFails e (inc RPR.ENG_TESTS m))))
  ∧ (∀ (t i : Nat) (s m : State), meets t s m → sweeperRuns m = true → i < Variant.slices m.fuse.variant → rd m (AFE.SLICE_ROLE i) = 3 →
    shadows m i = false → exec (.sliceTest t i true) s = .next (rprDone (.slice i) m)
    ∧ exec (.sliceTest t i false) s = .next (rprDone (.slice i)
      (let b := metrologyRepair i (raise 0x90 10 m); { b with rpr := { b.rpr with slices := b.rpr.slices ++ [(i, true)] } })))
  ∧ (∀ (t op k i x : Nat) (c : CellAt) (q : Instr) (s m a : State), meetsFrom .stc t s m → opens m .stc 0x90 →
    (op = 1 ∧ q = .rprTest t .stc k i x c ∨ op = 2 ∧ q = .rprRetire t .stc k i x c ∨ op = 3 ∧ q = .rprColumn t .stc k i x ∧ c = .free
      ∨ op = 4 ∧ q = .ceClear t .stc ∧ k = 0 ∧ i = 0 ∧ x = 0 ∧ c = .free) →
    firstFail (rprChecks .stc op (k, i, x) m) = none → a = accepted .stc 0x90 (some RPR.CMD_CODE) m →
    exec q s = .next (rprAct op (k, i, x) c a))
  ∧ (∀ (t w : Nat) (c : CellAt) (r : StcReq) (s m b : State), meets t s m → stcRuns m = true →
    (m.stc.waiting.find? fun r => r.win == w) = some r → r.code = 0x08 → 1 ≤ r.data.getD 0 0 → r.data.getD 0 0 ≤ 4 →
    b = rprCmd .stc (r.data.getD 0 0) (r.data.getD 1 0, r.data.getD 2 0, le (slice r.data 4 2)) c m →
    exec (.repairForward t w c) s = .next (stcAnswer w r.tag 0x08 (rd b RPR.CMD_CODE) [] b))
  ∧ (∀ (t w : Nat) (r : StcReq) (s m : State), meets t s m → stcRuns m = true → (m.stc.waiting.find? fun r => r.win == w) = some r →
    r.code = 0x08 → r.data.getD 0 0 = 5 → exec (.repairReport t w) s = .next (stcAnswer w r.tag 0x08 0 (sparesReport m) m))
  ∧ (∀ (t : Nat) (s m a : State), meetsFrom .stc t s m → opens m .stc 0x90 → m.rpr.queue ≠ [] → a = accepted .stc 0x90 none m →
    exec (.recPop t .stc) s = .next (writeRecord a))
  ∧ (∀ (t k : Nat) (s m : State), meets t s m → aget m.rpr.low k 0 = 4 →
    exec (.marginLow t k) s = .next (raise 0x90 8 { m with rpr := { m.rpr with low := aset m.rpr.low k 5 } }))

/-- Freeing a quarantined cell, remapping a row of the packet buffer and losing one keep FREE + USED + QUARANTINED of the CELLS
ledger, and with it its balance; a row that has been tested and freed, remapped or lost is due no longer. -/
def Obligations.RepairsKeepTheCells : Prop :=
  (∀ (r : Nat × Nat × Nat) (s : State), 1 ≤ s.led.cellsQuar → balanced s 0 = true →
    balanced (remapRow r s) 0 = true ∧ balanced (loseRow r s) 0 = true ∧ balanced (cellFreed s) 0 = true)
  ∧ (∀ (r : Nat × Nat × Nat) (s : State), (isDue (remapRow r s) r = false) ∧ (isDue (loseRow r s) r = false))
  ∧ (∀ (d : DueRow) (s : State), d.why = .ce → d.row ∉ s.rpr.once → isDue (rowTested d true s) d.row = false
    ∧ d.row ∈ (rowTested d true s).rpr.once ∧ (rowTested d true s).led.cellsQuar = s.led.cellsQuar - 1
    ∧ (rowTested d true s).led.cellsFree = s.led.cellsFree + 1)

/-- PERST_ASSERT and HOT_RESET reset the host side and its mailbox window, FUNCTION_LEVEL_RESET without the window; PCIE_LINK_DOWN and
D3HOT change the link and the power state; ETH_LINK_UP and ETH_LINK_DOWN of an enabled port change LINK; HOST_TX_FRAME of a
complete frame from the ring in turn enters it at source 18; TWO_WIRE_WRITE and TWO_WIRE_READ to the target's address run unless
its bridge is busy, which is counted; SCL_TIMEOUT abandons; RANGE_RECOVERY ends a guard's CHATTER. -/
def Obligations.HostAndTwoWireCommandsComplete : Prop :=
  (∀ (t : Nat) (rx tx : Bool) (s m : State), meets t s m →
    exec (.perstAssert t rx tx) s = .next (emptyWindow 0 (msixReset (hostReset rx tx m)))
    ∧ exec (.hotReset t rx tx) s = .next (emptyWindow 0 (msixReset (hostReset rx tx m)))
    ∧ exec (.functionLevelReset t rx tx) s = .next (raise 0x80 3 (msixReset (hostReset rx tx m))))
  ∧ (∀ (t sp wd : Nat) (s m : State), meets t s m → sp ≠ 0 →
    exec (.pcieLinkDown t sp wd) s = .next (raise 0x80 2 (wr HOST.LINK_UP 0 m)
      |> wr HOST.LINK_UP 1 |> wr HOST.LINK_SPEED sp |> wr HOST.LINK_WIDTH wd)
    ∧ exec (.pcieLinkDown t 0 wd) s = .next (raise 0x80 2 (wr HOST.LINK_UP 0 m) |> wr HOST.LINK_SPEED 0 |> wr HOST.LINK_WIDTH 0))
  ∧ (∀ (t : Nat) (mask : Bool) (s m : State), meets t s m → exec (.d3hot t true mask) s =
    .next (wr HOST.DSTATE 3 { m with host := { m.host with msixStopped := true, funcMask := mask } }))
  ∧ (∀ (t : Nat) (mask : Bool) (s m a : State), meets t s m →
    a = wr HOST.DSTATE 0 { m with host := { m.host with msixStopped := false, funcMask := mask } } →
    exec (.d3hot t false mask) s = .next (if mask = true then a else
      forEach (m.host.pba.filter fun v => !m.host.vecMasked.contains v).reverse msixSend
        { a with host := { a.host with pba := m.host.pba.filter m.host.vecMasked.contains } }))
  ∧ (∀ (t p : Nat) (s m : State), meets t s m → enabled m (0x81 + p) = true → Variant.pageAbsent m.fuse.variant (0x81 + p) = false →
    rd m (ETH.E_LINK p) ≠ 1 → exec (.ethLinkUp t p) s = .next (m |> wr (ETH.E_LINK p) 1 |> wr (ETH.BLOCK_LOCK p) 1 |> wr (ETH.HI_BER p) 0
      |> wr (ETH.LOCAL_FAULT p) 0 |> wr (ETH.REMOTE_FAULT p) 0 |> raise (0x81 + p) 0))
  ∧ (∀ (t p : Nat) (ber : Bool) (s m : State), meets t s m → enabled m (0x81 + p) = true → Variant.pageAbsent m.fuse.variant (0x81 + p) = false →
    rd m (ETH.E_LINK p) = 1 → exec (.ethLinkDown t p ber) s = .next (m |> wr (ETH.E_LINK p) 0 |> wrB (ETH.BLOCK_LOCK p) ber
      |> wrB (ETH.HI_BER p) ber |> when ber (raise (0x81 + p) 2) |> raise (0x81 + p) 1))
  ∧ (∀ (t r len : Nat) (descs ds : List (List Nat)) (data : List Nat) (s m : State), meets t s m →
    (ringOrder m.host.lastTx).find? (fun r => decide (rd m (HOST.TX_EN r) = 1 ∧ ringHeld m (16 + r) ≠ 0)) = some r → toEop descs = some ds →
    ds.length ≤ ringHeld m (16 + r) → dmaRuns m = true → len = (ds.map fun d => le (slice d 8 2)).foldl (· + ·) 0 → 64 ≤ len → len ≤ 9728 →
    (ds.all fun d => decide (slice d 11 5 = zeros 5)) = true →
    exec (.hostTxFrame t descs data false) s = .next (ingress 18 (fit len data)
      (txComplete (16 + r) 0 len ds.length { m with host := { m.host with lastTx := r } })))
  ∧ (∀ (t page hi lo : Nat) (body : List Nat) (x : Outside) (s m : State), meets t s m → bridgeIsBusy m = false →
    rd m TWIT.TW_PEC = 0 → excluded page = false → hi * 256 + lo < 4096 → (hi * 256 + lo) % 4 = 0 → body.length ≤ 32 →
    exec (.twoWireWrite t (twAddr m) (page :: hi :: lo :: body) x) s =
      .next (inc TWIT.TRANSACTIONS (groupWrites ⟨page, hi * 256 + lo, body, true⟩ x m)))
  ∧ (∀ (t : Nat) (bytes : List Nat) (x : Outside) (s m : State), meets t s m → bridgeIsBusy m = true →
    exec (.twoWireWrite t (twAddr m) bytes x) s = .next (inc TWIT.BUSY_NACKS m))
  ∧ (∀ (t n : Nat) (s m : State), meets t s m → bridgeIsBusy m = false →
    exec (.twoWireRead t (twAddr m) none n) s = .next (inc TWIT.TRANSACTIONS (fetchWords n m)))
  ∧ (∀ (t : Nat) (s m : State), meets t s m → exec (.sclTimeout t) s = .next (raise 0x84 2 (inc TWIT.TW_TIMEOUTS m)))
  ∧ (∀ (t : Nat) (s m : State), meets t s m → m.sw.chatter = true → (warnEdges m).length ≤ rd m SWCH.WARN_MAX_EDGES →
    exec (.rangeRecovery t .pwrWarn) s = .next (warnFollow { m with sw := { m.sw with chatter := false } }))
  ∧ (∀ (t : Nat) (s m : State), meets t s m → exec (.rangeRecovery t .modSd) s = .next (sdRecover m)
    ∧ exec (.rangeRecovery t .blank) s = .next (blankRecover m) ∧ exec (.rangeRecovery t .sealSw) s = .next (sealRecover m))
  ∧ (∀ (t n : Nat) (s m : State), m = advanceTo t s → n < 2 →
    exec (.rangeRecovery t (.wake n)) s = .next ((wakeRecover n m)))

/-- STC_BOOT selects the image once the headers have been read; STC_KICK of the STC completes the boot or feeds the watchdog;
STC_WDOG_EXPIRE, BOOT_TIMEOUT and STC_RESTART of PCIe restart it; FL_GO and FL_DONE run a flash command, TWC_GO and TWC_DONE a
two-wire transaction, MODULE_POLL a poll; REQ_POST of a window's own port posts a request, OUT_POST and STC_RSP_TIMEOUT answer it,
RSP_ACK frees the window; EVT_POST, EVT_POP, STC_EVENT and OEV_POP move the queues; the commands of the STC's command set are
carried out and answered. -/
def Obligations.SiteControllerCommandsComplete : Prop :=
  (∀ (t : Nat) (a b : List Nat) (x y : Bool) (s m : State), meets t s m → exec (.stcBoot t a b x y) s = .next (stcBoot a b x y m))
  ∧ (∀ (t : Nat) (a b : List Nat) (s m : State), meets t s m → rd m SYS.STC_STATE = 1 → m.stc.loading = true → 2 ≤ m.stc.age →
    exec (.stcBoot t a b false false) s = .next (raise 0x86 1 (wr SYS.STC_STATE 4
      (let c := (m |> wr QSPI.A_VALID 0 |> wr QSPI.B_VALID 0 |> wr QSPI.A_GEN 0 |> wr QSPI.B_GEN 0)
       { c with stc := { c.stc with loading := false, prefer := none } }))))
  ∧ (∀ (t : Nat) (s m a : State), meetsFrom .stc t s m → opens m .stc 0x86 → a = accepted .stc 0x86 none m →
    exec (.stcKick t .stc) s = .next (kick a))
  ∧ (∀ (t : Nat) (s m : State), meets t s m → stcRuns m = true → rd m QSPI.STC_WDOG ≤ m.stc.kickAge →
    exec (.stcWdogExpire t) s = .next (stcRestart none m))
  ∧ (∀ (t k : Nat) (s m : State), meets t s m → rd m SYS.STC_STATE = 1 → m.stc.loading = false → rd m QSPI.BOOT_TIMEOUT ≤ m.stc.age →
    k = rd m SYS.STC_IMAGE → exec (.bootTimeout t) s = .next (stcRestart none (raise 0x86 0 (setFails k (slotFails m k + 1) m))))
  ∧ (∀ (t slot : Nat) (s m : State), meetsFrom .pcie t s m → opens m .pcie 0x86 →
    exec (.stcRestart t .pcie slot) s = .next (stcRestart (some (slot % 2)) (accepted .pcie 0x86 none m)))
  ∧ (∀ (t : Nat) (p : Port) (s m : State), meetsFrom p t s m → opens m p 0x86 → flashBusy m = false → flashDenied m p = false →
    exec (.flGo t p) s = .next (wr QSPI.FL_BUSY 1 (accepted p 0x86 (some QSPI.FL_CODE) m)))
  ∧ (∀ (t : Nat) (data : List Nat) (s m : State), meets t s m → rd m QSPI.FL_BUSY ≠ 0 → rd m QSPI.FL_DIR = 0 →
    exec (.flDone t data) s = .next (raise 0x86 2 (wr QSPI.FL_BUSY 0 (forEach (List.range 8)
      (fun k => wr (QSPI.FL_DATA k) (le (slice (fit 32 (data.take (rd m QSPI.FL_LEN))) (4 * k) 4))) m))))
  ∧ (∀ (t : Nat) (data out : List Nat) (s m : State), meets t s m → rd m QSPI.FL_BUSY ≠ 0 → rd m QSPI.FL_DIR ≠ 0 →
    out = ((List.range 8).flatMap fun k => toLe 4 (rd m (QSPI.FL_DATA k))).take (rd m QSPI.FL_LEN) →
    exec (.flDone t data) s = .next (raise 0x86 2 (wr QSPI.FL_BUSY 0
      { m with stc := { m.stc with flash := m.stc.flash ++ [(rd m QSPI.FL_ADDR, rd m QSPI.FL_OPCODE :: out)] } })))
  ∧ (∀ (t : Nat) (s m : State), meetsFrom .stc t s m → opens m .stc 0x85 → rd m TWIC.TWC_BUSY ≠ 1 → twcRange m = false →
    exec (.twcGo t .stc) s = .next (wr TWIC.TWC_BUSY 1 (accepted .stc 0x85 none m)))
  ∧ (∀ (t r n : Nat) (data b : List Nat) (s m a c : State), meets t s m → rd m TWIC.TWC_BUSY ≠ 0 → n = rd m TWIC.TWC_RLEN →
    b = fit 8 (data.take n) → a = raise 0x85 1 (wr TWIC.TWC_RESULT r (wr TWIC.TWC_BUSY 0 m)) →
    c = when (r == 4) (raise 0x85 2) (if r = 0 ∧ 0 < n then a |> wr (TWIC.TWC_RX 0) (le (slice b 0 4))
      |> wr (TWIC.TWC_RX 1) (le (slice b 4 4)) else a) →
    (m.stc.modWait = none → exec (.twcDone t r data) s = .next c)
    ∧ (∀ w tag code : Nat, m.stc.modWait = some (w, tag, code) → exec (.twcDone t r data) s = .next (stcAnswer w tag code r
      (if code = 0x04 ∧ r = 0 then data.take n else []) { c with stc := { c.stc with modWait := none } })))
  ∧ (∀ (t : Nat) (data b : List Nat) (s m : State), meets t s m → rd m TWIC.POLL_EN ≠ 0 → m.stc.pollTick + rd m TWIC.POLL_TICKS ≤ m.time.ticks →
    b = fit 8 (data.take (rd m TWIC.POLL_LEN)) →
    exec (.modulePoll t 0 data) s = .next ({ m with stc := { m.stc with pollTick := m.time.ticks, pollFails := 0 } }
      |> wr (TWIC.MOD_STATUS 0) (le (slice b 0 4)) |> wr (TWIC.MOD_STATUS 1) (le (slice b 4 4)) |> wr TWIC.MOD_STALE 0 |> wr TWIC.MOD_AGE 0))
  ∧ (∀ (t r : Nat) (data : List Nat) (s m a : State), meets t s m → rd m TWIC.POLL_EN ≠ 0 → m.stc.pollTick + rd m TWIC.POLL_TICKS ≤ m.time.ticks →
    r ≠ 0 → r ≠ 4 → a = { m with stc := { m.stc with pollTick := m.time.ticks, pollFails := m.stc.pollFails + 1 } } →
    exec (.modulePoll t r data) s = .next (if max 1 (rd m TWIC.POLL_FILTER) ≤ m.stc.pollFails + 1 ∧ rd m TWIC.MOD_STALE = 0
      then raise 0x85 0 (wr TWIC.MOD_STALE 1 a) else a))
  ∧ (∀ (t w : Nat) (p : Port) (s m a : State), meetsFrom p t s m → opens m p 0xF0 → w = windowOf p → rd m (MBOX.RSP_OUT w) ≠ 1 → reqRange m w = false →
    (rd m (MBOX.REQ_DEST w) = 0 → w ≠ 1 ∧ rd m SYS.STC_STATE = 2) → a = wr (MBOX.RSP_OUT w) 1 (accepted p 0xF0 none m) →
    exec (.reqPost t p w) s = .next (if rd a (MBOX.REQ_DEST w) = 1 then
      lgcPost { win := w, tag := rd a (MBOX.REQ_TAG w), code := rd a (MBOX.REQ_CODE w), data := reqBytes a w } a else toInbox w a))
  ∧ (∀ (t w : Nat) (p : Port) (s m : State), meetsFrom p t s m → opens m p 0xF0 → w = windowOf p →
    exec (.rspAck t p w) s = .next (accepted p 0xF0 none m |> wr (MBOX.RSP_VALID w) 0 |> wr (MBOX.RSP_OUT w) 0))
  ∧ (∀ (t w : Nat) (s m a : State), meetsFrom .stc t s m → opens m .stc 0xF0 → w = rd m MBOX.OUT_WINDOW → stcWaits m w = true →
    a = accepted .stc 0xF0 none m →
    exec (.outPost t .stc) s = .next (mboxAnswer w (rd a MBOX.OUT_STATUS) (rd a MBOX.OUT_TAG) (rd a MBOX.OUT_CODE)
      (((List.range 16).flatMap fun k => toLe 4 (rd a (MBOX.OUT_DATA k))).take (rd a MBOX.OUT_LEN))
      { a with stc := { a.stc with waiting := a.stc.waiting.filter fun r => r.win != w } }))
  ∧ (∀ (t w : Nat) (r : StcReq) (s m : State), meets t s m → (m.stc.waiting.find? fun r => r.win == w) = some r →
    r.tick + rd m MBOX.STC_RSP_TIMEOUT ≤ m.time.ticks →
    exec (.stcRspTimeout t w) s = .next (stcTimeoutAnswer r
      { m with stc := { m.stc with waiting := m.stc.waiting.filter fun x => x.win != w } }))
  ∧ (∀ (t v : Nat) (s m a : State), meetsFrom .stc t s m → opens m .stc 0xF0 → m.stc.events.length < 16 → a = accepted .stc 0xF0 none m →
    exec (.evtPost t .stc v) s = .next (showEvents (wr (MBOX.EVT_POST_DATA 1) v { a with stc := { a.stc with
      events := a.stc.events ++ [(rd a MBOX.EVT_POST_CODE, rd a (MBOX.EVT_POST_DATA 0), v % 2 ^ 32)] } })))
  ∧ (∀ (t : Nat) (p : Port) (s m a : State), meetsFrom p t s m → opens m p 0xF0 → m.stc.events ≠ [] → a = accepted p 0xF0 none m →
    exec (.evtPop t p) s = .next (showEvents { a with stc := { a.stc with events := a.stc.events.drop 1 } }))
  ∧ (∀ (t occ arg : Nat) (src : TrigSrc) (s m c : State), meets t s m → c = arrived src 0xF0 m → takesTriggers c 0xF0 →
    c.stc.oevs.length < 8 → rd c SYS.STC_STATE = 2 → exec (.stcEvent t src occ 1 arg) s =
      .next (showOevs (trigExec 0xF0 { c with stc := { c.stc with oevs := c.stc.oevs ++ [(arg, occ)] } })))
  ∧ (∀ (t : Nat) (s m a : State), meetsFrom .stc t s m → opens m .stc 0xF0 → m.stc.oevs ≠ [] → a = accepted .stc 0xF0 none m →
    exec (.oevPop t .stc) s = .next (showOevs { a with stc := { a.stc with oevs := a.stc.oevs.drop 1 } }))
  ∧ (∀ (t w : Nat) (r : StcReq) (s m : State), meets t s m → stcRuns m = true → (m.stc.waiting.find? fun r => r.win == w) = some r →
    (r.code = 0x01 → exec (.getInfo t w) s = .next (stcAnswer w r.tag 0x01 0 (getInfo m) m))
    ∧ (r.code = 0x02 → exec (.power t w) s =
      .next (stcAnswer w r.tag 0x02 (stcPower (r.data.getD 0 0) m).1 [] (stcPower (r.data.getD 0 0) m).2))
    ∧ (r.code = 0x03 → exec (.policySet t w) s = .next (stcAnswer w r.tag 0x03 0 []
      { m with stc := { m.stc with autoTrim := bit (r.data.getD 0 0) 0, lineHold := bit (r.data.getD 0 0) 1 } }))
    ∧ (∀ u : State, r.code = 0x04 → 1 ≤ r.data.getD 2 0 → r.data.getD 2 0 ≤ 7 → rd m TWIC.TWC_BUSY ≠ 1 →
      u = twcStart (r.data.getD 0 0) [r.data.getD 1 0] (r.data.getD 2 0) m → exec (.moduleRead t w) s = .next (if rd u TWIC.TWC_BUSY = 0
        then stcAnswer w r.tag 0x04 (rd u (HDR.REF_CODE 0x85)) [] u
        else { u with stc := { u.stc with modWait := some (r.win, r.tag, r.code) } }))
    ∧ (∀ u : State, r.code = 0x05 → 1 ≤ r.data.getD 2 0 → r.data.getD 2 0 ≤ 7 → rd m TWIC.TWC_BUSY ≠ 1 →
      u = twcStart (r.data.getD 0 0) (r.data.getD 1 0 :: fit (r.data.getD 2 0) (r.data.drop 3)) 0 m →
      exec (.moduleWrite t w) s = .next (if rd u TWIC.TWC_BUSY = 0 then stcAnswer w r.tag 0x05 (rd u (HDR.REF_CODE 0x85)) [] u
        else { u with stc := { u.stc with modWait := some (r.win, r.tag, r.code) } }))
    ∧ (r.code = 0x06 → r.data.getD 0 0 ≤ 2 → exec (.pmReport t w) s =
      .next (stcAnswer w r.tag 0x06 (stcReport m).1 [] (stcReport m).2))
    ∧ (r.code = 0x07 → exec (.oamSend t w) s = .next (stcAnswer w r.tag 0x07 (stcSend r.data m).1 [] (stcSend r.data m).2))
    ∧ (r.code = 0x09 → exec (.imageBegin t w) s = .next (stcAnswer w r.tag 0x09 (imageBegin r.data m).1 [] (imageBegin r.data m).2))
    ∧ (r.code = 0x0A → exec (.imageData t w) s = .next (stcAnswer w r.tag 0x0A (imageData r.data m).1 [] (imageData r.data m).2))
    ∧ (r.code = 0x0B → exec (.imageCommit t w) s = .next (stcAnswer w r.tag 0x0B (imageCommit m).1 [] (imageCommit m).2))
    ∧ (r.code = 0x0C → r.data.getD 0 0 = 1 → lockedOut m .stc 0x0D = false → exec (.activationEnable t w) s = .next (stcAnswer w r.tag 0x0C 0 []
      (if enabled m 0x0D = true then m else actvEnable true (wr (HDR.ENABLE 0x0D) 1 (renewLease .stc 0x0D m)))))
    ∧ (r.code = 0x0C → r.data.getD 0 0 = 2 → lockedOut m .stc 0x0D = false → exec (.activationDisable t w) s = .next (stcAnswer w r.tag 0x0C 0 []
      (if enabled m 0x0D = true then actvEnable false (wr (HDR.ENABLE 0x0D) 0 (renewLease .stc 0x0D m)) else m)))
    ∧ (r.code = 0x0C → r.data.getD 0 0 = 3 → exec (.activationRejoin t w) s =
      .next (stcAnswer w r.tag 0x0C (rd (rejoinCmd .stc m) ACTV.CMD_CODE) [] (rejoinCmd .stc m)))
    ∧ (r.code = 0x0D → r.data.getD 0 0 ≤ 1 → exec (.recordForward t w) s = .next (stcAnswer w r.tag 0x0D 0 []
      { m with stc := { m.stc with forward := decide (r.data.getD 0 0 = 1) } })))
end

