-- ==== Sys2Proof/Laws/Regs.lean ====
section
/-! SUPPORT. The register file: a write is read back cut to its width and leaves every other field, and it keeps the file in its canonical
form. -/
namespace Sys2Proof.Machine

/-- The canonical form of a register file: keys strictly rising, no entry at its reset value. -/
def Regs.wf (l : List (Fld × Nat)) : Prop :=
  l.Pairwise (fun a b => a.1.key < b.1.key) ∧ ∀ e ∈ l, e.2 ≠ e.1.reset ∧ e.2 < 2 ^ e.1.w

/-- A dropped field reads its reset value. -/
theorem Regs.get_drop_same (l : List (Fld × Nat)) (f : Fld) : Regs.get (Regs.drop l f) f = f.reset := by
  induction l with
  | nil => rfl
  | cons a r ih =>
    obtain ⟨g, v⟩ := a
    by_cases h : g.key = f.key
    · simpa [Regs.drop, h] using ih
    · simpa [Regs.drop, h, Regs.get] using ih

/-- Dropping a field leaves every other one. -/
theorem Regs.get_drop_ne (l : List (Fld × Nat)) {f g : Fld} (h : g.key ≠ f.key) : Regs.get (Regs.drop l f) g = Regs.get l g := by
  induction l with
  | nil => rfl
  | cons a r ih =>
    obtain ⟨x, v⟩ := a
    by_cases hx : x.key = f.key
    · have : ¬ x.key = g.key := fun e => h (e.symm.trans hx)
      simpa [Regs.drop, hx, Regs.get, this, h.symm] using ih
    · by_cases hg : x.key = g.key
      · simp [Regs.drop, Regs.get, hg, h]
      · simpa [Regs.drop, hx, Regs.get, hg] using ih

/-- An inserted field reads the inserted value. -/
theorem Regs.get_ins_same (l : List (Fld × Nat)) (f : Fld) (v : Nat) : Regs.get (Regs.ins l f v) f = v := by
  induction l with
  | nil => simp [Regs.ins, Regs.get]
  | cons a r ih =>
    obtain ⟨g, u⟩ := a
    by_cases h : f.key ≤ g.key
    · simp [Regs.ins, h, Regs.get]
    · have : ¬ g.key = f.key := by omega
      simpa [Regs.ins, h, Regs.get, this] using ih

/-- Inserting a field leaves every other one. -/
theorem Regs.get_ins_ne (l : List (Fld × Nat)) {f g : Fld} (v : Nat) (h : g.key ≠ f.key) :
    Regs.get (Regs.ins l f v) g = Regs.get l g := by
  induction l with
  | nil => simp [Regs.ins, Regs.get, h.symm]
  | cons a r ih =>
    obtain ⟨x, u⟩ := a
    by_cases hx : f.key ≤ x.key
    · simp [Regs.ins, hx, Regs.get, h.symm]
    · by_cases hg : x.key = g.key
      · rw [Regs.ins, if_neg hx, Regs.get, if_pos hg, Regs.get, if_pos hg]
      · simpa [Regs.ins, hx, Regs.get, hg] using ih

/-- A written field reads the written value, cut to its width. -/
theorem rd_wr_same (f : Fld) (v : Nat) (s : State) : rd (wr f v s) f = v % 2 ^ f.w := by
  unfold rd wr Regs.set
  split
  · next h => simp [Regs.get_drop_same, h]
  · simp [Regs.get_ins_same]

/-- A write leaves every field at another place. -/
theorem rd_wr_ne {f g : Fld} (v : Nat) (s : State) (h : g.key ≠ f.key) : rd (wr f v s) g = rd s g := by
  unfold rd wr Regs.set
  split
  · simp [Regs.get_drop_ne _ h]
  · simp [Regs.get_ins_ne _ _ h, Regs.get_drop_ne _ h]

/-- Every entry of a file with one more field is that field or an old one. -/
theorem Regs.mem_ins {l : List (Fld × Nat)} {f : Fld} {v : Nat} {e : Fld × Nat} (h : e ∈ Regs.ins l f v) : e = (f, v) ∨ e ∈ l := by
  induction l with
  | nil => simpa [Regs.ins] using h
  | cons a r ih =>
    obtain ⟨g, u⟩ := a
    by_cases hk : f.key ≤ g.key
    · simpa [Regs.ins, hk] using h
    · simp only [Regs.ins, hk, if_false, List.mem_cons] at h ⊢
      rcases h with h | h
      · exact .inr (.inl h)
      · exact (ih h).imp id .inr

/-- Inserting a field whose place is empty keeps the keys rising. -/
theorem Regs.ins_rising {l : List (Fld × Nat)} {f : Fld} {v : Nat} (hl : l.Pairwise (fun a b => a.1.key < b.1.key))
    (hn : ∀ e ∈ l, e.1.key ≠ f.key) : (Regs.ins l f v).Pairwise (fun a b => a.1.key < b.1.key) := by
  induction l with
  | nil => simp [Regs.ins]
  | cons a r ih =>
    obtain ⟨g, u⟩ := a
    rw [List.pairwise_cons] at hl
    have hg : g.key ≠ f.key := hn (g, u) (List.mem_cons_self ..)
    by_cases hk : f.key ≤ g.key
    · simp only [Regs.ins, hk, if_true, List.pairwise_cons]
      refine ⟨?_, hl.1, hl.2⟩
      intro e he
      rcases List.mem_cons.1 he with rfl | he
      · exact Nat.lt_of_le_of_ne hk (Ne.symm hg)
      · exact Nat.lt_of_le_of_lt hk (hl.1 e he)
    · simp only [Regs.ins, hk, if_false, List.pairwise_cons]
      refine ⟨?_, ih hl.2 fun e he => hn e (List.mem_cons_of_mem _ he)⟩
      intro e he
      rcases Regs.mem_ins he with rfl | he
      · exact Nat.lt_of_not_le hk
      · exact hl.1 e he

/-- A write keeps the canonical form of the register file. -/
theorem Regs.set_wf {l : List (Fld × Nat)} (f : Fld) (v : Nat) (h : Regs.wf l) : Regs.wf (Regs.set l f v) := by
  have hd : Regs.wf (Regs.drop l f) :=
    ⟨h.1.filter _, fun e he => h.2 e ((List.mem_filter.1 he).1)⟩
  unfold Regs.set
  split
  · exact hd
  · next hne =>
    refine ⟨Regs.ins_rising hd.1 ?_, ?_⟩
    · intro e he
      simpa [Regs.drop] using (List.mem_filter.1 he).2
    · intro e he
      rcases Regs.mem_ins he with rfl | he
      · exact ⟨hne, Nat.mod_lt _ (Nat.two_pow_pos _)⟩
      · exact hd.2 e he

/-- A write keeps the canonical form. -/
theorem wr_wf {s : State} (f : Fld) (v : Nat) (h : Regs.wf s.regs) : Regs.wf (wr f v s).regs := Regs.set_wf f v h

end Sys2Proof.Machine
end

