-- ==== Sys2Proof/Laws/State.lean ====
section
/-! SUPPORT. What the plain updates of the register file leave: one lemma per component of State and update, so that no later proof unfolds
a record update. -/
namespace Sys2Proof.Machine

@[simp] theorem wr_time (f : Fld) (v : Nat) (s : State) : (wr f v s).time = s.time := rfl
@[simp] theorem wr_fuse (f : Fld) (v : Nat) (s : State) : (wr f v s).fuse = s.fuse := rfl
@[simp] theorem wr_fab (f : Fld) (v : Nat) (s : State) : (wr f v s).fab = s.fab := rfl
@[simp] theorem wr_attn (f : Fld) (v : Nat) (s : State) : (wr f v s).attn = s.attn := rfl
@[simp] theorem wr_sidr (f : Fld) (v : Nat) (s : State) : (wr f v s).sidr = s.sidr := rfl
@[simp] theorem wr_lane (f : Fld) (v : Nat) (s : State) : (wr f v s).lane = s.lane := rfl
@[simp] theorem wr_line (f : Fld) (v : Nat) (s : State) : (wr f v s).line = s.line := rfl
@[simp] theorem wr_pmon (f : Fld) (v : Nat) (s : State) : (wr f v s).pmon = s.pmon := rfl
@[simp] theorem wr_burst (f : Fld) (v : Nat) (s : State) : (wr f v s).burst = s.burst := rfl
@[simp] theorem wr_actv (f : Fld) (v : Nat) (s : State) : (wr f v s).actv = s.actv := rfl
@[simp] theorem wr_tm (f : Fld) (v : Nat) (s : State) : (wr f v s).tm = s.tm := rfl
@[simp] theorem wr_deck (f : Fld) (v : Nat) (s : State) : (wr f v s).deck = s.deck := rfl
@[simp] theorem wr_afe (f : Fld) (v : Nat) (s : State) : (wr f v s).afe = s.afe := rfl
@[simp] theorem wr_wgh (f : Fld) (v : Nat) (s : State) : (wr f v s).wgh = s.wgh := rfl
@[simp] theorem wr_usx (f : Fld) (v : Nat) (s : State) : (wr f v s).usx = s.usx := rfl
@[simp] theorem wr_leg (f : Fld) (v : Nat) (s : State) : (wr f v s).leg = s.leg := rfl
@[simp] theorem wr_bill (f : Fld) (v : Nat) (s : State) : (wr f v s).bill = s.bill := rfl
@[simp] theorem wr_sw (f : Fld) (v : Nat) (s : State) : (wr f v s).sw = s.sw := rfl
@[simp] theorem wr_pwr (f : Fld) (v : Nat) (s : State) : (wr f v s).pwr = s.pwr := rfl
@[simp] theorem wr_stc (f : Fld) (v : Nat) (s : State) : (wr f v s).stc = s.stc := rfl
@[simp] theorem wr_rpr (f : Fld) (v : Nat) (s : State) : (wr f v s).rpr = s.rpr := rfl
@[simp] theorem wr_loops (f : Fld) (v : Nat) (s : State) : (wr f v s).loops = s.loops := rfl
@[simp] theorem wr_tap (f : Fld) (v : Nat) (s : State) : (wr f v s).tap = s.tap := rfl
@[simp] theorem wr_tapIr (f : Fld) (v : Nat) (s : State) : (wr f v s).tapIr = s.tapIr := rfl
@[simp] theorem wr_testEn (f : Fld) (v : Nat) (s : State) : (wr f v s).testEn = s.testEn := rfl
@[simp] theorem wr_orry (f : Fld) (v : Nat) (s : State) : (wr f v s).orry = s.orry := rfl
@[simp] theorem wr_led (f : Fld) (v : Nat) (s : State) : (wr f v s).led = s.led := rfl
@[simp] theorem wr_host (f : Fld) (v : Nat) (s : State) : (wr f v s).host = s.host := rfl
@[simp] theorem wr_pending (f : Fld) (v : Nat) (s : State) : (wr f v s).pending = s.pending := rfl

@[simp] theorem wrS_time (f : Fld) (v : Int) (s : State) : (wrS f v s).time = s.time := rfl
@[simp] theorem wrS_fuse (f : Fld) (v : Int) (s : State) : (wrS f v s).fuse = s.fuse := rfl
@[simp] theorem wrS_fab (f : Fld) (v : Int) (s : State) : (wrS f v s).fab = s.fab := rfl
@[simp] theorem wrS_attn (f : Fld) (v : Int) (s : State) : (wrS f v s).attn = s.attn := rfl
@[simp] theorem wrS_sidr (f : Fld) (v : Int) (s : State) : (wrS f v s).sidr = s.sidr := rfl
@[simp] theorem wrS_lane (f : Fld) (v : Int) (s : State) : (wrS f v s).lane = s.lane := rfl
@[simp] theorem wrS_line (f : Fld) (v : Int) (s : State) : (wrS f v s).line = s.line := rfl
@[simp] theorem wrS_pmon (f : Fld) (v : Int) (s : State) : (wrS f v s).pmon = s.pmon := rfl
@[simp] theorem wrS_burst (f : Fld) (v : Int) (s : State) : (wrS f v s).burst = s.burst := rfl
@[simp] theorem wrS_actv (f : Fld) (v : Int) (s : State) : (wrS f v s).actv = s.actv := rfl
@[simp] theorem wrS_tm (f : Fld) (v : Int) (s : State) : (wrS f v s).tm = s.tm := rfl
@[simp] theorem wrS_deck (f : Fld) (v : Int) (s : State) : (wrS f v s).deck = s.deck := rfl
@[simp] theorem wrS_afe (f : Fld) (v : Int) (s : State) : (wrS f v s).afe = s.afe := rfl
@[simp] theorem wrS_wgh (f : Fld) (v : Int) (s : State) : (wrS f v s).wgh = s.wgh := rfl
@[simp] theorem wrS_usx (f : Fld) (v : Int) (s : State) : (wrS f v s).usx = s.usx := rfl
@[simp] theorem wrS_leg (f : Fld) (v : Int) (s : State) : (wrS f v s).leg = s.leg := rfl
@[simp] theorem wrS_bill (f : Fld) (v : Int) (s : State) : (wrS f v s).bill = s.bill := rfl
@[simp] theorem wrS_sw (f : Fld) (v : Int) (s : State) : (wrS f v s).sw = s.sw := rfl
@[simp] theorem wrS_pwr (f : Fld) (v : Int) (s : State) : (wrS f v s).pwr = s.pwr := rfl
@[simp] theorem wrS_stc (f : Fld) (v : Int) (s : State) : (wrS f v s).stc = s.stc := rfl
@[simp] theorem wrS_rpr (f : Fld) (v : Int) (s : State) : (wrS f v s).rpr = s.rpr := rfl
@[simp] theorem wrS_loops (f : Fld) (v : Int) (s : State) : (wrS f v s).loops = s.loops := rfl
@[simp] theorem wrS_tap (f : Fld) (v : Int) (s : State) : (wrS f v s).tap = s.tap := rfl
@[simp] theorem wrS_tapIr (f : Fld) (v : Int) (s : State) : (wrS f v s).tapIr = s.tapIr := rfl
@[simp] theorem wrS_testEn (f : Fld) (v : Int) (s : State) : (wrS f v s).testEn = s.testEn := rfl
@[simp] theorem wrS_orry (f : Fld) (v : Int) (s : State) : (wrS f v s).orry = s.orry := rfl
@[simp] theorem wrS_led (f : Fld) (v : Int) (s : State) : (wrS f v s).led = s.led := rfl
@[simp] theorem wrS_host (f : Fld) (v : Int) (s : State) : (wrS f v s).host = s.host := rfl
@[simp] theorem wrS_pending (f : Fld) (v : Int) (s : State) : (wrS f v s).pending = s.pending := rfl

@[simp] theorem wrB_time (f : Fld) (b : Bool) (s : State) : (wrB f b s).time = s.time := rfl
@[simp] theorem wrB_fuse (f : Fld) (b : Bool) (s : State) : (wrB f b s).fuse = s.fuse := rfl
@[simp] theorem wrB_fab (f : Fld) (b : Bool) (s : State) : (wrB f b s).fab = s.fab := rfl
@[simp] theorem wrB_attn (f : Fld) (b : Bool) (s : State) : (wrB f b s).attn = s.attn := rfl
@[simp] theorem wrB_sidr (f : Fld) (b : Bool) (s : State) : (wrB f b s).sidr = s.sidr := rfl
@[simp] theorem wrB_lane (f : Fld) (b : Bool) (s : State) : (wrB f b s).lane = s.lane := rfl
@[simp] theorem wrB_line (f : Fld) (b : Bool) (s : State) : (wrB f b s).line = s.line := rfl
@[simp] theorem wrB_pmon (f : Fld) (b : Bool) (s : State) : (wrB f b s).pmon = s.pmon := rfl
@[simp] theorem wrB_burst (f : Fld) (b : Bool) (s : State) : (wrB f b s).burst = s.burst := rfl
@[simp] theorem wrB_actv (f : Fld) (b : Bool) (s : State) : (wrB f b s).actv = s.actv := rfl
@[simp] theorem wrB_tm (f : Fld) (b : Bool) (s : State) : (wrB f b s).tm = s.tm := rfl
@[simp] theorem wrB_deck (f : Fld) (b : Bool) (s : State) : (wrB f b s).deck = s.deck := rfl
@[simp] theorem wrB_afe (f : Fld) (b : Bool) (s : State) : (wrB f b s).afe = s.afe := rfl
@[simp] theorem wrB_wgh (f : Fld) (b : Bool) (s : State) : (wrB f b s).wgh = s.wgh := rfl
@[simp] theorem wrB_usx (f : Fld) (b : Bool) (s : State) : (wrB f b s).usx = s.usx := rfl
@[simp] theorem wrB_leg (f : Fld) (b : Bool) (s : State) : (wrB f b s).leg = s.leg := rfl
@[simp] theorem wrB_bill (f : Fld) (b : Bool) (s : State) : (wrB f b s).bill = s.bill := rfl
@[simp] theorem wrB_sw (f : Fld) (b : Bool) (s : State) : (wrB f b s).sw = s.sw := rfl
@[simp] theorem wrB_pwr (f : Fld) (b : Bool) (s : State) : (wrB f b s).pwr = s.pwr := rfl
@[simp] theorem wrB_stc (f : Fld) (b : Bool) (s : State) : (wrB f b s).stc = s.stc := rfl
@[simp] theorem wrB_rpr (f : Fld) (b : Bool) (s : State) : (wrB f b s).rpr = s.rpr := rfl
@[simp] theorem wrB_loops (f : Fld) (b : Bool) (s : State) : (wrB f b s).loops = s.loops := rfl
@[simp] theorem wrB_tap (f : Fld) (b : Bool) (s : State) : (wrB f b s).tap = s.tap := rfl
@[simp] theorem wrB_tapIr (f : Fld) (b : Bool) (s : State) : (wrB f b s).tapIr = s.tapIr := rfl
@[simp] theorem wrB_testEn (f : Fld) (b : Bool) (s : State) : (wrB f b s).testEn = s.testEn := rfl
@[simp] theorem wrB_orry (f : Fld) (b : Bool) (s : State) : (wrB f b s).orry = s.orry := rfl
@[simp] theorem wrB_led (f : Fld) (b : Bool) (s : State) : (wrB f b s).led = s.led := rfl
@[simp] theorem wrB_host (f : Fld) (b : Bool) (s : State) : (wrB f b s).host = s.host := rfl
@[simp] theorem wrB_pending (f : Fld) (b : Bool) (s : State) : (wrB f b s).pending = s.pending := rfl

@[simp] theorem addTo_time (f : Fld) (n : Nat) (s : State) : (addTo f n s).time = s.time := rfl
@[simp] theorem addTo_fuse (f : Fld) (n : Nat) (s : State) : (addTo f n s).fuse = s.fuse := rfl
@[simp] theorem addTo_fab (f : Fld) (n : Nat) (s : State) : (addTo f n s).fab = s.fab := rfl
@[simp] theorem addTo_attn (f : Fld) (n : Nat) (s : State) : (addTo f n s).attn = s.attn := rfl
@[simp] theorem addTo_sidr (f : Fld) (n : Nat) (s : State) : (addTo f n s).sidr = s.sidr := rfl
@[simp] theorem addTo_lane (f : Fld) (n : Nat) (s : State) : (addTo f n s).lane = s.lane := rfl
@[simp] theorem addTo_line (f : Fld) (n : Nat) (s : State) : (addTo f n s).line = s.line := rfl
@[simp] theorem addTo_pmon (f : Fld) (n : Nat) (s : State) : (addTo f n s).pmon = s.pmon := rfl
@[simp] theorem addTo_burst (f : Fld) (n : Nat) (s : State) : (addTo f n s).burst = s.burst := rfl
@[simp] theorem addTo_actv (f : Fld) (n : Nat) (s : State) : (addTo f n s).actv = s.actv := rfl
@[simp] theorem addTo_tm (f : Fld) (n : Nat) (s : State) : (addTo f n s).tm = s.tm := rfl
@[simp] theorem addTo_deck (f : Fld) (n : Nat) (s : State) : (addTo f n s).deck = s.deck := rfl
@[simp] theorem addTo_afe (f : Fld) (n : Nat) (s : State) : (addTo f n s).afe = s.afe := rfl
@[simp] theorem addTo_wgh (f : Fld) (n : Nat) (s : State) : (addTo f n s).wgh = s.wgh := rfl
@[simp] theorem addTo_usx (f : Fld) (n : Nat) (s : State) : (addTo f n s).usx = s.usx := rfl
@[simp] theorem addTo_leg (f : Fld) (n : Nat) (s : State) : (addTo f n s).leg = s.leg := rfl
@[simp] theorem addTo_bill (f : Fld) (n : Nat) (s : State) : (addTo f n s).bill = s.bill := rfl
@[simp] theorem addTo_sw (f : Fld) (n : Nat) (s : State) : (addTo f n s).sw = s.sw := rfl
@[simp] theorem addTo_pwr (f : Fld) (n : Nat) (s : State) : (addTo f n s).pwr = s.pwr := rfl
@[simp] theorem addTo_stc (f : Fld) (n : Nat) (s : State) : (addTo f n s).stc = s.stc := rfl
@[simp] theorem addTo_rpr (f : Fld) (n : Nat) (s : State) : (addTo f n s).rpr = s.rpr := rfl
@[simp] theorem addTo_loops (f : Fld) (n : Nat) (s : State) : (addTo f n s).loops = s.loops := rfl
@[simp] theorem addTo_tap (f : Fld) (n : Nat) (s : State) : (addTo f n s).tap = s.tap := rfl
@[simp] theorem addTo_tapIr (f : Fld) (n : Nat) (s : State) : (addTo f n s).tapIr = s.tapIr := rfl
@[simp] theorem addTo_testEn (f : Fld) (n : Nat) (s : State) : (addTo f n s).testEn = s.testEn := rfl
@[simp] theorem addTo_orry (f : Fld) (n : Nat) (s : State) : (addTo f n s).orry = s.orry := rfl
@[simp] theorem addTo_led (f : Fld) (n : Nat) (s : State) : (addTo f n s).led = s.led := rfl
@[simp] theorem addTo_host (f : Fld) (n : Nat) (s : State) : (addTo f n s).host = s.host := rfl
@[simp] theorem addTo_pending (f : Fld) (n : Nat) (s : State) : (addTo f n s).pending = s.pending := rfl

@[simp] theorem inc_time (f : Fld) (s : State) : (inc f s).time = s.time := rfl
@[simp] theorem inc_fuse (f : Fld) (s : State) : (inc f s).fuse = s.fuse := rfl
@[simp] theorem inc_fab (f : Fld) (s : State) : (inc f s).fab = s.fab := rfl
@[simp] theorem inc_attn (f : Fld) (s : State) : (inc f s).attn = s.attn := rfl
@[simp] theorem inc_sidr (f : Fld) (s : State) : (inc f s).sidr = s.sidr := rfl
@[simp] theorem inc_lane (f : Fld) (s : State) : (inc f s).lane = s.lane := rfl
@[simp] theorem inc_line (f : Fld) (s : State) : (inc f s).line = s.line := rfl
@[simp] theorem inc_pmon (f : Fld) (s : State) : (inc f s).pmon = s.pmon := rfl
@[simp] theorem inc_burst (f : Fld) (s : State) : (inc f s).burst = s.burst := rfl
@[simp] theorem inc_actv (f : Fld) (s : State) : (inc f s).actv = s.actv := rfl
@[simp] theorem inc_tm (f : Fld) (s : State) : (inc f s).tm = s.tm := rfl
@[simp] theorem inc_deck (f : Fld) (s : State) : (inc f s).deck = s.deck := rfl
@[simp] theorem inc_afe (f : Fld) (s : State) : (inc f s).afe = s.afe := rfl
@[simp] theorem inc_wgh (f : Fld) (s : State) : (inc f s).wgh = s.wgh := rfl
@[simp] theorem inc_usx (f : Fld) (s : State) : (inc f s).usx = s.usx := rfl
@[simp] theorem inc_leg (f : Fld) (s : State) : (inc f s).leg = s.leg := rfl
@[simp] theorem inc_bill (f : Fld) (s : State) : (inc f s).bill = s.bill := rfl
@[simp] theorem inc_sw (f : Fld) (s : State) : (inc f s).sw = s.sw := rfl
@[simp] theorem inc_pwr (f : Fld) (s : State) : (inc f s).pwr = s.pwr := rfl
@[simp] theorem inc_stc (f : Fld) (s : State) : (inc f s).stc = s.stc := rfl
@[simp] theorem inc_rpr (f : Fld) (s : State) : (inc f s).rpr = s.rpr := rfl
@[simp] theorem inc_loops (f : Fld) (s : State) : (inc f s).loops = s.loops := rfl
@[simp] theorem inc_tap (f : Fld) (s : State) : (inc f s).tap = s.tap := rfl
@[simp] theorem inc_tapIr (f : Fld) (s : State) : (inc f s).tapIr = s.tapIr := rfl
@[simp] theorem inc_testEn (f : Fld) (s : State) : (inc f s).testEn = s.testEn := rfl
@[simp] theorem inc_orry (f : Fld) (s : State) : (inc f s).orry = s.orry := rfl
@[simp] theorem inc_led (f : Fld) (s : State) : (inc f s).led = s.led := rfl
@[simp] theorem inc_host (f : Fld) (s : State) : (inc f s).host = s.host := rfl
@[simp] theorem inc_pending (f : Fld) (s : State) : (inc f s).pending = s.pending := rfl

@[simp] theorem incSat_time (f : Fld) (s : State) : (incSat f s).time = s.time := rfl
@[simp] theorem incSat_fuse (f : Fld) (s : State) : (incSat f s).fuse = s.fuse := rfl
@[simp] theorem incSat_fab (f : Fld) (s : State) : (incSat f s).fab = s.fab := rfl
@[simp] theorem incSat_attn (f : Fld) (s : State) : (incSat f s).attn = s.attn := rfl
@[simp] theorem incSat_sidr (f : Fld) (s : State) : (incSat f s).sidr = s.sidr := rfl
@[simp] theorem incSat_lane (f : Fld) (s : State) : (incSat f s).lane = s.lane := rfl
@[simp] theorem incSat_line (f : Fld) (s : State) : (incSat f s).line = s.line := rfl
@[simp] theorem incSat_pmon (f : Fld) (s : State) : (incSat f s).pmon = s.pmon := rfl
@[simp] theorem incSat_burst (f : Fld) (s : State) : (incSat f s).burst = s.burst := rfl
@[simp] theorem incSat_actv (f : Fld) (s : State) : (incSat f s).actv = s.actv := rfl
@[simp] theorem incSat_tm (f : Fld) (s : State) : (incSat f s).tm = s.tm := rfl
@[simp] theorem incSat_deck (f : Fld) (s : State) : (incSat f s).deck = s.deck := rfl
@[simp] theorem incSat_afe (f : Fld) (s : State) : (incSat f s).afe = s.afe := rfl
@[simp] theorem incSat_wgh (f : Fld) (s : State) : (incSat f s).wgh = s.wgh := rfl
@[simp] theorem incSat_usx (f : Fld) (s : State) : (incSat f s).usx = s.usx := rfl
@[simp] theorem incSat_leg (f : Fld) (s : State) : (incSat f s).leg = s.leg := rfl
@[simp] theorem incSat_bill (f : Fld) (s : State) : (incSat f s).bill = s.bill := rfl
@[simp] theorem incSat_sw (f : Fld) (s : State) : (incSat f s).sw = s.sw := rfl
@[simp] theorem incSat_pwr (f : Fld) (s : State) : (incSat f s).pwr = s.pwr := rfl
@[simp] theorem incSat_stc (f : Fld) (s : State) : (incSat f s).stc = s.stc := rfl
@[simp] theorem incSat_rpr (f : Fld) (s : State) : (incSat f s).rpr = s.rpr := rfl
@[simp] theorem incSat_loops (f : Fld) (s : State) : (incSat f s).loops = s.loops := rfl
@[simp] theorem incSat_tap (f : Fld) (s : State) : (incSat f s).tap = s.tap := rfl
@[simp] theorem incSat_tapIr (f : Fld) (s : State) : (incSat f s).tapIr = s.tapIr := rfl
@[simp] theorem incSat_testEn (f : Fld) (s : State) : (incSat f s).testEn = s.testEn := rfl
@[simp] theorem incSat_orry (f : Fld) (s : State) : (incSat f s).orry = s.orry := rfl
@[simp] theorem incSat_led (f : Fld) (s : State) : (incSat f s).led = s.led := rfl
@[simp] theorem incSat_host (f : Fld) (s : State) : (incSat f s).host = s.host := rfl
@[simp] theorem incSat_pending (f : Fld) (s : State) : (incSat f s).pending = s.pending := rfl

@[simp] theorem event_time (f : Fld) (m : Nat) (s : State) : (event f m s).time = s.time := rfl
@[simp] theorem event_fuse (f : Fld) (m : Nat) (s : State) : (event f m s).fuse = s.fuse := rfl
@[simp] theorem event_attn (f : Fld) (m : Nat) (s : State) : (event f m s).attn = s.attn := rfl
@[simp] theorem event_sidr (f : Fld) (m : Nat) (s : State) : (event f m s).sidr = s.sidr := rfl
@[simp] theorem event_lane (f : Fld) (m : Nat) (s : State) : (event f m s).lane = s.lane := rfl
@[simp] theorem event_line (f : Fld) (m : Nat) (s : State) : (event f m s).line = s.line := rfl
@[simp] theorem event_pmon (f : Fld) (m : Nat) (s : State) : (event f m s).pmon = s.pmon := rfl
@[simp] theorem event_burst (f : Fld) (m : Nat) (s : State) : (event f m s).burst = s.burst := rfl
@[simp] theorem event_actv (f : Fld) (m : Nat) (s : State) : (event f m s).actv = s.actv := rfl
@[simp] theorem event_tm (f : Fld) (m : Nat) (s : State) : (event f m s).tm = s.tm := rfl
@[simp] theorem event_deck (f : Fld) (m : Nat) (s : State) : (event f m s).deck = s.deck := rfl
@[simp] theorem event_afe (f : Fld) (m : Nat) (s : State) : (event f m s).afe = s.afe := rfl
@[simp] theorem event_wgh (f : Fld) (m : Nat) (s : State) : (event f m s).wgh = s.wgh := rfl
@[simp] theorem event_usx (f : Fld) (m : Nat) (s : State) : (event f m s).usx = s.usx := rfl
@[simp] theorem event_leg (f : Fld) (m : Nat) (s : State) : (event f m s).leg = s.leg := rfl
@[simp] theorem event_bill (f : Fld) (m : Nat) (s : State) : (event f m s).bill = s.bill := rfl
@[simp] theorem event_sw (f : Fld) (m : Nat) (s : State) : (event f m s).sw = s.sw := rfl
@[simp] theorem event_pwr (f : Fld) (m : Nat) (s : State) : (event f m s).pwr = s.pwr := rfl
@[simp] theorem event_stc (f : Fld) (m : Nat) (s : State) : (event f m s).stc = s.stc := rfl
@[simp] theorem event_rpr (f : Fld) (m : Nat) (s : State) : (event f m s).rpr = s.rpr := rfl
@[simp] theorem event_loops (f : Fld) (m : Nat) (s : State) : (event f m s).loops = s.loops := rfl
@[simp] theorem event_tap (f : Fld) (m : Nat) (s : State) : (event f m s).tap = s.tap := rfl
@[simp] theorem event_tapIr (f : Fld) (m : Nat) (s : State) : (event f m s).tapIr = s.tapIr := rfl
@[simp] theorem event_testEn (f : Fld) (m : Nat) (s : State) : (event f m s).testEn = s.testEn := rfl
@[simp] theorem event_orry (f : Fld) (m : Nat) (s : State) : (event f m s).orry = s.orry := rfl
@[simp] theorem event_led (f : Fld) (m : Nat) (s : State) : (event f m s).led = s.led := rfl
@[simp] theorem event_host (f : Fld) (m : Nat) (s : State) : (event f m s).host = s.host := rfl
@[simp] theorem event_pending (f : Fld) (m : Nat) (s : State) : (event f m s).pending = s.pending := rfl

@[simp] theorem w1c_time (f : Fld) (v : Nat) (s : State) : (w1c f v s).time = s.time := rfl
@[simp] theorem w1c_fuse (f : Fld) (v : Nat) (s : State) : (w1c f v s).fuse = s.fuse := rfl
@[simp] theorem w1c_fab (f : Fld) (v : Nat) (s : State) : (w1c f v s).fab = s.fab := rfl
@[simp] theorem w1c_attn (f : Fld) (v : Nat) (s : State) : (w1c f v s).attn = s.attn := rfl
@[simp] theorem w1c_sidr (f : Fld) (v : Nat) (s : State) : (w1c f v s).sidr = s.sidr := rfl
@[simp] theorem w1c_lane (f : Fld) (v : Nat) (s : State) : (w1c f v s).lane = s.lane := rfl
@[simp] theorem w1c_line (f : Fld) (v : Nat) (s : State) : (w1c f v s).line = s.line := rfl
@[simp] theorem w1c_pmon (f : Fld) (v : Nat) (s : State) : (w1c f v s).pmon = s.pmon := rfl
@[simp] theorem w1c_burst (f : Fld) (v : Nat) (s : State) : (w1c f v s).burst = s.burst := rfl
@[simp] theorem w1c_actv (f : Fld) (v : Nat) (s : State) : (w1c f v s).actv = s.actv := rfl
@[simp] theorem w1c_tm (f : Fld) (v : Nat) (s : State) : (w1c f v s).tm = s.tm := rfl
@[simp] theorem w1c_deck (f : Fld) (v : Nat) (s : State) : (w1c f v s).deck = s.deck := rfl
@[simp] theorem w1c_afe (f : Fld) (v : Nat) (s : State) : (w1c f v s).afe = s.afe := rfl
@[simp] theorem w1c_wgh (f : Fld) (v : Nat) (s : State) : (w1c f v s).wgh = s.wgh := rfl
@[simp] theorem w1c_usx (f : Fld) (v : Nat) (s : State) : (w1c f v s).usx = s.usx := rfl
@[simp] theorem w1c_leg (f : Fld) (v : Nat) (s : State) : (w1c f v s).leg = s.leg := rfl
@[simp] theorem w1c_bill (f : Fld) (v : Nat) (s : State) : (w1c f v s).bill = s.bill := rfl
@[simp] theorem w1c_sw (f : Fld) (v : Nat) (s : State) : (w1c f v s).sw = s.sw := rfl
@[simp] theorem w1c_pwr (f : Fld) (v : Nat) (s : State) : (w1c f v s).pwr = s.pwr := rfl
@[simp] theorem w1c_stc (f : Fld) (v : Nat) (s : State) : (w1c f v s).stc = s.stc := rfl
@[simp] theorem w1c_rpr (f : Fld) (v : Nat) (s : State) : (w1c f v s).rpr = s.rpr := rfl
@[simp] theorem w1c_loops (f : Fld) (v : Nat) (s : State) : (w1c f v s).loops = s.loops := rfl
@[simp] theorem w1c_tap (f : Fld) (v : Nat) (s : State) : (w1c f v s).tap = s.tap := rfl
@[simp] theorem w1c_tapIr (f : Fld) (v : Nat) (s : State) : (w1c f v s).tapIr = s.tapIr := rfl
@[simp] theorem w1c_testEn (f : Fld) (v : Nat) (s : State) : (w1c f v s).testEn = s.testEn := rfl
@[simp] theorem w1c_orry (f : Fld) (v : Nat) (s : State) : (w1c f v s).orry = s.orry := rfl
@[simp] theorem w1c_led (f : Fld) (v : Nat) (s : State) : (w1c f v s).led = s.led := rfl
@[simp] theorem w1c_host (f : Fld) (v : Nat) (s : State) : (w1c f v s).host = s.host := rfl
@[simp] theorem w1c_pending (f : Fld) (v : Nat) (s : State) : (w1c f v s).pending = s.pending := rfl

@[simp] theorem raise_time (p b : Nat) (s : State) : (raise p b s).time = s.time := rfl
@[simp] theorem raise_fuse (p b : Nat) (s : State) : (raise p b s).fuse = s.fuse := rfl
@[simp] theorem raise_attn (p b : Nat) (s : State) : (raise p b s).attn = s.attn := rfl
@[simp] theorem raise_sidr (p b : Nat) (s : State) : (raise p b s).sidr = s.sidr := rfl
@[simp] theorem raise_lane (p b : Nat) (s : State) : (raise p b s).lane = s.lane := rfl
@[simp] theorem raise_line (p b : Nat) (s : State) : (raise p b s).line = s.line := rfl
@[simp] theorem raise_pmon (p b : Nat) (s : State) : (raise p b s).pmon = s.pmon := rfl
@[simp] theorem raise_burst (p b : Nat) (s : State) : (raise p b s).burst = s.burst := rfl
@[simp] theorem raise_actv (p b : Nat) (s : State) : (raise p b s).actv = s.actv := rfl
@[simp] theorem raise_tm (p b : Nat) (s : State) : (raise p b s).tm = s.tm := rfl
@[simp] theorem raise_deck (p b : Nat) (s : State) : (raise p b s).deck = s.deck := rfl
@[simp] theorem raise_afe (p b : Nat) (s : State) : (raise p b s).afe = s.afe := rfl
@[simp] theorem raise_wgh (p b : Nat) (s : State) : (raise p b s).wgh = s.wgh := rfl
@[simp] theorem raise_usx (p b : Nat) (s : State) : (raise p b s).usx = s.usx := rfl
@[simp] theorem raise_leg (p b : Nat) (s : State) : (raise p b s).leg = s.leg := rfl
@[simp] theorem raise_bill (p b : Nat) (s : State) : (raise p b s).bill = s.bill := rfl
@[simp] theorem raise_sw (p b : Nat) (s : State) : (raise p b s).sw = s.sw := rfl
@[simp] theorem raise_pwr (p b : Nat) (s : State) : (raise p b s).pwr = s.pwr := rfl
@[simp] theorem raise_stc (p b : Nat) (s : State) : (raise p b s).stc = s.stc := rfl
@[simp] theorem raise_rpr (p b : Nat) (s : State) : (raise p b s).rpr = s.rpr := rfl
@[simp] theorem raise_loops (p b : Nat) (s : State) : (raise p b s).loops = s.loops := rfl
@[simp] theorem raise_tap (p b : Nat) (s : State) : (raise p b s).tap = s.tap := rfl
@[simp] theorem raise_tapIr (p b : Nat) (s : State) : (raise p b s).tapIr = s.tapIr := rfl
@[simp] theorem raise_testEn (p b : Nat) (s : State) : (raise p b s).testEn = s.testEn := rfl
@[simp] theorem raise_orry (p b : Nat) (s : State) : (raise p b s).orry = s.orry := rfl
@[simp] theorem raise_led (p b : Nat) (s : State) : (raise p b s).led = s.led := rfl
@[simp] theorem raise_host (p b : Nat) (s : State) : (raise p b s).host = s.host := rfl
@[simp] theorem raise_pending (p b : Nat) (s : State) : (raise p b s).pending = s.pending := rfl

@[simp] theorem raiseSub_time (p n : Nat) (s : State) : (raiseSub p n s).time = s.time := rfl
@[simp] theorem raiseSub_fuse (p n : Nat) (s : State) : (raiseSub p n s).fuse = s.fuse := rfl
@[simp] theorem raiseSub_attn (p n : Nat) (s : State) : (raiseSub p n s).attn = s.attn := rfl
@[simp] theorem raiseSub_sidr (p n : Nat) (s : State) : (raiseSub p n s).sidr = s.sidr := rfl
@[simp] theorem raiseSub_lane (p n : Nat) (s : State) : (raiseSub p n s).lane = s.lane := rfl
@[simp] theorem raiseSub_line (p n : Nat) (s : State) : (raiseSub p n s).line = s.line := rfl
@[simp] theorem raiseSub_pmon (p n : Nat) (s : State) : (raiseSub p n s).pmon = s.pmon := rfl
@[simp] theorem raiseSub_burst (p n : Nat) (s : State) : (raiseSub p n s).burst = s.burst := rfl
@[simp] theorem raiseSub_actv (p n : Nat) (s : State) : (raiseSub p n s).actv = s.actv := rfl
@[simp] theorem raiseSub_tm (p n : Nat) (s : State) : (raiseSub p n s).tm = s.tm := rfl
@[simp] theorem raiseSub_deck (p n : Nat) (s : State) : (raiseSub p n s).deck = s.deck := rfl
@[simp] theorem raiseSub_afe (p n : Nat) (s : State) : (raiseSub p n s).afe = s.afe := rfl
@[simp] theorem raiseSub_wgh (p n : Nat) (s : State) : (raiseSub p n s).wgh = s.wgh := rfl
@[simp] theorem raiseSub_usx (p n : Nat) (s : State) : (raiseSub p n s).usx = s.usx := rfl
@[simp] theorem raiseSub_leg (p n : Nat) (s : State) : (raiseSub p n s).leg = s.leg := rfl
@[simp] theorem raiseSub_bill (p n : Nat) (s : State) : (raiseSub p n s).bill = s.bill := rfl
@[simp] theorem raiseSub_sw (p n : Nat) (s : State) : (raiseSub p n s).sw = s.sw := rfl
@[simp] theorem raiseSub_pwr (p n : Nat) (s : State) : (raiseSub p n s).pwr = s.pwr := rfl
@[simp] theorem raiseSub_stc (p n : Nat) (s : State) : (raiseSub p n s).stc = s.stc := rfl
@[simp] theorem raiseSub_rpr (p n : Nat) (s : State) : (raiseSub p n s).rpr = s.rpr := rfl
@[simp] theorem raiseSub_loops (p n : Nat) (s : State) : (raiseSub p n s).loops = s.loops := rfl
@[simp] theorem raiseSub_tap (p n : Nat) (s : State) : (raiseSub p n s).tap = s.tap := rfl
@[simp] theorem raiseSub_tapIr (p n : Nat) (s : State) : (raiseSub p n s).tapIr = s.tapIr := rfl
@[simp] theorem raiseSub_testEn (p n : Nat) (s : State) : (raiseSub p n s).testEn = s.testEn := rfl
@[simp] theorem raiseSub_orry (p n : Nat) (s : State) : (raiseSub p n s).orry = s.orry := rfl
@[simp] theorem raiseSub_led (p n : Nat) (s : State) : (raiseSub p n s).led = s.led := rfl
@[simp] theorem raiseSub_host (p n : Nat) (s : State) : (raiseSub p n s).host = s.host := rfl
@[simp] theorem raiseSub_pending (p n : Nat) (s : State) : (raiseSub p n s).pending = s.pending := rfl

@[simp] theorem startCmd_time (a b : Nat) (s : State) : (startCmd a b s).time = s.time := rfl
@[simp] theorem startCmd_fuse (a b : Nat) (s : State) : (startCmd a b s).fuse = s.fuse := rfl
@[simp] theorem startCmd_regs (a b : Nat) (s : State) : (startCmd a b s).regs = s.regs := rfl
@[simp] theorem startCmd_attn (a b : Nat) (s : State) : (startCmd a b s).attn = s.attn := rfl
@[simp] theorem startCmd_sidr (a b : Nat) (s : State) : (startCmd a b s).sidr = s.sidr := rfl
@[simp] theorem startCmd_lane (a b : Nat) (s : State) : (startCmd a b s).lane = s.lane := rfl
@[simp] theorem startCmd_line (a b : Nat) (s : State) : (startCmd a b s).line = s.line := rfl
@[simp] theorem startCmd_pmon (a b : Nat) (s : State) : (startCmd a b s).pmon = s.pmon := rfl
@[simp] theorem startCmd_burst (a b : Nat) (s : State) : (startCmd a b s).burst = s.burst := rfl
@[simp] theorem startCmd_actv (a b : Nat) (s : State) : (startCmd a b s).actv = s.actv := rfl
@[simp] theorem startCmd_tm (a b : Nat) (s : State) : (startCmd a b s).tm = s.tm := rfl
@[simp] theorem startCmd_deck (a b : Nat) (s : State) : (startCmd a b s).deck = s.deck := rfl
@[simp] theorem startCmd_afe (a b : Nat) (s : State) : (startCmd a b s).afe = s.afe := rfl
@[simp] theorem startCmd_wgh (a b : Nat) (s : State) : (startCmd a b s).wgh = s.wgh := rfl
@[simp] theorem startCmd_usx (a b : Nat) (s : State) : (startCmd a b s).usx = s.usx := rfl
@[simp] theorem startCmd_leg (a b : Nat) (s : State) : (startCmd a b s).leg = s.leg := rfl
@[simp] theorem startCmd_bill (a b : Nat) (s : State) : (startCmd a b s).bill = s.bill := rfl
@[simp] theorem startCmd_sw (a b : Nat) (s : State) : (startCmd a b s).sw = s.sw := rfl
@[simp] theorem startCmd_pwr (a b : Nat) (s : State) : (startCmd a b s).pwr = s.pwr := rfl
@[simp] theorem startCmd_stc (a b : Nat) (s : State) : (startCmd a b s).stc = s.stc := rfl
@[simp] theorem startCmd_rpr (a b : Nat) (s : State) : (startCmd a b s).rpr = s.rpr := rfl
@[simp] theorem startCmd_loops (a b : Nat) (s : State) : (startCmd a b s).loops = s.loops := rfl
@[simp] theorem startCmd_tap (a b : Nat) (s : State) : (startCmd a b s).tap = s.tap := rfl
@[simp] theorem startCmd_tapIr (a b : Nat) (s : State) : (startCmd a b s).tapIr = s.tapIr := rfl
@[simp] theorem startCmd_testEn (a b : Nat) (s : State) : (startCmd a b s).testEn = s.testEn := rfl
@[simp] theorem startCmd_orry (a b : Nat) (s : State) : (startCmd a b s).orry = s.orry := rfl
@[simp] theorem startCmd_led (a b : Nat) (s : State) : (startCmd a b s).led = s.led := rfl
@[simp] theorem startCmd_host (a b : Nat) (s : State) : (startCmd a b s).host = s.host := rfl
@[simp] theorem startCmd_pending (a b : Nat) (s : State) : (startCmd a b s).pending = s.pending := rfl

@[simp] theorem takeTurn_time (c : Comer) (s : State) : (takeTurn c s).time = s.time := rfl
@[simp] theorem takeTurn_fuse (c : Comer) (s : State) : (takeTurn c s).fuse = s.fuse := rfl
@[simp] theorem takeTurn_regs (c : Comer) (s : State) : (takeTurn c s).regs = s.regs := rfl
@[simp] theorem takeTurn_attn (c : Comer) (s : State) : (takeTurn c s).attn = s.attn := rfl
@[simp] theorem takeTurn_sidr (c : Comer) (s : State) : (takeTurn c s).sidr = s.sidr := rfl
@[simp] theorem takeTurn_lane (c : Comer) (s : State) : (takeTurn c s).lane = s.lane := rfl
@[simp] theorem takeTurn_line (c : Comer) (s : State) : (takeTurn c s).line = s.line := rfl
@[simp] theorem takeTurn_pmon (c : Comer) (s : State) : (takeTurn c s).pmon = s.pmon := rfl
@[simp] theorem takeTurn_burst (c : Comer) (s : State) : (takeTurn c s).burst = s.burst := rfl
@[simp] theorem takeTurn_actv (c : Comer) (s : State) : (takeTurn c s).actv = s.actv := rfl
@[simp] theorem takeTurn_tm (c : Comer) (s : State) : (takeTurn c s).tm = s.tm := rfl
@[simp] theorem takeTurn_deck (c : Comer) (s : State) : (takeTurn c s).deck = s.deck := rfl
@[simp] theorem takeTurn_afe (c : Comer) (s : State) : (takeTurn c s).afe = s.afe := rfl
@[simp] theorem takeTurn_wgh (c : Comer) (s : State) : (takeTurn c s).wgh = s.wgh := rfl
@[simp] theorem takeTurn_usx (c : Comer) (s : State) : (takeTurn c s).usx = s.usx := rfl
@[simp] theorem takeTurn_leg (c : Comer) (s : State) : (takeTurn c s).leg = s.leg := rfl
@[simp] theorem takeTurn_bill (c : Comer) (s : State) : (takeTurn c s).bill = s.bill := rfl
@[simp] theorem takeTurn_sw (c : Comer) (s : State) : (takeTurn c s).sw = s.sw := rfl
@[simp] theorem takeTurn_pwr (c : Comer) (s : State) : (takeTurn c s).pwr = s.pwr := rfl
@[simp] theorem takeTurn_stc (c : Comer) (s : State) : (takeTurn c s).stc = s.stc := rfl
@[simp] theorem takeTurn_rpr (c : Comer) (s : State) : (takeTurn c s).rpr = s.rpr := rfl
@[simp] theorem takeTurn_loops (c : Comer) (s : State) : (takeTurn c s).loops = s.loops := rfl
@[simp] theorem takeTurn_tap (c : Comer) (s : State) : (takeTurn c s).tap = s.tap := rfl
@[simp] theorem takeTurn_tapIr (c : Comer) (s : State) : (takeTurn c s).tapIr = s.tapIr := rfl
@[simp] theorem takeTurn_testEn (c : Comer) (s : State) : (takeTurn c s).testEn = s.testEn := rfl
@[simp] theorem takeTurn_orry (c : Comer) (s : State) : (takeTurn c s).orry = s.orry := rfl
@[simp] theorem takeTurn_led (c : Comer) (s : State) : (takeTurn c s).led = s.led := rfl
@[simp] theorem takeTurn_host (c : Comer) (s : State) : (takeTurn c s).host = s.host := rfl
@[simp] theorem takeTurn_pending (c : Comer) (s : State) : (takeTurn c s).pending = s.pending := rfl

@[simp] theorem refuse_time (p : Port) (page off : Nat) (c : Code) (s : State) : (refuse p page off c s).time = s.time := by simp [refuse]
@[simp] theorem refuse_fuse (p : Port) (page off : Nat) (c : Code) (s : State) : (refuse p page off c s).fuse = s.fuse := by simp [refuse]
@[simp] theorem refuse_attn (p : Port) (page off : Nat) (c : Code) (s : State) : (refuse p page off c s).attn = s.attn := by simp [refuse]
@[simp] theorem refuse_sidr (p : Port) (page off : Nat) (c : Code) (s : State) : (refuse p page off c s).sidr = s.sidr := by simp [refuse]
@[simp] theorem refuse_lane (p : Port) (page off : Nat) (c : Code) (s : State) : (refuse p page off c s).lane = s.lane := by simp [refuse]
@[simp] theorem refuse_line (p : Port) (page off : Nat) (c : Code) (s : State) : (refuse p page off c s).line = s.line := by simp [refuse]
@[simp] theorem refuse_pmon (p : Port) (page off : Nat) (c : Code) (s : State) : (refuse p page off c s).pmon = s.pmon := by simp [refuse]
@[simp] theorem refuse_burst (p : Port) (page off : Nat) (c : Code) (s : State) : (refuse p page off c s).burst = s.burst := by simp [refuse]
@[simp] theorem refuse_actv (p : Port) (page off : Nat) (c : Code) (s : State) : (refuse p page off c s).actv = s.actv := by simp [refuse]
@[simp] theorem refuse_tm (p : Port) (page off : Nat) (c : Code) (s : State) : (refuse p page off c s).tm = s.tm := by simp [refuse]
@[simp] theorem refuse_deck (p : Port) (page off : Nat) (c : Code) (s : State) : (refuse p page off c s).deck = s.deck := by simp [refuse]
@[simp] theorem refuse_afe (p : Port) (page off : Nat) (c : Code) (s : State) : (refuse p page off c s).afe = s.afe := by simp [refuse]
@[simp] theorem refuse_wgh (p : Port) (page off : Nat) (c : Code) (s : State) : (refuse p page off c s).wgh = s.wgh := by simp [refuse]
@[simp] theorem refuse_usx (p : Port) (page off : Nat) (c : Code) (s : State) : (refuse p page off c s).usx = s.usx := by simp [refuse]
@[simp] theorem refuse_leg (p : Port) (page off : Nat) (c : Code) (s : State) : (refuse p page off c s).leg = s.leg := by simp [refuse]
@[simp] theorem refuse_bill (p : Port) (page off : Nat) (c : Code) (s : State) : (refuse p page off c s).bill = s.bill := by simp [refuse]
@[simp] theorem refuse_sw (p : Port) (page off : Nat) (c : Code) (s : State) : (refuse p page off c s).sw = s.sw := by simp [refuse]
@[simp] theorem refuse_pwr (p : Port) (page off : Nat) (c : Code) (s : State) : (refuse p page off c s).pwr = s.pwr := by simp [refuse]
@[simp] theorem refuse_stc (p : Port) (page off : Nat) (c : Code) (s : State) : (refuse p page off c s).stc = s.stc := by simp [refuse]
@[simp] theorem refuse_rpr (p : Port) (page off : Nat) (c : Code) (s : State) : (refuse p page off c s).rpr = s.rpr := by simp [refuse]
@[simp] theorem refuse_loops (p : Port) (page off : Nat) (c : Code) (s : State) : (refuse p page off c s).loops = s.loops := by simp [refuse]
@[simp] theorem refuse_tap (p : Port) (page off : Nat) (c : Code) (s : State) : (refuse p page off c s).tap = s.tap := by simp [refuse]
@[simp] theorem refuse_tapIr (p : Port) (page off : Nat) (c : Code) (s : State) : (refuse p page off c s).tapIr = s.tapIr := by simp [refuse]
@[simp] theorem refuse_testEn (p : Port) (page off : Nat) (c : Code) (s : State) : (refuse p page off c s).testEn = s.testEn := by simp [refuse]
@[simp] theorem refuse_orry (p : Port) (page off : Nat) (c : Code) (s : State) : (refuse p page off c s).orry = s.orry := by simp [refuse]
@[simp] theorem refuse_led (p : Port) (page off : Nat) (c : Code) (s : State) : (refuse p page off c s).led = s.led := by simp [refuse]
@[simp] theorem refuse_host (p : Port) (page off : Nat) (c : Code) (s : State) : (refuse p page off c s).host = s.host := by simp [refuse]
@[simp] theorem refuse_pending (p : Port) (page off : Nat) (c : Code) (s : State) : (refuse p page off c s).pending = s.pending := by simp [refuse]

@[simp] theorem renewLease_time (p : Port) (page : Nat) (s : State) : (renewLease p page s).time = s.time := by
  unfold renewLease; split <;> rfl
@[simp] theorem renewLease_fuse (p : Port) (page : Nat) (s : State) : (renewLease p page s).fuse = s.fuse := by
  unfold renewLease; split <;> rfl
@[simp] theorem renewLease_regs (p : Port) (page : Nat) (s : State) : (renewLease p page s).regs = s.regs := by
  unfold renewLease; split <;> rfl
@[simp] theorem renewLease_attn (p : Port) (page : Nat) (s : State) : (renewLease p page s).attn = s.attn := by
  unfold renewLease; split <;> rfl
@[simp] theorem renewLease_sidr (p : Port) (page : Nat) (s : State) : (renewLease p page s).sidr = s.sidr := by
  unfold renewLease; split <;> rfl
@[simp] theorem renewLease_lane (p : Port) (page : Nat) (s : State) : (renewLease p page s).lane = s.lane := by
  unfold renewLease; split <;> rfl
@[simp] theorem renewLease_line (p : Port) (page : Nat) (s : State) : (renewLease p page s).line = s.line := by
  unfold renewLease; split <;> rfl
@[simp] theorem renewLease_pmon (p : Port) (page : Nat) (s : State) : (renewLease p page s).pmon = s.pmon := by
  unfold renewLease; split <;> rfl
@[simp] theorem renewLease_burst (p : Port) (page : Nat) (s : State) : (renewLease p page s).burst = s.burst := by
  unfold renewLease; split <;> rfl
@[simp] theorem renewLease_actv (p : Port) (page : Nat) (s : State) : (renewLease p page s).actv = s.actv := by
  unfold renewLease; split <;> rfl
@[simp] theorem renewLease_tm (p : Port) (page : Nat) (s : State) : (renewLease p page s).tm = s.tm := by
  unfold renewLease; split <;> rfl
@[simp] theorem renewLease_deck (p : Port) (page : Nat) (s : State) : (renewLease p page s).deck = s.deck := by
  unfold renewLease; split <;> rfl
@[simp] theorem renewLease_afe (p : Port) (page : Nat) (s : State) : (renewLease p page s).afe = s.afe := by
  unfold renewLease; split <;> rfl
@[simp] theorem renewLease_wgh (p : Port) (page : Nat) (s : State) : (renewLease p page s).wgh = s.wgh := by
  unfold renewLease; split <;> rfl
@[simp] theorem renewLease_usx (p : Port) (page : Nat) (s : State) : (renewLease p page s).usx = s.usx := by
  unfold renewLease; split <;> rfl
@[simp] theorem renewLease_leg (p : Port) (page : Nat) (s : State) : (renewLease p page s).leg = s.leg := by
  unfold renewLease; split <;> rfl
@[simp] theorem renewLease_bill (p : Port) (page : Nat) (s : State) : (renewLease p page s).bill = s.bill := by
  unfold renewLease; split <;> rfl
@[simp] theorem renewLease_sw (p : Port) (page : Nat) (s : State) : (renewLease p page s).sw = s.sw := by
  unfold renewLease; split <;> rfl
@[simp] theorem renewLease_pwr (p : Port) (page : Nat) (s : State) : (renewLease p page s).pwr = s.pwr := by
  unfold renewLease; split <;> rfl
@[simp] theorem renewLease_stc (p : Port) (page : Nat) (s : State) : (renewLease p page s).stc = s.stc := by
  unfold renewLease; split <;> rfl
@[simp] theorem renewLease_rpr (p : Port) (page : Nat) (s : State) : (renewLease p page s).rpr = s.rpr := by
  unfold renewLease; split <;> rfl
@[simp] theorem renewLease_loops (p : Port) (page : Nat) (s : State) : (renewLease p page s).loops = s.loops := by
  unfold renewLease; split <;> rfl
@[simp] theorem renewLease_tap (p : Port) (page : Nat) (s : State) : (renewLease p page s).tap = s.tap := by
  unfold renewLease; split <;> rfl
@[simp] theorem renewLease_tapIr (p : Port) (page : Nat) (s : State) : (renewLease p page s).tapIr = s.tapIr := by
  unfold renewLease; split <;> rfl
@[simp] theorem renewLease_testEn (p : Port) (page : Nat) (s : State) : (renewLease p page s).testEn = s.testEn := by
  unfold renewLease; split <;> rfl
@[simp] theorem renewLease_orry (p : Port) (page : Nat) (s : State) : (renewLease p page s).orry = s.orry := by
  unfold renewLease; split <;> rfl
@[simp] theorem renewLease_led (p : Port) (page : Nat) (s : State) : (renewLease p page s).led = s.led := by
  unfold renewLease; split <;> rfl
@[simp] theorem renewLease_host (p : Port) (page : Nat) (s : State) : (renewLease p page s).host = s.host := by
  unfold renewLease; split <;> rfl
@[simp] theorem renewLease_pending (p : Port) (page : Nat) (s : State) : (renewLease p page s).pending = s.pending := by
  unfold renewLease; split <;> rfl

/-- A field reads the same in two states with one register file. -/
theorem rd_congr {s u : State} (h : s.regs = u.regs) (f : Fld) : rd s f = rd u f := by unfold rd; rw [h]

@[simp] theorem rd_renewLease (p : Port) (page : Nat) (s : State) (f : Fld) : rd (renewLease p page s) f = rd s f := rd_congr (by simp) f
@[simp] theorem rd_startCmd (a b : Nat) (s : State) (f : Fld) : rd (startCmd a b s) f = rd s f := rfl
@[simp] theorem rd_takeTurn (c : Comer) (s : State) (f : Fld) : rd (takeTurn c s) f = rd s f := rfl

/-- An event is recorded in the fabric as one of the present cycle (R82). -/
theorem event_fab (f : Fld) (m : Nat) (s : State) :
    (event f m s).fab = { s.fab with setNow := aset s.fab.setNow f.key (setNow s f ||| m) } := rfl

/-- The fabric's own state holds no field. -/
theorem rd_fab (b : Fab) (s : State) (f : Fld) : rd { s with fab := b } f = rd s f := rfl

end Sys2Proof.Machine
end

