-- ==== Sys2Proof/Laws/Settle.lean ====
section
/-! SUPPORT. What the passing of time changes: the ATTN page, the tree's own state and the host's messages alone, and that two cycles of the
register fabric leave the attention tree in step with its leaves. -/
namespace Sys2Proof.Machine

/-- A field of the ATTN page behind its header: no leaf and no mask of a leaf stands there. -/
abbrev attnField (f : Fld) : Prop := f.key / 131072 = 1 ∧ 0x20 ≤ f.key / 32 % 4096 ∧ f.key / 32 % 4096 < 0xE00

theorem HDR.CAUSE_key (p : Nat) : (HDR.CAUSE p).key = p * 131072 + 512 := by simp [HDR.CAUSE, Fld.key]; omega
theorem HDR.MASK_key (p : Nat) : (HDR.MASK p).key = p * 131072 + 640 := by simp [HDR.MASK, Fld.key]; omega
theorem HDR.SUB_CAUSE_key (p w : Nat) : (HDR.SUB_CAUSE p w).key = p * 131072 + 114688 + 128 * w := by simp [HDR.SUB_CAUSE, Fld.key]; omega
theorem HDR.SUB_MASK_key (p w : Nat) : (HDR.SUB_MASK p w).key = p * 131072 + 118784 + 128 * w := by simp [HDR.SUB_MASK, Fld.key]; omega

/-- A sub-cause group has at most 32 words. -/
theorem subWords_le (p : Nat) : (subCount p + 31) / 32 ≤ 32 := by
  unfold subCount; repeat' split
  all_goals omega

/-- An entry of a file is in the file with one more field. -/
theorem Regs.mem_ins_of_mem {l : List (Fld × Nat)} {f : Fld} {v : Nat} {e : Fld × Nat} (h : e ∈ l) : e ∈ Regs.ins l f v := by
  induction l with
  | nil => simp at h
  | cons a r ih =>
    obtain ⟨g, u⟩ := a
    unfold Regs.ins
    split
    · exact List.mem_cons_of_mem _ h
    · rcases List.mem_cons.1 h with rfl | h
      · exact List.mem_cons_self ..
      · exact List.mem_cons_of_mem _ (ih h)

/-- A leaf's page is listed after a write of the ATTN page as before. -/
theorem mem_leafPages_wr {f : Fld} (h : attnField f) (v p : Nat) (s : State) : p ∈ leafPages (wr f v s) ↔ p ∈ leafPages s := by
  obtain ⟨_, h2, h3⟩ := h
  simp only [leafPages, List.mem_filterMap, wr]
  constructor
  · rintro ⟨e, he, hp⟩
    refine ⟨e, ?_, hp⟩
    unfold Regs.set at he
    split at he
    · exact (List.mem_filter.1 he).1
    · rcases Regs.mem_ins he with rfl | he
      · simp at hp; omega
      · exact (List.mem_filter.1 he).1
  · rintro ⟨e, he, hp⟩
    refine ⟨e, ?_, hp⟩
    have hk : e.1.key ≠ f.key := by
      intro hk; rw [hk] at hp; simp at hp; omega
    unfold Regs.set
    have hd : e ∈ Regs.drop s.regs f := List.mem_filter.2 ⟨he, by simpa using hk⟩
    split
    · exact hd
    · exact Regs.mem_ins_of_mem hd

/-- A write of the ATTN page leaves what reaches SUMMARY from a page. -/
theorem pageReach_wr {f : Fld} (h : attnField f) (v p : Nat) (s : State) : pageReach (wr f v s) p = pageReach s p := by
  obtain ⟨h1, h2, h3⟩ := h
  have hc : rd (wr f v s) (HDR.CAUSE p) = rd s (HDR.CAUSE p) := rd_wr_ne _ _ (by rw [HDR.CAUSE_key]; omega)
  have hm : rd (wr f v s) (HDR.MASK p) = rd s (HDR.MASK p) := rd_wr_ne _ _ (by rw [HDR.MASK_key]; omega)
  have hp : pointerBit (wr f v s) p = pointerBit s p := by
    unfold pointerBit
    apply Bool.eq_iff_iff.2
    simp only [List.any_eq_true, List.mem_range]
    refine exists_congr fun w => and_congr_right fun hw => ?_
    have hw : w < 32 := Nat.lt_of_lt_of_le hw (subWords_le p)
    rw [rd_wr_ne _ _ (by rw [HDR.SUB_CAUSE_key]; omega), rd_wr_ne _ _ (by rw [HDR.SUB_MASK_key]; omega)]
  unfold pageReach; rw [hc, hm, hp]

/-- A write of the ATTN page leaves SUMMARY. -/
theorem summary_wr {f : Fld} (h : attnField f) (v : Nat) (s : State) : summary (wr f v s) = summary s := by
  have hb : ∀ b, summaryBit (wr f v s) b = summaryBit s b := by
    intro b
    unfold summaryBit
    split
    · obtain ⟨h1, _, _⟩ := h
      have ha : SYS.REFUSED.key < 131072 := by decide
      have hb : SYS.REFUSAL_MASK.key < 131072 := by decide
      rw [rd_wr_ne _ _ (by omega), rd_wr_ne _ _ (by omega)]
    · apply Bool.eq_iff_iff.2
      simp only [List.any_eq_true, pagePend, pageReach_wr h, mem_leafPages_wr h]
  unfold summary; simp only [hb]

/-- SUMMARY depends on the register file alone. -/
theorem summary_congr {s u : State} (h : s.regs = u.regs) : summary s = summary u := by
  unfold summary summaryBit leafPages pagePend pageReach pointerBit
  simp only [h, rd_congr h]

/-- u is s but for fields of the ATTN page, the tree's own state and the host's messages; no leaf and no mask of the tree differs. -/
structure TreeOnly (s u : State) : Prop where
  eq : ∃ r a h, u = { s with regs := r, attn := a, host := h }
  rd : ∀ f : Fld, f.key / 131072 ≠ 1 → rd u f = rd s f
  sum : summary u = summary s
  pin : Machine.rd u ATTN.PIN_MASK = Machine.rd s ATTN.PIN_MASK
  stc : Machine.rd u ATTN.STC_MASK = Machine.rd s ATTN.STC_MASK

theorem TreeOnly.refl (s : State) : TreeOnly s s := ⟨⟨_, _, _, rfl⟩, fun _ _ => rfl, rfl, rfl, rfl⟩

theorem TreeOnly.trans {s u v : State} (h : TreeOnly s u) (g : TreeOnly u v) : TreeOnly s v := by
  obtain ⟨r, a, o, rfl⟩ := h.eq
  obtain ⟨r', a', o', rfl⟩ := g.eq
  exact ⟨⟨_, _, _, rfl⟩, fun f hf => (g.rd f hf).trans (h.rd f hf), g.sum.trans h.sum, g.pin.trans h.pin, g.stc.trans h.stc⟩

/-- A write of a field of the ATTN page that is no mask. -/
theorem treeOnly_wr {f : Fld} (h : attnField f) (hp : f.key ≠ ATTN.PIN_MASK.key) (hs : f.key ≠ ATTN.STC_MASK.key) (v : Nat) (s : State) :
    TreeOnly s (wr f v s) :=
  ⟨⟨_, _, _, rfl⟩, fun g hg => rd_wr_ne _ _ (by intro e; rw [e] at hg; exact hg h.1), summary_wr h v s, rd_wr_ne _ _ (Ne.symm hp),
    rd_wr_ne _ _ (Ne.symm hs)⟩

/-- A change of the tree's own state and the host's messages. -/
theorem treeOnly_own (a : Attn) (o : HostU) (s : State) : TreeOnly s { s with attn := a, host := o } :=
  ⟨⟨_, _, _, rfl⟩, fun _ _ => rfl, summary_congr rfl, rfl, rfl⟩

/-- The die answers the fabric as before. -/
theorem TreeOnly.answers {s u : State} (h : TreeOnly s u) : fabricAnswers u = fabricAnswers s := by
  have e := h.rd PWR.STATE (by decide)
  obtain ⟨r, a, o, rfl⟩ := h.eq
  unfold fabricAnswers hibernating
  rw [e]

/-- The cycle of the fabric is as long as before. -/
theorem TreeOnly.period {s u : State} (h : TreeOnly s u) : fabricPeriod u = fabricPeriod s := by
  unfold fabricPeriod; rw [h.rd SYS.CORE_SRC (by decide)]

/-- FIRST is written in the ATTN page alone. -/
theorem attnFirst_only (s : State) : TreeOnly s (attnFirst s) ∧ (attnFirst s).attn = s.attn := by
  unfold attnFirst
  simp only []
  split
  · refine ⟨((treeOnly_wr ?_ ?_ ?_ _ _).trans (treeOnly_wr ?_ ?_ ?_ _ _)).trans (treeOnly_wr ?_ ?_ ?_ _ _), rfl⟩ <;> decide
  · exact ⟨.refl s, rfl⟩

/-- ATTN_N is driven from the ATTN page alone, as its stages hold the condition (R93, R95). -/
theorem attnPin_only (e : Nat) (s : State) : TreeOnly s (attnPin e s) ∧ pinWants (attnPin e s) = pinWants s
    ∧ (attnPin e s).attn = { s.attn with holdEnd := (attnPin e s).attn.holdEnd }
    ∧ (pinWants s = false → rd (attnPin e s) ATTN.ASSERTED ≠ 1)
    ∧ (pinWants s = true → rd (attnPin e s) ATTN.HOLDOFF = 0 → rd (attnPin e s) ATTN.ASSERTED ≠ 0) := by
  unfold attnPin inc addTo
  split
  · next hc =>
    simp only [Bool.and_eq_true, beq_iff_eq] at hc
    refine ⟨(treeOnly_wr ?_ ?_ ?_ _ _).trans (treeOnly_wr ?_ ?_ ?_ _ _), rfl, rfl, fun h => ?_, fun _ _ => ?_⟩
    all_goals first | decide | skip
    · rw [hc.1.1] at h; cases h
    · rw [rd_wr_ne _ _ (by decide), rd_wr_same]; decide
  · next hc =>
    split
    · next hd =>
      simp only [Bool.and_eq_true, Bool.not_eq_true', beq_iff_eq] at hd
      refine ⟨((treeOnly_wr (f := ATTN.ASSERTED) ?_ ?_ ?_ 0 s).trans (treeOnly_wr (f := ATTN.HOLDOFF) ?_ ?_ ?_ 1 _)).trans
        (treeOnly_own _ _ _), rfl, rfl, fun _ => ?_, fun h => ?_⟩
      all_goals first | decide | skip
      · refine fun x => absurd ((rd_congr (s := wr ATTN.HOLDOFF 1 (wr ATTN.ASSERTED 0 s)) rfl ATTN.ASSERTED).trans x) ?_
        rw [rd_wr_ne _ _ (by decide), rd_wr_same]; decide
      · rw [hd.1] at h; cases h
    · next hd =>
      refine ⟨.refl s, rfl, rfl, fun h x => hd (by simp [h, x]), fun h1 h2 x => hc (by simp [h1, h2, x])⟩

/-- The STC's line follows its own condition, as its stages hold it (R96). -/
theorem attnStc_only (e : Nat) (s : State) : ∃ l k n, attnStc e s = { s with attn := { s.attn with stcLine := l, stcHold := k, stcHoldEnd := n } }
    ∧ (stcWants s = false → l = false) ∧ (stcWants s = true → k = false → l = true) := by
  unfold attnStc
  split
  · next h => simp only [Bool.and_eq_true] at h; exact ⟨_, _, _, rfl, fun x => by simp [x] at h, fun _ _ => rfl⟩
  · next h =>
    split
    · next h' => exact ⟨_, _, _, rfl, fun _ => rfl, fun x => by simp [x] at h'⟩
    · next h' =>
      refine ⟨s.attn.stcLine, s.attn.stcHold, s.attn.stcHoldEnd, rfl, fun x => ?_, fun x x' => ?_⟩
      · simpa [x] using h'
      · simpa [x, x'] using h

/-- A message of a vector changes the host side alone. -/
theorem msixSend_host (v : Nat) (s : State) : ∃ h, msixSend v s = { s with host := h } := by
  unfold msixSend; split
  · exact ⟨_, rfl⟩
  · split <;> exact ⟨_, rfl⟩

/-- So do the messages of a list of vectors. -/
theorem msixAll_host (l : List Nat) (s : State) : ∃ h, forEach l msixSend s = { s with host := h } := by
  induction l generalizing s with
  | nil => exact ⟨_, rfl⟩
  | cons v r ih =>
    obtain ⟨h, e⟩ := msixSend_host v s
    obtain ⟨h', e'⟩ := ih (msixSend v s)
    exact ⟨h', by rw [forEach, List.foldl_cons, ← forEach, e', e]⟩

/-- The vectors that have sent are those whose expression is non-zero. -/
theorem attnMsix_only (s : State) : ∃ o, attnMsix s = { s with host := o }
    ∧ o.vecHigh = (List.range 32).filter fun v => decide (rd s (HOST.VEC_KIND v) = 1) && vecExpr s s.attn.sum v := by
  unfold attnMsix
  simp only []
  generalize (List.range 32).filter (fun v => decide (rd s (HOST.VEC_KIND v) = 1) && vecExpr s s.attn.sum v) = on
  obtain ⟨h, e⟩ := msixAll_host (on.filter fun v => !s.host.vecHigh.contains v) s
  exact ⟨{ h with vecHigh := on }, by rw [e], rfl⟩

/-- The stages of the tree hold what the leaves and the masks are, so that nothing rises, and the vectors stand so. -/
structure Taken (s : State) : Prop where
  sum : s.attn.sum = summary s
  pin : s.attn.pinMask = rd s ATTN.PIN_MASK
  stc : s.attn.stcMask = rd s ATTN.STC_MASK
  priv : s.attn.priv = stcPrivate s

/-- The end of a cycle: what it changes, what the drivers are after it, and what its stages hold. -/
theorem attnEdge_only (e : Nat) (s : State) : TreeOnly s (attnEdge e s) ∧ (fabricAnswers s = true → Taken (attnEdge e s)
    ∧ (pinWants s = false → rd (attnEdge e s) ATTN.ASSERTED ≠ 1)
    ∧ (pinWants s = true → rd (attnEdge e s) ATTN.HOLDOFF = 0 → rd (attnEdge e s) ATTN.ASSERTED ≠ 0)
    ∧ (stcWants s = false → (attnEdge e s).attn.stcLine = false)
    ∧ (stcWants s = true → (attnEdge e s).attn.stcHold = false → (attnEdge e s).attn.stcLine = true)
    ∧ (attnEdge e s).host.vecHigh = (List.range 32).filter fun v =>
      decide (rd (attnEdge e s) (HOST.VEC_KIND v) = 1) && vecExpr (attnEdge e s) (summary (attnEdge e s)) v) := by
  by_cases hf : fabricAnswers s = true
  case neg =>
    rw [attnEdge, if_neg hf]
    exact ⟨.refl s, fun x => absurd x hf⟩
  rw [attnEdge, if_pos hf]
  obtain ⟨k1, f2⟩ := attnFirst_only s
  obtain ⟨k2, p2, p3, p4, p5⟩ := attnPin_only e (attnFirst s)
  have hw : pinWants (attnFirst s) = pinWants s := by unfold pinWants; rw [f2]
  rw [hw] at p4 p5
  have hs : stcWants (attnPin e (attnFirst s)) = stcWants s := by unfold stcWants; rw [p3, f2]
  generalize attnPin e (attnFirst s) = u at *
  obtain ⟨l, k, n, s1, s2, s3⟩ := attnStc_only e u
  rw [hs] at s2 s3
  rw [s1]
  obtain ⟨o, m1, m2⟩ := attnMsix_only (attnTake { u with attn := { u.attn with stcLine := l, stcHold := k, stcHoldEnd := n } })
  rw [m1]
  refine ⟨(k1.trans k2).trans (treeOnly_own _ _ _), fun _ => ⟨⟨rfl, rfl, rfl, rfl⟩, p4, p5, s2, fun h h' => s3 h h', ?_⟩⟩
  exact m2

/-- Core cycles pass: time and the marks of the present cycle change. -/
theorem jump_eq (d : Nat) (s : State) : ∃ t b, jump d s = { s with time := t, fab := b } ∧ t.stage = s.time.stage
    ∧ t.cycle = s.time.cycle + d := ⟨_, _, rfl, rfl, rfl⟩

@[simp] theorem jump_regs (d : Nat) (s : State) : (jump d s).regs = s.regs := rfl
@[simp] theorem jump_attn (d : Nat) (s : State) : (jump d s).attn = s.attn := rfl
@[simp] theorem jump_host (d : Nat) (s : State) : (jump d s).host = s.host := rfl
@[simp] theorem jump_cycle (d : Nat) (s : State) : (jump d s).time.cycle = s.time.cycle + d := rfl
@[simp] theorem rd_jump (d : Nat) (s : State) (f : Fld) : rd (jump d s) f = rd s f := rfl
@[simp] theorem fabricAnswers_jump (d : Nat) (s : State) : fabricAnswers (jump d s) = fabricAnswers s := rfl
@[simp] theorem fabricPeriod_jump (d : Nat) (s : State) : fabricPeriod (jump d s) = fabricPeriod s := rfl
@[simp] theorem summary_jump (d : Nat) (s : State) : summary (jump d s) = summary s := summary_congr rfl

/-- The tree is in step after the passing of time as it was before. -/
theorem treeFollows_jump (d : Nat) (s : State) (h : treeFollows s) : treeFollows (jump d s) := by
  have e : summary (jump d s) = summary s := summary_jump d s
  unfold treeFollows attnFollows stcFollows vectorsFollow stcCondition at *
  rw [e]
  exact h

/-- Time has passed: every component but time, the registers of the ATTN page, the marks of the cycle, the tree's own state and the
host's messages stands, and so does every register outside that page. -/
structure TimeOnly (s u : State) : Prop where
  eq : ∃ t r b a h, u = { s with time := t, regs := r, fab := b, attn := a, host := h }
  rd : ∀ f : Fld, f.key / 131072 ≠ 1 → rd u f = rd s f
  stage : u.time.stage = s.time.stage

theorem TimeOnly.refl (s : State) : TimeOnly s s := ⟨⟨_, _, _, _, _, rfl⟩, fun _ _ => rfl, rfl⟩

theorem TimeOnly.trans {s u v : State} (h : TimeOnly s u) (g : TimeOnly u v) : TimeOnly s v := by
  obtain ⟨_, _, _, _, _, rfl⟩ := h.eq
  obtain ⟨_, _, _, _, _, rfl⟩ := g.eq
  exact ⟨⟨_, _, _, _, _, rfl⟩, fun f hf => (g.rd f hf).trans (h.rd f hf), g.stage.trans h.stage⟩

theorem TreeOnly.time {s u : State} (h : TreeOnly s u) : TimeOnly s u := by
  have e := h.rd
  obtain ⟨_, _, _, rfl⟩ := h.eq
  exact ⟨⟨_, _, _, _, _, rfl⟩, e, rfl⟩

theorem timeOnly_jump (d : Nat) (s : State) : TimeOnly s (jump d s) := ⟨⟨_, _, _, _, _, rfl⟩, fun _ _ => rfl, rfl⟩

theorem timeOnly_toEdge (t : Nat) (s : State) : TimeOnly s (toEdge t s) := by
  unfold toEdge; simp only []
  split
  · exact (attnEdge_only _ s).1.time.trans (timeOnly_jump _ _)
  · exact timeOnly_jump _ _

/-- What the passing of time changes. -/
theorem advanceTo_only (t : Nat) (s : State) : TimeOnly s (advanceTo t s) := by
  unfold advanceTo
  split
  · exact .refl s
  · exact ((timeOnly_toEdge t s).trans (timeOnly_toEdge t _)).trans (timeOnly_jump _ _)

/-- A field outside the ATTN page reads as before. -/
theorem rd_advanceTo {f : Fld} (h : f.key / 131072 ≠ 1) (t : Nat) (s : State) : rd (advanceTo t s) f = rd s f := (advanceTo_only t s).rd f h

/-- The passing of time changes neither the stage nor the power state. -/
@[simp] theorem fabricAnswers_advanceTo (t : Nat) (s : State) : fabricAnswers (advanceTo t s) = fabricAnswers s := by
  have h := advanceTo_only t s
  have e := h.rd PWR.STATE (by decide)
  have g := h.stage
  obtain ⟨_, _, _, _, _, x⟩ := h.eq
  unfold fabricAnswers hibernating
  rw [e, g, x]

@[simp] theorem advanceTo_fuse (t : Nat) (s : State) : (advanceTo t s).fuse = s.fuse := by
  obtain ⟨_, _, _, _, _, h⟩ := (advanceTo_only t s).eq; rw [h]
@[simp] theorem advanceTo_sidr (t : Nat) (s : State) : (advanceTo t s).sidr = s.sidr := by
  obtain ⟨_, _, _, _, _, h⟩ := (advanceTo_only t s).eq; rw [h]
@[simp] theorem advanceTo_lane (t : Nat) (s : State) : (advanceTo t s).lane = s.lane := by
  obtain ⟨_, _, _, _, _, h⟩ := (advanceTo_only t s).eq; rw [h]
@[simp] theorem advanceTo_line (t : Nat) (s : State) : (advanceTo t s).line = s.line := by
  obtain ⟨_, _, _, _, _, h⟩ := (advanceTo_only t s).eq; rw [h]
@[simp] theorem advanceTo_pmon (t : Nat) (s : State) : (advanceTo t s).pmon = s.pmon := by
  obtain ⟨_, _, _, _, _, h⟩ := (advanceTo_only t s).eq; rw [h]
@[simp] theorem advanceTo_burst (t : Nat) (s : State) : (advanceTo t s).burst = s.burst := by
  obtain ⟨_, _, _, _, _, h⟩ := (advanceTo_only t s).eq; rw [h]
@[simp] theorem advanceTo_actv (t : Nat) (s : State) : (advanceTo t s).actv = s.actv := by
  obtain ⟨_, _, _, _, _, h⟩ := (advanceTo_only t s).eq; rw [h]
@[simp] theorem advanceTo_tm (t : Nat) (s : State) : (advanceTo t s).tm = s.tm := by
  obtain ⟨_, _, _, _, _, h⟩ := (advanceTo_only t s).eq; rw [h]
@[simp] theorem advanceTo_deck (t : Nat) (s : State) : (advanceTo t s).deck = s.deck := by
  obtain ⟨_, _, _, _, _, h⟩ := (advanceTo_only t s).eq; rw [h]
@[simp] theorem advanceTo_afe (t : Nat) (s : State) : (advanceTo t s).afe = s.afe := by
  obtain ⟨_, _, _, _, _, h⟩ := (advanceTo_only t s).eq; rw [h]
@[simp] theorem advanceTo_wgh (t : Nat) (s : State) : (advanceTo t s).wgh = s.wgh := by
  obtain ⟨_, _, _, _, _, h⟩ := (advanceTo_only t s).eq; rw [h]
@[simp] theorem advanceTo_usx (t : Nat) (s : State) : (advanceTo t s).usx = s.usx := by
  obtain ⟨_, _, _, _, _, h⟩ := (advanceTo_only t s).eq; rw [h]
@[simp] theorem advanceTo_leg (t : Nat) (s : State) : (advanceTo t s).leg = s.leg := by
  obtain ⟨_, _, _, _, _, h⟩ := (advanceTo_only t s).eq; rw [h]
@[simp] theorem advanceTo_bill (t : Nat) (s : State) : (advanceTo t s).bill = s.bill := by
  obtain ⟨_, _, _, _, _, h⟩ := (advanceTo_only t s).eq; rw [h]
@[simp] theorem advanceTo_sw (t : Nat) (s : State) : (advanceTo t s).sw = s.sw := by
  obtain ⟨_, _, _, _, _, h⟩ := (advanceTo_only t s).eq; rw [h]
@[simp] theorem advanceTo_pwr (t : Nat) (s : State) : (advanceTo t s).pwr = s.pwr := by
  obtain ⟨_, _, _, _, _, h⟩ := (advanceTo_only t s).eq; rw [h]
@[simp] theorem advanceTo_stc (t : Nat) (s : State) : (advanceTo t s).stc = s.stc := by
  obtain ⟨_, _, _, _, _, h⟩ := (advanceTo_only t s).eq; rw [h]
@[simp] theorem advanceTo_rpr (t : Nat) (s : State) : (advanceTo t s).rpr = s.rpr := by
  obtain ⟨_, _, _, _, _, h⟩ := (advanceTo_only t s).eq; rw [h]
@[simp] theorem advanceTo_loops (t : Nat) (s : State) : (advanceTo t s).loops = s.loops := by
  obtain ⟨_, _, _, _, _, h⟩ := (advanceTo_only t s).eq; rw [h]
@[simp] theorem advanceTo_tap (t : Nat) (s : State) : (advanceTo t s).tap = s.tap := by
  obtain ⟨_, _, _, _, _, h⟩ := (advanceTo_only t s).eq; rw [h]
@[simp] theorem advanceTo_tapIr (t : Nat) (s : State) : (advanceTo t s).tapIr = s.tapIr := by
  obtain ⟨_, _, _, _, _, h⟩ := (advanceTo_only t s).eq; rw [h]
@[simp] theorem advanceTo_testEn (t : Nat) (s : State) : (advanceTo t s).testEn = s.testEn := by
  obtain ⟨_, _, _, _, _, h⟩ := (advanceTo_only t s).eq; rw [h]
@[simp] theorem advanceTo_orry (t : Nat) (s : State) : (advanceTo t s).orry = s.orry := by
  obtain ⟨_, _, _, _, _, h⟩ := (advanceTo_only t s).eq; rw [h]
@[simp] theorem advanceTo_led (t : Nat) (s : State) : (advanceTo t s).led = s.led := by
  obtain ⟨_, _, _, _, _, h⟩ := (advanceTo_only t s).eq; rw [h]
@[simp] theorem advanceTo_pending (t : Nat) (s : State) : (advanceTo t s).pending = s.pending := by
  obtain ⟨_, _, _, _, _, h⟩ := (advanceTo_only t s).eq; rw [h]

/-- Two cycles of the register fabric leave the whole attention tree in step with its leaves (R93 to R96, R432). -/
theorem advanceTo_follows {t : Nat} {s : State} (h : twoCycles s ≤ t) : treeFollows (advanceTo t s) := by
  have hp : 0 < fabricPeriod s := by unfold fabricPeriod; split <;> decide
  unfold twoCycles at h
  generalize hq : s.time.cycle / fabricPeriod s = q at h
  have hc : s.time.cycle < (q + 1) * fabricPeriod s := by
    rw [← hq]; exact Nat.lt_mul_of_div_lt (Nat.lt_succ_self _) hp
  have h1 : (q + 1) * fabricPeriod s ≤ t := Nat.le_trans (Nat.mul_le_mul_right _ (Nat.le_succ _)) h
  have e1 : toEdge t s = jump ((q + 1) * fabricPeriod s - s.time.cycle) (attnEdge ((q + 1) * fabricPeriod s) s) := by
    unfold toEdge; simp only [hq]; rw [if_pos h1]
  unfold advanceTo
  rw [if_neg (by omega)]
  simp only []
  refine treeFollows_jump _ _ ?_
  obtain ⟨k1, t1⟩ := attnEdge_only ((q + 1) * fabricPeriod s) s
  have hcyc : (toEdge t s).time.cycle = (q + 1) * fabricPeriod s := by
    have : (attnEdge ((q + 1) * fabricPeriod s) s).time.cycle = s.time.cycle := by
      obtain ⟨_, _, _, x⟩ := k1.eq; rw [x]
    rw [e1, jump_cycle, this]; omega
  have hper : fabricPeriod (toEdge t s) = fabricPeriod s := by rw [e1, fabricPeriod_jump, k1.period]
  generalize hu : toEdge t s = u at *
  have e2 : toEdge t u = jump ((q + 2) * fabricPeriod s - u.time.cycle) (attnEdge ((q + 2) * fabricPeriod s) u) := by
    unfold toEdge; simp only [hcyc, hper, Nat.mul_div_cancel _ hp]; rw [if_pos h]
  rw [e2]
  refine treeFollows_jump _ _ ?_
  obtain ⟨k2, t2⟩ := attnEdge_only ((q + 2) * fabricPeriod s) u
  have ha : fabricAnswers u = fabricAnswers s := by rw [e1, fabricAnswers_jump, k1.answers]
  by_cases hf : fabricAnswers s = true
  case neg =>
    have hn : fabricAnswers (attnEdge ((q + 2) * fabricPeriod s) u) ≠ true := by rw [k2.answers, ha]; exact hf
    exact ⟨fun x => absurd x hn, fun x => absurd x hn, fun x => absurd x hn⟩
  obtain ⟨w1, -⟩ := t1 hf
  have w : Taken u := by
    rw [e1]; exact ⟨w1.sum.trans (summary_jump _ _).symm, w1.pin, w1.stc, w1.priv⟩
  obtain ⟨g1, g2, g3, g4, g5, g6⟩ := t2 (ha.trans hf)
  have hpin : pinWants u = (clearBits (summary (attnEdge ((q + 2) * fabricPeriod s) u))
      (rd (attnEdge ((q + 2) * fabricPeriod s) u) ATTN.PIN_MASK) != 0) := by
    unfold pinWants; rw [w.sum, w.pin, k2.sum, k2.pin]
  have hstc : stcWants u = stcCondition (attnEdge ((q + 2) * fabricPeriod s) u) := by
    unfold stcWants stcCondition stcPrivate; rw [w.sum, w.stc, w.priv, k2.sum, k2.stc]
    unfold stcPrivate
    rw [k2.rd (HDR.CAUSE 0xF0) (by rw [HDR.CAUSE_key]; decide), k2.rd (HDR.MASK 0xF0) (by rw [HDR.MASK_key]; decide)]
  rw [hpin] at g2 g3
  rw [hstc] at g4 g5
  refine ⟨fun _ => ⟨g1.sum, fun x => g2 (by simpa using x), fun x => g3 (by simpa using x)⟩, fun _ => ⟨fun x y => g5 y x, g4⟩, fun _ => g6⟩

end Sys2Proof.Machine
end

