-- ==== Sys2Proof/Laws/Step.lean ====
section
/-! SUPPORT. The wrappers that every command's effect runs in, said once each: what a command answers where the die answers the fabric,
and what an accepted or refused write of a command register is. -/
namespace Sys2Proof.Machine

/-- A command whose die answers the fabric takes its effect on the state it meets. -/
theorem ev_of_meets {t : Nat} {s m : State} (h : meets t s m) (f : State → State) : ev t s f = .next (f m) := by
  obtain ⟨h, rfl⟩ := h
  simp [ev, h]

/-- A command of a comer whose die answers the fabric takes its effect on the state the comer meets. -/
theorem evBy_of_meets {c : Comer} {t : Nat} {s m : State} (h : meetsBy c t s m) (f : State → State) : evBy c t s f = .next (f m) := by
  obtain ⟨h, rfl⟩ := h
  simp [evBy, h]

/-- A command whose die does not answer the fabric only lets time pass. -/
theorem ev_of_asleep {t : Nat} {s : State} (h : fabricAnswers s = false) (f : State → State) : ev t s f = .next (advanceTo t s) := by
  simp [ev, h]

/-- A comer whose die does not answer the fabric only lets time pass. -/
theorem evBy_of_asleep {c : Comer} {t : Nat} {s : State} (h : fabricAnswers s = false) (f : State → State) :
    evBy c t s f = .next (advanceTo t s) := by
  simp [evBy, h]

/-- A command answers a next state, whatever the die does. -/
theorem ev_next (t : Nat) (s : State) (f : State → State) : ∃ u, ev t s f = .next u := ⟨_, rfl⟩

/-- A comer's command answers a next state, whatever the die does. -/
theorem evBy_next (c : Comer) (t : Nat) (s : State) (f : State → State) : ∃ u, evBy c t s f = .next u := ⟨_, rfl⟩

/-- No check fails. -/
theorem firstFail_none {l : List (Bool × Code)} : firstFail l = none ↔ ∀ x ∈ l, x.1 = false := by
  induction l with
  | nil => simp [firstFail]
  | cons a r ih => rcases a with ⟨_ | _, k⟩ <;> simp [firstFail, ih]

/-- An accepted command register write takes its effect on the accepted state. -/
theorem fabricCmd_accepted {p : Port} {page off : Nat} {codeF : Option Fld} {checks : List (Bool × Code)} {act : State → State} {s : State}
    (ho : opens s p page) (hc : firstFail checks = none) :
    fabricCmd p page off codeF checks act s = act (accepted p page codeF s) := by
  obtain ⟨h1, h2, h3⟩ := ho
  cases codeF <;> simp [fabricCmd, pageChecks, firstFail, h1, h2, h3, hc, accepted]

/-- A command register write that a check of its own refuses. -/
theorem fabricCmd_refused {p : Port} {page off : Nat} {codeF : Option Fld} {checks : List (Bool × Code)} {act : State → State} {s : State}
    {c : Code} (ho : opens s p page) (hc : firstFail checks = some c) :
    fabricCmd p page off codeF checks act s = refusedAs p page off codeF c s := by
  obtain ⟨h1, h2, h3⟩ := ho
  cases codeF <;> simp [fabricCmd, pageChecks, firstFail, h1, h2, h3, hc, refusedAs]

/-- An accepted write of a writer takes its effect on the accepted state. -/
theorem writerCmd_accepted {w : Writer} {page off : Nat} {codeF : Option Fld} {busy sealed : Bool} {checks : List (Bool × Code)}
    {act : State → State} {s : State} (ho : opensTo s w page) (hb : busy = false) (hs : w = .lgc ∨ sealed = false)
    (hc : firstFail checks = none) : writerCmd w page off codeF busy sealed checks act s = act (acceptedBy w page codeF s) := by
  subst hb
  cases w with
  | lgc => cases codeF <;> simp [writerCmd, firstFail, hc, acceptedBy]
  | fabric p =>
    have hs : sealed = false := by simpa using hs
    subst hs
    simp only [writerCmd, acceptedBy]
    exact fabricCmd_accepted ho (by simpa [firstFail] using hc)

/-- A write that names its register and passes the page's checks. -/
theorem namedWrite_opens {p : Port} {page off : Nat} {act : State → State} {s : State} (h : opensAt s p page off) :
    namedWrite p page off act s = act s := by
  obtain ⟨⟨h1, h2, h3⟩, h4, h5⟩ := h
  simp [namedWrite, gate, firstFail, h1, h2, h3, h4, h5]

/-- A 32-bit write that passes the page's checks. -/
theorem fabricWrite_opens {p : Port} {page off v : Nat} {x : Outside} {s : State} (h : opensAt s p page off) :
    fabricWrite p page off v x s = routeWrite p page off v x s := by
  obtain ⟨⟨h1, h2, h3⟩, h4, h5⟩ := h
  simp [fabricWrite, gate, firstFail, h1, h2, h3, h4, h5]

/-- What worst does with one more check, its code so far being a. -/
def worstStep (a : Option Code) (x : Bool × Code) : Option Code :=
  if !x.1 then a else
  match a with
  | none => some x.2
  | some c => if x.2.rank < c.rank then some x.2 else a

/-- A code once found stays some code. -/
theorem worstStep_some (l : List (Bool × Code)) (c : Code) : ∃ d, l.foldl worstStep (some c) = some d := by
  induction l generalizing c with
  | nil => exact ⟨c, rfl⟩
  | cons b r ih =>
    obtain ⟨d, hd⟩ : ∃ d, worstStep (some c) b = some d := by
      unfold worstStep; dsimp only; repeat' split
      all_goals exact ⟨_, rfl⟩
    rw [List.foldl_cons, hd]; exact ih d

/-- No check fails, in the order of R85. -/
theorem worst_none {l : List (Bool × Code)} : worst l = none ↔ ∀ x ∈ l, x.1 = false := by
  change l.foldl worstStep none = none ↔ _
  induction l with
  | nil => simp
  | cons b r ih =>
    rcases b with ⟨_ | _, k⟩
    · rw [List.foldl_cons, show worstStep none (false, k) = none from rfl, ih, List.forall_mem_cons]; simp
    · rw [List.foldl_cons, show worstStep none (true, k) = some k from rfl]
      obtain ⟨d, hd⟩ := worstStep_some r k
      rw [hd, List.forall_mem_cons]; simp

/-- A write whose checks all pass takes its effect, the lease running anew. -/
theorem guarded_passes {p : Port} {page off : Nat} {checks : List (Bool × Code)} {act : State → State} {s : State}
    (h : worst checks = none) : guarded p page off checks act s = act (renewLease p page s) := by
  simp [guarded, h]

/-- A write that a check refuses leaves the record of its refusal. -/
theorem guarded_refused {p : Port} {page off : Nat} {checks : List (Bool × Code)} {act : State → State} {s : State} {c : Code}
    (h : worst checks = some c) : guarded p page off checks act s = refuseWrite p page off c s := by
  simp [guarded, h]

/-- The halt of a unit by a TRIG break stands while a trigger is counted. -/
theorem tallyOf_modTally (u : Nat) (f : TrigTally → TrigTally) (s : State) : tallyOf (modTally u f s).led.trig u = f (tallyOf s.led.trig u) := by
  simp [tallyOf, modTally]

/-- A trigger whose unit takes triggers has its effect once it is counted. -/
theorem arrive_takes {src : TrigSrc} {u : Nat} {act : State → State} {s : State} (h : takesTriggers (arrived src u s) u) :
    arrive src u act s = act (arrived src u s) := by
  obtain ⟨h1, h2⟩ := h
  unfold arrived at *
  cases src <;> simp_all [arrive, countSrc, modTally]

end Sys2Proof.Machine
end

