-- ==== Sys2Proof/WellFormed.lean ====
section
/-! DEFINITION. Which commands are well formed: every operand lies in the range that its register, pin or message gives it. The rules that
refuse a value of such a range stand in the meanings, not here. -/
namespace Sys2Proof

/-- A value fits a width. -/
def fits (w v : Nat) : Bool := decide (v < 2 ^ w)

/-- A value lies below a bound. -/
def below (n v : Nat) : Bool := decide (v < n)

/-- A signed value fits a width. -/
def fitsS (w : Nat) (i : Int) : Bool := decide (-(2 : Int) ^ (w - 1) ≤ i ∧ i < (2 : Int) ^ (w - 1))

/-- Every element is a byte. -/
def areBytes (l : List Nat) : Bool := l.all (fits 8)

/-- At most n bytes. -/
def bytesTo (n : Nat) (l : List Nat) : Bool := areBytes l && decide (l.length ≤ n)

/-- Exactly n bytes. -/
def bytesOf (n : Nat) (l : List Nat) : Bool := areBytes l && decide (l.length = n)

/-- A register's offset in its page. -/
def isOffset (off : Nat) : Bool := decide (off < 4096 ∧ off % 4 = 0)

/-- A page number and a 32-bit word. -/
def pageWord (page v : Nat) : Bool := fits 8 page && fits 32 v

/-- A trigger's ACTION (8 bits) and ARG (16 bits) (R41). -/
def trigWord (action arg : Nat) : Bool := fits 8 action && fits 16 arg

/-- KIND, INSTANCE and INDEX of RPR_CMD (R483). -/
def rprWord (kind inst idx : Nat) : Bool := fits 4 kind && fits 4 inst && fits 12 idx

/-- Engines by number, and the 16-byte entries of the two halves of the flash repair region (R467, R486). -/
def bootData (failed : List Nat) (a b : List (List Nat)) : Bool := failed.all (below 9) && a.all (bytesOf 16) && b.all (bytesOf 16)

/-- The command's operands lie in the ranges of their fields. -/
def Instr.wf : Instr → Bool
  | .registerWrite _ _ addr size v x => fits 20 addr && [1, 2, 4, 8].contains size && fits (8 * size) v && fits 8 x.mode
  | .latchingRead _ _ b => fits 20 b.addr && [1, 2, 4, 8].contains b.size
  | .testEnAssert _ | .holdoffEnd _ => true
  | .pairLoWrite _ _ page off v | .pairHiWrite _ _ page off v | .causeClear _ _ page off v => pageWord page v && isOffset off
  | .pageLock _ _ page v | .tickCommit _ _ page v | .tickDiscard _ _ page v | .causeForce _ _ page v => pageWord page v
  | .lockLeaseExpire _ page | .rwcGroupApply _ page => fits 8 page
  | .tickCommitCycle _ tj rosc age => fitsS 16 tj && decide (rosc.length = 8) && rosc.all (fits 16) && decide (age.length = 16)
      && age.all (fun m => fitsS 16 m.1 && fitsS 16 m.2.1 && fits 32 m.2.2)
  | .subForce _ _ page word v => pageWord page v && below 32 word
  | .advanceApply _ | .uncertGrowth _ | .mainsCrossing _ | .mainsTimeout _ | .slewAdjustment _ | .scStep _ | .ephemeris _
  | .ephTimeout _ | .orreryFire _ | .snapshotCopy _ | .sdContradict _ | .modTxfltAssert _ | .txfltTimeout _ | .rxcTimeout _
  | .txDriverFault _ | .txTrainingDone _ | .losDetect _ | .losClear _ | .lofDetect _ | .sfWindow _ | .sdWindow _ | .pmSecond _
  | .secondFinal _ | .binHistory _ | .grantEntry _ | .burstLaunch _ | .burstProfile _ | .assignId _ | .rangingTime _ | .deactivate _
  | .disable _ | .enable _ | .popup _ | .to1Expire _ | .to2Expire _ | .roguePad _ | .txenLow _ | .staging _ | .tokenRefill _ | .drained _
  | .blankEdge _ | .blankFall _ | .blankStuck _ | .takeoverApply _ | .deCheck _ | .sequenceEnd _ | .getLegalId _ | .idComputeDone _
  | .logRead _ | .sessionStart _ | .sessionResponse _ | .paramRead _ | .paramWrite _ | .commit _ | .calCommitDone _ | .sessionDiscard _
  | .rollover _ | .sessionClearBreak _ | .sessionClose _ | .sessionTimeout _ | .stcImageCheck _ | .sealSwEdge _ | .sealLeftOpen _
  | .totalsCommit _ | .deliveryOpen _ | .deliveryStop _ | .topup _ | .expire _ | .accountClose _ | .accountOpen _ | .priceStage _
  | .emergency _ | .deliveryClose _ | .deliveryBook _ | .unattributedClose _ | .rampTimeout _ | .rampOffDone _ | .retryBackoffEnd _
  | .retryCountReset _ | .pwrWarnAssert _ | .pwrWarnDeassert _ | .warnStuck _ | .weldCheck _ | .quiesceDone _ | .rtcAlarm _
  | .wakeClockRestore _ | .railTimeout _ | .pgoodLost _ | .thermalForcedTrim _ | .stcWdogExpire _ | .bootTimeout _ | .sclTimeout _
  | .columnCopyDone _ | .resetAssert _ | .fabricReady _ | .vaonPor _ | .totalsCommitDone _ | .rolloverDone _ => true
  | .almanacInstall _ _ | .almanacRemove _ _ | .almanacRead _ _ | .snapshot _ _ | .snapshotRelease _ _ | .clearHistory _ _
  | .goOperation _ _ | .rejoin _ _ | .upmsgSend _ _ | .clsInstall _ _ | .clsRemove _ _ | .clsRead _ _ | .tmReset _ _ | .keyImport _ _
  | .keyErase _ _ | .clearLatch _ _ | .ctlClk _ _ | .hostWake _ _ | .wakePop _ _ | .stcKick _ _ | .flGo _ _ | .twcGo _ _ | .outPost _ _
  | .evtPop _ _ | .oevPop _ _ | .ceClear _ _ | .recPop _ _ => true
  | .modSdEdge _ _ | .txSwapDone _ _ | .pathConfig _ _ | .keyControl _ _ | .price _ _ | .credit _ _ | .oamRequest _ _ | .clearLockout _ _ _
  | .tamper _ _ | .selftestDone _ _ | .perstAssert _ _ _ | .hotReset _ _ _ | .functionLevelReset _ _ _ | .d3hot _ _ _ => true
  | .vecRearm _ _ v | .advanceWrite _ _ v | .binSel _ _ v | .telSel _ _ v | .evtPost _ _ v => fits 32 v
  | .coalTimeout _ vec => below 32 vec
  | .learnMeasurement _ ppb => fitsS 32 ppb
  | .entryUe _ i => fits 8 i
  | .clearBreak _ _ domain => fits 4 domain
  | .lanePhaseDone _ lane centre => below 3 lane && fits 6 centre
  | .laneDeskewDone _ lane x => below 3 lane && fitsS 16 x.off && fits 16 x.cand && fits 16 x.hits
  | .laneAdaptDone _ lane | .trainTimeout _ lane | .laneRetry _ lane | .fenceHeld _ lane => below 3 lane
  | .laneWindow _ lane corrected eye _ x => below 3 lane && fits 16 eye && corrected.all (below 2560000) && x.mismatches.all (below 640000)
      && x.uncorrectable.all (below 1290)
  | .eqUpdate _ lane param ask => below 3 lane && below 6 param && fitsS 16 ask
  | .retrain _ _ lane _ | .laneHold _ _ lane | .laneRelease _ _ lane | .txSwap _ _ lane | .txfltClear _ _ lane _ => fits 3 lane
  | .rxcWindow _ ppm => fitsS 16 ppm
  | .downstreamFrame _ x => below 8 x.sub && x.x0.all (below 4) && x.x1.all (below 4) && x.x2.all (below 4)
  | .binClose _ _ _ action => fits 8 action
  | .ingressFrame _ src d => below 19 src && areBytes d
  | .egressFrame _ ready bufs => ready.all (below 19) && bufs.all (fits 64)
  | .flushQueue _ _ q => fits 10 q
  | .upswArm _ _ cont lo hi => below 16 cont && fits 32 lo && fits 32 hi
  | .oamSetActivate _ _ arg | .hostBankActivate _ _ arg | .loopUpdate _ _ arg | .connect _ _ arg | .disconnect _ _ arg | .setTotal _ _ arg
  | .activatePrices _ _ _ arg | .tarfEvaluate _ _ _ arg | .prepEvaluate _ _ _ arg | .arm _ _ _ arg => fits 16 arg
  | .doorbell _ off v _ => fits 16 off && fits 32 v
  | .hostJob _ desc ctx => bytesOf 64 desc && areBytes ctx
  | .hostJobDone _ ring aad tag _ _ => below 8 ring && areBytes aad && areBytes tag
  | .dealerRound _ x => fits 16 x.cycles && x.stalled.all fun x => below 9 x.1 && below 65 x.2
  | .engineRelease _ h => below 9 h.engine && areBytes h.input
  | .dealerReclaim _ e | .engineTest _ e _ => below 9 e
  | .pinCfgWrite _ _ pin v => below 32 pin && fits 32 v
  | .excCfgWrite _ _ pair v => below 8 pair && fits 32 v
  | .excReversal _ pair | .excTimeout _ pair => below 8 pair
  | .excGuardFrame _ pair current pm _ => below 8 pair && fits 16 current && fits 10 pm
  | .sliceSample _ slice _ cm => below 18 slice && fits 16 cm
  | .sliceStall _ slice | .sliceTest _ slice _ => below 18 slice
  | .blankTrigger _ _ _ action arg | .sequence _ _ _ action arg | .stcEvent _ _ _ action arg | .powerTrigger _ _ action arg => trigWord action arg
  | .convert _ _ chan _ action arg => below 16 chan && trigWord action arg
  | .afeBlank _ _ v => fits 32 v
  | .blankWindowEnd _ group => below 9 group
  | .trigInEdge _ n _ => below 4 n
  | .shadow _ _ x a => below 18 x && below 18 a
  | .shadowRelease _ _ x => below 18 x
  | .takeover _ _ x a result => below 18 x && below 18 a && fits 2 result
  | .hostHiWrite _ _ n v => below 2 n && fits 32 v
  | .loopControl _ n cur => below 2 n && fits 16 cur
  | .loopStale _ n => below 2 n
  | .weighOutput _ chan => below 16 chan
  | .notchFenceHeld _ chan notch => below 16 chan && below 4 notch
  | .zeroStale _ set | .setCmdExecute _ set | .winDone _ set | .zero _ _ set | .tare _ _ set | .presetTare _ _ set | .clearTare _ _ set =>
      below 8 set
  | .wchConvert _ _ chan arg => below 16 chan && fits 16 arg
  | .usxSequenceCmd _ _ arg => fits 9 arg
  | .usxShot _ _ amp => fits 16 amp
  | .discharge _ _ => true
  | .tempHoldExpire _ port => below 3 port
  | .vresSample _ mv => fits 16 mv
  | .readPos _ _ pos => fits 32 pos
  | .lgcHalt _ reason => fits 8 reason
  | .switchSample _ vin vout v cm => fits 16 vin && fits 16 vout && decide (v.length = cm.length ∧ v.length ≤ 4) && cm.all (fits 16)
  | .fastTrip _ phase => below 4 phase
  | .phaseClear _ _ phase => fits 2 phase
  | .powerRequest _ _ target => fits 3 target
  | .wakeEdge _ pin _ | .wakeStuck _ pin => below 2 pin
  | .addressMatch _ addr => fits 7 addr
  | .hibernateExit _ failed a b => bootData failed a b
  | .vregAck _ mv => fits 16 mv
  | .vregAckTimeout _ status => fits 16 status
  | .vregEnable _ _ v mode => fits 32 v && fits 8 mode
  | .railOutOfWindow _ now => fits 7 now
  | .hostTxFrame _ descs data _ => descs.all (bytesOf 16) && areBytes data
  | .ethLinkUp _ port | .ethLinkDown _ port _ => below 2 port
  | .stcBoot _ a b _ _ => bytesOf 64 a && bytesOf 64 b
  | .stcRestart _ _ slot => below 2 slot
  | .flDone _ data => bytesTo 32 data
  | .twoWireWrite _ addr bytes x => fits 7 addr && areBytes bytes && fits 8 x.mode
  | .twoWireRead _ addr head _ => fits 7 addr && areBytes (head.getD [])
  | .twcDone _ result data | .modulePoll _ result data => below 5 result && bytesTo 8 data
  | .reqPost _ _ w | .rspAck _ _ w | .stcRspTimeout _ w | .getInfo _ w | .power _ w | .policySet _ w | .moduleRead _ w | .moduleWrite _ w
  | .pmReport _ w | .oamSend _ w | .repairForward _ w _ | .repairReport _ w | .imageBegin _ w | .imageData _ w | .imageCommit _ w
  | .activationEnable _ w | .activationDisable _ w | .activationRejoin _ w | .recordForward _ w => below 3 w
  | .correctedError _ kind inst row _ _ => rprWord kind inst row
  | .uncorrectableError _ kind inst row entry _ _ => rprWord kind inst row && fits 4 entry
  | .rowTestDone _ bank row _ => below 16 bank && fits 12 row
  | .rowCopyDone _ kind row => fits 4 kind && fits 12 row
  | .rprTest _ _ kind inst idx _ | .rprRetire _ _ kind inst idx _ | .rprColumn _ _ kind inst idx => rprWord kind inst idx
  | .marginLow _ k => below 16 k
  | .resetRelease _ up down failed a b => fits 3 up && fits 3 down && bootData failed a b
  | .tapInstruction _ code _ => fits 8 code
  | .rangeRecovery _ g => match g with
      | .wake n => below 2 n
      | .modSd | .blank | .sealSw | .pwrWarn => true
  | .pcieLinkDown _ speed width => fits 3 speed && fits 2 width

end Sys2Proof
end

