-- ==== Sys2Proof/Tests/Slice0.lean ====
section
/-! SUPPORT. The model's own tests: an ill-formed term for each check of WellFormed; values that the manual works out; and for every clause
of every statement with hypotheses, a state and operands that meet all of them. -/
namespace Sys2Proof.Tests
open Sys2Proof Sys2Proof.Machine
set_option Elab.async false
set_option linter.unusedVariables false
set_option linter.unusedSimpArgs false

/-! ## Well-formedness: one ill-formed term for each check, which the check refuses -/

theorem test_wf_address : (Instr.registerWrite 0 .pcie (2 ^ 20) 4 0 {}).wf = false := by decide
theorem test_wf_size : (Instr.registerWrite 0 .pcie 0 3 0 {}).wf = false := by decide
theorem test_wf_write_value : (Instr.registerWrite 0 .pcie 0 2 65536 {}).wf = false := by decide
theorem test_wf_mode : (Instr.registerWrite 0 .pcie 0 4 0 { mode := 256 }).wf = false := by decide
theorem test_wf_read_address : (Instr.latchingRead 0 .pcie ⟨2 ^ 20, 4⟩).wf = false := by decide
theorem test_wf_page : (Instr.pageLock 0 .pcie 256 0).wf = false := by decide
theorem test_wf_word : (Instr.pageLock 0 .pcie 3 (2 ^ 32)).wf = false := by decide
theorem test_wf_offset : (Instr.pairLoWrite 0 .pcie 3 0x102 0).wf = false := by decide
theorem test_wf_offset_high : (Instr.causeClear 0 .pcie 3 0x1000 0).wf = false := by decide
theorem test_wf_lease_page : (Instr.lockLeaseExpire 0 256).wf = false := by decide
theorem test_wf_junction : (Instr.tickCommitCycle 0 32768 (List.replicate 8 0) (List.replicate 16 (0, 0, 0))).wf = false := by decide
theorem test_wf_rosc : (Instr.tickCommitCycle 0 0 [] (List.replicate 16 (0, 0, 0))).wf = false := by decide
theorem test_wf_monitors : (Instr.tickCommitCycle 0 0 (List.replicate 8 0) []).wf = false := by decide
theorem test_wf_monitor_value : (Instr.tickCommitCycle 0 0 (List.replicate 8 0) (List.replicate 16 (0, 0, 2 ^ 32))).wf = false := by decide
theorem test_wf_sub_word : (Instr.subForce 0 .pcie 3 32 0).wf = false := by decide
theorem test_wf_rearm : (Instr.vecRearm 0 .pcie (2 ^ 32)).wf = false := by decide
theorem test_wf_vector : (Instr.coalTimeout 0 32).wf = false := by decide
theorem test_wf_ppb : (Instr.learnMeasurement 0 (2 ^ 31)).wf = false := by decide
theorem test_wf_index : (Instr.entryUe 0 256).wf = false := by decide
theorem test_wf_domain : (Instr.clearBreak 0 .pcie 16).wf = false := by decide
theorem test_wf_lane : (Instr.lanePhaseDone 0 3 0).wf = false := by decide
theorem test_wf_centre : (Instr.lanePhaseDone 0 0 64).wf = false := by decide
theorem test_wf_lane_window : (Instr.laneWindow 0 0 [] 65536 false {}).wf = false := by decide
theorem test_wf_param : (Instr.eqUpdate 0 0 6 0).wf = false := by decide
theorem test_wf_ask : (Instr.eqUpdate 0 0 0 (-32769)).wf = false := by decide
theorem test_wf_lane_field : (Instr.txSwap 0 .pcie 8).wf = false := by decide
theorem test_wf_sub_step : (Instr.downstreamFrame 0 ⟨8, [], [], []⟩).wf = false := by decide
theorem test_wf_symbols : (Instr.downstreamFrame 0 ⟨0, [], [4], []⟩).wf = false := by decide
theorem test_wf_offset_ui : (Instr.laneDeskewDone 0 0 ⟨32768, 0, 0⟩).wf = false := by decide
theorem test_wf_mismatch : (Instr.laneWindow 0 0 [] 0 false { mismatches := [640000] }).wf = false := by decide
theorem test_wf_stalled : (Instr.dealerRound 0 ⟨0, [(9, 0)]⟩).wf = false := by decide
theorem test_wf_source : (Instr.ingressFrame 0 19 []).wf = false := by decide
theorem test_wf_ready : (Instr.egressFrame 0 [19] []).wf = false := by decide
theorem test_wf_queue : (Instr.flushQueue 0 .pcie 1024).wf = false := by decide
theorem test_wf_container : (Instr.upswArm 0 .pcie 16 0 0).wf = false := by decide
theorem test_wf_arg : (Instr.connect 0 .cmd 65536).wf = false := by decide
theorem test_wf_descriptor : (Instr.hostJob 0 [] []).wf = false := by decide
theorem test_wf_engine : (Instr.engineRelease 0 ⟨9, []⟩).wf = false := by decide
theorem test_wf_pin : (Instr.pinCfgWrite 0 .lgc 32 0).wf = false := by decide
theorem test_wf_pair : (Instr.excReversal 0 8).wf = false := by decide
theorem test_wf_slice : (Instr.sliceStall 0 18).wf = false := by decide
theorem test_wf_action : (Instr.sequence 0 .cmd 0 256 0).wf = false := by decide
theorem test_wf_trigger_pin : (Instr.trigInEdge 0 4 false).wf = false := by decide
theorem test_wf_result : (Instr.takeover 0 .lgc 0 1 4).wf = false := by decide
theorem test_wf_channel : (Instr.weighOutput 0 16).wf = false := by decide
theorem test_wf_set : (Instr.zero 0 .pcie 8).wf = false := by decide
theorem test_wf_sequence_arg : (Instr.usxSequenceCmd 0 .pcie 512).wf = false := by decide
theorem test_wf_port : (Instr.tempHoldExpire 0 3).wf = false := by decide
theorem test_wf_sample : (Instr.switchSample 0 0 0 [0] []).wf = false := by decide
theorem test_wf_phase : (Instr.fastTrip 0 4).wf = false := by decide
theorem test_wf_target : (Instr.powerRequest 0 .stc 8).wf = false := by decide
theorem test_wf_wake_pin : (Instr.wakeEdge 0 2 false).wf = false := by decide
theorem test_wf_two_wire_address : (Instr.addressMatch 0 128).wf = false := by decide
theorem test_wf_rails : (Instr.railOutOfWindow 0 128).wf = false := by decide
theorem test_wf_flash_entry : (Instr.hibernateExit 0 [] [[0]] []).wf = false := by decide
theorem test_wf_header : (Instr.stcBoot 0 [] [] false false).wf = false := by decide
theorem test_wf_flash_data : (Instr.flDone 0 (List.replicate 33 0)).wf = false := by decide
theorem test_wf_window : (Instr.reqPost 0 .pcie 3).wf = false := by decide
theorem test_wf_kind : (Instr.marginLow 0 16).wf = false := by decide
theorem test_wf_cell : (Instr.correctedError 0 1 16 0 0 .free).wf = false := by decide
theorem test_wf_strap : (Instr.resetRelease 0 8 0 [] [] []).wf = false := by decide

/-! ## States that the tests share -/

/-- The state in which the service of the front request runs. -/
def taken (m : State) : State :=
  { billTriggers m with leg := { (billTriggers m).leg with
    queue := m.leg.queue.tail, taken := takenNow (billTriggers m) + 1, takenSc := tickNo (billTriggers m) } }

theorem takes_iff (r : LgcReq) (m b : State) : takes r m b ↔
    onTick m = true ∧ lgcRuns m = true ∧ m.leg.queue.head? = some r ∧ (billTriggers m).leg.queue = m.leg.queue
      ∧ takenNow (billTriggers m) < 4 ∧ (r.code = 0x88 → r.checked = true) ∧ b = taken m := by
  constructor
  · rintro ⟨h1, h2, q, h3, h4, h5, h7, h6⟩
    exact ⟨h1, h2, by simp [h3], by rw [h4, h3], h5, h7, by rw [h6, taken, h3, List.tail_cons]⟩
  · rintro ⟨h1, h2, h3, h4, h5, h7, h6⟩
    cases h : m.leg.queue with
    | nil => rw [h] at h3; simp at h3
    | cons x q =>
      rw [h] at h3 h4
      rw [taken, h] at h6
      simp only [List.head?_cons, Option.some.injEq] at h3
      subst h3
      exact ⟨h1, h2, q, h, h4, h5, h7, h6⟩

/-- The state in which the operation of a session command runs. -/
def sessionNext (r : LgcReq) (b : State) : State :=
  wr LEGL.SESSION_SEQ (le (slice r.data 0 4))
    { b with leg := { b.leg with badTags := 0, accepted := b.leg.accepted + 1, lastCmd := b.time.ticks } }

theorem inSession_iff (r : LgcReq) (b a : State) : inSession r b a ↔
    sealOpen b = true ∧ 21 ≤ r.data.length ∧ r.data.drop (r.data.length - 16) = sessionTag b (r.data.take (r.data.length - 16))
      ∧ le (slice r.data 0 4) = rd b LEGL.SESSION_SEQ + 1 ∧ a = sessionNext r b := Iff.rfl

/-- A session command with its TAG under an empty NONCE. -/
def tagged (l : List Nat) : List Nat := l ++ sessionTag State.reset l

theorem tagged_ok (l : List Nat) (b : State) (h : b.leg.sessNonce = []) :
    (tagged l).drop ((tagged l).length - 16) = sessionTag b ((tagged l).take ((tagged l).length - 16)) := by
  have e : sessionTag b l = sessionTag State.reset l := by unfold sessionTag; rw [h]; rfl
  have n : (sessionTag State.reset l).length = 16 := rfl
  simp [tagged, n, e]

/-- A state at core cycle c with the SC at c. -/
def now (c : Nat) (s : State) : State := { s with time := { s.time with cycle := c, sc := c } }

/-- A state at slow-plane tick n. -/
def atTick (n : Nat) (s : State) : State := { s with time := { s.time with ticks := n } }

/-- A state in which a page is enabled. -/
def on (page : Nat) (s : State) : State := wr (HDR.ENABLE page) 1 s

/-- A pending group of TRAIN_TIMEOUT and RETRY_TICKS on LANE. -/
def group : RwcGroup := { page := 0x08, by_ := .pcie, fields := [(LANE.TRAIN_TIMEOUT, 100)] }

/-- The first bytes of a frame: PSYNC and the frame count. -/
def frameHead (c : Nat) : List Nat := toBe 8 psync ++ scramble (toBe 6 c ++ toBe 2 (crc16 (toBe 6 c)))

/-- A broadcast OAM message of a type. -/
def oamMsg (ty : Nat) (l : List Nat) : List Nat := fit 48 ([0xFF, 0xF0, ty, 1] ++ l)

/-- A state in which one OAM message waits. -/
def withMsg (b : List Nat) (s : State) : State := { s with line := { s.line with oam := [(0, 0, b)] } }

/-- An OAM key slot. -/
def oamKey : KeySlot := { valid := true, keylen := 1, key := List.range 16 }

/-- A broadcast PATH_CONFIG message with its MIC, the first of frame 0. -/
def signedMsg : List Nat := (oamMsg 0x10 []).take 36 ++ [155, 40, 90, 122, 244, 88, 51, 94, 195, 117, 159, 9]

/-- A grant entry of terminal 0 for a ranging burst at phase 2,000. -/
def rangingGrant : List Nat :=
  let b := [0, 0] ++ toBe 2 2000 ++ toBe 2 20 ++ [0x40]
  b ++ [crc8 b]

/-- A ranging burst planned for frame 0. -/
def rangingPlan : Plan := { kind := .ranging, cont := 0, target := 0, pre := 4, steps := 20, oam := true }

/-- A state whose transmit lane 0 is active in RANGING. -/
def sending : State := on 0x08 (State.reset |> wr LANE.TXD0_STATE 3 |> wr LANE.TX_ENABLE 1 |> wr ACTV.STATE 3)

/-- A state with a served queue: queue 0 leads over subscriber 0 and service node 0 to Ethernet port 16. -/
def served : State := on 0x10 (State.reset |> wr (QUE.Q_EN 0 0) 1 |> wr (SCHED.SUB_EN 0) 1 |> wr (SCHED.SVC_EN 0) 1
  |> wr (SCHED.SVC_PARENT 0) 16 |> wr (TMGR.MISS_DROP 0) 0 |> wr (ETH.E_LINK 0) 1)

/-- A frame with its FCS. -/
def ethFrame : List Nat := zeros 60 ++ toLe 4 (crc32 (zeros 60))

/-- A served queue with one frame. -/
def filled : State := { served with
  tm := { queues := [(0, [{ data := zeros 64 }])] }, led := { cellsFree := 65535, cellsQueued := 1, descFree := 32767, descInUse := 1 } }

/-- A classifier entry whose action drops. -/
def dropEntry1 : CEntry := { key := 0, action := 2 ^ 31 }

/-- A host job that has ended refused. -/
def endedJob : Job := { ring := 0, index := 0, desc := zeros 64, slot := 100, ended := some 3, refused := true }

/-- A host job whose work is done: an ENCRYPT of no bytes. -/
def doneJob : Job := { ring := 0, index := 0, desc := 1 :: zeros 63, slot := 100 }

/-- A state whose excitation pair 0 is on. -/
def pairRuns : State := on 0x30 (State.reset |> wr (AFE.EXC_EN 0) 1 |> wr (AFE.EXC_STATE 0) 1 |> wr (AFE.EXC_REVERSE 0) 1
  |> wr (AFE.REV_PERIOD 0) 2)

/-- A state whose slice 0 converts. -/
def sliceRuns : State := on 0x31 (on 0x30 (now 1000000 (State.reset |> wr (AFE.SLICE_ROLE 0) 1 |> wr (SLICE.MODE 0) 1)))

/-- A state whose set 0 of channel 0 is enabled. -/
def weighs : State := State.reset |> wr (WGH.MEMBERS 0) 1 |> wr (WGH.SET_EN 0) 1 |> wr (WGH.E_MG 0) 1000 |> wr (WGH.MAX_E 0) 3000

/-- A window of set 0 that is open. -/
def openWin : WWin := { t := 1000000, first := 1000000, last := 1040000, spacing := 8000 }

/-- A state with a waiting LGC request on a running LGC. -/
def asked (r : LgcReq) : State := { (State.reset |> wr SYS.LGC_STATE 2) with leg := { queue := [{ r with checked := true }] } }

/-- A state with a waiting session command. -/
def inSeal (l : List Nat) : State := wr LEGL.SEAL_STATE 2 (asked { win := 1, tag := 5, code := 0x85, data := tagged l })

/-- An ultrasonic sequence of path 3. -/
def pathSeq : Seq := { mask := 8 }

/-- A state in which a sequence runs. -/
def shoots (q : Seq) : State := { (State.reset |> wr USX.REPEAT 1) with usx := { seq := some q } }

/-- A waiting NONCE of a seal session. -/
def sealNonce : Nonce := ⟨zeros 16, 0, 7, 9⟩

/-- A delivery that waits for its signature. -/
def signed1 : DelBook := { record := zeros 48 }

/-- A state with a TARE waiting on a stable set 0. -/
def stable : State := now 1000000 { (weighs |> wr SYS.LGC_STATE 2 |> wr (WGH.VALUE_FLAGS 0) 1 |> wr (WGH.GROSS 0) 5000) with
  wgh := { sets := [(0, { cmd := some (2, 0, .pcie), z := some 0, last := [{ m := 5 * mgUnit }] })] } }

/-- The body of a CREDIT message of 5 for account 0 with its TAG; an opening of the account names no amount. -/
def voucher (op : Nat) : List Nat :=
  let b := zeros 4 ++ [op, 0, 0, 0] ++ toBe 4 1 ++ toBe 8 (if op ≤ 2 then 5 else 0)
  b ++ voucherTag State.reset (b ++ zeros 16) ++ zeros 8

/-- The body of a price message for rate 7 that takes effect at frame 25. -/
def prices : List Nat := zeros 4 ++ [1, 7, 0, 0] ++ toBe 4 11 ++ toBe 4 12 ++ toBe 4 13 ++ toBe 6 25 ++ zeros 10

/-- A request for a delivery by volume on account 0. -/
def opening : List Nat := [0, 2, 10, 0, 0, 0, 0, 0] ++ toLe 8 1000

/-- A state in which the NONCE waits for its answer. -/
def nonceWaits : State := { (State.reset |> wr LEGL.SEAL_STATE 1) with leg := { nonce := some sealNonce } }

theorem nonceWaits_opens : sealOpen (sessionResponse (sessionResp State.reset sealNonce) nonceWaits).2.2 = true := by
  have h : slice (sessionResp State.reset sealNonce) 0 16 = sessionResp nonceWaits sealNonce := rfl
  have n : nonceWaits.leg.nonce = some sealNonce := rfl
  unfold sessionResponse
  rw [if_neg (by decide +kernel), n]
  dsimp only
  rw [if_neg (by rw [h]; exact fun x => x.elim (by decide +kernel) fun y => y rfl)]
  decide +kernel

/-- A transmit descriptor of a 64-byte frame. -/
def txDesc : List Nat := zeros 8 ++ [64, 0, 1, 0, 0, 0, 0, 0]

/-! ## Values that the manual works out -/

/-- What a command answers with; the tests look at some of its fields. -/
def after (o : Host.Outcome State Fault Refusal) : State :=
  match o with
  | .next s => s
  | _ => State.reset

/-- MANIFEST of the TS4410 (chapter 0, worked case). -/
theorem test_manifest : readBy .pcie 0 0x040 State.reset = 0x84A65007 := by decide +kernel

/-- A TS4320. -/
def small : State := { State.reset with fuse := { variant := .ts4320 } }

/-- MANIFEST and the PAGE_ID of WCH08 of a TS4320 (chapter 0, worked case). -/
theorem test_manifest_small : readBy .pcie 0 0x040 small = 0x429E4102 ∧ readBy .pcie 0x51 0 small = 0xDEAD0051 := by decide +kernel

/-- A write to WCH08 of a TS4320 is refused with ABSENT (chapter 0, worked case). -/
theorem test_absent_write :
    let s := after (exec (.registerWrite 1 .pcie 0x51040 4 1 {}) small)
    rd s (HDR.REF_CODE 0) = 5 ∧ rd s (HDR.REF_OFF 0) = 0x040 ∧ rd s SYS.REFUSAL_COUNT = 1 := by decide +kernel

/-- PAGE_ID of SLICE17: page 0x42, TYPE 0x89, instance 17 (R69). -/
theorem test_page_id : readBy .stc 0x42 0 State.reset / 2 ^ 16 = 0xC1A0 := by decide +kernel

/-- SIDR as the worked case of chapter 4 finds it. -/
def counted : State := now 4000 (State.reset |> wr SYS.REFUSAL_COUNT 65 |> wr SYS.LOCK_LEASE 400)

/-- The lock is taken (chapter 4, worked case). -/
def locked : State := after (exec (.pageLock 4000 .pcie 0x03 0x80000001) counted)

theorem test_lock_taken : rd locked (HDR.OWNER 0x03) = 1 ∧ rd locked (HDR.LOCK 0x03) = 1 := by decide +kernel

/-- A write of another port is refused with LOCKED (chapter 4, worked case). -/
theorem test_locked_write :
    let s := after (exec (.registerWrite 4001 .stc 0x03058 4 0x003207D0 {}) locked)
    readBy .pcie 0x03 0x00C s = 0x00423058 ∧ readBy .pcie 0 0x050 s = 0x80030042 ∧ rd s SYS.REFUSAL_COUNT = 66 := by decide +kernel

/-- The owner's write of a bad range is refused with RANGE (chapter 4, worked case). -/
theorem test_range_write :
    let s := after (exec (.registerWrite 8000 .pcie 0x03068 4 0x00C800D2 {}) (wr SYS.REFUSAL_COUNT 66 locked))
    readBy .pcie 0x03 0x00C s = 0x00431068 ∧ readBy .pcie 0 0x050 s = 0x40030043 := by decide +kernel

/-- A write of one byte is refused with WIDTH (chapter 4, worked case). -/
theorem test_width_write :
    readBy .pcie 0x03 0x00C (after (exec (.registerWrite 8000 .pcie 0x0305D 1 0 {}) (wr SYS.REFUSAL_COUNT 67 locked))) = 0x0044A05D := by
  decide +kernel

/-- The write in range is accepted (chapter 4, worked case). -/
theorem test_accepted_write :
    let s := after (exec (.registerWrite 8000 .pcie 0x03068 4 0x00DC00A0 {}) locked)
    rd s SIDR.MAINS_MAX = 220 ∧ rd s SIDR.MAINS_MIN = 160 := by decide +kernel

/-- Queue 37's event: the pointer bit, SUMMARY, FIRST and PAGE_PEND (chapter 5, worked case). -/
def queueEvent : State := advanceTo 2 (raiseSub 0x14 37 (wr (HDR.MASK 0x14) 0 State.reset))

theorem test_queue_event :
    readBy .pcie 0x14 0x010 queueEvent = 0x80000000 ∧ readBy .pcie 0x14 0xE04 queueEvent = 0x20 ∧ summary queueEvent = 0x200
      ∧ rd queueEvent ATTN.FIRST_BIT = 9 ∧ readBy .pcie 0x01 0x080 queueEvent = 0x00100000 := by decide +kernel

/-- Writing the sub-cause bit clears it and SUMMARY (chapter 5, worked case). -/
theorem test_sub_cause_clear : summary (after (exec (.causeClear 5 .pcie 0x14 0xE04 0x20) queueEvent)) = 0 := by decide +kernel

/-- A substitution trains for 128 steps with the precoder and 16 without (chapter 6, worked case). -/
theorem test_training :
    trainSteps (wr LANE.TX_PRECODE 1 State.reset) = 128 ∧ trainSteps (wr LANE.TX_PRECODE 0 State.reset) = 16 := by decide +kernel

/-- Capacities of a burst body (chapters 8 and 9, worked cases). -/
theorem test_capacity : capacity 200 = 736 ∧ capacity 1200 = 4480 ∧ capacity 1000 = 3728 := by decide

/-- ADVANCE 0x801D_4FE8 is VALID with 1,921,000 bit periods (chapter 8, worked case). -/
theorem test_advance :
    (after (exec (.advanceWrite 1 .stc 0x801D4FE8) State.reset)).sidr.advPend = some (true, 1921000, 1) := by decide +kernel

/-- RANGING_TIME with ZONE 0 and EQD 1,921,000 (chapter 8, worked case). -/
theorem test_ranging_time :
    rd (after (exec (.rangingTime 1) (withMsg (oamMsg 3 [0, 0x00, 0x1D, 0x4F, 0xE8]) (wr ACTV.STATE 3 State.reset)))) ACTV.RANGED_ADVANCE
      = 1921000 := by decide +kernel

/-- Rounds 6 and 7 of the dealer (chapter 10, worked case). -/
theorem test_dealer_rounds :
    winner (State.reset |> wr (DEAL.SEAT_LOST 2) 3 |> wr (DEAL.SEAT_LOST 3) 5 |> wr (DEAL.SEAT_LOST 4) 3) [0, 2, 3, 4] = some 2
      ∧ winner { (State.reset |> wr (DEAL.SEAT_LOST 0) 1 |> wr (DEAL.SEAT_LOST 3) 6 |> wr (DEAL.SEAT_LOST 4) 3) with
          deck := { lastWin := [1, 0] } } [0, 1, 3, 4] = some 0 := by decide +kernel

/-- The example of FIPS 197, appendix C.1, which R211 takes the cipher from. -/
theorem test_aes :
    aesBlock (List.range 16) 0x00112233445566778899AABBCCDDEEFF = 0x69C4E0D86A7B0430D8CDB78070B4C55A := by decide +kernel

/-- The support at RATE 2 is 663,808 steps (chapter 11, worked case). -/
theorem test_support : rateSupport 2 = 663808 ∧ rateSpacing 2 = 40000 := by decide

/-- The set point of 3,412 kg on a span of 4,000 kg (chapter 11, worked case). -/
theorem test_set_point :
    rd (after (exec (.loopUpdate 1 .orry 0) (on 0x5C (State.reset |> wr (LOOP.LOOP_EN 0) 1 |> wr (LOOP.LOOP_SRC 0) 1 |> wrS (LOOP.LOOP_SPAN 0) 4000000000
      |> wrS (WGH.GROSS 0) 3412000000 |> wr (WGH.VALUE_FLAGS 0) 0)))) (LOOP.SETPOINT 0) = 17648 := by decide +kernel

/-- The weighbridge of chapter 12 with the truck of its worked case. -/
def truck : State :=
  forEach (List.range 7) (fun c => wrS (WCH.OUT_RAW c) 133911353) (State.reset |> wr (WGH.MEMBERS 0) 0xFF |> wr (WGH.E_MG 0) 20000000
    |> wrS (WCH.OUT_RAW 7) 133911358 |> wrS (WGH.LIN_C 0 0) (-20000000000 * 256) |> wrS (WGH.LIN_C 0 1) (1875000000000 * 256)
    |> fun s => forEach (List.range 8) (fun c => wr (WCH.CORNER c) (2 ^ 30)) s)

/-- 38,460 kg (chapter 12, worked case). -/
theorem test_truck : roundE truck 0 (linearise truck 0) = 38460000000 := by decide +kernel

/-- 1,016.405 ohm of a PT1000 is 4.200 degrees (chapter 13, worked case). -/
theorem test_temperature : ptSearch 1016405 1000000 20 (-200000) = 4200 := by decide +kernel

/-- The volume of 100 frames at 1,667,871 microlitres a second (chapter 13, worked case). -/
theorem test_volume :
    let s := integrate ⟨1667871, 0, false, false⟩ { start := 4000000 } false
      { State.reset with usx := { prev := some (1667871, 0) } }
    rdS s USX.VOL_PEND = 4269749 ∧ rd s USX.FRAC = 608000000 := by decide +kernel

/-- Charges of whole kilograms (chapter 15, worked case). -/
theorem test_charges :
    chargeOf 812000000 600 0 0 0 = (487200, 0) ∧ chargeOf 600000000 560 0 0 0 = (336000, 0) ∧ chargeOf 200000000 620 0 0 0 = (124000, 0) := by
  decide

/-- The account of the worked case of chapter 15 after delivery 3. -/
def hauler : State :=
  State.reset |> wr (PREP.A_OPEN 3) 1 |> wr (PREP.LOADED 3) 5000000 |> wr (PREP.CONSUMED 3) 5347200 |> wrS (PREP.BALANCE 3) (-197200)
    |> wrS (PREP.EMERG_OUT 3) (-150000)

/-- The top-up repays the emergency credit first (chapter 15, worked case). -/
theorem test_topup :
    let s := bookCredit 1 3 1042 500000 false hauler
    balanceOf s 3 = 152800 ∧ emergOf s 3 = 0 ∧ rd s (PREP.LOADED 3) = 5500000 ∧ rd s (PREP.VOUCHER 3) = 1042 := by decide +kernel

/-- The calendar of the worked case of chapter 15; day 20,003 is at frame 0. -/
def calendar : State :=
  State.reset |> wrS TARF.LOCAL_OFFSET 120 |> wr (TARF.SEA_VALID 0) 1 |> wr (TARF.SEA_MONTH 0) 1 |> wr (TARF.SEA_DAY 0) 1
    |> wr (TARF.WEEKP 0) 0x1000000 |> wr (TARF.SW_VALID 0 0) 1 |> wr (TARF.SW_VALID 0 1) 1 |> wr (TARF.SW_MINUTE 0 1) 360
    |> wr (TARF.SW_RATE 0 1) 1 |> wr (TARF.SW_VALID 0 2) 1 |> wr (TARF.SW_MINUTE 0 2) 1080 |> wr (TARF.SW_VALID 1 0) 1
    |> wr (TARF.SP_VALID 0) 1 |> wr (TARF.SP_MONTH 0) 10 |> wr (TARF.SP_DAY 0) 9 |> wr (TARF.SP_RECUR 0) 1 |> wr (TARF.SP_DAYP 0) 1
    |> wr (TARF.SP_FRIENDLY 0) 1 |> wr PREP.FW_START 1200 |> wr PREP.FW_END 420 |> wr PREP.FDAYS 0x40

/-- 7 October 2024 is UTC day 20,003 (chapter 15, worked case). -/
theorem test_date : dateOf 20003 = (2024, 10, 7) := by decide +kernel

/-- Rates 0, 1 and 0 of day profile 0; profile 1 has rate 0; 20:00 to 07:00 is friendly (chapter 15, worked case). -/
theorem test_rates :
    rateAt calendar 0 359 = 0 ∧ rateAt calendar 0 550 = 1 ∧ rateAt calendar 0 1180 = 0 ∧ rateAt calendar 1 600 = 0
      ∧ specialDay calendar (2024, 10, 9) = some 0 ∧ weekDayp calendar 0 6 = 1 ∧ inFriendly calendar 1199 = false
      ∧ inFriendly calendar 1200 = true ∧ inFriendly calendar 419 = true ∧ inFriendly calendar 420 = false := by decide +kernel

/-- The distinct switching times in UTC (chapter 15, worked case). -/
theorem test_switching_seconds : utcSecond calendar 0 = 79200 ∧ utcSecond calendar 360 = 14400 ∧ utcSecond calendar 1080 = 57600 := by
  decide +kernel

/-- A switch with all phases enabled and phase 2 OPEN. -/
def lostPhase : State :=
  State.reset |> wr (SWCH.PH_EN 0) 1 |> wr (SWCH.PH_EN 1) 1 |> wr (SWCH.PH_EN 2) 1 |> wr (SWCH.PH_EN 3) 1 |> wr SWCH.TOTAL_LIMIT 28000
    |> wr (SWCH.PH_OPEN 2) 1

/-- TOTAL_EFF (chapter 16, worked case). -/
theorem test_derate : totalEff lostPhase = 21000 ∧ totalEff (wr SWCH.DERATE_LIMIT 24000 lostPhase) = 24000 := by decide +kernel

/-- Straps 0b011 give address 0x4B (chapters 18 and 20, worked cases). -/
theorem test_two_wire_address : twAddr (State.reset |> wr TWIT.STRAPS 3) = 0x4B := by decide +kernel

/-- The repair records of the worked case of chapter 19. -/
theorem test_records : repairWord 1 2 5 1203 = 0x884A9660 ∧ repairWord 0xA 0x3F 0 3 = 0xD7E00060 := by decide

/-- A step by +40,000: the new SC, and no trigger fires (R35). -/
theorem test_sc_step : (stepSc 40000 (now 960000 State.reset)).time.sc = 1000000 := by decide +kernel

/-- Step takes the front command and keeps the rest (the order of the queue). -/
theorem test_queue :
    (after (step { State.reset with pending := [.holdoffEnd ⟨3, true⟩, .holdoffEnd ⟨4, true⟩] })).pending = [.holdoffEnd ⟨4, true⟩] := by decide +kernel

/-! ## Witnesses: the hypotheses of each clause of each statement hold together -/

theorem wit_stepRunsTheFrontCommand_2 :
    let s : State := State.reset
    s.pending = [] := by
  simp only [meets, meetsBy, meetsFrom, opensAt, opensTo, opens, takesTriggers, takes_iff, inSession_iff] <;> decide +kernel

theorem wit_aDieAsleepOnlyLetsTimePass_1 :
    let c : Instr := .holdoffEnd ⟨5, false⟩
    let s : State := { State.reset with time := { stage := .held } }
    outsideFabric c = false
    ∧ fabricAnswers s = false := by
  simp only [meets, meetsBy, meetsFrom, opensAt, opensTo, opens, takesTriggers, takes_iff, inSession_iff] <;> decide +kernel

theorem wit_absentPagesReadAndRefuse_1 :
    let p : Port := .pcie
    let page : Nat := 0x5A
    let off : Nat := 0
    let s : State := { State.reset with fuse := { variant := .ts4320 } }
    Variant.pageAbsent s.fuse.variant page = true
    ∧ latched s p page off = none := by
  simp only [meets, meetsBy, meetsFrom, opensAt, opensTo, opens, takesTriggers, takes_iff, inSession_iff] <;> decide +kernel

theorem wit_absentPagesReadAndRefuse_2_eight :
    let t : Nat := 0
    let page : Nat := 0x5A
    let off : Nat := 0x100
    let size : Nat := 8
    let v : Nat := 0
    let p : Port := .pcie
    let x : Outside := {}
    let s : State := { State.reset with fuse := { variant := .ts4320 } }
    let m : State := metBy (.writer (.fabric p)) t s
    meetsFrom p t s m
    ∧ page < 256
    ∧ off < 4096
    ∧ Variant.pageAbsent m.fuse.variant page = true
    ∧ size = 8
    ∧ (page * 0x1000 + off) % 8 = 0
    ∧ p = .pcie := by
  simp only [meets, meetsBy, meetsFrom, opensAt, opensTo, opens, takesTriggers, takes_iff, inSession_iff] <;> decide +kernel

theorem wit_absentPagesReadAndRefuse_2_four :
    let t : Nat := 0
    let page : Nat := 0x5A
    let off : Nat := 0xFFF
    let size : Nat := 2
    let v : Nat := 0
    let p : Port := .pcie
    let x : Outside := {}
    let s : State := { State.reset with fuse := { variant := .ts4320 } }
    let m : State := metBy (.writer (.fabric p)) t s
    meetsFrom p t s m
    ∧ page < 256
    ∧ off < 4096
    ∧ Variant.pageAbsent m.fuse.variant page = true
    ∧ (¬ (size = 8 ∧ (page * 0x1000 + off) % 8 = 0 ∧ p = .pcie)) := by
  simp only [meets, meetsBy, meetsFrom, opensAt, opensTo, opens, takesTriggers, takes_iff, inSession_iff] <;> decide +kernel

theorem wit_absentPagesReadAndRefuse_3 :
    let p : Port := .pcie
    let page : Nat := 0x5A
    let off : Nat := 0
    let act : State → State := id
    let s : State := { State.reset with fuse := { variant := .ts4320 } }
    Variant.pageAbsent s.fuse.variant page = true := by
  simp only [meets, meetsBy, meetsFrom, opensAt, opensTo, opens, takesTriggers, takes_iff, inSession_iff] <;> decide +kernel

theorem wit_absentPagesReadAndRefuse_4 :
    let p : Port := .pcie
    let page : Nat := 0x5A
    let off : Nat := 0
    let codeF : Option Fld := none
    let checks : List (Bool × Code) := []
    let act : State → State := id
    let s : State := { State.reset with fuse := { variant := .ts4320 } }
    Variant.pageAbsent s.fuse.variant page = true := by
  simp only [meets, meetsBy, meetsFrom, opensAt, opensTo, opens, takesTriggers, takes_iff, inSession_iff] <;> decide +kernel

theorem wit_absentPagesReadAndRefuse_5 :
    let p : Port := .pcie
    let page : Nat := 0x5A
    let off : Nat := 0
    let s : State := { State.reset with fuse := { variant := .ts4320 } }
    Variant.pageAbsent s.fuse.variant page = true
    ∧ page < 256
    ∧ off < 4096 := by
  simp only [meets, meetsBy, meetsFrom, opensAt, opensTo, opens, takesTriggers, takes_iff, inSession_iff] <;> decide +kernel

theorem wit_forcedLedgerCausesOnlyRaise_1 :
    let t : Nat := 0
    let v : Nat := 0
    let p : Port := .pcie
    let s : State := State.reset
    let m : State := metBy (.writer (.fabric p)) t s
    meetsFrom p t s m
    ∧ opensAt m p 0x02 0x018
    ∧ clearBits v (causeBits 0x02) = 0
    ∧ v < 2 ^ 32
    ∧ (hasPointer 0x02 = true → bit v 31 = false) := by
  simp only [meets, meetsBy, meetsFrom, opensAt, opensTo, opens, takesTriggers, takes_iff, inSession_iff] <;> decide +kernel

theorem wit_portWritesComplete_1 :
    let t : Nat := 0
    let p : Port := .pcie
    let page : Nat := 0x0A
    let off : Nat := 0x100
    let v : Nat := 0
    let x : Outside := {}
    let s : State := State.reset
    let m : State := metBy (.writer (.fabric p)) t s
    let l : State := loadSelection page m
    meetsFrom p t s m
    ∧ opensAt m p page off
    ∧ page < 256
    ∧ off < 0xE00
    ∧ off % 4 = 0
    ∧ 0x20 ≤ off
    ∧ v < 2 ^ 32
    ∧ command p page off v x = none
    ∧ pairHiAt page off = false
    ∧ pairLoAt page off = false
    ∧ l = loadSelection page m
    ∧ (worst (plainChecks p l (setRows (fun r => r.ty.candidate) page off v l) page off v) = none) := by
  simp only [meets, meetsBy, meetsFrom, opensAt, opensTo, opens, takesTriggers, takes_iff, inSession_iff] <;> decide +kernel

theorem wit_portWritesComplete_2 :
    let t : Nat := 0
    let p : Port := .pcie
    let page : Nat := 0
    let off : Nat := 0
    let s : State := State.reset
    let m : State := metBy .read t s
    meetsBy .read t s m
    ∧ page < 256
    ∧ off < 4096
    ∧ off % 4 = 0 := by
  simp only [meets, meetsBy, meetsFrom, opensAt, opensTo, opens, takesTriggers, takes_iff, inSession_iff] <;> decide +kernel

theorem wit_portWritesComplete_3 :
    let t : Nat := 0
    let p : Port := .pcie
    let page : Nat := 0x5C
    let off : Nat := 260
    let v : Nat := 0
    let s : State := State.reset
    let m : State := metBy (.writer (.fabric p)) t s
    let a : State := renewLease p page m
    meetsFrom p t s m
    ∧ opensAt m p page off
    ∧ pairLoAt page off = true
    ∧ unfitted m page off = false
    ∧ (page = 0x0D → enabled m 0x0D = false)
    ∧ a = renewLease p page m := by
  simp only [meets, meetsBy, meetsFrom, opensAt, opensTo, opens, takesTriggers, takes_iff, inSession_iff] <;> decide +kernel

theorem wit_portWritesComplete_4 :
    let t : Nat := 0
    let p : Port := .pcie
    let page : Nat := 0x5C
    let off : Nat := 264
    let v : Nat := 0
    let lo : Nat := 7
    let s : State := { State.reset with fab := { heldLo := [(.pcie, 0x5C104, 7)] } }
    let m : State := metBy (.writer (.fabric p)) t s
    let d : State := dropLo p (page * 0x1000 + off - 4) m
    let a : State := renewLease p page d
    meetsFrom p t s m
    ∧ opensAt m p page off
    ∧ off < 0xE00
    ∧ 0x20 ≤ off
    ∧ pairHiAt page off = true
    ∧ page ≠ 0x22
    ∧ command p page off v {} = none
    ∧ heldLoOf m p (page * 0x1000 + off - 4) = some lo
    ∧ d = dropLo p (page * 0x1000 + off - 4) m
    ∧ (sealedBits d page off = 0 ∨ pairDiffers d page off lo v = false)
    ∧ unfitted d page off = false
    ∧ clearBits v (allowedBits page off) = 0
    ∧ worst (unitChecks p d (setPair page off lo v d) page off v) = none
    ∧ a = renewLease p page d := by
  simp only [meets, meetsBy, meetsFrom, opensAt, opensTo, opens, takesTriggers, takes_iff, inSession_iff] <;> decide +kernel

theorem wit_portWritesComplete_5 :
    let t : Nat := 0
    let p : Port := .pcie
    let page : Nat := 0
    let s : State := State.reset
    let m : State := metBy (.writer (.fabric p)) t s
    let v : Nat := 2 ^ 31 + rd m (HDR.ENABLE page)
    meetsFrom p t s m
    ∧ opensAt m p page 0x004
    ∧ rd m (HDR.OWNER page) = 0
    ∧ v = 2 ^ 31 + rd m (HDR.ENABLE page)
    ∧ rd m (HDR.ENABLE page) < 2
    ∧ worst (enableChecks m (wr (HDR.ENABLE page) (rd m (HDR.ENABLE page)) m) page v) = none := by
  simp only [meets, meetsBy, meetsFrom, opensAt, opensTo, opens, takesTriggers, takes_iff, inSession_iff] <;> decide +kernel

theorem wit_portWritesComplete_6 :
    let t : Nat := 0
    let page : Nat := 0x08
    let s : State := atTick 500 (State.reset |> wr (HDR.OWNER 0x08) 2 |> wr (HDR.LOCK 0x08) 1 |> wr SYS.LOCK_LEASE 400 |> fun s => { s with fab := { s.fab with leases := [(0x08, 100)] } })
    let m : State := met t s
    meets t s m
    ∧ leaseEnded m page = true := by
  simp only [meets, meetsBy, meetsFrom, opensAt, opensTo, opens, takesTriggers, takes_iff, inSession_iff] <;> decide +kernel

theorem wit_groupAndCauseCommandsComplete_1 :
    let t : Nat := 0
    let p : Port := .pcie
    let page : Nat := 0x08
    let s : State := { State.reset with fab := { rwc := [group] } }
    let m : State := metBy (.writer (.fabric p)) t s
    let v : Nat := 1 + 65536 * rd m (HDR.GROUP_SEQ page)
    let g : RwcGroup := group
    let a : State := renewLease p page m
    meetsFrom p t s m
    ∧ opensAt m p page 0x01C
    ∧ rwcOf m page = some g
    ∧ g.armed = false
    ∧ g.fields ≠ []
    ∧ groupCode p m g = none
    ∧ v = 1 + 65536 * rd m (HDR.GROUP_SEQ page)
    ∧ rd m (HDR.GROUP_SEQ page) < 65536
    ∧ a = renewLease p page m := by
  simp only [meets, meetsBy, meetsFrom, opensAt, opensTo, opens, takesTriggers, takes_iff, inSession_iff] <;> decide +kernel

theorem wit_groupAndCauseCommandsComplete_2 :
    let t : Nat := 0
    let p : Port := .pcie
    let page : Nat := 0x08
    let s : State := { State.reset with fab := { rwc := [group] } }
    let m : State := metBy (.writer (.fabric p)) t s
    let v : Nat := 2 + 65536 * rd m (HDR.GROUP_SEQ page)
    let g : RwcGroup := group
    let a : State := renewLease p page m
    meetsFrom p t s m
    ∧ opensAt m p page 0x01C
    ∧ rwcOf m page = some g
    ∧ g.armed = false
    ∧ v = 2 + 65536 * rd m (HDR.GROUP_SEQ page)
    ∧ rd m (HDR.GROUP_SEQ page) < 65536
    ∧ a = renewLease p page m := by
  simp only [meets, meetsBy, meetsFrom, opensAt, opensTo, opens, takesTriggers, takes_iff, inSession_iff] <;> decide +kernel

theorem wit_groupAndCauseCommandsComplete_3 :
    let t : Nat := 0
    let page : Nat := 0x08
    let g : RwcGroup := { group with armed := true, at_ := 5 }
    let s : State := { now 1000000 State.reset with fab := { rwc := [{ group with armed := true, at_ := 5 }] } }
    let m : State := met t s
    let b : State := applyDue m
    meets t s m
    ∧ (onTick m = true ∨ m.sidr.stepTick = true)
    ∧ b = applyDue m
    ∧ rwcOf b page = some g
    ∧ g.armed = true
    ∧ g.at_ < b.time.cycle
    ∧ groupCode g.by_ b g = none := by
  simp only [meets, meetsBy, meetsFrom, opensAt, opensTo, opens, takesTriggers, takes_iff, inSession_iff] <;> decide +kernel

theorem wit_groupAndCauseCommandsComplete_4 :
    let t : Nat := 0
    let p : Port := .pcie
    let page : Nat := 0
    let v : Nat := 0
    let s : State := State.reset
    let m : State := metBy (.writer (.fabric p)) t s
    let a : State := renewLease p page m
    meetsFrom p t s m
    ∧ opensAt m p page 0x010
    ∧ clearBits v (causeBits page) = 0
    ∧ v &&& unfittedBits m page 0x010 = 0
    ∧ (hasPointer page = true → bit v 31 = true → pointerBit m page = true)
    ∧ v < 2 ^ 32
    ∧ a = renewLease p page m := by
  simp only [meets, meetsBy, meetsFrom, opensAt, opensTo, opens, takesTriggers, takes_iff, inSession_iff] <;> decide +kernel

theorem wit_groupAndCauseCommandsComplete_5 :
    let t : Nat := 0
    let p : Port := .pcie
    let page : Nat := 0x14
    let w : Nat := 1
    let v : Nat := 5
    let s : State := State.reset
    let m : State := metBy (.writer (.fabric p)) t s
    let a : State := renewLease p page m
    meetsFrom p t s m
    ∧ opensAt m p page (0xE00 + 4 * w)
    ∧ subWord page (0xE00 + 4 * w) 0xE00 = some w
    ∧ clearBits (v &&& subDefined page w) (subFitted m page w) = 0
    ∧ clearBits v (subDefined page w) = 0
    ∧ a = renewLease p page m := by
  simp only [meets, meetsBy, meetsFrom, opensAt, opensTo, opens, takesTriggers, takes_iff, inSession_iff] <;> decide +kernel

theorem wit_groupAndCauseCommandsComplete_6 :
    let page : Nat := 0x08
    let b : Nat := 31
    let v : Nat := 2 ^ 31
    let s : State := State.reset
    b < 32 := by
  simp only [meets, meetsBy, meetsFrom, opensAt, opensTo, opens, takesTriggers, takes_iff, inSession_iff] <;> decide +kernel

theorem wit_groupAndCauseCommandsComplete_7 :
    let page : Nat := 0x08
    let b : Nat := 0
    let v : Nat := 1
    let s : State := State.reset |> wr (HDR.CAUSE 0x08) 1
    b < 32
    ∧ bit (setNow s (HDR.CAUSE page)) b = false := by
  simp only [meets, meetsBy, meetsFrom, opensAt, opensTo, opens, takesTriggers, takes_iff, inSession_iff] <;> decide +kernel

theorem wit_groupAndCauseCommandsComplete_8 :
    let t : Nat := 0
    let p : Port := .pcie
    let page : Nat := 0
    let v : Nat := 0
    let s : State := State.reset
    let m : State := metBy (.writer (.fabric p)) t s
    let a : State := renewLease p page m
    meetsFrom p t s m
    ∧ opensAt m p page 0x018
    ∧ clearBits v (causeBits page) = 0
    ∧ v &&& unfittedBits m page 0x018 = 0
    ∧ (hasPointer page = true → bit v 31 = false)
    ∧ a = renewLease p page m := by
  simp only [meets, meetsBy, meetsFrom, opensAt, opensTo, opens, takesTriggers, takes_iff, inSession_iff] <;> decide +kernel

theorem wit_groupAndCauseCommandsComplete_9 :
    let t : Nat := 0
    let p : Port := .pcie
    let page : Nat := 0x14
    let w : Nat := 1
    let v : Nat := 5
    let s : State := State.reset
    let m : State := metBy (.writer (.fabric p)) t s
    let a : State := renewLease p page m
    meetsFrom p t s m
    ∧ opensAt m p page (0xF00 + 4 * w)
    ∧ w < subWords page
    ∧ clearBits (v &&& subDefined page w) (subFitted m page w) = 0
    ∧ clearBits v (subDefined page w) = 0
    ∧ a = renewLease p page m := by
  simp only [meets, meetsBy, meetsFrom, opensAt, opensTo, opens, takesTriggers, takes_iff, inSession_iff] <;> decide +kernel

theorem wit_groupAndCauseCommandsComplete_10 :
    let t : Nat := 0
    let s : State := State.reset |> wr ATTN.HOLDOFF 1
    let m : State := met t s
    let high : Bool := true
    let b : State := { m with attn := { m.attn with extLow := !high } }
    meets t s m
    ∧ b = { m with attn := { m.attn with extLow := !high } }
    ∧ rd m ATTN.HOLDOFF = 1
    ∧ m.attn.holdEnd ≤ m.time.cycle
    ∧ m.attn.stcHold = false := by
  simp only [meets, meetsBy, meetsFrom, opensAt, opensTo, opens, takesTriggers, takes_iff, inSession_iff] <;> decide +kernel

theorem wit_groupAndCauseCommandsComplete_11 :
    let t : Nat := 0
    let s : State := { State.reset with attn := { stcHold := true } }
    let m : State := met t s
    let high : Bool := false
    let b : State := { m with attn := { m.attn with extLow := !high } }
    meets t s m
    ∧ b = { m with attn := { m.attn with extLow := !high } }
    ∧ rd m ATTN.HOLDOFF = 0
    ∧ m.attn.stcHold = true
    ∧ m.attn.stcHoldEnd ≤ m.time.cycle := by
  simp only [meets, meetsBy, meetsFrom, opensAt, opensTo, opens, takesTriggers, takes_iff, inSession_iff] <;> decide +kernel

theorem wit_groupAndCauseCommandsComplete_12 :
    let t : Nat := 0
    let p : Port := .pcie
    let k : Nat := 1
    let v : Nat := 2 ^ k
    let s : State := { (State.reset |> wr (HOST.VEC_KIND 1) 1 |> wr (HOST.VEC_MASK 1) 1) with attn := { sum := 1 } }
    let m : State := metBy (.writer (.fabric p)) t s
    let a : State := renewLease p 0x80 m
    meetsFrom p t s m
    ∧ opens m p 0x80
    ∧ v = 2 ^ k
    ∧ k < 32
    ∧ a = renewLease p 0x80 m
    ∧ rd a (HOST.VEC_KIND k) = 1
    ∧ vecExpr a a.attn.sum k = true := by
  simp only [meets, meetsBy, meetsFrom, opensAt, opensTo, opens, takesTriggers, takes_iff, inSession_iff] <;> decide +kernel

theorem wit_groupAndCauseCommandsComplete_13 :
    let t : Nat := 0
    let vec : Nat := 2
    let n : Nat := 3
    let first : Nat := 0
    let s : State := { now 400 State.reset with host := { coal := [(2, 3, 0)] } }
    let m : State := met t s
    meets t s m
    ∧ (m.host.coal.find? (fun e => e.1 == vec) = some (vec, n, first))
    ∧ first + 400 * rd m (HOST.COAL_US vec) ≤ m.time.cycle := by
  simp only [meets, meetsBy, meetsFrom, opensAt, opensTo, opens, takesTriggers, takes_iff, inSession_iff] <;> decide +kernel

theorem wit_commitCycleCompletes_1_tick :
    let t : Nat := 0
    let tj : Int := 0
    let rosc : List Nat := []
    let age : List (Int × Int × Nat) := []
    let s : State := State.reset
    let m : State := met t s
    let b : State := wr SIDR.TICK_SC (scReg m.time.sc) { m with time := { m.time with ticks := m.time.ticks + 1, tickSc := m.time.sc }, sidr := { m.sidr with stepTick := false } }
    meets t s m
    ∧ (m.sidr.stepTick = true ∨ (m.time.sc % tickSteps = 0 ∧ (m.time.ticks = 0 ∨ m.time.tickSc ≠ m.time.sc)))
    ∧ b = wr SIDR.TICK_SC (scReg m.time.sc) { m with time := { m.time with ticks := m.time.ticks + 1, tickSc := m.time.sc }, sidr := { m.sidr with stepTick := false } } := by
  simp only [meets, meetsBy, meetsFrom, opensAt, opensTo, opens, takesTriggers, takes_iff, inSession_iff] <;> decide +kernel

theorem wit_commitCycleCompletes_1_step :
    let t : Nat := 0
    let tj : Int := 0
    let rosc : List Nat := []
    let age : List (Int × Int × Nat) := []
    let s : State := { now 7 State.reset with sidr := { stepTick := true } }
    let m : State := met t s
    let b : State := wr SIDR.TICK_SC (scReg m.time.sc) { m with time := { m.time with ticks := m.time.ticks + 1, tickSc := m.time.sc }, sidr := { m.sidr with stepTick := false } }
    meets t s m
    ∧ (m.sidr.stepTick = true ∨ (m.time.sc % tickSteps = 0 ∧ (m.time.ticks = 0 ∨ m.time.tickSc ≠ m.time.sc)))
    ∧ b = wr SIDR.TICK_SC (scReg m.time.sc) { m with time := { m.time with ticks := m.time.ticks + 1, tickSc := m.time.sc }, sidr := { m.sidr with stepTick := false } } := by
  simp only [meets, meetsBy, meetsFrom, opensAt, opensTo, opens, takesTriggers, takes_iff, inSession_iff] <;> decide +kernel

theorem wit_tkWriteWaitsForItsTick_1 :
    let s : State := { now 1000000 State.reset with fab := { tkPend := [(AFE.EXC_TIMEOUT, 3, 5), (AFE.EXC_TIMEOUT, 9, 1000000)] } }
    let f : Fld := AFE.EXC_TIMEOUT
    s.fab.rwc = []
    ∧ (∀ e ∈ s.fab.tkPend, laneFence e = false)
    ∧ (∀ e ∈ s.fab.tkPend, e.1.key = f.key → e.1 = f) := by
  simp only [meets, meetsBy, meetsFrom, opensAt, opensTo, opens, takesTriggers, takes_iff, inSession_iff] <;> decide +kernel

theorem wit_siderealCommandsComplete_1 :
    let t : Nat := 0
    let p : Port := .pcie
    let v : Nat := 0
    let s : State := State.reset
    let m : State := metBy (.writer (.fabric p)) t s
    let a : State := renewLease p 0x03 m
    meetsFrom p t s m
    ∧ opens m p 0x03
    ∧ bits v 30 24 = 0
    ∧ bits v 23 0 ≤ 12800000
    ∧ a = renewLease p 0x03 m := by
  simp only [meets, meetsBy, meetsFrom, opensAt, opensTo, opens, takesTriggers, takes_iff, inSession_iff] <;> decide +kernel

theorem wit_siderealCommandsComplete_2_unusable :
    let t : Nat := 0
    let valid : Bool := true
    let b : Nat := 1000
    let c : Nat := 39000
    let s : State := { now 40000 State.reset with sidr := { advPend := some (true, 1000, 39000) } }
    let m : State := met t s
    let a : State := { (m |> wr SIDR.ADV_BITS b |> wrB SIDR.ADV_VALID valid) with sidr := { m.sidr with advPend := none, fine := b % 64 } }
    meets t s m
    ∧ m.sidr.advPend = some (valid, b, c)
    ∧ scPhase m = 0
    ∧ c < m.time.cycle
    ∧ a = { (m |> wr SIDR.ADV_BITS b |> wrB SIDR.ADV_VALID valid) with sidr := { m.sidr with advPend := none, fine := b % 64 } }
    ∧ lineUsableNow a = false
    ∧ rd a SIDR.LINE_USABLE = 0
    ∧ rd m SIDR.LINE_USABLE = 0 := by
  simp only [meets, meetsBy, meetsFrom, opensAt, opensTo, opens, takesTriggers, takes_iff, inSession_iff] <;> decide +kernel

theorem wit_siderealCommandsComplete_2_usable :
    let t : Nat := 0
    let valid : Bool := true
    let b : Nat := 1000
    let c : Nat := 39000
    let s : State := { (now 40000 (State.reset |> wr SIDR.ADV_BITS 936 |> wr SIDR.ADV_VALID 1 |> wr SIDR.LINE_USABLE 1 |> wr FRMD.DELIN 2 |> wr LANE.LINK 1 |> wr ACTV.STATE 4)) with sidr := { advPend := some (true, 1000, 39000), rxOff := some 0 } }
    let m : State := met t s
    let a : State := { (m |> wr SIDR.ADV_BITS b |> wrB SIDR.ADV_VALID valid) with sidr := { m.sidr with advPend := none, fine := b % 64 } }
    meets t s m
    ∧ m.sidr.advPend = some (valid, b, c)
    ∧ scPhase m = 0
    ∧ c < m.time.cycle
    ∧ a = { (m |> wr SIDR.ADV_BITS b |> wrB SIDR.ADV_VALID valid) with sidr := { m.sidr with advPend := none, fine := b % 64 } }
    ∧ lineUsableNow a = true
    ∧ rd a SIDR.LINE_USABLE = 1
    ∧ rd m SIDR.LINE_USABLE = 1
    ∧ b ≤ rd m SIDR.ADV_BITS + 64
    ∧ rd m SIDR.ADV_BITS ≤ b + 64 := by
  simp only [meets, meetsBy, meetsFrom, opensAt, opensTo, opens, takesTriggers, takes_iff, inSession_iff] <;> decide +kernel

theorem wit_siderealCommandsComplete_3 :
    let t : Nat := 0
    let ppb : Int := 100000
    let s : State := now 400000000 (State.reset |> wr SIDR.SC_QUALITY qLOCKED)
    let m : State := met t s
    meets t s m
    ∧ quality m = qLOCKED
    ∧ m.sidr.learnStamp + secondSteps ≤ m.time.cycle
    ∧ -100000 ≤ ppb
    ∧ ppb ≤ 100000
    ∧ m.sidr.learnStarted = false
    ∧ m.sidr.learnSecs < 255 := by
  simp only [meets, meetsBy, meetsFrom, opensAt, opensTo, opens, takesTriggers, takes_iff, inSession_iff] <;> decide +kernel

theorem wit_siderealCommandsComplete_4 :
    let t : Nat := 0
    let ppb : Int := 100000
    let s : State := { now 400000000 (State.reset |> wr SIDR.SC_QUALITY 0) with sidr := { learnStarted := true, learnSecs := 255 } }
    let m : State := met t s
    let a : Int := m.sidr.learnAvg + (65536 * ppb - m.sidr.learnAvg) / 256
    meets t s m
    ∧ quality m = qLOCKED
    ∧ m.sidr.learnStamp + secondSteps ≤ m.time.cycle
    ∧ -100000 ≤ ppb
    ∧ ppb ≤ 100000
    ∧ m.sidr.learnStarted = true
    ∧ a = m.sidr.learnAvg + (65536 * ppb - m.sidr.learnAvg) / 256 := by
  simp only [meets, meetsBy, meetsFrom, opensAt, opensTo, opens, takesTriggers, takes_iff, inSession_iff] <;> decide +kernel

theorem wit_siderealCommandsComplete_5 :
    let t : Nat := 0
    let ppb : Int := -100001
    let s : State := now 400000000 (State.reset |> wr SIDR.SC_QUALITY 0)
    let m : State := met t s
    meets t s m
    ∧ quality m = qLOCKED
    ∧ m.sidr.learnStamp + secondSteps ≤ m.time.cycle
    ∧ (ppb < -100000 ∨ 100000 < ppb) := by
  simp only [meets, meetsBy, meetsFrom, opensAt, opensTo, opens, takesTriggers, takes_iff, inSession_iff] <;> decide +kernel

theorem wit_siderealCommandsComplete_6 :
    let t : Nat := 0
    let s : State := now 400000000 State.reset
    let m : State := met t s
    let f : Nat := m.sidr.uncFifths + 2 * uncertBound m
    meets t s m
    ∧ quality m ≠ qLOCKED
    ∧ quality m ≠ qHOLDOVER
    ∧ m.sidr.uncStamp + secondSteps ≤ m.time.cycle
    ∧ f = m.sidr.uncFifths + 2 * uncertBound m := by
  simp only [meets, meetsBy, meetsFrom, opensAt, opensTo, opens, takesTriggers, takes_iff, inSession_iff] <;> decide +kernel

theorem wit_siderealCommandsComplete_7 :
    let t : Nat := 0
    let l : Nat := 1000
    let s : State := { now (1000 + 200 * 40000) (State.reset |> wr SIDR.MERIDIAN_EN 0) with sidr := { mainsLast := some 1000, mainsRun := 49 } }
    let m : State := met t s
    let x : Nat := m.time.sc - rd m SIDR.MAINS_FILTER
    meets t s m
    ∧ m.sidr.mainsLast = some l
    ∧ quality m = qFREE
    ∧ rd m SIDR.MERIDIAN_EN = 0
    ∧ x = m.time.sc - rd m SIDR.MAINS_FILTER
    ∧ rd m SIDR.MAINS_MIN * frameSteps ≤ x - l
    ∧ x - l ≤ rd m SIDR.MAINS_MAX * frameSteps := by
  simp only [meets, meetsBy, meetsFrom, opensAt, opensTo, opens, takesTriggers, takes_iff, inSession_iff] <;> decide +kernel

theorem wit_siderealCommandsComplete_8 :
    let t : Nat := 0
    let l : Nat := 1000
    let s : State := { now (1000 + 500 * 40000) State.reset with sidr := { mainsLast := some 1000 } }
    let m : State := met t s
    meets t s m
    ∧ m.sidr.mainsLast = some l
    ∧ m.sidr.mainsTimedOut = false
    ∧ quality m ≠ qMERIDIAN
    ∧ l + rd m SIDR.MAINS_TIMEOUT * frameSteps ≤ m.time.sc := by
  simp only [meets, meetsBy, meetsFrom, opensAt, opensTo, opens, takesTriggers, takes_iff, inSession_iff] <;> decide +kernel

theorem wit_siderealCommandsComplete_9_up :
    let t : Nat := 0
    let d : Int := 1
    let s : State := now 1000 (State.reset |> wrS SIDR.SLEW_REMAIN 5)
    let m : State := met t s
    meets t s m
    ∧ scPhase m ≠ 0
    ∧ scPhase m % 1000 = 0
    ∧ m.sidr.lastAdj ≠ some m.time.sc
    ∧ (scPhase m = 1000 → m.sidr.oneStep = none)
    ∧ (d = 1 ∧ 1 < slewRem m ∨ d = -1 ∧ slewRem m < -1) := by
  simp only [meets, meetsBy, meetsFrom, opensAt, opensTo, opens, takesTriggers, takes_iff, inSession_iff] <;> decide +kernel

theorem wit_siderealCommandsComplete_9_down :
    let t : Nat := 0
    let d : Int := -1
    let s : State := now 39000 (State.reset |> wrS SIDR.SLEW_REMAIN (-2))
    let m : State := met t s
    meets t s m
    ∧ scPhase m ≠ 0
    ∧ scPhase m % 1000 = 0
    ∧ m.sidr.lastAdj ≠ some m.time.sc
    ∧ (scPhase m = 1000 → m.sidr.oneStep = none)
    ∧ (d = 1 ∧ 1 < slewRem m ∨ d = -1 ∧ slewRem m < -1) := by
  simp only [meets, meetsBy, meetsFrom, opensAt, opensTo, opens, takesTriggers, takes_iff, inSession_iff] <;> decide +kernel

theorem wit_siderealCommandsComplete_10 :
    let t : Nat := 0
    let f : Nat := 5
    let d : Int := -1
    let s : State := { now 1000 State.reset with sidr := { oneStep := some (-1, 5) } }
    let m : State := met t s
    meets t s m
    ∧ scPhase m = 1000
    ∧ m.sidr.lastAdj ≠ some m.time.sc
    ∧ m.sidr.oneStep = some (d, f)
    ∧ slewRem m = 0 := by
  simp only [meets, meetsBy, meetsFrom, opensAt, opensTo, opens, takesTriggers, takes_iff, inSession_iff] <;> decide +kernel

theorem wit_siderealCommandsComplete_11 :
    let t : Nat := 0
    let e : Int := 40000
    let s : State := { now 960000 State.reset with sidr := { stepE := some 40000 } }
    let m : State := met t s
    meets t s m
    ∧ m.sidr.stepE = some e
    ∧ ((m.time.sc : Int) + e) % tickSteps = 0 := by
  simp only [meets, meetsBy, meetsFrom, opensAt, opensTo, opens, takesTriggers, takes_iff, inSession_iff] <;> decide +kernel

theorem wit_siderealCommandsComplete_12 :
    let t : Nat := 0
    let s : State := State.reset
    let m : State := met t s
    meets t s m := by
  simp only [meets, meetsBy, meetsFrom, opensAt, opensTo, opens, takesTriggers, takes_iff, inSession_iff] <;> decide +kernel

theorem wit_stepGivesTheSc_1 :
    let e : Int := -40000
    let s : State := now 40000 State.reset
    0 ≤ (s.time.sc : Int) + e := by
  simp only [meets, meetsBy, meetsFrom, opensAt, opensTo, opens, takesTriggers, takes_iff, inSession_iff] <;> decide +kernel

theorem wit_correctionBySlewOrStep_1_slew :
    let e : Int := -40000
    let s : State := State.reset |> wr SIDR.SC_VALID 1
    e ≠ 0
    ∧ -(2 : Int) ^ 31 ≤ e
    ∧ e < (2 : Int) ^ 31
    ∧ e.natAbs ≤ frameSteps
    ∧ rd s SIDR.SC_VALID = 1 := by
  simp only [meets, meetsBy, meetsFrom, opensAt, opensTo, opens, takesTriggers, takes_iff, inSession_iff] <;> decide +kernel

theorem wit_correctionBySlewOrStep_1_step :
    let e : Int := 40001
    let s : State := State.reset
    e ≠ 0
    ∧ -(2 : Int) ^ 31 ≤ e
    ∧ e < (2 : Int) ^ 31
    ∧ frameSteps < e.natAbs := by
  simp only [meets, meetsBy, meetsFrom, opensAt, opensTo, opens, takesTriggers, takes_iff, inSession_iff] <;> decide +kernel

theorem wit_slewMovesOneStep_1 :
    let t : Nat := 0
    let s : State := now 40500 (State.reset |> wrS SIDR.SLEW_REMAIN 5)
    let m : State := met t s
    meets t s m
    ∧ (scPhase m = 0 ∨ scPhase m % 1000 ≠ 0) := by
  simp only [meets, meetsBy, meetsFrom, opensAt, opensTo, opens, takesTriggers, takes_iff, inSession_iff] <;> decide +kernel

theorem wit_slewMovesOneStep_2_up :
    let t : Nat := 0
    let d : Int := 1
    let s : State := now 1000 (State.reset |> wrS SIDR.SLEW_REMAIN 1)
    let m : State := met t s
    meets t s m
    ∧ scPhase m ≠ 0
    ∧ scPhase m % 1000 = 0
    ∧ m.sidr.lastAdj ≠ some m.time.sc
    ∧ (scPhase m = 1000 → m.sidr.oneStep = none)
    ∧ (d = 1 ∨ d = -1)
    ∧ slewRem m = d
    ∧ rd m SIDR.LINE_USABLE = 0 := by
  simp only [meets, meetsBy, meetsFrom, opensAt, opensTo, opens, takesTriggers, takes_iff, inSession_iff] <;> decide +kernel

theorem wit_slewMovesOneStep_2_down :
    let t : Nat := 0
    let d : Int := -1
    let s : State := now 1000 (State.reset |> wrS SIDR.SLEW_REMAIN (-1))
    let m : State := met t s
    meets t s m
    ∧ scPhase m ≠ 0
    ∧ scPhase m % 1000 = 0
    ∧ m.sidr.lastAdj ≠ some m.time.sc
    ∧ (scPhase m = 1000 → m.sidr.oneStep = none)
    ∧ (d = 1 ∨ d = -1)
    ∧ slewRem m = d
    ∧ rd m SIDR.LINE_USABLE = 0 := by
  simp only [meets, meetsBy, meetsFrom, opensAt, opensTo, opens, takesTriggers, takes_iff, inSession_iff] <;> decide +kernel

theorem wit_ephemerisGuard_1_range :
    let e : Eph := { frame := 0, day := 2 ^ 20 - 1, sod := 86401, leap := 0 }
    let s : State := State.reset
    ephInRange s e = false := by
  simp only [meets, meetsBy, meetsFrom, opensAt, opensTo, opens, takesTriggers, takes_iff, inSession_iff] <;> decide +kernel

theorem wit_ephemerisGuard_1_first :
    let e : Eph := { frame := 0, day := 20003, sod := 0, leap := 0 }
    let s : State := State.reset
    ephInRange s e = true
    ∧ s.sidr.ephHave = false
    ∧ e.frame < 2 ^ 48
    ∧ e.day < 2 ^ 20
    ∧ e.sod < 2 ^ 17
    ∧ e.leap < 4 := by
  simp only [meets, meetsBy, meetsFrom, opensAt, opensTo, opens, takesTriggers, takes_iff, inSession_iff] <;> decide +kernel

theorem wit_ephemerisGuard_1_filter :
    let e : Eph := { frame := 0, day := 20003, sod := 0, leap := 0 }
    let s : State := { (State.reset |> wr SIDR.EPH_FILTER 3) with sidr := { ephHave := true } }
    ephInRange s e = true
    ∧ s.sidr.ephHave = true
    ∧ ephAgrees (lastEph s) e = false
    ∧ ephRunLen s e < rd s SIDR.EPH_FILTER := by
  simp only [meets, meetsBy, meetsFrom, opensAt, opensTo, opens, takesTriggers, takes_iff, inSession_iff] <;> decide +kernel

theorem wit_orreryAndLedgerCommandsComplete_1 :
    let t : Nat := 0
    let p : Port := .pcie
    let w : Nat := p.window
    let s : State := State.reset |> wr (ALM.W_INDEX 0) 4095 |> wr (ALM.W_UNIT 0) 0x0C |> wr (ALM.W_ACTION 0) 1 |> wr (ALM.W_TARGET 0) (2 ^ 16) |> wr (ALM.W_COND 0) 15
    let m : State := metBy (.writer (.fabric p)) t s
    let i : Nat := rd m (ALM.W_INDEX w)
    let e : AEntry := windowEntry m w p.code
    let a : State := accepted p 0x05 (some (ALM.W_CODE w)) m
    meetsFrom p t s m
    ∧ opens m p 0x05
    ∧ w = p.window
    ∧ i = rd m (ALM.W_INDEX w)
    ∧ e = windowEntry m w p.code
    ∧ cmdBusy m (almCmdAddr w) = false
    ∧ 64 ≤ i
    ∧ actionLegalOnly m e.unit e.action e.arg = false
    ∧ protectedFrom m i p.code = false
    ∧ unitAbsent m.fuse.variant e.unit e.arg = false
    ∧ entryRange e (rd m (ALM.W_TIMEBASE w)) = false
    ∧ (e.wall = true → rd m SIDR.WALL_STATE ≠ 0)
    ∧ tooSoon m e = false
    ∧ a = accepted p 0x05 (some (ALM.W_CODE w)) m := by
  simp only [meets, meetsBy, meetsFrom, opensAt, opensTo, opens, takesTriggers, takes_iff, inSession_iff] <;> decide +kernel

theorem wit_orreryAndLedgerCommandsComplete_2 :
    let t : Nat := 0
    let p : Port := .pcie
    let w : Nat := p.window
    let s : State := State.reset |> wr (ALM.W_INDEX 0) 64
    let m : State := metBy (.writer (.fabric p)) t s
    let a : State := accepted p 0x05 (some (ALM.W_CODE w)) m
    meetsFrom p t s m
    ∧ opens m p 0x05
    ∧ w = p.window
    ∧ cmdBusy m (almCmdAddr w) = false
    ∧ 64 ≤ rd m (ALM.W_INDEX w)
    ∧ protectedFrom m (rd m (ALM.W_INDEX w)) p.code = false
    ∧ a = accepted p 0x05 (some (ALM.W_CODE w)) m := by
  simp only [meets, meetsBy, meetsFrom, opensAt, opensTo, opens, takesTriggers, takes_iff, inSession_iff] <;> decide +kernel

theorem wit_orreryAndLedgerCommandsComplete_3 :
    let t : Nat := 0
    let p : Port := .pcie
    let w : Nat := p.window
    let s : State := State.reset
    let m : State := metBy (.writer (.fabric p)) t s
    let a : State := startCmd (almCmdAddr w) 4 (accepted p 0x05 (some (ALM.W_CODE w)) m)
    meetsFrom p t s m
    ∧ opens m p 0x05
    ∧ w = p.window
    ∧ cmdBusy m (almCmdAddr w) = false
    ∧ a = startCmd (almCmdAddr w) 4 (accepted p 0x05 (some (ALM.W_CODE w)) m) := by
  simp only [meets, meetsBy, meetsFrom, opensAt, opensTo, opens, takesTriggers, takes_iff, inSession_iff] <;> decide +kernel

theorem wit_orreryAndLedgerCommandsComplete_4 :
    let t : Nat := 0
    let d : DueFire := { occ := 40000, index := 70, since := 40000, entry := { target := 2 ^ 16, unit := 0x70, action := 1, cond := 15 } }
    let s : State := { now 40000 State.reset with orry := { entries := [(70, { target := 2 ^ 16, unit := 0x70, action := 1, cond := 15 })] } }
    let m : State := met t s
    meets t s m
    ∧ m.orry.firedAt ≠ some m.time.cycle
    ∧ firstDue (dueOrdinary m ++ dueOwed m) = some d
    ∧ fireSkipped (consume d m) d.index d.entry = false := by
  simp only [meets, meetsBy, meetsFrom, opensAt, opensTo, opens, takesTriggers, takes_iff, inSession_iff] <;> decide +kernel

theorem wit_orreryAndLedgerCommandsComplete_5 :
    let t : Nat := 0
    let d : DueFire := { occ := 40000, index := 70, since := 40000, entry := { target := 2 ^ 16, unit := 0x70, action := 1, cond := 1 } }
    let s : State := { now 40000 State.reset with orry := { entries := [(70, { target := 2 ^ 16, unit := 0x70, action := 1, cond := 1 })] } }
    let m : State := met t s
    meets t s m
    ∧ m.orry.firedAt ≠ some m.time.cycle
    ∧ firstDue (dueOrdinary m ++ dueOwed m) = some d
    ∧ fireSkipped (consume d m) d.index d.entry = true := by
  simp only [meets, meetsBy, meetsFrom, opensAt, opensTo, opens, takesTriggers, takes_iff, inSession_iff] <;> decide +kernel

theorem wit_orreryAndLedgerCommandsComplete_6 :
    let t : Nat := 0
    let index : Nat := 4095
    let e : AEntry := { unit := 0x5A }
    let s : State := { State.reset with orry := { entries := [(4095, { unit := 0x5A })] } }
    let m : State := met t s
    meets t s m
    ∧ entryAt m index = some e
    ∧ 64 ≤ index := by
  simp only [meets, meetsBy, meetsFrom, opensAt, opensTo, opens, takesTriggers, takes_iff, inSession_iff] <;> decide +kernel

theorem wit_orreryAndLedgerCommandsComplete_7 :
    let t : Nat := 0
    let p : Port := .pcie
    let s : State := State.reset
    let w : Writer := .fabric .pcie
    let m : State := metBy (.writer w) t s
    let a : State := acceptedBy w 0x02 none m
    meetsBy (.writer w) t s m
    ∧ opensTo m w 0x02
    ∧ rd m LEDG.SNAP_HELD = 0
    ∧ rd m LEDG.SNAP_PENDING = 0
    ∧ a = acceptedBy w 0x02 none m := by
  simp only [meets, meetsBy, meetsFrom, opensAt, opensTo, opens, takesTriggers, takes_iff, inSession_iff] <;> decide +kernel

theorem wit_orreryAndLedgerCommandsComplete_8 :
    let t : Nat := 0
    let s : State := { now 1000000 (State.reset |> wr LEDG.SNAP_PENDING 1) with led := { snapAt := 5 } }
    let m : State := met t s
    meets t s m
    ∧ rd m LEDG.SNAP_PENDING = 1
    ∧ m.led.snapAt < m.time.cycle
    ∧ (m.time.sc % tickSteps = 0 ∨ m.sidr.stepTick = true) := by
  simp only [meets, meetsBy, meetsFrom, opensAt, opensTo, opens, takesTriggers, takes_iff, inSession_iff] <;> decide +kernel

theorem wit_orreryAndLedgerCommandsComplete_9 :
    let t : Nat := 0
    let p : Port := .pcie
    let s : State := State.reset |> wr LEDG.SNAP_HELD 1 |> wr LEDG.SNAP_OWNER 1
    let w : Writer := .fabric .pcie
    let m : State := metBy (.writer w) t s
    meetsBy (.writer w) t s m
    ∧ opensTo m w 0x02
    ∧ rd m LEDG.SNAP_HELD = 1
    ∧ rd m LEDG.SNAP_OWNER = Writer.code w := by
  simp only [meets, meetsBy, meetsFrom, opensAt, opensTo, opens, takesTriggers, takes_iff, inSession_iff] <;> decide +kernel

theorem wit_orreryAndLedgerCommandsComplete_10 :
    let t : Nat := 0
    let d : Nat := 0
    let p : Port := .pcie
    let s : State := State.reset
    let m : State := metBy (.writer (.fabric p)) t s
    meetsFrom p t s m
    ∧ opens m p 0x02
    ∧ d < 6
    ∧ balanced m d = true := by
  simp only [meets, meetsBy, meetsFrom, opensAt, opensTo, opens, takesTriggers, takes_iff, inSession_iff] <;> decide +kernel

theorem wit_orreryFiresTheLowest_1 :
    let l : List DueFire := [{ occ := 5, index := 70, entry := {} }]
    let d : DueFire := { occ := 5, index := 70, entry := {} }
    firstDue l = some d := by
  simp only [meets, meetsBy, meetsFrom, opensAt, opensTo, opens, takesTriggers, takes_iff, inSession_iff] <;> decide +kernel

theorem wit_orreryFiresTheLowest_2 :
    let d : DueFire := { occ := 40000, index := 70, entry := {} }
    let s : State := State.reset
    d.owed = false := by
  simp only [meets, meetsBy, meetsFrom, opensAt, opensTo, opens, takesTriggers, takes_iff, inSession_iff] <;> decide +kernel

theorem wit_orreryFiresTheLowest_3 :
    let e : AEntry := { target := 2 ^ 16, period := 3, lastFire := some 40000 }
    let o : Nat := 40000
    let n : Nat := 120000
    let w : Option (Nat × Nat) := none
    let s : State := State.reset
    e.wall = false
    ∧ e.lastFire = some o
    ∧ nextOcc s e = some (n, w) := by
  simp only [meets, meetsBy, meetsFrom, opensAt, opensTo, opens, takesTriggers, takes_iff, inSession_iff] <;> decide +kernel

theorem wit_triggersAreCountedOnce_1_exec :
    let src : TrigSrc := .cmd
    let u : Nat := 0
    let f : Nat → State → State := trigExec
    let s : State := State.reset
    (f = trigExec ∨ f = trigMerge ∨ f = trigRefuse ∨ f = trigPend)
    ∧ trigBalanced (tallyOf s.led.trig u) = true := by
  simp only [meets, meetsBy, meetsFrom, opensAt, opensTo, opens, takesTriggers, takes_iff, inSession_iff, true_or] <;> decide +kernel

theorem wit_triggersAreCountedOnce_1_refuse :
    let src : TrigSrc := .cmd
    let u : Nat := 0
    let f : Nat → State → State := trigRefuse
    let s : State := State.reset
    (f = trigExec ∨ f = trigMerge ∨ f = trigRefuse ∨ f = trigPend)
    ∧ trigBalanced (tallyOf s.led.trig u) = true := by
  simp only [meets, meetsBy, meetsFrom, opensAt, opensTo, opens, takesTriggers, takes_iff, inSession_iff, true_or, or_true] <;> decide +kernel

theorem wit_triggersAreCountedOnce_2_halted :
    let src : TrigSrc := .cmd
    let u : Nat := 0x70
    let act : State → State := id
    let s : State := { State.reset with led := { trig := [(0x70, { halted := true })] } }
    (unitHalted s u = true ∨ unitRuns s u = false) := by
  simp only [meets, meetsBy, meetsFrom, opensAt, opensTo, opens, takesTriggers, takes_iff, inSession_iff] <;> decide +kernel

theorem wit_triggersAreCountedOnce_2_asleep :
    let src : TrigSrc := .cmd
    let u : Nat := 0x5C
    let act : State → State := id
    let s : State := State.reset |> wr PWR.STATE 3
    (unitHalted s u = true ∨ unitRuns s u = false) := by
  simp only [meets, meetsBy, meetsFrom, opensAt, opensTo, opens, takesTriggers, takes_iff, inSession_iff] <;> decide +kernel

theorem wit_snapshotBankHasOneOwner_1 :
    let t : Nat := 0
    let p : Port := .pcie
    let s : State := State.reset |> wr LEDG.SNAP_PENDING 1
    let w : Writer := .fabric .pcie
    let m : State := metBy (.writer w) t s
    meetsBy (.writer w) t s m
    ∧ opensTo m w 0x02
    ∧ rd m LEDG.SNAP_HELD = 0
    ∧ rd m LEDG.SNAP_PENDING = 1 := by
  simp only [meets, meetsBy, meetsFrom, opensAt, opensTo, opens, takesTriggers, takes_iff, inSession_iff] <;> decide +kernel

theorem wit_snapshotBankHasOneOwner_2 :
    let t : Nat := 0
    let p : Port := .pcie
    let s : State := State.reset |> wr LEDG.SNAP_HELD 1
    let w : Writer := .fabric .pcie
    let m : State := metBy (.writer w) t s
    meetsBy (.writer w) t s m
    ∧ opensTo m w 0x02
    ∧ rd m LEDG.SNAP_HELD = 1 := by
  simp only [meets, meetsBy, meetsFrom, opensAt, opensTo, opens, takesTriggers, takes_iff, inSession_iff] <;> decide +kernel

theorem wit_snapshotBankHasOneOwner_3 :
    let t : Nat := 0
    let p : Port := .pcie
    let s : State := State.reset |> wr LEDG.SNAP_HELD 1 |> wr LEDG.SNAP_OWNER 2
    let w : Writer := .fabric .pcie
    let m : State := metBy (.writer w) t s
    meetsBy (.writer w) t s m
    ∧ opensTo m w 0x02
    ∧ rd m LEDG.SNAP_HELD = 1
    ∧ rd m LEDG.SNAP_OWNER ≠ Writer.code w := by
  simp only [meets, meetsBy, meetsFrom, opensAt, opensTo, opens, takesTriggers, takes_iff, inSession_iff] <;> decide +kernel

theorem wit_snapshotBankHasOneOwner_4 :
    let t : Nat := 0
    let p : Port := .pcie
    let s : State := State.reset
    let w : Writer := .fabric .pcie
    let m : State := metBy (.writer w) t s
    meetsBy (.writer w) t s m
    ∧ opensTo m w 0x02
    ∧ rd m LEDG.SNAP_HELD = 0 := by
  simp only [meets, meetsBy, meetsFrom, opensAt, opensTo, opens, takesTriggers, takes_iff, inSession_iff] <;> decide +kernel

theorem wit_receiveLaneCommandsComplete_1 :
    let t : Nat := 0
    let lane : Nat := 2
    let centre : Nat := 63
    let s : State := now 4096 (State.reset |> wr LANE.RXD2_STATE 1)
    let m : State := met t s
    meets t s m
    ∧ lane < 3
    ∧ rxState m lane = 1
    ∧ (rxOf m lane).entered + 4096 ≤ m.time.cycle := by
  simp only [meets, meetsBy, meetsFrom, opensAt, opensTo, opens, takesTriggers, takes_iff, inSession_iff] <;> decide +kernel

theorem wit_receiveLaneCommandsComplete_2 :
    let t : Nat := 0
    let lane : Nat := 0
    let s : State := now 16384 (State.reset |> wr LANE.RXD0_STATE 2)
    let m : State := met t s
    meets t s m
    ∧ lane < 3
    ∧ rxState m lane = 2
    ∧ (rxOf m lane).entered + 16384 ≤ m.time.cycle := by
  simp only [meets, meetsBy, meetsFrom, opensAt, opensTo, opens, takesTriggers, takes_iff, inSession_iff] <;> decide +kernel

theorem wit_receiveLaneCommandsComplete_3_aligned :
    let t : Nat := 0
    let lane : Nat := 1
    let cand : Nat := 33
    let hits : Nat := 255
    let off : Int := -16
    let s : State := now 528 (State.reset |> wr LANE.RXD0_STATE 5 |> wr LANE.RXD1_STATE 3 |> wr LANE.RXD2_STATE 5)
    let m : State := met t s
    meets t s m
    ∧ lane < 3
    ∧ rxState m lane = 3
    ∧ 1 ≤ cand
    ∧ cand ≤ fullSearch m
    ∧ (rxOf m lane).entered + searchSteps m cand ≤ m.time.cycle
    ∧ aligns m lane off hits = true := by
  simp only [meets, meetsBy, meetsFrom, opensAt, opensTo, opens, takesTriggers, takes_iff, inSession_iff] <;> decide +kernel

theorem wit_receiveLaneCommandsComplete_3_searched :
    let t : Nat := 0
    let lane : Nat := 1
    let cand : Nat := 33
    let hits : Nat := 254
    let off : Int := 0
    let s : State := now 528 (State.reset |> wr LANE.RXD0_STATE 5 |> wr LANE.RXD1_STATE 3 |> wr LANE.RXD2_STATE 5)
    let m : State := met t s
    meets t s m
    ∧ lane < 3
    ∧ rxState m lane = 3
    ∧ 1 ≤ cand
    ∧ cand ≤ fullSearch m
    ∧ (rxOf m lane).entered + searchSteps m cand ≤ m.time.cycle
    ∧ aligns m lane off hits = false
    ∧ cand = fullSearch m := by
  simp only [meets, meetsBy, meetsFrom, opensAt, opensTo, opens, takesTriggers, takes_iff, inSession_iff] <;> decide +kernel

theorem wit_receiveLaneCommandsComplete_4 :
    let t : Nat := 0
    let lane : Nat := 0
    let eye : Nat := 0
    let mm : Nat := 0
    let ok : Bool := false
    let s : State := now 4096 (State.reset |> wr LANE.RXD0_STATE 5)
    let m : State := met t s
    let corrected : List Nat := [0]
    let x : CheckSeen := { mismatches := [0] }
    let errors : Nat := attributed corrected x lane
    let b : State := modRx lane (fun x => { x with winStart := m.time.cycle }) (m |> wr (LANE.ERR_LAST lane) (min errors 0xFFFF) |> wr (LANE.EYE_LAST lane) eye |> addTo (LANE.ERR_TOTAL lane) errors |> countMismatches lane x.mismatches.length)
    meets t s m
    ∧ lane < 3
    ∧ (rxState m lane = 4 ∨ rxState m lane = 5)
    ∧ (rxOf m lane).winStart + 4096 ≤ m.time.cycle
    ∧ errors = attributed corrected x lane
    ∧ (b = modRx lane (fun x => { x with winStart := m.time.cycle }) (m |> wr (LANE.ERR_LAST lane) (min errors 0xFFFF) |> wr (LANE.EYE_LAST lane) eye |> addTo (LANE.ERR_TOTAL lane) errors |> countMismatches lane x.mismatches.length)) := by
  simp only [meets, meetsBy, meetsFrom, opensAt, opensTo, opens, takesTriggers, takes_iff, inSession_iff] <;> decide +kernel

theorem wit_receiveLaneCommandsComplete_5 :
    let t : Nat := 0
    let lane : Nat := 0
    let s : State := atTick 5000 (State.reset |> wr LANE.RXD0_STATE 4)
    let m : State := met t s
    meets t s m
    ∧ lane < 3
    ∧ 1 ≤ rxState m lane
    ∧ rxState m lane ≤ 4
    ∧ (rxOf m lane).phaseTick + rd m LANE.TRAIN_TIMEOUT ≤ m.time.ticks := by
  simp only [meets, meetsBy, meetsFrom, opensAt, opensTo, opens, takesTriggers, takes_iff, inSession_iff] <;> decide +kernel

theorem wit_receiveLaneCommandsComplete_6 :
    let t : Nat := 0
    let lane : Nat := 0
    let s : State := atTick 5000 (State.reset |> wr LANE.RXD0_STATE 6 |> wr LANE.RXC_OK 1)
    let m : State := met t s
    meets t s m
    ∧ lane < 3
    ∧ rxState m lane = 6
    ∧ rd m LANE.RXC_OK = 1
    ∧ (rxOf m lane).downTick + rd m LANE.RETRY_TICKS ≤ m.time.ticks := by
  simp only [meets, meetsBy, meetsFrom, opensAt, opensTo, opens, takesTriggers, takes_iff, inSession_iff] <;> decide +kernel

theorem wit_receiveLaneCommandsComplete_7 :
    let t : Nat := 0
    let lane : Nat := 0
    let param : Nat := 5
    let s : State := now 1000 (State.reset |> wr LANE.RXD0_STATE 5)
    let m : State := met t s
    let n : Nat := (tickUpdOf (rxOf m lane) param).1
    let h : Nat := (tickUpdOf (rxOf m lane) param).2
    let ask : Int := 9
    let lo : Int := (fenceOf m lane param).1
    let hi : Int := (fenceOf m lane param).2
    let cur : Int := liveOf m lane param
    meets t s m
    ∧ lane < 3
    ∧ param < 6
    ∧ (rxState m lane = 2 ∨ rxState m lane = 4 ∨ rxState m lane = 5)
    ∧ rd m (LANE.FREEZE lane) = 0
    ∧ spacedBy (assocN (rxOf m lane).updated param) 256 m.time.cycle = true
    ∧ (lo, hi) = fenceOf m lane param
    ∧ (n, h) = tickUpdOf (rxOf m lane) param
    ∧ cur = liveOf m lane param := by
  simp only [meets, meetsBy, meetsFrom, opensAt, opensTo, opens, takesTriggers, takes_iff, inSession_iff] <;> decide +kernel

theorem wit_receiveLaneCommandsComplete_8 :
    let t : Nat := 0
    let lane : Nat := 0
    let s : State := State.reset |> wr (LANE.HELD_TICKS 0) 65535
    let m : State := met t s
    meets t s m
    ∧ lane < 3
    ∧ rd m LANE.FENCE_TICKS ≤ rd m (LANE.HELD_TICKS lane)
    ∧ 0 < rd m (LANE.HELD_TICKS lane)
    ∧ (rxOf m lane).fenceRaised = false := by
  simp only [meets, meetsBy, meetsFrom, opensAt, opensTo, opens, takesTriggers, takes_iff, inSession_iff] <;> decide +kernel

theorem wit_receiveLaneCommandsComplete_9 :
    let t : Nat := 0
    let lane : Nat := 0
    let p : Port := .pcie
    let s : State := on 0x08 (State.reset |> wr LANE.RXD0_STATE 5 |> wr LANE.RXD1_STATE 5 |> wr LANE.RXD2_STATE 5)
    let m : State := metBy (.writer (.fabric p)) t s
    let a : State := accepted p 0x08 (some LANE.CMD_CODE) m
    meetsFrom p t s m
    ∧ opens m p 0x08
    ∧ lane < 3
    ∧ enabled m 0x08 = true
    ∧ cmdBusy m laneCmdAddr = false
    ∧ rd m LANE.CMD_BUSY = 0
    ∧ leavesTooFew m lane = false
    ∧ rxState m lane ≠ 7
    ∧ a = accepted p 0x08 (some LANE.CMD_CODE) m := by
  simp only [meets, meetsBy, meetsFrom, opensAt, opensTo, opens, takesTriggers, takes_iff, inSession_iff] <;> decide +kernel

theorem wit_receiveLaneCommandsComplete_10 :
    let t : Nat := 0
    let lane : Nat := 0
    let p : Port := .pcie
    let s : State := on 0x08 (State.reset |> wr LANE.RXD0_STATE 7)
    let m : State := metBy (.writer (.fabric p)) t s
    let a : State := accepted p 0x08 (some LANE.CMD_CODE) m
    meetsFrom p t s m
    ∧ opens m p 0x08
    ∧ lane < 3
    ∧ enabled m 0x08 = true
    ∧ cmdBusy m laneCmdAddr = false
    ∧ rd m LANE.CMD_BUSY = 0
    ∧ rxState m lane = 7
    ∧ a = accepted p 0x08 (some LANE.CMD_CODE) m := by
  simp only [meets, meetsBy, meetsFrom, opensAt, opensTo, opens, takesTriggers, takes_iff, inSession_iff] <;> decide +kernel

theorem wit_receiveLaneCommandsComplete_11 :
    let t : Nat := 0
    let s : State := atTick 5000 { (now 10000 (State.reset |> wr LANE.RXD0_STATE 5 |> wr LANE.RXD2_STATE 5)) with lane := { sdLowCycle := 100 } }
    let m : State := met t s
    let b : State := { (m |> incSat LANE.SD_FAILS |> raise 0x08 7) with lane := { m.lane with sdIgnored := true } }
    meets t s m
    ∧ rd m LANE.SD_FILT = 0
    ∧ m.lane.sdIgnored = false
    ∧ m.lane.sdLowTick + rd m LANE.SD_TIMEOUT ≤ m.time.ticks
    ∧ (2 ≤ ((List.range 3).filter fun n => passedSince m n m.lane.sdLowCycle).length)
    ∧ b = { (m |> incSat LANE.SD_FAILS |> raise 0x08 7) with lane := { m.lane with sdIgnored := true } } := by
  simp only [meets, meetsBy, meetsFrom, opensAt, opensTo, opens, takesTriggers, takes_iff, inSession_iff] <;> decide +kernel

theorem wit_receiveLaneCommandsComplete_12 :
    let t : Nat := 0
    let s : State := State.reset |> wr LANE.RXC_OK 1
    let m : State := met t s
    meets t s m
    ∧ rd m LANE.RXC_OK = 1 := by
  simp only [meets, meetsBy, meetsFrom, opensAt, opensTo, opens, takesTriggers, takes_iff, inSession_iff] <;> decide +kernel

theorem wit_receiveLaneCommandsComplete_13 :
    let t : Nat := 0
    let ppm : Int := -100
    let s : State := State.reset |> wr LANE.RXC_OK 1
    let m : State := met t s
    meets t s m
    ∧ rd m LANE.RXC_OK = 1
    ∧ ppm.natAbs ≤ rd m LANE.RXC_RANGE_PPM := by
  simp only [meets, meetsBy, meetsFrom, opensAt, opensTo, opens, takesTriggers, takes_iff, inSession_iff] <;> decide +kernel

theorem wit_lanesFallAndReturn_1 :
    let n : Nat := 2
    let s : State := State.reset |> wr LANE.RXD2_STATE 5
    n < 3
    ∧ rxState s n ≠ 6 := by
  simp only [meets, meetsBy, meetsFrom, opensAt, opensTo, opens, takesTriggers, takes_iff, inSession_iff] <;> decide +kernel

theorem wit_lanesFallAndReturn_2 :
    let n : Nat := 1
    let s : State := { State.reset with lane := { rx1 := { failRun := 254 } } }
    n < 3
    ∧ max 1 (rd s LANE.RX_FILTER) ≤ (rxOf s n).failRun + 1 := by
  simp only [meets, meetsBy, meetsFrom, opensAt, opensTo, opens, takesTriggers, takes_iff, inSession_iff] <;> decide +kernel

theorem wit_lanesFallAndReturn_3 :
    let n : Nat := 0
    let s : State := State.reset
    n < 3 := by
  simp only [meets, meetsBy, meetsFrom, opensAt, opensTo, opens, takesTriggers, takes_iff, inSession_iff] <;> decide +kernel

theorem wit_lanesFallAndReturn_4 :
    let s : State := State.reset
    (enabled s 0x08 = false ∨ rd s LANE.RXC_OK = 0 ∨ sdLevel s = false) := by
  simp only [meets, meetsBy, meetsFrom, opensAt, opensTo, opens, takesTriggers, takes_iff, inSession_iff] <;> decide +kernel

theorem wit_transmitLaneCommandsComplete_1 :
    let t : Nat := 0
    let lane : Nat := 0
    let p : Port := .pcie
    let ok : Bool := false
    let s : State := on 0x08 (State.reset |> wr LANE.RXD0_STATE 5 |> wr LANE.RXD1_STATE 5 |> wr LANE.RXD2_STATE 5)
    let m : State := metBy (.writer (.fabric p)) t s
    let a : State := accepted p 0x08 (some LANE.CMD_CODE) m
    meetsFrom p t s m
    ∧ opens m p 0x08
    ∧ lane < 3
    ∧ enabled m 0x08 = true
    ∧ cmdBusy m laneCmdAddr = false
    ∧ rd m LANE.CMD_BUSY = 0
    ∧ leavesTooFew m lane = false
    ∧ a = accepted p 0x08 (some LANE.CMD_CODE) m := by
  simp only [meets, meetsBy, meetsFrom, opensAt, opensTo, opens, takesTriggers, takes_iff, inSession_iff] <;> decide +kernel

theorem wit_transmitLaneCommandsComplete_2 :
    let t : Nat := 0
    let k : Nat := 1
    let p : Port := .pcie
    let s : State := on 0x08 State.reset
    let m : State := metBy (.writer (.fabric p)) t s
    let a : State := accepted p 0x08 (some LANE.CMD_CODE) m
    meetsFrom p t s m
    ∧ opens m p 0x08
    ∧ k < 2
    ∧ enabled m 0x08 = true
    ∧ cmdBusy m laneCmdAddr = false
    ∧ rd m LANE.CMD_BUSY = 0
    ∧ rd m (txStateF k) ≠ 3
    ∧ rd m (txStateF k) ≠ 6
    ∧ txRetrain m = false
    ∧ a = accepted p 0x08 (some LANE.CMD_CODE) m := by
  simp only [meets, meetsBy, meetsFrom, opensAt, opensTo, opens, takesTriggers, takes_iff, inSession_iff] <;> decide +kernel

theorem wit_transmitLaneCommandsComplete_3_down :
    let t : Nat := 0
    let k : Nat := 0
    let s : State := sending |> wr LANE.TX_AUTO 0
    let m : State := met t s
    let a : State := abortBurst (m |> raise 0x08 (10 + k) |> incSat LANE.TX_FAILS)
    meets t s m
    ∧ txActive m = some k
    ∧ a = abortBurst (m |> raise 0x08 (10 + k) |> incSat LANE.TX_FAILS)
    ∧ a.lane.swap = none
    ∧ (rd a LANE.TX_AUTO = 0 ∨ rd a (txStateF (1 - k)) ≠ 0) := by
  simp only [meets, meetsBy, meetsFrom, opensAt, opensTo, opens, takesTriggers, takes_iff, inSession_iff] <;> decide +kernel

theorem wit_transmitLaneCommandsComplete_3_spare :
    let t : Nat := 0
    let k : Nat := 0
    let s : State := sending |> wr LANE.TX_AUTO 1
    let m : State := met t s
    let a : State := abortBurst (m |> raise 0x08 (10 + k) |> incSat LANE.TX_FAILS)
    meets t s m
    ∧ txActive m = some k
    ∧ a = abortBurst (m |> raise 0x08 (10 + k) |> incSat LANE.TX_FAILS)
    ∧ a.lane.swap = none
    ∧ rd a LANE.TX_AUTO = 1
    ∧ rd a (txStateF (1 - k)) = 0 := by
  simp only [meets, meetsBy, meetsFrom, opensAt, opensTo, opens, takesTriggers, takes_iff, inSession_iff] <;> decide +kernel

theorem wit_transmitLaneCommandsComplete_4 :
    let t : Nat := 0
    let w : TxSwap := ⟨1, 0, true, false⟩
    let s : State := { now 50000 State.reset with lane := { swap := some ⟨1, 0, true, false⟩ } }
    let m : State := met t s
    meets t s m
    ∧ m.lane.swap = some w
    ∧ w.start + trainSteps m + 4 ≤ m.time.cycle
    ∧ m.time.cycle ≤ w.start + rd m LANE.TX_TIMEOUT * tickSteps := by
  simp only [meets, meetsBy, meetsFrom, opensAt, opensTo, opens, takesTriggers, takes_iff, inSession_iff] <;> decide +kernel

theorem wit_transmitLaneCommandsComplete_5 :
    let t : Nat := 0
    let c : Nat := 4
    let s : State := { now 4100 State.reset with lane := { txTrain := some 4 } }
    let m : State := met t s
    meets t s m
    ∧ m.lane.txTrain = some c
    ∧ c + 4096 ≤ m.time.cycle := by
  simp only [meets, meetsBy, meetsFrom, opensAt, opensTo, opens, takesTriggers, takes_iff, inSession_iff] <;> decide +kernel

theorem wit_transmitLaneCommandsComplete_6 :
    let t : Nat := 0
    let p : Port := .pcie
    let s : State := on 0x08 { State.reset with lane := { fltGuard := true } }
    let m : State := metBy (.writer (.fabric p)) t s
    let a : State := accepted p 0x08 (some LANE.CMD_CODE) (wr LANE.TXFLT_FILT 0 m)
    meetsFrom p t s m
    ∧ opens (wr LANE.TXFLT_FILT 0 m) p 0x08
    ∧ enabled m 0x08 = true
    ∧ cmdBusy m laneCmdAddr = false
    ∧ rd m LANE.CMD_BUSY = 0
    ∧ m.lane.fltGuard = true
    ∧ a = accepted p 0x08 (some LANE.CMD_CODE) (wr LANE.TXFLT_FILT 0 m) := by
  simp only [meets, meetsBy, meetsFrom, opensAt, opensTo, opens, takesTriggers, takes_iff, inSession_iff] <;> decide +kernel

theorem wit_transmitLaneCommandsComplete_7 :
    let t : Nat := 0
    let s : State := State.reset
    let m : State := met t s
    let edges : List Nat := inSecond m.time.cycle (m.time.cycle :: m.lane.sdEdges)
    meets t s m
    ∧ edges = inSecond m.time.cycle (m.time.cycle :: m.lane.sdEdges)
    ∧ edges.length ≤ rd m LANE.SD_MAX_EDGES := by
  simp only [meets, meetsBy, meetsFrom, opensAt, opensTo, opens, takesTriggers, takes_iff, inSession_iff] <;> decide +kernel

theorem wit_transmitLaneCommandsComplete_8 :
    let t : Nat := 0
    let s : State := State.reset
    let m : State := met t s
    meets t s m
    ∧ txenDriven m = false := by
  simp only [meets, meetsBy, meetsFrom, opensAt, opensTo, opens, takesTriggers, takes_iff, inSession_iff] <;> decide +kernel

theorem wit_transmitLaneCommandsComplete_9 :
    let t : Nat := 0
    let s : State := State.reset |> wr LANE.TXFLT_FILT 1
    let m : State := met t s
    meets t s m := by
  simp only [meets, meetsBy, meetsFrom, opensAt, opensTo, opens, takesTriggers, takes_iff, inSession_iff] <;> decide +kernel

theorem wit_transmitLaneCommandsComplete_10 :
    let t : Nat := 0
    let s : State := atTick 5000 (State.reset |> wr LANE.TXFLT_FILT 1)
    let m : State := met t s
    meets t s m
    ∧ rd m LANE.TXFLT_FILT = 1
    ∧ m.lane.fltTick + rd m LANE.TXFLT_TIMEOUT ≤ m.time.ticks
    ∧ m.lane.fltGuard = false := by
  simp only [meets, meetsBy, meetsFrom, opensAt, opensTo, opens, takesTriggers, takes_iff, inSession_iff] <;> decide +kernel

theorem wit_lineCommandsComplete_1 :
    let t : Nat := 0
    let bytes : List Nat := frameHead 5
    let s : State := on 0x0A (State.reset |> wr FRMD.DELIN 2 |> wr LANE.LINK 1 |> wr LANE.RX_PRECODE 0)
    let m : State := met t s
    let sub : Nat := 0
    let x0 : List Nat := 0 :: (downLevels (frameHead 5)).1
    let x1 : List Nat := 0 :: (downLevels (frameHead 5)).2.1
    let x2 : List Nat := 0 :: (downLevels (frameHead 5)).2.2
    let f : RxFrame := rxFrame (lineBytes m x0 x1 x2)
    meets t s m
    ∧ f = rxFrame (lineBytes m x0 x1 x2)
    ∧ enabled m 0x0A = true
    ∧ linkLost (rd m LANE.LINK) = false
    ∧ rd m FRMD.DELIN = 2
    ∧ 8 * m.time.cycle + sub = m.line.nextAt
    ∧ f.psErrors ≤ rd m FRMD.PSYNC_TOL := by
  simp only [meets, meetsBy, meetsFrom, opensAt, opensTo, opens, takesTriggers, takes_iff, inSession_iff] <;> decide +kernel

theorem wit_lineCommandsComplete_2 :
    let t : Nat := 0
    let c : Nat := 5
    let bytes : List Nat := frameHead 5
    let f : RxFrame := rxFrame bytes
    let s : State := on 0x0A (State.reset |> wr LANE.LINK 1 |> wr LANE.RX_PRECODE 0)
    let m : State := met t s
    let sub : Nat := 7
    let k : Nat := 0
    let x0 : List Nat := 0 :: (downLevels (frameHead 5)).1
    let x1 : List Nat := 0 :: (downLevels (frameHead 5)).2.1
    let x2 : List Nat := 0 :: (downLevels (frameHead 5)).2.2
    meets t s m
    ∧ enabled m 0x0A = true
    ∧ linkLost (rd m LANE.LINK) = false
    ∧ rd m FRMD.DELIN = 0
    ∧ findSync 0 (lineBytes m x0 x1 x2) = some (k, c) := by
  simp only [meets, meetsBy, meetsFrom, opensAt, opensTo, opens, takesTriggers, takes_iff, inSession_iff] <;> decide +kernel

theorem wit_lineCommandsComplete_3 :
    let t : Nat := 0
    let s : State := on 0x0A (now 5000000 State.reset)
    let m : State := met t s
    meets t s m
    ∧ enabled m 0x0A = true
    ∧ linkLost (rd m LANE.LINK) = true
    ∧ m.lane.linkBad + rd m FRMD.LOS_SET ≤ m.time.cycle := by
  simp only [meets, meetsBy, meetsFrom, opensAt, opensTo, opens, takesTriggers, takes_iff, inSession_iff] <;> decide +kernel

theorem wit_lineCommandsComplete_4 :
    let t : Nat := 0
    let s : State := now 50000000 (State.reset |> wr LANE.LINK 1)
    let m : State := met t s
    meets t s m
    ∧ linkLost (rd m LANE.LINK) = false
    ∧ m.lane.linkGood + rd m FRMD.LOS_CLR * frameSteps ≤ m.time.cycle := by
  simp only [meets, meetsBy, meetsFrom, opensAt, opensTo, opens, takesTriggers, takes_iff, inSession_iff] <;> decide +kernel

theorem wit_lineCommandsComplete_5 :
    let t : Nat := 0
    let s : State := on 0x0A (now 50000000 State.reset)
    let m : State := met t s
    meets t s m
    ∧ enabled m 0x0A = true
    ∧ rd m FRMD.DELIN ≠ 2
    ∧ m.line.outAt + rd m FRMD.LOF_SET * frameSteps ≤ m.time.cycle := by
  simp only [meets, meetsBy, meetsFrom, opensAt, opensTo, opens, takesTriggers, takes_iff, inSession_iff] <;> decide +kernel

theorem wit_lineCommandsComplete_6 :
    let t : Nat := 0
    let s : State := on 0x0A (now 4000000 State.reset)
    let m : State := met t s
    meets t s m
    ∧ enabled m 0x0A = true
    ∧ scPhase m = 0
    ∧ scFrame m % 100 = 0
    ∧ m.line.sfAt ≠ some m.time.sc := by
  simp only [meets, meetsBy, meetsFrom, opensAt, opensTo, opens, takesTriggers, takes_iff, inSession_iff] <;> decide +kernel

theorem wit_lineCommandsComplete_7 :
    let t : Nat := 0
    let s : State := on 0x0A (now 400000000 State.reset)
    let m : State := met t s
    meets t s m
    ∧ enabled m 0x0A = true
    ∧ scPhase m = 0
    ∧ scFrame m % 10000 = 0
    ∧ m.line.sdAt ≠ some m.time.sc := by
  simp only [meets, meetsBy, meetsFrom, opensAt, opensTo, opens, takesTriggers, takes_iff, inSession_iff] <;> decide +kernel

theorem wit_lineCommandsComplete_8 :
    let t : Nat := 0
    let s : State := now 400000000 State.reset
    let m : State := met t s
    meets t s m
    ∧ m.time.sc % secondSteps = 0
    ∧ m.pmon.sec.start ≠ m.time.sc := by
  simp only [meets, meetsBy, meetsFrom, opensAt, opensTo, opens, takesTriggers, takes_iff, inSession_iff] <;> decide +kernel

theorem wit_lineCommandsComplete_9 :
    let t : Nat := 0
    let d : PmDone := { endSc := 1, finSc := 9 }
    let r : List PmDone := []
    let s : State := now 9 { State.reset with pmon := { done := [{ endSc := 1, finSc := 9 }] } }
    let m : State := met t s
    meets t s m
    ∧ m.pmon.done = d :: r
    ∧ d.finSc ≤ m.time.sc := by
  simp only [meets, meetsBy, meetsFrom, opensAt, opensTo, opens, takesTriggers, takes_iff, inSession_iff] <;> decide +kernel

theorem wit_lineCommandsComplete_10 :
    let t : Nat := 0
    let occ : Nat := 40000
    let b : Nat := (boundaryFor (met 0 State.reset) 40000).1
    let fin : Nat := (boundaryFor (met 0 State.reset) 40000).2.2
    let src : TrigSrc := .cmd
    let s : State := State.reset
    let m : State := met t s
    let c : State := arrived src 0x0C m
    let n : Nat := (boundaryFor (met 0 State.reset) 40000).2.1
    meets t s m
    ∧ c = arrived src 0x0C m
    ∧ takesTriggers c 0x0C
    ∧ m.pmon.bin15.closing = none
    ∧ (b, n, fin) = boundaryFor m occ := by
  simp only [meets, meetsBy, meetsFrom, opensAt, opensTo, opens, takesTriggers, takes_iff, inSession_iff] <;> decide +kernel

theorem wit_lineCommandsComplete_11 :
    let t : Nat := 0
    let c : Bin := { endSc := 5 }
    let s : State := now 5000000 { State.reset with pmon := { bin15 := { closing := some { endSc := 5 }, closeFin := 5 } } }
    let m : State := met t s
    meets t s m
    ∧ closeDue m 1 = some c := by
  simp only [meets, meetsBy, meetsFrom, opensAt, opensTo, opens, takesTriggers, takes_iff, inSession_iff] <;> decide +kernel

theorem wit_lineCommandsComplete_12 :
    let t : Nat := 0
    let p : Port := .pcie
    let s : State := State.reset
    let m : State := metBy (.writer (.fabric p)) t s
    let a : State := renewLease p 0x0C m
    let b : BinSet := { cur := freshBin a }
    meetsFrom p t s m
    ∧ opens m p 0x0C
    ∧ m.pmon.bin15.closing = none
    ∧ m.pmon.binDay.closing = none
    ∧ a = renewLease p 0x0C m
    ∧ b = { cur := freshBin a } := by
  simp only [meets, meetsBy, meetsFrom, opensAt, opensTo, opens, takesTriggers, takes_iff, inSession_iff] <;> decide +kernel

theorem wit_lineCommandsComplete_13 :
    let t : Nat := 0
    let p : Port := .pcie
    let s : State := State.reset
    let m : State := metBy (.writer (.fabric p)) t s
    let a : State := renewLease p 0x0C m
    meetsFrom p t s m
    ∧ opens m p 0x0C
    ∧ a = renewLease p 0x0C m := by
  simp only [meets, meetsBy, meetsFrom, opensAt, opensTo, opens, takesTriggers, takes_iff, inSession_iff] <;> decide +kernel

theorem wit_defectsAreDeclaredByRank_1 :
    let b : Nat := 4
    let s : State := State.reset
    b < 5
    ∧ bit (rd s FRMD.DETECTED) b = false
    ∧ rd s FRMD.DETECTED < 32 := by
  simp only [meets, meetsBy, meetsFrom, opensAt, opensTo, opens, takesTriggers, takes_iff, inSession_iff] <;> decide +kernel

theorem wit_defectsAreDeclaredByRank_2 :
    let b : Nat := 4
    let s : State := State.reset |> wr FRMD.DETECTED 17
    b < 5
    ∧ bit (rd s FRMD.DETECTED) b = true
    ∧ rd s FRMD.DETECTED < 32 := by
  simp only [meets, meetsBy, meetsFrom, opensAt, opensTo, opens, takesTriggers, takes_iff, inSession_iff] <;> decide +kernel

theorem wit_activationCommandsComplete_1 :
    let t : Nat := 0
    let k : Nat := 0
    let b : List Nat := rangingGrant
    let r : List (Nat × List Nat) := []
    let g : Grant := grantOf b
    let s : State := { (sending |> wr ACTV.TERM_ID 0) with line := { grants := [(0, rangingGrant)], grantLead := 4, preLong := 4 } }
    let m : State := met t s
    let a : State := { m with line := { m.line with grants := r } }
    let p : Plan := planOf a g
    let o : State := { a with line := { a.line with owned := a.line.owned + 1 } }
    let c : State := inc (ACTV.CNT 0) o
    meets t s m
    ∧ m.line.grants = (k, b) :: r
    ∧ g = grantOf b
    ∧ a = { m with line := { m.line with grants := r } }
    ∧ g.crcOk = true
    ∧ rd m ACTV.STATE = 3
    ∧ g.term = rd m ACTV.TERM_ID
    ∧ p = planOf a g
    ∧ o = { a with line := { a.line with owned := a.line.owned + 1 } }
    ∧ entryBad o g p = false
    ∧ c = inc (ACTV.CNT 0) o
    ∧ entryLate c k p = false
    ∧ fallsInRetrain c p = false := by
  simp only [meets, meetsBy, meetsFrom, opensAt, opensTo, opens, takesTriggers, takes_iff, inSession_iff] <;> decide +kernel

theorem wit_activationCommandsComplete_2 :
    let t : Nat := 0
    let p : Plan := rangingPlan
    let s : State := { sending with burst := { plans := [rangingPlan] } }
    let m : State := met t s
    meets t s m
    ∧ ((m.burst.plans.filter fun p => decide (launchCycle m p ≤ m.time.cycle)).foldl (sooner m) none = some p)
    ∧ txForcedLow m = false
    ∧ (∀ c, contOf m p = some c → c.ksLeft = 0) := by
  simp only [meets, meetsBy, meetsFrom, opensAt, opensTo, opens, takesTriggers, takes_iff, inSession_iff] <;> decide +kernel

theorem wit_activationCommandsComplete_3 :
    let t : Nat := 0
    let k : Nat := 100
    let s : State := atTick 5000 { State.reset with actv := { to1 := some 100 } }
    let m : State := met t s
    meets t s m
    ∧ m.actv.to1 = some k
    ∧ k + rd m ACTV.TO1 ≤ m.time.ticks := by
  simp only [meets, meetsBy, meetsFrom, opensAt, opensTo, opens, takesTriggers, takes_iff, inSession_iff] <;> decide +kernel

theorem wit_activationCommandsComplete_4 :
    let t : Nat := 0
    let k : Nat := 100
    let s : State := atTick 500000 { State.reset with actv := { to2 := some 100 } }
    let m : State := met t s
    meets t s m
    ∧ to2Start m = some k
    ∧ k + rd m ACTV.TO2 ≤ m.time.ticks := by
  simp only [meets, meetsBy, meetsFrom, opensAt, opensTo, opens, takesTriggers, takes_iff, inSession_iff] <;> decide +kernel

theorem wit_activationCommandsComplete_5 :
    let t : Nat := 0
    let p : Port := .pcie
    let s : State := State.reset |> wr ACTV.STATE 3 |> wr ACTV.RANGED_FLAG 1 |> wr SIDR.ADV_VALID 1 |> wr ACTV.RANGED_ADVANCE 100 |> wr SIDR.ADV_BITS 100
    let m : State := metBy (.writer (.fabric p)) t s
    let a : State := accepted p 0x0D (some ACTV.CMD_CODE) m
    meetsFrom p t s m
    ∧ opens m p 0x0D
    ∧ cmdBusy m actvCmdAddr = false
    ∧ rd m ACTV.STATE = 3
    ∧ rd m ACTV.RANGED_FLAG = 1
    ∧ rd m SIDR.ADV_VALID = 1
    ∧ rd m SIDR.ADV_BITS = rd m ACTV.RANGED_ADVANCE
    ∧ a = accepted p 0x0D (some ACTV.CMD_CODE) m := by
  simp only [meets, meetsBy, meetsFrom, opensAt, opensTo, opens, takesTriggers, takes_iff, inSession_iff] <;> decide +kernel

theorem wit_activationCommandsComplete_6 :
    let t : Nat := 0
    let p : Port := .pcie
    let s : State := State.reset |> wr ACTV.STATE 7
    let m : State := metBy (.writer (.fabric p)) t s
    let b : State := { m with actv := { m.actv with padHigh := false } }
    let a : State := accepted p 0x0D (some ACTV.CMD_CODE) b
    meetsFrom p t s m
    ∧ b = { m with actv := { m.actv with padHigh := false } }
    ∧ opens b p 0x0D
    ∧ cmdBusy m actvCmdAddr = false
    ∧ rd m ACTV.STATE = 7
    ∧ m.lane.fltGuard = false
    ∧ a = accepted p 0x0D (some ACTV.CMD_CODE) b := by
  simp only [meets, meetsBy, meetsFrom, opensAt, opensTo, opens, takesTriggers, takes_iff, inSession_iff] <;> decide +kernel

theorem wit_activationCommandsComplete_7 :
    let t : Nat := 0
    let p : Port := .pcie
    let s : State := State.reset |> wr ACTV.STATE 5
    let m : State := metBy (.writer (.fabric p)) t s
    let a : State := accepted p 0x0D (some ACTV.CMD_CODE) m
    meetsFrom p t s m
    ∧ opens m p 0x0D
    ∧ cmdBusy m actvCmdAddr = false
    ∧ 1 ≤ rd m ACTV.STATE
    ∧ rd m ACTV.STATE ≤ 5
    ∧ a = accepted p 0x0D (some ACTV.CMD_CODE) m := by
  simp only [meets, meetsBy, meetsFrom, opensAt, opensTo, opens, takesTriggers, takes_iff, inSession_iff] <;> decide +kernel

theorem wit_activationCommandsComplete_8 :
    let t : Nat := 0
    let p : Port := .pcie
    let s : State := State.reset |> wr ACTV.STATE 4 |> wr ACTV.UPMSG_TYPE 0x90
    let m : State := metBy (.writer (.fabric p)) t s
    let a : State := renewLease p 0x0D m
    meetsFrom p t s m
    ∧ opens m p 0x0D
    ∧ m.actv.micMsg = none
    ∧ rd m ACTV.UPMSG_TYPE = 0x90
    ∧ rd m ACTV.STATE = 4
    ∧ m.actv.upq.length < 8
    ∧ a = renewLease p 0x0D m := by
  simp only [meets, meetsBy, meetsFrom, opensAt, opensTo, opens, takesTriggers, takes_iff, inSession_iff] <;> decide +kernel

theorem wit_activationCommandsComplete_9 :
    let t : Nat := 0
    let s : State := now 50000 State.reset
    let m : State := met t s
    meets t s m
    ∧ txenDriven m = false
    ∧ m.burst.txFall + rd m ACTV.ROGUE_FILTER ≤ m.time.cycle := by
  simp only [meets, meetsBy, meetsFrom, opensAt, opensTo, opens, takesTriggers, takes_iff, inSession_iff] <;> decide +kernel

theorem wit_activationCommandsComplete_10 :
    let t : Nat := 0
    let s : State := { now 5000 sending with burst := { txRise := 1000, txFall := 9000 } }
    let m : State := met t s
    meets t s m
    ∧ txenDriven m = true
    ∧ riseAt m + 4000 ≤ m.time.cycle := by
  simp only [meets, meetsBy, meetsFrom, opensAt, opensTo, opens, takesTriggers, takes_iff, inSession_iff] <;> decide +kernel

theorem wit_headEndMessagesComplete_1 :
    let t : Nat := 0
    let k : Nat := 0
    let b : List Nat := oamMsg 1 [4, 4, 1, 1]
    let r : List (Nat × Nat × List Nat) := []
    let s : State := withMsg (oamMsg 1 [4, 4, 1, 1]) State.reset
    let m : State := met t s
    let f : Nat := 0
    meets t s m
    ∧ m.line.oam = (f, k, b) :: r
    ∧ msgType b = 0x01
    ∧ profileOk m k b = true
    ∧ rd m ACTV.STATE ≠ 7 := by
  simp only [meets, meetsBy, meetsFrom, opensAt, opensTo, opens, takesTriggers, takes_iff, inSession_iff] <;> decide +kernel

theorem wit_headEndMessagesComplete_2 :
    let t : Nat := 0
    let k : Nat := 0
    let b : List Nat := oamMsg 2 [0, 0, 0, 0, 0, 0, 0, 7, 0x0F, 0xFD]
    let r : List (Nat × Nat × List Nat) := []
    let s : State := withMsg (oamMsg 2 [0, 0, 0, 0, 0, 0, 0, 7, 0x0F, 0xFD]) (State.reset |> wr ACTV.STATE 2 |> wr ACTV.SERIAL 7)
    let m : State := met t s
    let f : Nat := 0
    meets t s m
    ∧ m.line.oam = (f, k, b) :: r
    ∧ msgType b = 0x02
    ∧ unusedZero b 14 = true
    ∧ be (slice b 12 2) ≤ 0xFFD
    ∧ rd m ACTV.STATE = 2
    ∧ serialMatch m b = true := by
  simp only [meets, meetsBy, meetsFrom, opensAt, opensTo, opens, takesTriggers, takes_iff, inSession_iff] <;> decide +kernel

theorem wit_headEndMessagesComplete_3 :
    let t : Nat := 0
    let k : Nat := 0
    let b : List Nat := oamMsg 3 [5, 0, 0, 0, 1]
    let r : List (Nat × Nat × List Nat) := []
    let s : State := withMsg (oamMsg 3 [5, 0, 0, 0, 1]) (State.reset |> wr ACTV.STATE 4)
    let m : State := met t s
    let f : Nat := 0
    meets t s m
    ∧ m.line.oam = (f, k, b) :: r
    ∧ msgType b = 0x03
    ∧ unusedZero b 9 = true
    ∧ (rd m ACTV.STATE = 3 ∨ rd m ACTV.STATE = 4) := by
  simp only [meets, meetsBy, meetsFrom, opensAt, opensTo, opens, takesTriggers, takes_iff, inSession_iff] <;> decide +kernel

theorem wit_headEndMessagesComplete_4 :
    let t : Nat := 0
    let k : Nat := 0
    let b : List Nat := oamMsg 4 []
    let r : List (Nat × Nat × List Nat) := []
    let s : State := withMsg (oamMsg 4 []) (State.reset |> wr ACTV.STATE 1)
    let m : State := met t s
    let f : Nat := 0
    meets t s m
    ∧ m.line.oam = (f, k, b) :: r
    ∧ msgType b = 0x04
    ∧ unusedZero b 4 = true
    ∧ 1 ≤ rd m ACTV.STATE
    ∧ rd m ACTV.STATE ≤ 5 := by
  simp only [meets, meetsBy, meetsFrom, opensAt, opensTo, opens, takesTriggers, takes_iff, inSession_iff] <;> decide +kernel

theorem wit_headEndMessagesComplete_5 :
    let t : Nat := 0
    let k : Nat := 0
    let b : List Nat := oamMsg 5 []
    let r : List (Nat × Nat × List Nat) := []
    let s : State := withMsg (oamMsg 5 []) (State.reset |> wr ACTV.STATE 4)
    let m : State := met t s
    let f : Nat := 0
    meets t s m
    ∧ m.line.oam = (f, k, b) :: r
    ∧ msgType b = 0x05
    ∧ unusedZero b 12 = true
    ∧ rd m ACTV.STATE ≠ 7
    ∧ serialMatch m b = true := by
  simp only [meets, meetsBy, meetsFrom, opensAt, opensTo, opens, takesTriggers, takes_iff, inSession_iff] <;> decide +kernel

theorem wit_headEndMessagesComplete_6 :
    let t : Nat := 0
    let k : Nat := 0
    let b : List Nat := oamMsg 6 (List.replicate 8 255)
    let r : List (Nat × Nat × List Nat) := []
    let s : State := withMsg (oamMsg 6 (List.replicate 8 255)) (State.reset |> wr ACTV.STATE 6)
    let m : State := met t s
    let f : Nat := 0
    meets t s m
    ∧ m.line.oam = (f, k, b) :: r
    ∧ msgType b = 0x06
    ∧ unusedZero b 12 = true
    ∧ rd m ACTV.STATE = 6
    ∧ (serialMatch m b = true ∨ be (slice b 4 8) = 2 ^ 64 - 1) := by
  simp only [meets, meetsBy, meetsFrom, opensAt, opensTo, opens, takesTriggers, takes_iff, inSession_iff] <;> decide +kernel

theorem wit_headEndMessagesComplete_7 :
    let t : Nat := 0
    let k : Nat := 0
    let b : List Nat := oamMsg 7 []
    let r : List (Nat × Nat × List Nat) := []
    let s : State := withMsg (oamMsg 7 []) (State.reset |> wr ACTV.STATE 5)
    let m : State := met t s
    let f : Nat := 0
    meets t s m
    ∧ m.line.oam = (f, k, b) :: r
    ∧ msgType b = 0x07
    ∧ unusedZero b 4 = true
    ∧ rd m ACTV.STATE = 5
    ∧ rd m FRMD.DETECTED % 8 = 0 := by
  simp only [meets, meetsBy, meetsFrom, opensAt, opensTo, opens, takesTriggers, takes_iff, inSession_iff] <;> decide +kernel

theorem wit_headEndMessagesComplete_8 :
    let t : Nat := 0
    let k : Nat := 0
    let b : List Nat := oamMsg 8 []
    let r : List (Nat × Nat × List Nat) := []
    let s : State := withMsg (oamMsg 8 []) State.reset
    let m : State := met t s
    let f : Nat := 0
    meets t s m
    ∧ m.line.oam = (f, k, b) :: r
    ∧ msgType b = 0x08
    ∧ ephFormOk m k b = true
    ∧ rd m ACTV.EPH_AUTH = 0 := by
  simp only [meets, meetsBy, meetsFrom, opensAt, opensTo, opens, takesTriggers, takes_iff, inSession_iff] <;> decide +kernel

theorem wit_headEndMessagesComplete_9_pathConfig :
    let t : Nat := 0
    let f : Nat := 0
    let k : Nat := 0
    let ty : Nat := 0x10
    let c : Instr := .pathConfig t false
    let b : List Nat := oamMsg 0x10 []
    let r : List (Nat × Nat × List Nat) := []
    let s : State := withMsg (oamMsg 0x10 []) { (State.reset |> wr SYS.STC_STATE 2) with actv := { mic := some true } }
    let m : State := met t s
    meets t s m
    ∧ m.line.oam = (f, k, b) :: r
    ∧ msgType b = ty
    ∧ be (slice b 0 2) % 16 = 0
    ∧ rd m SYS.STC_STATE = 2
    ∧ ((ty = 0x10 ∧ c = .pathConfig t false) ∨ (ty = 0x11 ∧ c = .keyControl t false) ∨ (ty = 0x12 ∧ c = .price t false) ∨ (ty = 0x13 ∧ c = .credit t false) ∨ (ty = 0x14 ∧ c = .oamRequest t false))
    ∧ m.actv.mic = some true := by
  simp only [meets, meetsBy, meetsFrom, opensAt, opensTo, opens, takesTriggers, takes_iff, inSession_iff] <;> decide +kernel

theorem wit_headEndMessagesComplete_9_keyControl :
    let t : Nat := 0
    let f : Nat := 0
    let k : Nat := 0
    let ty : Nat := 0x11
    let c : Instr := .keyControl t false
    let b : List Nat := oamMsg 0x11 []
    let r : List (Nat × Nat × List Nat) := []
    let s : State := withMsg (oamMsg 0x11 []) { (State.reset |> wr SYS.STC_STATE 2) with actv := { mic := some true } }
    let m : State := met t s
    meets t s m
    ∧ m.line.oam = (f, k, b) :: r
    ∧ msgType b = ty
    ∧ be (slice b 0 2) % 16 = 0
    ∧ rd m SYS.STC_STATE = 2
    ∧ ((ty = 0x10 ∧ c = .pathConfig t false) ∨ (ty = 0x11 ∧ c = .keyControl t false) ∨ (ty = 0x12 ∧ c = .price t false) ∨ (ty = 0x13 ∧ c = .credit t false) ∨ (ty = 0x14 ∧ c = .oamRequest t false))
    ∧ m.actv.mic = some true := by
  simp only [meets, meetsBy, meetsFrom, opensAt, opensTo, opens, takesTriggers, takes_iff, inSession_iff] <;> decide +kernel

theorem wit_headEndMessagesComplete_9_price :
    let t : Nat := 0
    let f : Nat := 0
    let k : Nat := 0
    let ty : Nat := 0x12
    let c : Instr := .price t false
    let b : List Nat := oamMsg 0x12 []
    let r : List (Nat × Nat × List Nat) := []
    let s : State := withMsg (oamMsg 0x12 []) { (State.reset |> wr SYS.STC_STATE 2) with actv := { mic := some true } }
    let m : State := met t s
    meets t s m
    ∧ m.line.oam = (f, k, b) :: r
    ∧ msgType b = ty
    ∧ be (slice b 0 2) % 16 = 0
    ∧ rd m SYS.STC_STATE = 2
    ∧ ((ty = 0x10 ∧ c = .pathConfig t false) ∨ (ty = 0x11 ∧ c = .keyControl t false) ∨ (ty = 0x12 ∧ c = .price t false) ∨ (ty = 0x13 ∧ c = .credit t false) ∨ (ty = 0x14 ∧ c = .oamRequest t false))
    ∧ m.actv.mic = some true := by
  simp only [meets, meetsBy, meetsFrom, opensAt, opensTo, opens, takesTriggers, takes_iff, inSession_iff] <;> decide +kernel

theorem wit_headEndMessagesComplete_9_credit :
    let t : Nat := 0
    let f : Nat := 0
    let k : Nat := 0
    let ty : Nat := 0x13
    let c : Instr := .credit t false
    let b : List Nat := oamMsg 0x13 []
    let r : List (Nat × Nat × List Nat) := []
    let s : State := withMsg (oamMsg 0x13 []) { (State.reset |> wr SYS.STC_STATE 2) with actv := { mic := some true } }
    let m : State := met t s
    meets t s m
    ∧ m.line.oam = (f, k, b) :: r
    ∧ msgType b = ty
    ∧ be (slice b 0 2) % 16 = 0
    ∧ rd m SYS.STC_STATE = 2
    ∧ ((ty = 0x10 ∧ c = .pathConfig t false) ∨ (ty = 0x11 ∧ c = .keyControl t false) ∨ (ty = 0x12 ∧ c = .price t false) ∨ (ty = 0x13 ∧ c = .credit t false) ∨ (ty = 0x14 ∧ c = .oamRequest t false))
    ∧ m.actv.mic = some true := by
  simp only [meets, meetsBy, meetsFrom, opensAt, opensTo, opens, takesTriggers, takes_iff, inSession_iff] <;> decide +kernel

theorem wit_headEndMessagesComplete_9_oamRequest :
    let t : Nat := 0
    let f : Nat := 0
    let k : Nat := 0
    let ty : Nat := 0x14
    let c : Instr := .oamRequest t false
    let b : List Nat := oamMsg 0x14 []
    let r : List (Nat × Nat × List Nat) := []
    let s : State := withMsg (oamMsg 0x14 []) { (State.reset |> wr SYS.STC_STATE 2) with actv := { mic := some true } }
    let m : State := met t s
    meets t s m
    ∧ m.line.oam = (f, k, b) :: r
    ∧ msgType b = ty
    ∧ be (slice b 0 2) % 16 = 0
    ∧ rd m SYS.STC_STATE = 2
    ∧ ((ty = 0x10 ∧ c = .pathConfig t false) ∨ (ty = 0x11 ∧ c = .keyControl t false) ∨ (ty = 0x12 ∧ c = .price t false) ∨ (ty = 0x13 ∧ c = .credit t false) ∨ (ty = 0x14 ∧ c = .oamRequest t false))
    ∧ m.actv.mic = some true := by
  simp only [meets, meetsBy, meetsFrom, opensAt, opensTo, opens, takesTriggers, takes_iff, inSession_iff] <;> decide +kernel

theorem wit_headEndMessagesComplete_9_bad :
    let t : Nat := 0
    let f : Nat := 0
    let k : Nat := 0
    let ty : Nat := 0x11
    let c : Instr := .keyControl t false
    let b : List Nat := oamMsg 0x11 []
    let r : List (Nat × Nat × List Nat) := []
    let s : State := withMsg (oamMsg 0x11 []) { (State.reset |> wr SYS.STC_STATE 2) with actv := { mic := some false } }
    let m : State := met t s
    meets t s m
    ∧ m.line.oam = (f, k, b) :: r
    ∧ msgType b = ty
    ∧ be (slice b 0 2) % 16 = 0
    ∧ rd m SYS.STC_STATE = 2
    ∧ ((ty = 0x10 ∧ c = .pathConfig t false) ∨ (ty = 0x11 ∧ c = .keyControl t false) ∨ (ty = 0x12 ∧ c = .price t false) ∨ (ty = 0x13 ∧ c = .credit t false) ∨ (ty = 0x14 ∧ c = .oamRequest t false))
    ∧ m.actv.mic = some false := by
  simp only [meets, meetsBy, meetsFrom, opensAt, opensTo, opens, takesTriggers, takes_iff, inSession_iff] <;> decide +kernel

theorem wit_headEndMessagesComplete_9_waits :
    let t : Nat := 0
    let f : Nat := 0
    let k : Nat := 0
    let ty : Nat := 0x14
    let c : Instr := .oamRequest t false
    let b : List Nat := oamMsg 0x14 []
    let r : List (Nat × Nat × List Nat) := []
    let s : State := withMsg (oamMsg 0x14 []) { (State.reset |> wr SYS.STC_STATE 2) with actv := { mic := none } }
    let m : State := met t s
    meets t s m
    ∧ m.line.oam = (f, k, b) :: r
    ∧ msgType b = ty
    ∧ be (slice b 0 2) % 16 = 0
    ∧ rd m SYS.STC_STATE = 2
    ∧ ((ty = 0x10 ∧ c = .pathConfig t false) ∨ (ty = 0x11 ∧ c = .keyControl t false) ∨ (ty = 0x12 ∧ c = .price t false) ∨ (ty = 0x13 ∧ c = .credit t false) ∨ (ty = 0x14 ∧ c = .oamRequest t false))
    ∧ m.actv.mic = none := by
  simp only [meets, meetsBy, meetsFrom, opensAt, opensTo, opens, takesTriggers, takes_iff, inSession_iff] <;> decide +kernel

theorem wit_activationTransitions_1 :
    let st : Nat := 7
    let s : State := State.reset
    st < 8
    ∧ rd s ACTV.STATE ≠ st := by
  simp only [meets, meetsBy, meetsFrom, opensAt, opensTo, opens, takesTriggers, takes_iff, inSession_iff] <;> decide +kernel

theorem wit_activationTransitions_2_stays :
    let why : Nat := 3
    let s : State := State.reset |> wr ACTV.STATE 7
    why < 4 := by
  simp only [meets, meetsBy, meetsFrom, opensAt, opensTo, opens, takesTriggers, takes_iff, inSession_iff] <;> decide +kernel

theorem wit_activationTransitions_2_falls :
    let why : Nat := 1
    let s : State := State.reset
    why < 4 := by
  simp only [meets, meetsBy, meetsFrom, opensAt, opensTo, opens, takesTriggers, takes_iff, inSession_iff] <;> decide +kernel

theorem wit_activationTransitions_3 :
    let s : State := State.reset |> wr ACTV.STATE 6
    (rd s ACTV.STATE = 6 ∨ rd s ACTV.STATE = 7) := by
  simp only [meets, meetsBy, meetsFrom, opensAt, opensTo, opens, takesTriggers, takes_iff, inSession_iff] <;> decide +kernel

theorem wit_equalizationDelayIsGuarded_1_taken :
    let b : List Nat := [255, 240, 3, 1, 4, 0, 0x27, 0x10, 0]
    let s : State := State.reset
    isDup s s.actv.lastRang b = false
    ∧ b.getD 4 0 ≤ 4
    ∧ be (slice b 5 4) ≤ 2560000 := by
  simp only [meets, meetsBy, meetsFrom, opensAt, opensTo, opens, takesTriggers, takes_iff, inSession_iff] <;> decide +kernel

theorem wit_equalizationDelayIsGuarded_1_zone :
    let b : List Nat := [255, 240, 3, 1, 5]
    let s : State := State.reset
    isDup s s.actv.lastRang b = false
    ∧ (4 < b.getD 4 0 ∨ 2560000 < be (slice b 5 4)) := by
  simp only [meets, meetsBy, meetsFrom, opensAt, opensTo, opens, takesTriggers, takes_iff, inSession_iff] <;> decide +kernel

theorem wit_equalizationDelayIsGuarded_1_delay :
    let b : List Nat := [255, 240, 3, 1, 4, 0, 0x27, 0x10, 1]
    let s : State := State.reset
    isDup s s.actv.lastRang b = false
    ∧ (4 < b.getD 4 0 ∨ 2560000 < be (slice b 5 4)) := by
  simp only [meets, meetsBy, meetsFrom, opensAt, opensTo, opens, takesTriggers, takes_iff, inSession_iff] <;> decide +kernel

theorem wit_trafficManagerCommandsComplete_1 :
    let t : Nat := 0
    let src : Nat := 0
    let s : State := served
    let m : State := metBy (.ingress src) t s
    let q : Nat := rd m (TMGR.DEFAULT_QUEUE src)
    let up : Bool := upPort (queuePort m q)
    let d : List Nat := zeros 64
    let f : QFrame := { data := d, src := src, enq := m.time.sc }
    let a : State := (m |> inc (TMGR.SRC_CNT src 0) |> inc CLS.LOOKUPS |> inc CLS.MISSES)
    meetsBy (.ingress src) t s m
    ∧ src < 16
    ∧ a = (m |> inc (TMGR.SRC_CNT src 0) |> inc CLS.LOOKUPS |> inc CLS.MISSES)
    ∧ enabled m 0x10 = true
    ∧ tmHalted m = false
    ∧ bulkRuns m = true
    ∧ 64 ≤ d.length
    ∧ d.length ≤ 9728
    ∧ tagShort m src d = false
    ∧ findKey m (lookupKey m src d) = none
    ∧ rd m (TMGR.MISS_DROP src) = 0
    ∧ q = rd m (TMGR.DEFAULT_QUEUE src)
    ∧ f = { data := d, src := src, enq := m.time.sc }
    ∧ rd m (QUE.Q_EN (q / 256) (q % 256)) = 1
    ∧ queuedCells m q + stagedCells m q + cellsOf f ≤ rd m (QUE.MAX_DEPTH (q / 256) (q % 256))
    ∧ up = upPort (queuePort m q)
    ∧ occOf m up + cellsOf f ≤ rd m (if up then TMGR.PART_UP else TMGR.PART_DN)
    ∧ cellsOf f ≤ m.led.cellsFree
    ∧ 0 < m.led.descFree := by
  simp only [meets, meetsBy, meetsFrom, opensAt, opensTo, opens, takesTriggers, takes_iff, inSession_iff] <;> decide +kernel

theorem wit_trafficManagerCommandsComplete_2 :
    let t : Nat := 0
    let src : Nat := 17
    let d : List Nat := ethFrame
    let s : State := State.reset |> wr (ETH.E_LINK 1) 1
    let m : State := metBy (.ingress src) t s
    meetsBy (.ingress src) t s m
    ∧ (src = 16 ∨ src = 17)
    ∧ sourceFitted m.fuse.variant src = true
    ∧ rd m (ETH.E_LINK (src - 16)) = 1
    ∧ fcsHolds d = true
    ∧ be (slice d 12 2) ≠ 0x8808 := by
  simp only [meets, meetsBy, meetsFrom, opensAt, opensTo, opens, takesTriggers, takes_iff, inSession_iff] <;> decide +kernel

theorem wit_trafficManagerCommandsComplete_3 :
    let t : Nat := 0
    let p : Port := .pcie
    let w : Nat := p.window
    let s : State := State.reset
    let m : State := metBy (.writer (.fabric p)) t s
    let key : Nat := windowKey m w
    let i : Nat := (installIndex m key).getD 0
    let a : State := startCmd (0x12050 + 64 * w) 4 (accepted p 0x12 (some (CLSW.W_CODE w)) m)
    let c : State := (match findKey m key with | some (j, e) => toGhost j e a | none => a)
    let g : Nat := nextGen c i
    meetsFrom p t s m
    ∧ opens m p 0x12
    ∧ w = p.window
    ∧ key = windowKey m w
    ∧ cmdBusy m (0x12050 + 64 * w) = false
    ∧ sourceFitted m.fuse.variant (key / 2 ^ 35) = true
    ∧ keyRange m key = false
    ∧ installIndex m key = some i
    ∧ noGhost m key = false
    ∧ a = startCmd (0x12050 + 64 * w) 4 (accepted p 0x12 (some (CLSW.W_CODE w)) m)
    ∧ c = (match findKey m key with | some (j, e) => toGhost j e a | none => a)
    ∧ g = nextGen c i := by
  simp only [meets, meetsBy, meetsFrom, opensAt, opensTo, opens, takesTriggers, takes_iff, inSession_iff] <;> decide +kernel

theorem wit_trafficManagerCommandsComplete_4 :
    let t : Nat := 0
    let p : Port := .pcie
    let w : Nat := p.window
    let i : Nat := 0
    let s : State := { State.reset with tm := { entries := [(0, dropEntry1)] } }
    let m : State := metBy (.writer (.fabric p)) t s
    let key : Nat := windowKey m w
    let e : CEntry := dropEntry1
    let a : State := startCmd (0x12050 + 64 * w) 4 (accepted p 0x12 (some (CLSW.W_CODE w)) m)
    meetsFrom p t s m
    ∧ opens m p 0x12
    ∧ w = p.window
    ∧ key = windowKey m w
    ∧ cmdBusy m (0x12050 + 64 * w) = false
    ∧ sourceFitted m.fuse.variant (key / 2 ^ 35) = true
    ∧ keyRange m key = false
    ∧ findKey m key = some (i, e)
    ∧ noGhost m key = false
    ∧ a = startCmd (0x12050 + 64 * w) 4 (accepted p 0x12 (some (CLSW.W_CODE w)) m) := by
  simp only [meets, meetsBy, meetsFrom, opensAt, opensTo, opens, takesTriggers, takes_iff, inSession_iff] <;> decide +kernel

theorem wit_trafficManagerCommandsComplete_5 :
    let t : Nat := 0
    let ready : List Nat := [16]
    let bufs : List Nat := []
    let s : State := filled
    let m : State := met t s
    let x : SFrame := ((takeFrame m (egressPorts m ready)).getD (m, ⟨0, {}, [], []⟩)).2
    let c : State := ((takeFrame m (egressPorts m ready)).getD (m, ⟨0, {}, [], []⟩)).1
    meets t s m
    ∧ enabled m 0x10 = true
    ∧ tmHalted m = false
    ∧ bulkRuns m = true
    ∧ takeFrame m (egressPorts m ready) = some (c, x) := by
  simp only [meets, meetsBy, meetsFrom, opensAt, opensTo, opens, takesTriggers, takes_iff, inSession_iff] <;> decide +kernel

theorem wit_trafficManagerCommandsComplete_6 :
    let t : Nat := 0
    let s : State := { State.reset with line := { mapUsed := true } }
    let m : State := met t s
    meets t s m
    ∧ m.line.mapUsed = true
    ∧ m.line.grants = [] := by
  simp only [meets, meetsBy, meetsFrom, opensAt, opensTo, opens, takesTriggers, takes_iff, inSession_iff] <;> decide +kernel

theorem wit_trafficManagerCommandsComplete_7 :
    let t : Nat := 0
    let s : State := State.reset
    let m : State := met t s
    meets t s m
    ∧ bulkRuns m = true
    ∧ scPhase m % 1000 = 0
    ∧ m.tm.lastRefill ≠ some m.time.sc := by
  simp only [meets, meetsBy, meetsFrom, opensAt, opensTo, opens, takesTriggers, takes_iff, inSession_iff] <;> decide +kernel

theorem wit_trafficManagerCommandsComplete_8 :
    let t : Nat := 0
    let p : Port := .pcie
    let s : State := State.reset
    let m : State := metBy (.writer (.fabric p)) t s
    let a : State := withdrawAll 5 (accepted p 0x10 (some TMGR.CMD_CODE) m)
    meetsFrom p t s m
    ∧ opens m p 0x10
    ∧ cmdBusy m tmCmdAddr = false
    ∧ enabled m 0x10 = false
    ∧ a = withdrawAll 5 (accepted p 0x10 (some TMGR.CMD_CODE) m) := by
  simp only [meets, meetsBy, meetsFrom, opensAt, opensTo, opens, takesTriggers, takes_iff, inSession_iff] <;> decide +kernel

theorem wit_trafficManagerCommandsComplete_9 :
    let t : Nat := 0
    let q : Nat := 1023
    let p : Port := .pcie
    let s : State := State.reset
    let m : State := metBy (.writer (.fabric p)) t s
    let a : State := accepted p 0x10 (some TMGR.CMD_CODE) m
    meetsFrom p t s m
    ∧ opens m p 0x10
    ∧ cmdBusy m tmCmdAddr = false
    ∧ q ≤ 1023
    ∧ stagedCells m q = 0
    ∧ a = accepted p 0x10 (some TMGR.CMD_CODE) m := by
  simp only [meets, meetsBy, meetsFrom, opensAt, opensTo, opens, takesTriggers, takes_iff, inSession_iff] <;> decide +kernel

theorem wit_trafficManagerCommandsComplete_10 :
    let t : Nat := 0
    let q : Nat := 1023
    let p : Port := .pcie
    let s : State := State.reset
    let m : State := metBy (.writer (.fabric p)) t s
    let a : State := renewLease p 0x1C m
    meetsFrom p t s m
    ∧ opens m p 0x1C
    ∧ q ≤ 1023
    ∧ a = renewLease p 0x1C m := by
  simp only [meets, meetsBy, meetsFrom, opensAt, opensTo, opens, takesTriggers, takes_iff, inSession_iff] <;> decide +kernel

theorem wit_trafficManagerCommandsComplete_11 :
    let t : Nat := 0
    let p : Port := .pcie
    let w : Nat := p.window
    let s : State := State.reset
    let m : State := metBy (.writer (.fabric p)) t s
    let a : State := startCmd (0x12050 + 64 * w) 4 (accepted p 0x12 (some (CLSW.W_CODE w)) m)
    meetsFrom p t s m
    ∧ opens m p 0x12
    ∧ w = p.window
    ∧ cmdBusy m (0x12050 + 64 * w) = false
    ∧ a = startCmd (0x12050 + 64 * w) 4 (accepted p 0x12 (some (CLSW.W_CODE w)) m) := by
  simp only [meets, meetsBy, meetsFrom, opensAt, opensTo, opens, takesTriggers, takes_iff, inSession_iff] <;> decide +kernel

theorem wit_cellsAndDescriptorsAreConserved_1 :
    let src : Nat := 0
    let q : Nat := 0
    let f : QFrame := { data := zeros 64 }
    let s : State := State.reset
    balanced s 0 = true
    ∧ balanced s 1 = true := by
  simp only [meets, meetsBy, meetsFrom, opensAt, opensTo, opens, takesTriggers, takes_iff, inSession_iff] <;> decide +kernel

theorem wit_cellsAndDescriptorsAreConserved_2 :
    let up : Bool := false
    let f : QFrame := { data := zeros 64 }
    let s : State := filled
    let staged : Bool := false
    balanced s 0 = true
    ∧ balanced s 1 = true
    ∧ cellsOf f ≤ (if staged then s.led.cellsStaged else s.led.cellsQueued)
    ∧ f.bad.length ≤ cellsOf f
    ∧ 0 < s.led.descInUse := by
  simp only [meets, meetsBy, meetsFrom, opensAt, opensTo, opens, takesTriggers, takes_iff, inSession_iff] <;> decide +kernel

theorem wit_framesDroppedAreCounted_1_disabled :
    let src : Nat := 18
    let d : List Nat := zeros 64
    let s : State := State.reset
    src < 19
    ∧ (rd s (HDR.ENABLE 0x10) = 0 ∨ tmHalted s = true ∨ d.length < 64 ∨ 9728 < d.length) := by
  simp only [meets, meetsBy, meetsFrom, opensAt, opensTo, opens, takesTriggers, takes_iff, inSession_iff] <;> decide +kernel

theorem wit_framesDroppedAreCounted_1_short :
    let src : Nat := 0
    let d : List Nat := zeros 63
    let s : State := served
    src < 19
    ∧ (rd s (HDR.ENABLE 0x10) = 0 ∨ tmHalted s = true ∨ d.length < 64 ∨ 9728 < d.length) := by
  simp only [meets, meetsBy, meetsFrom, opensAt, opensTo, opens, takesTriggers, takes_iff, inSession_iff] <;> decide +kernel

theorem wit_framesDroppedAreCounted_2 :
    let src : Nat := 0
    let i : Nat := 0
    let e : CEntry := dropEntry1
    let d : List Nat := List.replicate 64 0x81
    let s : State := { (served |> wr (TMGR.USE_VID 0) 0 |> wr (TMGR.USE_PCP 0) 0) with tm := { entries := [(0, dropEntry1)] } }
    src < 19
    ∧ rd s (HDR.ENABLE 0x10) = 1
    ∧ tmHalted s = false
    ∧ bulkRuns s = true
    ∧ 64 ≤ d.length
    ∧ d.length ≤ 9728
    ∧ findKey s (lookupKey s src d) = some (i, e)
    ∧ bit e.action 31 = true := by
  simp only [meets, meetsBy, meetsFrom, opensAt, opensTo, opens, takesTriggers, takes_iff, inSession_iff] <;> decide +kernel

theorem wit_cipherDeckCommandsComplete_1 :
    let t : Nat := 0
    let s : State := State.reset |> wr KEYS.IMP_SLOT 255 |> wr KEYS.IMP_CLEAR 1 |> wr KEYS.IMP_KEK 70 |> wr KEYS.IMP_LEN 16 |> wr KEYS.IMP_SECRET 0
    let p : Port := .pcie
    let m : State := metBy (.writer (.fabric p)) t s
    let n : Nat := rd m KEYS.IMP_SLOT
    let k : List Nat := (impKey m).getD []
    let a : State := accepted p 0x22 (some KEYS.KEY_CODE) m
    meetsFrom p t s m
    ∧ opens m p 0x22
    ∧ n = rd m KEYS.IMP_SLOT
    ∧ cmdBusy m keyCmdAddr = false
    ∧ slotUse m n = 0
    ∧ n ≠ 68
    ∧ n ≠ 69
    ∧ (n < 72 ∨ 95 < n)
    ∧ impRange m n = false
    ∧ impKey m = some k
    ∧ (upSlot n = true → m.led.nonceOpen = 0)
    ∧ a = accepted p 0x22 (some KEYS.KEY_CODE) m := by
  simp only [meets, meetsBy, meetsFrom, opensAt, opensTo, opens, takesTriggers, takes_iff, inSession_iff] <;> decide +kernel

theorem wit_cipherDeckCommandsComplete_2 :
    let t : Nat := 0
    let s : State := State.reset |> wr KEYS.IMP_SLOT 63
    let p : Port := .pcie
    let m : State := metBy (.writer (.fabric p)) t s
    let n : Nat := rd m KEYS.IMP_SLOT
    let a : State := accepted p 0x22 (some KEYS.KEY_CODE) m
    meetsFrom p t s m
    ∧ opens m p 0x22
    ∧ n = rd m KEYS.IMP_SLOT
    ∧ cmdBusy m keyCmdAddr = false
    ∧ slotUse m n = 0
    ∧ n ≠ 68
    ∧ n ≠ 69
    ∧ (n < 71 ∨ 95 < n)
    ∧ (upSlot n = true → m.led.nonceOpen = 0)
    ∧ a = accepted p 0x22 (some KEYS.KEY_CODE) m := by
  simp only [meets, meetsBy, meetsFrom, opensAt, opensTo, opens, takesTriggers, takes_iff, inSession_iff] <;> decide +kernel

theorem wit_cipherDeckCommandsComplete_3 :
    let t : Nat := 0
    let c : Nat := 15
    let lo : Nat := 0
    let hi : Nat := 0
    let p : Port := .pcie
    let s : State := State.reset
    let m : State := metBy (.writer (.fabric p)) t s
    let a : State := renewLease p 0x22 m
    meetsFrom p t s m
    ∧ opens m p 0x22
    ∧ c < 16
    ∧ rd m (KEYS.UPSW_PEND c) = 0
    ∧ bits hi 28 16 = 0
    ∧ bits hi 29 29 = rd m (KEYS.UPSW_ACT_PHASE c)
    ∧ a = renewLease p 0x22 m := by
  simp only [meets, meetsBy, meetsFrom, opensAt, opensTo, opens, takesTriggers, takes_iff, inSession_iff] <;> decide +kernel

theorem wit_cipherDeckCommandsComplete_4 :
    let t : Nat := 0
    let s : State := State.reset |> wr DECK.UP_DRAIN 1
    let m : State := met t s
    meets t s m
    ∧ rd m DECK.UP_DRAIN = 1
    ∧ m.led.nonceOpen = 0
    ∧ m.deck.drained = false := by
  simp only [meets, meetsBy, meetsFrom, opensAt, opensTo, opens, takesTriggers, takes_iff, inSession_iff] <;> decide +kernel

theorem wit_cipherDeckCommandsComplete_5 :
    let t : Nat := 0
    let arg : Nat := 1
    let src : TrigSrc := .cmd
    let s : State := State.reset
    let m : State := met t s
    let c : State := arrived src 0x22 m
    meets t s m
    ∧ c = arrived src 0x22 m
    ∧ takesTriggers c 0x22 := by
  simp only [meets, meetsBy, meetsFrom, opensAt, opensTo, opens, takesTriggers, takes_iff, inSession_iff] <;> decide +kernel

theorem wit_cipherDeckCommandsComplete_6 :
    let t : Nat := 0
    let arg : Nat := 1
    let src : TrigSrc := .orry
    let s : State := State.reset
    let m : State := met t s
    let c : State := arrived src 0x22 m
    meets t s m
    ∧ c = arrived src 0x22 m
    ∧ takesTriggers c 0x22 := by
  simp only [meets, meetsBy, meetsFrom, opensAt, opensTo, opens, takesTriggers, takes_iff, inSession_iff] <;> decide +kernel

theorem wit_cipherDeckCommandsComplete_7 :
    let t : Nat := 0
    let n : Nat := 23
    let v : Nat := 1
    let s : State := State.reset |> wr (HOST.TX_EN 7) 1 |> wr (HOST.TX_SIZE 7) 4
    let m : State := met t s
    meets t s m
    ∧ n < 24
    ∧ rd m (ringEn n) = 1
    ∧ v < ringSlots m n := by
  simp only [meets, meetsBy, meetsFrom, opensAt, opensTo, opens, takesTriggers, takes_iff, inSession_iff] <;> decide +kernel

theorem wit_cipherDeckCommandsComplete_8 :
    let t : Nat := 0
    let r : Nat := 7
    let desc : List Nat := []
    let ctx : List Nat := []
    let d : List Nat := fit 64 desc
    let s : State := State.reset |> wr (CTXQ.RING_EN 7) 1 |> wr (ringLog 7) 4 |> wr (CTXQ.RING_TAIL 7) 3
    let m : State := met t s
    meets t s m
    ∧ d = fit 64 desc
    ∧ ((ringOrder m.deck.lastRing).find? (fun r => decide (rd m (CTXQ.RING_EN r) = 1 ∧ ringHeld m r ≠ 0)) = some r)
    ∧ jobsRunning m < rd m (DEAL.MAX_HELD 3)
    ∧ dmaRuns m = true := by
  simp only [meets, meetsBy, meetsFrom, opensAt, opensTo, opens, takesTriggers, takes_iff, inSession_iff] <;> decide +kernel

theorem wit_cipherDeckCommandsComplete_9 :
    let t : Nat := 0
    let ring : Nat := 0
    let st : Nat := 3
    let j : Job := endedJob
    let input : List Nat := []
    let aad : List Nat := []
    let tag : List Nat := []
    let rdErr : Bool := false
    let wrErr : Bool := false
    let s : State := { State.reset with deck := { jobs := [endedJob] } }
    let m : State := met t s
    let a : State := jobComplete j st (jobWritten j) m
    meets t s m
    ∧ (m.deck.jobs.find? (fun j => j.ring == ring) = some j)
    ∧ j.ended = some st
    ∧ a = jobComplete j st (jobWritten j) m
    ∧ a.deck.jobs.contains j = false := by
  simp only [meets, meetsBy, meetsFrom, opensAt, opensTo, opens, takesTriggers, takes_iff, inSession_iff] <;> decide +kernel

theorem wit_cipherDeckCommandsComplete_10 :
    let t : Nat := 0
    let ring : Nat := 0
    let j : Job := doneJob
    let input : List Nat := []
    let aad : List Nat := []
    let tag : List Nat := []
    let s : State := { State.reset with deck := { jobs := [doneJob] } }
    let m : State := met t s
    let r : JobResult := jobResult (keySlot m j.slot) j (fit (jobLen j.desc) input) (fit (jobAad j.desc) aad) tag
    let a : State := jobComplete j r.status (if jobOp j.desc = 7 ∧ r.status ≠ 0 then 0 else jobLen j.desc) (jobWrites (keySlot m j.slot) j r m)
    meets t s m
    ∧ (m.deck.jobs.find? (fun j => j.ring == ring) = some j)
    ∧ j.ended = none
    ∧ j.left = 0
    ∧ r = jobResult (keySlot m j.slot) j j.input (fit (jobAad j.desc) aad) tag
    ∧ (a = jobComplete j r.status (if jobOp j.desc = 7 ∧ r.status ≠ 0 then 0 else jobLen j.desc) (jobWrites (keySlot m j.slot) j r m))
    ∧ a.deck.jobs.contains j = false := by
  simp only [meets, meetsBy, meetsFrom, opensAt, opensTo, opens, takesTriggers, takes_iff, inSession_iff] <;> decide +kernel

theorem wit_cipherDeckCommandsComplete_11 :
    let t : Nat := 0
    let declared : Nat := 0
    let s : State := State.reset
    let m : State := met t s
    let stalled : List (Nat × Nat) := [(3, 64)]
    meets t s m
    ∧ broken m 5 = false
    ∧ m.deck.lastRound ≠ some m.time.cycle := by
  simp only [meets, meetsBy, meetsFrom, opensAt, opensTo, opens, takesTriggers, takes_iff, inSession_iff] <;> decide +kernel

theorem wit_cipherDeckCommandsComplete_12 :
    let t : Nat := 0
    let e : Nat := 8
    let s : State := State.reset |> wr (DEAL.ENG_STATE 8) 2
    let m : State := met t s
    let h : Hand := aget m.deck.hands e {}
    let input : List Nat := []
    meets t s m
    ∧ rd m (DEAL.ENG_STATE e) = 2
    ∧ h = aget m.deck.hands e {}
    ∧ h.endAt ≤ m.time.cycle := by
  simp only [meets, meetsBy, meetsFrom, opensAt, opensTo, opens, takesTriggers, takes_iff, inSession_iff] <;> decide +kernel

theorem wit_cipherDeckCommandsComplete_13 :
    let t : Nat := 0
    let e : Nat := 8
    let s : State := now 50000000 (State.reset |> wr (DEAL.ENG_STATE 8) 2)
    let m : State := met t s
    let h : Hand := aget m.deck.hands e {}
    let a : State := (freeEngine e m |> inc DEAL.RECLAIMS |> raise 0x21 0)
    meets t s m
    ∧ rd m (DEAL.ENG_STATE e) = 2
    ∧ h = aget m.deck.hands e {}
    ∧ h.start + rd m DEAL.WDOG * bulkDiv m ≤ m.time.cycle
    ∧ a = (freeEngine e m |> inc DEAL.RECLAIMS |> raise 0x21 0) := by
  simp only [meets, meetsBy, meetsFrom, opensAt, opensTo, opens, takesTriggers, takes_iff, inSession_iff] <;> decide +kernel

theorem wit_dealerGrantsByPriority_1 :
    let s : State := State.reset
    let seats : List Nat := [0, 4]
    let w : Nat := (winner s seats).getD 0
    winner s seats = some w := by
  simp only [meets, meetsBy, meetsFrom, opensAt, opensTo, opens, takesTriggers, takes_iff, inSession_iff] <;> decide +kernel

theorem wit_dealerGrantsByPriority_2 :
    let e : Nat := 0
    let seat : Nat := 4
    let h : Hand := {}
    let s : State := State.reset
    e < Variant.engines s.fuse.variant
    ∧ seat < 5
    ∧ rd s (DEAL.ENG_STATE e) = 0
    ∧ balanced s 5 = true := by
  simp only [meets, meetsBy, meetsFrom, opensAt, opensTo, opens, takesTriggers, takes_iff, inSession_iff] <;> decide +kernel

theorem wit_dealerGrantsByPriority_3 :
    let e : Nat := 8
    let s : State := State.reset |> wr (DEAL.ENG_STATE 8) 2
    e < Variant.engines s.fuse.variant
    ∧ rd s (DEAL.ENG_STATE e) = 2
    ∧ s.rpr.engDue = []
    ∧ balanced s 5 = true := by
  simp only [meets, meetsBy, meetsFrom, opensAt, opensTo, opens, takesTriggers, takes_iff, inSession_iff] <;> decide +kernel

theorem wit_nonceBlocksAreBounded_1 :
    let n : Nat := 63
    let s : State := State.reset
    upSlot n = true := by
  simp only [meets, meetsBy, meetsFrom, opensAt, opensTo, opens, takesTriggers, takes_iff, inSession_iff] <;> decide +kernel

theorem wit_nonceBlocksAreBounded_2 :
    let n : Nat := 64
    let s : State := State.reset
    upSlot n = false := by
  simp only [meets, meetsBy, meetsFrom, opensAt, opensTo, opens, takesTriggers, takes_iff, inSession_iff] <;> decide +kernel

theorem wit_nonceBlocksAreBounded_3 :
    let t : Nat := 0
    let s : State := { (State.reset |> wr KEYS.IMP_SLOT 32) with led := { nonceOpen := 1 } }
    let p : Port := .pcie
    let m : State := metBy (.writer (.fabric p)) t s
    let n : Nat := rd m KEYS.IMP_SLOT
    meetsFrom p t s m
    ∧ opens m p 0x22
    ∧ n = rd m KEYS.IMP_SLOT
    ∧ cmdBusy m keyCmdAddr = false
    ∧ slotUse m n = 0
    ∧ upSlot n = true
    ∧ m.led.nonceOpen ≠ 0 := by
  simp only [meets, meetsBy, meetsFrom, opensAt, opensTo, opens, takesTriggers, takes_iff, inSession_iff] <;> decide +kernel

theorem wit_frontEndCommandsComplete_1 :
    let t : Nat := 0
    let n : Nat := 31
    let v : Nat := 2 ^ 30 + 256 + 17
    let w : Writer := .fabric .pcie
    let s : State := State.reset |> wr (AFE.PIN_ROLE 31) 0
    let m : State := metBy (.writer w) t s
    let a : State := acceptedBy w 0x30 none m
    let b : State := (a |> wr (AFE.LEGAL_LOCK n) 0 |> wr (AFE.OPEN_PULL n) (bits v 30 30) |> wr (AFE.PIN_ROLE n) (bits v 11 8) |> wr (AFE.PIN_OWNER n) (bits v 4 0))
    meetsBy (.writer w) t s m
    ∧ n < 32
    ∧ opensTo m w 0x30
    ∧ v = bits v 30 30 * 2 ^ 30 + bits v 11 8 * 256 + bits v 4 0
    ∧ rd m (AFE.LEGAL_LOCK n) = 0
    ∧ rd m (AFE.PIN_ROLE n) = 0
    ∧ bits v 11 8 ≠ 0
    ∧ pinConflict m n (bits v 11 8) (bits v 4 0) = false
    ∧ (sliceRole (bits v 11 8) = true → bits v 4 0 < Variant.slices m.fuse.variant ∧ rd m (AFE.SLICE_ROLE (bits v 4 0)) ≤ 1)
    ∧ pinRange (bits v 11 8) (bits v 4 0) = false
    ∧ ownerOn m 0 (rd m (AFE.PIN_OWNER n)) = false
    ∧ ownerOn m (bits v 11 8) (bits v 4 0) = false
    ∧ a = acceptedBy w 0x30 none m
    ∧ b = (a |> wr (AFE.LEGAL_LOCK n) 0 |> wr (AFE.OPEN_PULL n) (bits v 30 30) |> wr (AFE.PIN_ROLE n) (bits v 11 8) |> wr (AFE.PIN_OWNER n) (bits v 4 0)) := by
  simp only [meets, meetsBy, meetsFrom, opensAt, opensTo, opens, takesTriggers, takes_iff, inSession_iff] <;> decide +kernel

theorem wit_frontEndCommandsComplete_2 :
    let t : Nat := 0
    let k : Nat := 7
    let v : Nat := 2 ^ 30 + 2 * 65536 + 60
    let w : Writer := .fabric .pcie
    let s : State := State.reset
    let m : State := metBy (.writer w) t s
    let a : State := (acceptedBy w 0x30 none m |> wr (AFE.REV_PERIOD k) (bits v 23 16) |> wr (AFE.EXC_SENSE k) (bits v 8 8) |> wr (AFE.ILIM k) (bits v 5 0) |> wr (AFE.EXC_REVERSE k) (bits v 30 30) |> wr (AFE.EXC_EN k) 0 |> wr (AFE.EXC_STATE k) 0 |> wr (AFE.REVERSED k) 0)
    meetsBy (.writer w) t s m
    ∧ k < 8
    ∧ opensTo m w 0x30
    ∧ (w = .lgc ∨ pairLegal m k = false)
    ∧ bits v 31 31 = 0
    ∧ bits v 29 24 = 0
    ∧ bits v 15 9 = 0
    ∧ bits v 7 6 = 0
    ∧ 2 ≤ bits v 23 16
    ∧ 1 ≤ bits v 5 0
    ∧ bits v 5 0 ≤ 60
    ∧ ilimSum m k 0 (bits v 5 0) ≤ 150
    ∧ a = (acceptedBy w 0x30 none m |> wr (AFE.REV_PERIOD k) (bits v 23 16) |> wr (AFE.EXC_SENSE k) (bits v 8 8) |> wr (AFE.ILIM k) (bits v 5 0) |> wr (AFE.EXC_REVERSE k) (bits v 30 30) |> wr (AFE.EXC_EN k) 0 |> wr (AFE.EXC_STATE k) 0 |> wr (AFE.REVERSED k) 0) := by
  simp only [meets, meetsBy, meetsFrom, opensAt, opensTo, opens, takesTriggers, takes_iff, inSession_iff] <;> decide +kernel

theorem wit_frontEndCommandsComplete_3 :
    let t : Nat := 0
    let k : Nat := 0
    let s : State := now 80000 pairRuns
    let m : State := met t s
    let b : State := revInstant k (wr (AFE.REVERSED k) (1 - rd m (AFE.REVERSED k)) m)
    meets t s m
    ∧ k < 8
    ∧ enabled m 0x30 = true
    ∧ pairOn m k = true
    ∧ rd m (AFE.EXC_REVERSE k) = 1
    ∧ scPhase m = 0
    ∧ scFrame m % rd m (AFE.REV_PERIOD k) = 0
    ∧ (pairOf m k).gridFrom < m.time.sc
    ∧ b = revInstant k (wr (AFE.REVERSED k) (1 - rd m (AFE.REVERSED k)) m) := by
  simp only [meets, meetsBy, meetsFrom, opensAt, opensTo, opens, takesTriggers, takes_iff, inSession_iff] <;> decide +kernel

theorem wit_frontEndCommandsComplete_4 :
    let t : Nat := 0
    let k : Nat := 0
    let current : Nat := 0
    let pm : Nat := 0
    let s : State := now 80000 pairRuns
    let m : State := met t s
    let lim : Bool := false
    meets t s m
    ∧ k < 8
    ∧ enabled m 0x30 = true
    ∧ pairOn m k = true
    ∧ (pairOf m k).lastFrame ≠ some (scFrame m) := by
  simp only [meets, meetsBy, meetsFrom, opensAt, opensTo, opens, takesTriggers, takes_iff, inSession_iff] <;> decide +kernel

theorem wit_frontEndCommandsComplete_5 :
    let t : Nat := 0
    let k : Nat := 0
    let s : State := { (State.reset |> wr (AFE.EXC_STATE 0) 2) with afe := { pairs := [(0, { limit := 65535 })] } }
    let m : State := met t s
    meets t s m
    ∧ k < 8
    ∧ rd m (AFE.EXC_STATE k) = 2
    ∧ rd m AFE.EXC_TIMEOUT ≤ (pairOf m k).limit := by
  simp only [meets, meetsBy, meetsFrom, opensAt, opensTo, opens, takesTriggers, takes_iff, inSession_iff] <;> decide +kernel

theorem wit_frontEndCommandsComplete_6 :
    let t : Nat := 0
    let occ : Nat := 0
    let g : Nat := 7
    let arg : Nat := 65535
    let src : TrigSrc := .cmd
    let s : State := State.reset
    let m : State := met t s
    let c : State := arrived src 0x30 m
    meets t s m
    ∧ c = arrived src 0x30 m
    ∧ takesTriggers c 0x30
    ∧ g < 8
    ∧ 1 ≤ arg
    ∧ arg < 65536
    ∧ (m.afe.windows.find? (fun x => x.1 == g) = none) := by
  simp only [meets, meetsBy, meetsFrom, opensAt, opensTo, opens, takesTriggers, takes_iff, inSession_iff] <;> decide +kernel

theorem wit_frontEndCommandsComplete_7 :
    let t : Nat := 0
    let g : Nat := 7
    let n : Nat := 65535
    let v : Nat := n * 65536 + g * 256 + 1
    let w : Writer := .fabric .pcie
    let s : State := State.reset
    let m : State := metBy (.writer w) t s
    let a : State := raise 0x30 6 (startCmd 0x30140 4 (acceptedBy w 0x30 (some AFE.CMD_CODE) m))
    let c : State := arrived .cmd 0x30 a
    meetsBy (.writer w) t s m
    ∧ opensTo m w 0x30
    ∧ (w = .lgc ∨ 4 ≤ g)
    ∧ g < 8
    ∧ 1 ≤ n
    ∧ n < 65536
    ∧ v = n * 65536 + g * 256 + 1
    ∧ cmdBusy m 0x30140 = false
    ∧ a = raise 0x30 6 (startCmd 0x30140 4 (acceptedBy w 0x30 (some AFE.CMD_CODE) m))
    ∧ c = arrived .cmd 0x30 a
    ∧ takesTriggers c 0x30
    ∧ (m.afe.windows.find? (fun x => x.1 == g) = none) := by
  simp only [meets, meetsBy, meetsFrom, opensAt, opensTo, opens, takesTriggers, takes_iff, inSession_iff] <;> decide +kernel

theorem wit_frontEndCommandsComplete_8 :
    let t : Nat := 0
    let g : Nat := 7
    let w0 : Nat := 5
    let w1 : Nat := 9
    let s : State := now 9 { State.reset with afe := { windows := [(7, 5, 9)] } }
    let m : State := met t s
    let b : State := wr AFE.BLANK_OPEN (clearBits (rd m AFE.BLANK_OPEN) (2 ^ g)) { m with afe := { m.afe with windows := adel m.afe.windows g } }
    meets t s m
    ∧ g < 8
    ∧ (m.afe.windows.find? (fun x => x.1 == g) = some (g, w0, w1))
    ∧ w1 ≤ m.time.sc
    ∧ b = wr AFE.BLANK_OPEN (clearBits (rd m AFE.BLANK_OPEN) (2 ^ g)) { m with afe := { m.afe with windows := adel m.afe.windows g } } := by
  simp only [meets, meetsBy, meetsFrom, opensAt, opensTo, opens, takesTriggers, takes_iff, inSession_iff] <;> decide +kernel

theorem wit_frontEndCommandsComplete_9 :
    let t : Nat := 0
    let edges : List Nat := [0]
    let s : State := State.reset
    let m : State := met t s
    let b : State := ({ m with afe := { m.afe with blankEdges := edges, highTick := m.time.ticks } } |> wr AFE.PIN_FILT 1 |> inc AFE.BLANK_EDGES)
    let c : State := arrived .pin 0x30 b
    meets t s m
    ∧ rd m AFE.PIN_FILT = 0
    ∧ m.afe.chatter = false
    ∧ m.afe.pinWin = none
    ∧ (edges = (m.time.cycle :: m.afe.blankEdges).filter (fun c => decide (m.time.cycle < c + secondSteps)))
    ∧ edges.length ≤ rd m AFE.BLANK_MAX_EDGES
    ∧ b = ({ m with afe := { m.afe with blankEdges := edges, highTick := m.time.ticks } } |> wr AFE.PIN_FILT 1 |> inc AFE.BLANK_EDGES)
    ∧ c = arrived .pin 0x30 b
    ∧ takesTriggers c 0x30 := by
  simp only [meets, meetsBy, meetsFrom, opensAt, opensTo, opens, takesTriggers, takes_iff, inSession_iff] <;> decide +kernel

theorem wit_frontEndCommandsComplete_10 :
    let t : Nat := 0
    let s : State := State.reset |> wr AFE.PIN_FILT 1
    let m : State := met t s
    let b : State := wr AFE.PIN_FILT 0 { m with afe := { m.afe with stuck := false } }
    meets t s m
    ∧ rd m AFE.PIN_FILT = 1
    ∧ b = wr AFE.PIN_FILT 0 { m with afe := { m.afe with stuck := false } } := by
  simp only [meets, meetsBy, meetsFrom, opensAt, opensTo, opens, takesTriggers, takes_iff, inSession_iff] <;> decide +kernel

theorem wit_frontEndCommandsComplete_11 :
    let t : Nat := 0
    let s : State := atTick 500000 (State.reset |> wr AFE.PIN_FILT 1)
    let m : State := met t s
    meets t s m
    ∧ rd m AFE.PIN_FILT = 1
    ∧ m.afe.stuck = false
    ∧ m.afe.highTick + rd m AFE.BLANK_TIMEOUT < m.time.ticks := by
  simp only [meets, meetsBy, meetsFrom, opensAt, opensTo, opens, takesTriggers, takes_iff, inSession_iff] <;> decide +kernel

theorem wit_frontEndCommandsComplete_12 :
    let t : Nat := 0
    let n : Nat := 3
    let level : Bool := true
    let s : State := State.reset |> wr AFE.TRIG_EDGE3 3
    let m : State := met t s
    let b : State := { inc (AFE.TRIG_EDGES n) m with afe := { m.afe with trigEdges := (n, m.time.cycle) :: m.afe.trigEdges.filter fun x => decide (m.time.cycle < x.2 + secondSteps) } }
    meets t s m
    ∧ n < 4
    ∧ bit (trigEdge m n) (if level then 0 else 1) = true
    ∧ (b = { inc (AFE.TRIG_EDGES n) m with afe := { m.afe with trigEdges := (n, m.time.cycle) :: m.afe.trigEdges.filter fun x => decide (m.time.cycle < x.2 + secondSteps) } })
    ∧ ((b.afe.trigEdges.filter fun x => decide (x.1 = n)).length ≤ rd m AFE.TRIG_MAX_EDGES) := by
  simp only [meets, meetsBy, meetsFrom, opensAt, opensTo, opens, takesTriggers, takes_iff, inSession_iff] <;> decide +kernel

theorem wit_slicesComplete_1 :
    let t : Nat := 0
    let i : Nat := 0
    let s : State := sliceRuns
    let m : State := met t s
    let b : Nat := ((sampleDue m i).getD (0, 0)).1
    let cm : Nat := 0
    let raw : Int := 0
    let pos : Nat := ((sampleDue m i).getD (0, 0)).2
    meets t s m
    ∧ i < Variant.slices m.fuse.variant
    ∧ slicePowered m i = true
    ∧ converts m i = true
    ∧ sampleMode (rd m (SLICE.MODE (cfgSlice m i))) = true
    ∧ sampleDue m i = some (b, pos) := by
  simp only [meets, meetsBy, meetsFrom, opensAt, opensTo, opens, takesTriggers, takes_iff, inSession_iff] <;> decide +kernel

theorem wit_slicesComplete_2 :
    let t : Nat := 0
    let i : Nat := 0
    let s : State := now 900000000 sliceRuns
    let m : State := met t s
    meets t s m
    ∧ i < Variant.slices m.fuse.variant
    ∧ enabled m (0x31 + i) = true
    ∧ slicePowered m i = true
    ∧ sampleMode (rd m (SLICE.MODE i)) = true
    ∧ (sliceOf m i).stalled = false
    ∧ (sliceOf m i).failing = false
    ∧ (sliceOf m i).lastCycle + rd m (SLICE.TIMEOUT i) * frameSteps ≤ m.time.cycle := by
  simp only [meets, meetsBy, meetsFrom, opensAt, opensTo, opens, takesTriggers, takes_iff, inSession_iff] <;> decide +kernel

theorem wit_slicesComplete_3 :
    let t : Nat := 0
    let x : Nat := 1
    let a : Nat := 0
    let s : State := sliceRuns |> wr (AFE.SLICE_ROLE 1) 2
    let m : State := metBy (.writer .lgc) t s
    meetsBy (.writer .lgc) t s m
    ∧ m.afe.takeover = none
    ∧ x < Variant.slices m.fuse.variant
    ∧ a < Variant.slices m.fuse.variant
    ∧ a < 32
    ∧ x < 32
    ∧ isSpare m x = true
    ∧ noShadow m a = false
    ∧ rd m (AFE.SLICE_ROLE a) = 1 := by
  simp only [meets, meetsBy, meetsFrom, opensAt, opensTo, opens, takesTriggers, takes_iff, inSession_iff] <;> decide +kernel

theorem wit_slicesComplete_4 :
    let t : Nat := 0
    let x : Nat := 1
    let s : State := sliceRuns |> wr (AFE.SLICE_SHADOW 1) 0
    let m : State := metBy (.writer .lgc) t s
    meetsBy (.writer .lgc) t s m
    ∧ m.afe.takeover = none
    ∧ x < Variant.slices m.fuse.variant
    ∧ shadows m x = true := by
  simp only [meets, meetsBy, meetsFrom, opensAt, opensTo, opens, takesTriggers, takes_iff, inSession_iff] <;> decide +kernel

theorem wit_slicesComplete_5 :
    let t : Nat := 0
    let x : Nat := 1
    let a : Nat := 0
    let r : Nat := 2
    let s : State := sliceRuns |> wr (AFE.SLICE_SHADOW 1) 0 |> wr (SLICE.SETTLED 1) 1
    let m : State := metBy (.writer .lgc) t s
    meetsBy (.writer .lgc) t s m
    ∧ m.afe.takeover = none
    ∧ x < Variant.slices m.fuse.variant
    ∧ a < Variant.slices m.fuse.variant
    ∧ noShadow m a = false
    ∧ shadowOf m x = a
    ∧ rd m (SLICE.SETTLED x) = 1
    ∧ (r = 1 ∨ r = 2) := by
  simp only [meets, meetsBy, meetsFrom, opensAt, opensTo, opens, takesTriggers, takes_iff, inSession_iff] <;> decide +kernel

theorem wit_slicesComplete_6 :
    let t : Nat := 0
    let x : Nat := 1
    let a : Nat := 0
    let r : Nat := 1
    let acc : Nat := 0
    let s : State := { sliceRuns with afe := { takeover := some (1, 0, 1, 0), slices := [(0, { lastEnd := some 960000 })] } }
    let m : State := met t s
    meets t s m
    ∧ m.afe.takeover = some (x, a, r, acc)
    ∧ takeoverDue m a acc = true := by
  simp only [meets, meetsBy, meetsFrom, opensAt, opensTo, opens, takesTriggers, takes_iff, inSession_iff] <;> decide +kernel

theorem wit_slicesComplete_7 :
    let t : Nat := 0
    let x : Nat := 17
    let a : Nat := 0
    let p : Port := .pcie
    let s : State := State.reset
    let m : State := metBy (.writer (.fabric p)) t s
    meetsBy (.writer (.fabric p)) t s m
    ∧ opens m p 0x30
    ∧ m.afe.takeover = none := by
  simp only [meets, meetsBy, meetsFrom, opensAt, opensTo, opens, takesTriggers, takes_iff, inSession_iff] <;> decide +kernel

theorem wit_samplesAreFlagged_1_reversed :
    let i : Nat := 17
    let b : Nat := 8000
    let pos : Nat := 8000
    let cm : Nat := 0
    let raw : Int := 7
    let s : State := { (State.reset |> wr (SLICE.MODE 17) 1) with afe := { revs := [(0, 7999)] } }
    let sup : Nat := rateSupport (rd s (SLICE.RATE (cfgSlice s i)))
    let rev : Prop := ∃ r ∈ revsOf s i, r < pos ∧ pos ≤ r + sup
    let u : State := sample i b pos raw cm s
    i < 18
    ∧ shadows s i = false
    ∧ (∀ j < 18, j ≠ i → shadowOf s j ≠ i)
    ∧ sup = rateSupport (rd s (SLICE.RATE (cfgSlice s i)))
    ∧ (rev ↔ ∃ r ∈ revsOf s i, r < pos ∧ pos ≤ r + sup)
    ∧ u = sample i b pos raw cm s
    ∧ (rev ↔ ∃ r ∈ revsOf s i, r < pos ∧ pos ≤ r + sup)
    ∧ u = sample i b pos raw cm s
    ∧ rev := by
  simp only [meets, meetsBy, meetsFrom, opensAt, opensTo, opens, takesTriggers, takes_iff, inSession_iff] <;> decide +kernel

theorem wit_samplesAreFlagged_1_blanked :
    let i : Nat := 17
    let b : Nat := 8000
    let pos : Nat := 8000
    let cm : Nat := 0
    let raw : Int := 7
    let s : State := { (State.reset |> wr (AFE.BLANK_GROUP 0) (2 ^ 17)) with afe := { past := [(1, 7999, 9000)] } }
    let sup : Nat := rateSupport (rd s (SLICE.RATE (cfgSlice s i)))
    let rev : Prop := ∃ r ∈ revsOf s i, r < pos ∧ pos ≤ r + sup
    let u : State := sample i b pos raw cm s
    i < 18
    ∧ shadows s i = false
    ∧ (∀ j < 18, j ≠ i → shadowOf s j ≠ i)
    ∧ sup = rateSupport (rd s (SLICE.RATE (cfgSlice s i)))
    ∧ (rev ↔ ∃ r ∈ revsOf s i, r < pos ∧ pos ≤ r + sup)
    ∧ u = sample i b pos raw cm s
    ∧ (rev ↔ ∃ r ∈ revsOf s i, r < pos ∧ pos ≤ r + sup)
    ∧ u = sample i b pos raw cm s
    ∧ ¬ rev
    ∧ blankedAt s i pos sup = true := by
  simp only [meets, meetsBy, meetsFrom, opensAt, opensTo, opens, takesTriggers, takes_iff, inSession_iff] <;> decide +kernel

theorem wit_samplesAreFlagged_1_plain :
    let i : Nat := 17
    let b : Nat := 8000
    let pos : Nat := 8000
    let cm : Nat := 0
    let raw : Int := 7
    let s : State := State.reset
    let sup : Nat := rateSupport (rd s (SLICE.RATE (cfgSlice s i)))
    let rev : Prop := ∃ r ∈ revsOf s i, r < pos ∧ pos ≤ r + sup
    let u : State := sample i b pos raw cm s
    i < 18
    ∧ shadows s i = false
    ∧ (∀ j < 18, j ≠ i → shadowOf s j ≠ i)
    ∧ sup = rateSupport (rd s (SLICE.RATE (cfgSlice s i)))
    ∧ (rev ↔ ∃ r ∈ revsOf s i, r < pos ∧ pos ≤ r + sup)
    ∧ u = sample i b pos raw cm s
    ∧ (rev ↔ ∃ r ∈ revsOf s i, r < pos ∧ pos ≤ r + sup)
    ∧ u = sample i b pos raw cm s
    ∧ ¬ rev
    ∧ blankedAt s i pos sup = false := by
  simp only [meets, meetsBy, meetsFrom, opensAt, opensTo, opens, takesTriggers, takes_iff, inSession_iff] <;> decide +kernel

theorem wit_loopOutputsComplete_1 :
    let t : Nat := 0
    let n : Nat := 1
    let src : TrigSrc := .cmd
    let s : State := State.reset
    let m : State := met t s
    let c : State := arrived src 0x5C m
    meets t s m
    ∧ n < Variant.loops m.fuse.variant
    ∧ c = arrived src 0x5C m
    ∧ takesTriggers c 0x5C := by
  simp only [meets, meetsBy, meetsFrom, opensAt, opensTo, opens, takesTriggers, takes_iff, inSession_iff] <;> decide +kernel

theorem wit_loopOutputsComplete_2 :
    let t : Nat := 0
    let n : Nat := 1
    let v : Nat := 0
    let lo : Nat := 5
    let p : Port := .pcie
    let s : State := { State.reset with fab := { heldLo := [(.pcie, 0x5C154, 5)] } }
    let m : State := metBy (.writer (.fabric p)) t s
    let d : State := dropLo p (0x5C114 + 64 * n) m
    let a : State := renewLease p 0x5C d
    let b : State := setPair 0x5C (0x118 + 64 * n) lo v a
    let c : State := arrived .cmd 0x5C b
    meetsFrom p t s m
    ∧ n < 2
    ∧ opensAt m p 0x5C (0x118 + 64 * n)
    ∧ heldLoOf m p (0x5C114 + 64 * n) = some lo
    ∧ d = dropLo p (0x5C114 + 64 * n) m
    ∧ (sealedBits d 0x5C (0x118 + 64 * n) = 0 ∨ pairDiffers d 0x5C (0x118 + 64 * n) lo v = false)
    ∧ unfitted d 0x5C (0x118 + 64 * n) = false
    ∧ clearBits v (allowedBits 0x5C (0x118 + 64 * n)) = 0
    ∧ worst (unitChecks p d (setPair 0x5C (0x118 + 64 * n) lo v d) 0x5C (0x118 + 64 * n) v) = none
    ∧ a = renewLease p 0x5C d
    ∧ b = setPair 0x5C (0x118 + 64 * n) lo v a
    ∧ rd b (LOOP.LOOP_SRC n) = 0
    ∧ c = arrived .cmd 0x5C b
    ∧ takesTriggers c 0x5C := by
  simp only [meets, meetsBy, meetsFrom, opensAt, opensTo, opens, takesTriggers, takes_iff, inSession_iff] <;> decide +kernel

theorem wit_loopOutputsComplete_3 :
    let t : Nat := 0
    let n : Nat := 1
    let cur : Nat := 0
    let s : State := State.reset
    let m : State := met t s
    let a : State := modLoop n (fun u => { u with frame := some (scFrame m) }) (wr (LOOP.LOOP_CURRENT n) cur m)
    let b : State := loopJudge n cur a
    meets t s m
    ∧ n < Variant.loops m.fuse.variant
    ∧ unitRuns m 0x5C = true
    ∧ (loopOf m n).frame ≠ some (scFrame m)
    ∧ (a = modLoop n (fun u => { u with frame := some (scFrame m) }) (wr (LOOP.LOOP_CURRENT n) cur m))
    ∧ b = loopJudge n cur a := by
  simp only [meets, meetsBy, meetsFrom, opensAt, opensTo, opens, takesTriggers, takes_iff, inSession_iff] <;> decide +kernel

theorem wit_loopOutputsComplete_4 :
    let t : Nat := 0
    let n : Nat := 1
    let s : State := { on 0x5C (State.reset |> wr (LOOP.LOOP_EN 1) 1) with loops := [(1, { idle := 65536 })] }
    let m : State := met t s
    meets t s m
    ∧ n < Variant.loops m.fuse.variant
    ∧ loopOn m n = true
    ∧ (loopOf m n).stale = false
    ∧ rd m (LOOP.LOOP_STALE n) ≤ (loopOf m n).idle := by
  simp only [meets, meetsBy, meetsFrom, opensAt, opensTo, opens, takesTriggers, takes_iff, inSession_iff] <;> decide +kernel

theorem wit_loopUpdateFollowsItsSource_1_value :
    let n : Nat := 0
    let s : State := State.reset |> wr (LOOP.LOOP_EN 0) 1 |> wr (LOOP.LOOP_SRC 0) 1 |> wrS (LOOP.LOOP_SPAN 0) 4000000000 |> wrS (WGH.GROSS 0) 3412000000 |> wr (WGH.VALUE_FLAGS 0) 0
    n < 2
    ∧ (loopSource (modLoop n (fun u => { u with idle := 0, stale := false }) (inc (LOOP.LOOP_UPDATES n) s)) n = .value 3412000000) := by
  simp only [meets, meetsBy, meetsFrom, opensAt, opensTo, opens, takesTriggers, takes_iff, inSession_iff] <;> decide +kernel

theorem wit_loopUpdateFollowsItsSource_1_fault :
    let n : Nat := 0
    let s : State := State.reset |> wr (LOOP.LOOP_EN 0) 1 |> wr (LOOP.LOOP_SRC 0) 1 |> wrS (LOOP.LOOP_SPAN 0) 4000000000 |> wrS (WGH.GROSS 0) 3412000000 |> wr (WGH.VALUE_FLAGS 0) (2 ^ 10)
    n < 2
    ∧ (loopSource (modLoop n (fun u => { u with idle := 0, stale := false }) (inc (LOOP.LOOP_UPDATES n) s)) n = .fault) := by
  simp only [meets, meetsBy, meetsFrom, opensAt, opensTo, opens, takesTriggers, takes_iff, inSession_iff] <;> decide +kernel

theorem wit_loopUpdateFollowsItsSource_1_hold :
    let n : Nat := 0
    let s : State := State.reset |> wr (LOOP.LOOP_EN 0) 1 |> wr (LOOP.LOOP_SRC 0) 1 |> wrS (LOOP.LOOP_SPAN 0) 4000000000 |> wrS (WGH.GROSS 0) 3412000000 |> wr (WGH.VALUE_FLAGS 0) (2 ^ 3)
    n < 2
    ∧ (loopSource (modLoop n (fun u => { u with idle := 0, stale := false }) (inc (LOOP.LOOP_UPDATES n) s)) n = .hold) := by
  simp only [meets, meetsBy, meetsFrom, opensAt, opensTo, opens, takesTriggers, takes_iff, inSession_iff] <;> decide +kernel

theorem wit_loopUpdateFollowsItsSource_1_off :
    let n : Nat := 1
    let s : State := State.reset
    n < 2
    ∧ loopOn s n = false := by
  simp only [meets, meetsBy, meetsFrom, opensAt, opensTo, opens, takesTriggers, takes_iff, inSession_iff] <;> decide +kernel

theorem wit_weighingCommandsComplete_1 :
    let t : Nat := 0
    let c : Nat := 15
    let s : State := on 0x58 (now 100000000 State.reset)
    let m : State := met t s
    let b : Nat := (outputDue m c).getD 0
    meets t s m
    ∧ c < 16
    ∧ enabled m (0x49 + c) = true
    ∧ outputDue m c = some b := by
  simp only [meets, meetsBy, meetsFrom, opensAt, opensTo, opens, takesTriggers, takes_iff, inSession_iff] <;> decide +kernel

theorem wit_weighingCommandsComplete_2 :
    let t : Nat := 0
    let c : Nat := 15
    let j : Nat := 3
    let s : State := { State.reset with wgh := { chans := [(15, { notches := [(3, { held := 65536 })] })] } }
    let m : State := met t s
    meets t s m
    ∧ c < 16
    ∧ j < 4
    ∧ rd m (WCH.N_FENCE_TICKS c) ≤ (notchOf m c j).held
    ∧ 0 < (notchOf m c j).held
    ∧ (notchOf m c j).raised = false := by
  simp only [meets, meetsBy, meetsFrom, opensAt, opensTo, opens, takesTriggers, takes_iff, inSession_iff] <;> decide +kernel

theorem wit_weighingCommandsComplete_3 :
    let t : Nat := 0
    let k : Nat := 0
    let s : State := { weighs with wgh := { sets := [(0, { stale := 2 ^ 40 })] } }
    let m : State := met t s
    meets t s m
    ∧ k < 8
    ∧ setOn m k = true
    ∧ (setU m k).isStale = false
    ∧ rd m (WGH.ZT_STALE_LIMIT k) * 400 < (setU m k).stale := by
  simp only [meets, meetsBy, meetsFrom, opensAt, opensTo, opens, takesTriggers, takes_iff, inSession_iff] <;> decide +kernel

theorem wit_weighingCommandsComplete_4_zero :
    let t : Nat := 0
    let k : Nat := 7
    let op : Nat := 1
    let p : Port := .pcie
    let c : Instr := .zero t p k
    let s : State := State.reset
    let m : State := metBy (.writer (.fabric p)) t s
    let a : State := accepted p 0x48 (some (WGH.SET_CODE k)) m
    meetsFrom p t s m
    ∧ k < 8
    ∧ opens m p 0x48
    ∧ (setU m k).cmd = none
    ∧ (op = 1 ∧ c = .zero t p k ∨ op = 2 ∧ c = .tare t p k ∨ op = 4 ∧ c = .clearTare t p k ∨ op = 3 ∧ c = .presetTare t p k ∧ 0 < rdS m (WGH.CMD_ARG k) ∧ rdS m (WGH.CMD_ARG k) ≤ (rd m (WGH.MAX_E k) * rd m (WGH.E_MG k) : Nat) ∧ rdS m (WGH.CMD_ARG k) % (rd m (WGH.E_MG k) : Int) = 0)
    ∧ a = accepted p 0x48 (some (WGH.SET_CODE k)) m := by
  simp only [meets, meetsBy, meetsFrom, opensAt, opensTo, opens, takesTriggers, takes_iff, inSession_iff, true_and, true_or, and_true, or_true] <;> decide +kernel

theorem wit_weighingCommandsComplete_4_preset :
    let t : Nat := 0
    let k : Nat := 0
    let op : Nat := 3
    let p : Port := .pcie
    let c : Instr := .presetTare t p k
    let s : State := weighs |> wr (WGH.CMD_ARG 0) 3000000
    let m : State := metBy (.writer (.fabric p)) t s
    let a : State := accepted p 0x48 (some (WGH.SET_CODE k)) m
    meetsFrom p t s m
    ∧ k < 8
    ∧ opens m p 0x48
    ∧ (setU m k).cmd = none
    ∧ (op = 1 ∧ c = .zero t p k ∨ op = 2 ∧ c = .tare t p k ∨ op = 4 ∧ c = .clearTare t p k ∨ op = 3 ∧ c = .presetTare t p k ∧ 0 < rdS m (WGH.CMD_ARG k) ∧ rdS m (WGH.CMD_ARG k) ≤ (rd m (WGH.MAX_E k) * rd m (WGH.E_MG k) : Nat) ∧ rdS m (WGH.CMD_ARG k) % (rd m (WGH.E_MG k) : Int) = 0)
    ∧ a = accepted p 0x48 (some (WGH.SET_CODE k)) m := by
  simp only [meets, meetsBy, meetsFrom, opensAt, opensTo, opens, takesTriggers, takes_iff, inSession_iff, true_and, true_or, and_true, or_true] <;> decide +kernel

theorem wit_weighingCommandsComplete_5 :
    let t : Nat := 0
    let k : Nat := 0
    let op : Nat := 2
    let arg : Int := 0
    let p : Port := .pcie
    let s : State := stable
    let m : State := met t s
    let a : State := modSet k (fun u => { u with cmd := none }) m
    meets t s m
    ∧ k < 8
    ∧ onTick m = true
    ∧ lgcRuns m = true
    ∧ (setU m k).cmd = some (op, arg, p)
    ∧ (setU m k).cmdSc < m.time.sc
    ∧ setCmdState m k op = false
    ∧ (a = modSet k (fun u => { u with cmd := none }) m) := by
  simp only [meets, meetsBy, meetsFrom, opensAt, opensTo, opens, takesTriggers, takes_iff, inSession_iff] <;> decide +kernel

theorem wit_weighingCommandsComplete_6 :
    let t : Nat := 0
    let k : Nat := 0
    let op : Nat := 1
    let arg : Int := 0
    let p : Port := .pcie
    let s : State := now 1000000 { (weighs |> wr SYS.LGC_STATE 2) with wgh := { sets := [(0, { cmd := some (1, 0, .pcie) })] } }
    let m : State := met t s
    let a : State := modSet k (fun u => { u with cmd := none }) m
    meets t s m
    ∧ k < 8
    ∧ onTick m = true
    ∧ lgcRuns m = true
    ∧ (setU m k).cmd = some (op, arg, p)
    ∧ (setU m k).cmdSc < m.time.sc
    ∧ setCmdState m k op = true
    ∧ (a = modSet k (fun u => { u with cmd := none }) m) := by
  simp only [meets, meetsBy, meetsFrom, opensAt, opensTo, opens, takesTriggers, takes_iff, inSession_iff] <;> decide +kernel

theorem wit_weighingCommandsComplete_7 :
    let t : Nat := 0
    let c : Nat := 0
    let k : Nat := 0
    let occ : Nat := 0
    let n : Nat := 4095
    let src : TrigSrc := .cmd
    let s : State := weighs
    let m : State := met t s
    let a : State := arrived src (0x48 + c) m
    meets t s m
    ∧ c < 16
    ∧ a = arrived src (0x48 + c) m
    ∧ takesTriggers a (0x48 + c)
    ∧ setOf a c = some k
    ∧ 1 ≤ n
    ∧ n ≤ 4095
    ∧ rd a (WGH.SET_EN k) ≠ 0
    ∧ (setU a k).win = none := by
  simp only [meets, meetsBy, meetsFrom, opensAt, opensTo, opens, takesTriggers, takes_iff, inSession_iff] <;> decide +kernel

theorem wit_weighingCommandsComplete_8 :
    let t : Nat := 0
    let c : Nat := 0
    let k : Nat := 0
    let n : Nat := 4095
    let p : Port := .pcie
    let s : State := weighs
    let m : State := metBy (.writer (.fabric p)) t s
    let a : State := arrived .cmd (0x48 + c) (raise (0x49 + c) 4 (startCmd ((0x49 + c) * 0x1000 + 0x060) 4 (accepted p (0x49 + c) (some (WCH.CMD_CODE c)) m)))
    meetsFrom p t s m
    ∧ c < 16
    ∧ opens m p (0x49 + c)
    ∧ cmdBusy m ((0x49 + c) * 0x1000 + 0x060) = false
    ∧ channelLegal m c = false
    ∧ 1 ≤ n
    ∧ n ≤ 4095
    ∧ a = arrived .cmd (0x48 + c) (raise (0x49 + c) 4 (startCmd ((0x49 + c) * 0x1000 + 0x060) 4 (accepted p (0x49 + c) (some (WCH.CMD_CODE c)) m)))
    ∧ takesTriggers a (0x48 + c)
    ∧ setOf a c = some k
    ∧ rd a (WGH.SET_EN k) ≠ 0
    ∧ (setU a k).win = none := by
  simp only [meets, meetsBy, meetsFrom, opensAt, opensTo, opens, takesTriggers, takes_iff, inSession_iff] <;> decide +kernel

theorem wit_weighingCommandsComplete_9 :
    let t : Nat := 0
    let k : Nat := 0
    let w : WWin := openWin
    let s : State := { weighs with wgh := { sets := [(0, { win := some openWin, lastB := some 1040000 })] } }
    let m : State := met t s
    meets t s m
    ∧ k < 8
    ∧ (setU m k).win = some w
    ∧ w.last ≤ (setU m k).lastB.getD 0 := by
  simp only [meets, meetsBy, meetsFrom, opensAt, opensTo, opens, takesTriggers, takes_iff, inSession_iff] <;> decide +kernel

theorem wit_weighingCommandsComplete_10 :
    let t : Nat := 0
    let s : State := { (State.reset |> wr SYS.LGC_STATE 2 |> wr (WGH.DE_DWELL 0) 0) with wgh := { de := { active := true, dwell := some 0 } } }
    let m : State := met t s
    meets t s m
    ∧ onTick m = true
    ∧ lgcRuns m = true
    ∧ dwellOver m = true := by
  simp only [meets, meetsBy, meetsFrom, opensAt, opensTo, opens, takesTriggers, takes_iff, inSession_iff] <;> decide +kernel

theorem wit_windowsFollowTheirPolicy_1_refused :
    let c : Nat := 0
    let k : Nat := 0
    let occ : Nat := 0
    let n : Nat := 4096
    let w : WWin := openWin
    let s : State := { (weighs |> wr (WGH.SET_POLICY 0) 0) with wgh := { sets := [(0, { win := some openWin, pend := none })] } }
    setOf s c = some k
    ∧ (setU s k).win = some w
    ∧ (n = 0 ∨ 4095 < n ∨ rd s (WGH.SET_EN k) = 0) := by
  simp only [meets, meetsBy, meetsFrom, opensAt, opensTo, opens, takesTriggers, takes_iff, inSession_iff] <;> decide +kernel

theorem wit_windowsFollowTheirPolicy_1_queued :
    let c : Nat := 0
    let k : Nat := 0
    let occ : Nat := 0
    let n : Nat := 4095
    let w : WWin := openWin
    let s : State := { (weighs |> wr (WGH.SET_POLICY 0) 0) with wgh := { sets := [(0, { win := some openWin, pend := none })] } }
    setOf s c = some k
    ∧ (setU s k).win = some w
    ∧ 1 ≤ n
    ∧ n ≤ 4095
    ∧ rd s (WGH.SET_EN k) ≠ 0
    ∧ rd s (WGH.SET_POLICY k) = 0
    ∧ (setU s k).pend = none := by
  simp only [meets, meetsBy, meetsFrom, opensAt, opensTo, opens, takesTriggers, takes_iff, inSession_iff] <;> decide +kernel

theorem wit_windowsFollowTheirPolicy_1_merged :
    let c : Nat := 0
    let k : Nat := 0
    let occ : Nat := 0
    let n : Nat := 1
    let w : WWin := openWin
    let s : State := { (weighs |> wr (WGH.SET_POLICY 0) 0) with wgh := { sets := [(0, { win := some openWin, pend := some (1, 0x48) })] } }
    setOf s c = some k
    ∧ (setU s k).win = some w
    ∧ 1 ≤ n
    ∧ n ≤ 4095
    ∧ rd s (WGH.SET_EN k) ≠ 0
    ∧ rd s (WGH.SET_POLICY k) = 0
    ∧ (setU s k).pend ≠ none := by
  simp only [meets, meetsBy, meetsFrom, opensAt, opensTo, opens, takesTriggers, takes_iff, inSession_iff] <;> decide +kernel

theorem wit_windowsFollowTheirPolicy_1_dropped :
    let c : Nat := 0
    let k : Nat := 0
    let occ : Nat := 0
    let n : Nat := 1
    let w : WWin := openWin
    let s : State := { (weighs |> wr (WGH.SET_POLICY 0) 1) with wgh := { sets := [(0, { win := some openWin, pend := none })] } }
    setOf s c = some k
    ∧ (setU s k).win = some w
    ∧ 1 ≤ n
    ∧ n ≤ 4095
    ∧ rd s (WGH.SET_EN k) ≠ 0
    ∧ rd s (WGH.SET_POLICY k) = 1 := by
  simp only [meets, meetsBy, meetsFrom, opensAt, opensTo, opens, takesTriggers, takes_iff, inSession_iff] <;> decide +kernel

theorem wit_windowsFollowTheirPolicy_1_restarted :
    let c : Nat := 0
    let k : Nat := 0
    let occ : Nat := 0
    let n : Nat := 1
    let w : WWin := openWin
    let s : State := { (weighs |> wr (WGH.SET_POLICY 0) 2) with wgh := { sets := [(0, { win := some openWin, pend := none })] } }
    setOf s c = some k
    ∧ (setU s k).win = some w
    ∧ 1 ≤ n
    ∧ n ≤ 4095
    ∧ rd s (WGH.SET_EN k) ≠ 0
    ∧ 2 ≤ rd s (WGH.SET_POLICY k) := by
  simp only [meets, meetsBy, meetsFrom, opensAt, opensTo, opens, takesTriggers, takes_iff, inSession_iff] <;> decide +kernel

theorem wit_valuesAreRoundedAndFlagged_1 :
    let k : Nat := 0
    let mz : Int := 0
    let s : State := weighs
    0 < rd s (WGH.E_MG k) := by
  simp only [meets, meetsBy, meetsFrom, opensAt, opensTo, opens, takesTriggers, takes_iff, inSession_iff] <;> decide +kernel

theorem wit_ultrasonicCommandsComplete_1 :
    let t : Nat := 0
    let occ : Nat := 0
    let arg : Nat := 8
    let src : TrigSrc := .cmd
    let s : State := on 0x5A (State.reset |> wr (USP.P_EN 3) 1)
    let m : State := met t s
    let c : State := arrived src 0x5A m
    meets t s m
    ∧ c = arrived src 0x5A m
    ∧ takesTriggers c 0x5A
    ∧ seqArgOk arg = true
    ∧ enabled c 0x5A = true
    ∧ rd c SYS.CORE_SRC ≠ 0
    ∧ (((maskPaths (arg % 16)).all fun q => decide (rd c (USP.P_EN q) ≠ 0)) = true)
    ∧ c.usx.seq = none := by
  simp only [meets, meetsBy, meetsFrom, opensAt, opensTo, opens, takesTriggers, takes_iff, inSession_iff] <;> decide +kernel

theorem wit_ultrasonicCommandsComplete_2 :
    let t : Nat := 0
    let arg : Nat := 8
    let p : Port := .pcie
    let s : State := on 0x5A (State.reset |> wr (USP.P_EN 3) 1)
    let m : State := metBy (.writer (.fabric p)) t s
    let c : State := arrived .cmd 0x5A (raise 0x5A 8 (startCmd 0x5A100 4 (accepted p 0x5A (some USX.CMD_CODE) m)))
    meetsFrom p t s m
    ∧ opens m p 0x5A
    ∧ cmdBusy m 0x5A100 = false
    ∧ maskLegal m (arg % 16) = false
    ∧ seqArgOk arg = true
    ∧ c = arrived .cmd 0x5A (raise 0x5A 8 (startCmd 0x5A100 4 (accepted p 0x5A (some USX.CMD_CODE) m)))
    ∧ takesTriggers c 0x5A
    ∧ enabled c 0x5A = true
    ∧ rd c SYS.CORE_SRC ≠ 0
    ∧ (((maskPaths (arg % 16)).all fun q => decide (rd c (USP.P_EN q) ≠ 0)) = true)
    ∧ c.usx.seq = none := by
  simp only [meets, meetsBy, meetsFrom, opensAt, opensTo, opens, takesTriggers, takes_iff, inSession_iff] <;> decide +kernel

theorem wit_ultrasonicCommandsComplete_3 :
    let t : Nat := 0
    let arg : Nat := 8
    let p : Port := .pcie
    let s : State := State.reset |> wr (USP.P_LEGAL 3) 1
    let m : State := metBy (.writer (.fabric p)) t s
    meetsFrom p t s m
    ∧ opens m p 0x5A
    ∧ cmdBusy m 0x5A100 = false
    ∧ maskLegal m (arg % 16) = true := by
  simp only [meets, meetsBy, meetsFrom, opensAt, opensTo, opens, takesTriggers, takes_iff, inSession_iff] <;> decide +kernel

theorem wit_ultrasonicCommandsComplete_4 :
    let t : Nat := 0
    let amp : Nat := 0
    let stamps : List Nat := [2 ^ 32]
    let q : Seq := pathSeq
    let s : State := shoots pathSeq
    let m : State := met t s
    meets t s m
    ∧ m.usx.seq = some q
    ∧ q.slot < seqShots m q
    ∧ slotDue m q = true := by
  simp only [meets, meetsBy, meetsFrom, opensAt, opensTo, opens, takesTriggers, takes_iff, inSession_iff] <;> decide +kernel

theorem wit_ultrasonicCommandsComplete_5 :
    let t : Nat := 0
    let time : Nat := 0
    let q : Seq := { pathSeq with slot := 2, temp := true }
    let s : State := now 100000000 (shoots { pathSeq with slot := 2, temp := true })
    let m : State := met t s
    meets t s m
    ∧ m.usx.seq = some q
    ∧ seqShots m q ≤ q.slot
    ∧ q.slot < seqSlots m q
    ∧ slotDue m q = true := by
  simp only [meets, meetsBy, meetsFrom, opensAt, opensTo, opens, takesTriggers, takes_iff, inSession_iff] <;> decide +kernel

theorem wit_ultrasonicCommandsComplete_6 :
    let t : Nat := 0
    let q : Seq := { pathSeq with slot := 2 }
    let s : State := shoots { pathSeq with slot := 2 }
    let m : State := met t s
    meets t s m
    ∧ m.usx.seq = some q
    ∧ seqSlots m q ≤ q.slot
    ∧ m.usx.pend = none
    ∧ m.usx.results.length < 8 := by
  simp only [meets, meetsBy, meetsFrom, opensAt, opensTo, opens, takesTriggers, takes_iff, inSession_iff] <;> decide +kernel

theorem wit_ultrasonicCommandsComplete_7 :
    let t : Nat := 0
    let q : Seq := { pathSeq with slot := 2 }
    let s : State := { shoots { pathSeq with slot := 2 } with usx := { seq := some { pathSeq with slot := 2 }, results := List.replicate 8 {} } }
    let m : State := met t s
    meets t s m
    ∧ m.usx.seq = some q
    ∧ seqSlots m q ≤ q.slot
    ∧ m.usx.pend = none
    ∧ 8 ≤ m.usx.results.length := by
  simp only [meets, meetsBy, meetsFrom, opensAt, opensTo, opens, takesTriggers, takes_iff, inSession_iff] <;> decide +kernel

theorem wit_ultrasonicCommandsComplete_8 :
    let t : Nat := 0
    let k : Nat := 2
    let s : State := now 40000000000 (State.reset |> wr USX.T_FAULT 4)
    let m : State := met t s
    meets t s m
    ∧ k < 3
    ∧ bit (rd m USX.T_FAULT) k = true
    ∧ (rtdU m k).since + rd m USX.T_HOLD * secondSteps ≤ m.time.cycle := by
  simp only [meets, meetsBy, meetsFrom, opensAt, opensTo, opens, takesTriggers, takes_iff, inSession_iff] <;> decide +kernel

theorem wit_shotsAreJudgedInOrder_1_moved :
    let stamps : List Nat := []
    let amp : Nat := 0
    let q : Seq := pathSeq
    let s : State := { (State.reset |> wr USX.SHOT_GAP 1000) with afe := { rxMoved := some 0 } }
    let p : Nat := (shotOf q).1
    p = (shotOf q).1
    ∧ p < 4
    ∧ (shotBlanked (inc (USP.SHOTS p) s) q p = true ∨ shotMoved (inc (USP.SHOTS p) s) q p = true) := by
  simp only [meets, meetsBy, meetsFrom, opensAt, opensTo, opens, takesTriggers, takes_iff, inSession_iff] <;> decide +kernel

theorem wit_shotsAreJudgedInOrder_1_bad :
    let stamps : List Nat := [500]
    let amp : Nat := 10
    let q : Seq := pathSeq
    let s : State := State.reset |> wr (USP.TOF_MIN 3) 1 |> wr (USP.TOF_MAX 3) 1000 |> wr (USP.AMP_MIN 3) 5 |> wr (USP.AMP_MAX 3) 9
    let p : Nat := (shotOf q).1
    p = (shotOf q).1
    ∧ p < 4
    ∧ shotBlanked (inc (USP.SHOTS p) s) q p = false
    ∧ shotMoved (inc (USP.SHOTS p) s) q p = false
    ∧ shotReason (inc (USP.SHOTS p) s) p (shotOf q).2.2 stamps amp ≠ 0 := by
  simp only [meets, meetsBy, meetsFrom, opensAt, opensTo, opens, takesTriggers, takes_iff, inSession_iff] <;> decide +kernel

theorem wit_shotsAreJudgedInOrder_1_window :
    let stamps : List Nat := [0]
    let amp : Nat := 5
    let q : Seq := pathSeq
    let s : State := State.reset |> wr (USP.TOF_MIN 3) 1 |> wr (USP.TOF_MAX 3) 1000 |> wr (USP.AMP_MIN 3) 5 |> wr (USP.AMP_MAX 3) 9
    let p : Nat := (shotOf q).1
    p = (shotOf q).1
    ∧ p < 4
    ∧ stamps ≠ []
    ∧ meanStamps stamps < rd s (USP.TOF_MIN p) * tofUnit := by
  simp only [meets, meetsBy, meetsFrom, opensAt, opensTo, opens, takesTriggers, takes_iff, inSession_iff] <;> decide +kernel

theorem wit_shotsAreJudgedInOrder_1_amplitude :
    let stamps : List Nat := [1000]
    let amp : Nat := 4
    let q : Seq := pathSeq
    let s : State := State.reset |> wr (USP.TOF_MIN 3) 1 |> wr (USP.TOF_MAX 3) 1000 |> wr (USP.AMP_MIN 3) 5 |> wr (USP.AMP_MAX 3) 9
    let p : Nat := (shotOf q).1
    p = (shotOf q).1
    ∧ p < 4
    ∧ stamps ≠ []
    ∧ rd s (USP.TOF_MIN p) * tofUnit ≤ meanStamps stamps
    ∧ meanStamps stamps ≤ rd s (USP.TOF_MAX p) * tofUnit
    ∧ amp < rd s (USP.AMP_MIN p) := by
  simp only [meets, meetsBy, meetsFrom, opensAt, opensTo, opens, takesTriggers, takes_iff, inSession_iff] <;> decide +kernel

theorem wit_shotsAreJudgedInOrder_1_good :
    let stamps : List Nat := [500]
    let amp : Nat := 9
    let q : Seq := pathSeq
    let s : State := State.reset |> wr (USP.TOF_MIN 3) 1 |> wr (USP.TOF_MAX 3) 1000 |> wr (USP.AMP_MIN 3) 5 |> wr (USP.AMP_MAX 3) 9
    let p : Nat := (shotOf q).1
    p = (shotOf q).1
    ∧ p < 4
    ∧ shotBlanked (inc (USP.SHOTS p) s) q p = false
    ∧ shotMoved (inc (USP.SHOTS p) s) q p = false
    ∧ shotReason (inc (USP.SHOTS p) s) p (shotOf q).2.2 stamps amp = 0 := by
  simp only [meets, meetsBy, meetsFrom, opensAt, opensTo, opens, takesTriggers, takes_iff, inSession_iff] <;> decide +kernel

theorem wit_sealedServicesComplete_1 :
    let t : Nat := 0
    let r : LgcReq := ⟨1, 5, 0x81, [], true⟩
    let s : State := asked ⟨1, 5, 0x81, [], true⟩
    let m : State := met t s
    let b : State := taken m
    meets t s m
    ∧ r.code = 0x81
    ∧ takes r m b := by
  simp only [meets, meetsBy, meetsFrom, opensAt, opensTo, opens, takesTriggers, takes_iff, inSession_iff] <;> decide +kernel

theorem wit_sealedServicesComplete_2 :
    let t : Nat := 0
    let r : LgcReq := ⟨1, 5, 0x82, [0, 0], true⟩
    let e : LogEntry := {}
    let s : State := { asked ⟨1, 5, 0x82, [0, 0], true⟩ with leg := { queue := [⟨1, 5, 0x82, [0, 0], true⟩], log := [{}] } }
    let m : State := met t s
    let b : State := taken m
    meets t s m
    ∧ r.code = 0x82
    ∧ takes r m b
    ∧ b.leg.log[le (slice r.data 0 2)]? = some e := by
  simp only [meets, meetsBy, meetsFrom, opensAt, opensTo, opens, takesTriggers, takes_iff, inSession_iff] <;> decide +kernel

theorem wit_sealedServicesComplete_3 :
    let t : Nat := 0
    let r : LgcReq := ⟨1, 5, 0x83, zeros 8, true⟩
    let s : State := asked ⟨1, 5, 0x83, zeros 8, true⟩ |> wr LEGL.SEAL_STATE 1
    let m : State := met t s
    let b : State := taken m
    let n : List Nat := toBe 16 (Config.nonce b.leg.draws)
    meets t s m
    ∧ r.code = 0x83
    ∧ takes r m b
    ∧ rd b LEGL.SEAL_STATE = 1
    ∧ rd b BILL.DEL_OPEN ≠ 1
    ∧ b.leg.lockUntil ≤ b.time.ticks
    ∧ n = toBe 16 (Config.nonce b.leg.draws) := by
  simp only [meets, meetsBy, meetsFrom, opensAt, opensTo, opens, takesTriggers, takes_iff, inSession_iff] <;> decide +kernel

theorem wit_sealedServicesComplete_4 :
    let t : Nat := 0
    let r : LgcReq := ⟨1, 5, 0x84, sessionResp State.reset sealNonce, true⟩
    let n : Nonce := sealNonce
    let s : State := { (asked ⟨1, 5, 0x84, [], true⟩ |> wr LEGL.SEAL_STATE 1) with leg := { queue := [⟨1, 5, 0x84, sessionResp State.reset sealNonce, true⟩], nonce := some sealNonce } }
    let m : State := met t s
    let b : State := taken m
    meets t s m
    ∧ r.code = 0x84
    ∧ takes r m b
    ∧ rd b LEGL.SEAL_STATE = 1
    ∧ b.leg.nonce = some n
    ∧ b.time.ticks ≤ n.tick + 4000
    ∧ slice r.data 0 16 = sessionResp b n := by
  simp only [meets, meetsBy, meetsFrom, opensAt, opensTo, opens, takesTriggers, takes_iff, inSession_iff]
  and_intros
  all_goals first
    | exact tagged_ok _ _ rfl
    | decide +kernel
    | rfl

theorem wit_sealedServicesComplete_5 :
    let t : Nat := 0
    let r : LgcReq := ⟨1, 5, 0x85, tagged [1, 0, 0, 0, 1, 0xF9, 3], true⟩
    let i : Nat := le (slice (sessionArgs r) 0 2)
    let s : State := inSeal [1, 0, 0, 0, 1, 0xF9, 3]
    let m : State := met t s
    let b : State := taken m
    let a : State := sessionNext r b
    meets t s m
    ∧ r.code = 0x85
    ∧ r.data.getD 4 0 = 1
    ∧ takes r m b
    ∧ inSession r b a
    ∧ i = le (slice (sessionArgs r) 0 2)
    ∧ i < 1018 := by
  simp only [meets, meetsBy, meetsFrom, opensAt, opensTo, opens, takesTriggers, takes_iff, inSession_iff]
  and_intros
  all_goals first
    | exact tagged_ok _ _ rfl
    | decide +kernel
    | rfl

theorem wit_sealedServicesComplete_6 :
    let t : Nat := 0
    let r : LgcReq := ⟨1, 5, 0x85, tagged ([1, 0, 0, 0, 2, 0xF9, 3] ++ zeros 8), true⟩
    let i : Nat := le (slice (sessionArgs r) 0 2)
    let s : State := inSeal ([1, 0, 0, 0, 2, 0xF9, 3] ++ zeros 8)
    let m : State := met t s
    let b : State := taken m
    let a : State := sessionNext r b
    let c : State := { a with leg := { a.leg with edit := putRecord i (le (slice (sessionArgs r) 2 8)) a.leg.edit } }
    meets t s m
    ∧ r.code = 0x85
    ∧ r.data.getD 4 0 = 2
    ∧ takes r m b
    ∧ inSession r b a
    ∧ i = le (slice (sessionArgs r) 0 2)
    ∧ i < 1018
    ∧ c = { a with leg := { a.leg with edit := putRecord i (le (slice (sessionArgs r) 2 8)) a.leg.edit } } := by
  simp only [meets, meetsBy, meetsFrom, opensAt, opensTo, opens, takesTriggers, takes_iff, inSession_iff]
  and_intros
  all_goals first
    | exact tagged_ok _ _ rfl
    | decide +kernel
    | rfl

theorem wit_sealedServicesComplete_7 :
    let t : Nat := 0
    let r : LgcReq := ⟨1, 5, 0x85, tagged [1, 0, 0, 0, 3], true⟩
    let s : State := inSeal [1, 0, 0, 0, 3]
    let m : State := met t s
    let b : State := taken m
    let a : State := sessionNext r b
    let k : Bank := bankAt a (rd a LEGL.ACTIVE_BANK)
    let l : List Nat := listed a.leg.edit
    meets t s m
    ∧ r.code = 0x85
    ∧ r.data.getD 4 0 = 3
    ∧ takes r m b
    ∧ inSession r b a
    ∧ a.leg.cal = none
    ∧ commitRange a = false
    ∧ rd a BILL.DEL_OPEN ≠ 1
    ∧ (vresOk a = true → a.leg.log.length < 4032)
    ∧ k = bankAt a (rd a LEGL.ACTIVE_BANK)
    ∧ l = listed a.leg.edit := by
  simp only [meets, meetsBy, meetsFrom, opensAt, opensTo, opens, takesTriggers, takes_iff, inSession_iff]
  and_intros
  all_goals first
    | exact tagged_ok _ _ rfl
    | decide +kernel
    | rfl

theorem wit_sealedServicesComplete_8 :
    let t : Nat := 0
    let r : LgcReq := ⟨1, 5, 0x85, tagged [1, 0, 0, 0, 4], true⟩
    let s : State := inSeal [1, 0, 0, 0, 4]
    let m : State := met t s
    let b : State := taken m
    let a : State := sessionNext r b
    let c : State := { a with leg := { a.leg with edit := (bankAt a (rd a LEGL.ACTIVE_BANK)).params } }
    meets t s m
    ∧ r.code = 0x85
    ∧ r.data.getD 4 0 = 4
    ∧ takes r m b
    ∧ inSession r b a
    ∧ c = { a with leg := { a.leg with edit := (bankAt a (rd a LEGL.ACTIVE_BANK)).params } } := by
  simp only [meets, meetsBy, meetsFrom, opensAt, opensTo, opens, takesTriggers, takes_iff, inSession_iff]
  and_intros
  all_goals first
    | exact tagged_ok _ _ rfl
    | decide +kernel
    | rfl

theorem wit_sealedServicesComplete_9 :
    let t : Nat := 0
    let r : LgcReq := ⟨1, 5, 0x85, tagged ([1, 0, 0, 0, 5] ++ zeros 8), true⟩
    let s : State := { inSeal [1, 0, 0, 0, 5] with leg := { queue := [⟨1, 5, 0x85, tagged ([1, 0, 0, 0, 5] ++ zeros 8), true⟩], log := List.replicate 4032 { chain := zeros 8 } } }
    let m : State := met t s
    let b : State := taken m
    let a : State := sessionNext r b
    meets t s m
    ∧ r.code = 0x85
    ∧ r.data.getD 4 0 = 5
    ∧ takes r m b
    ∧ inSession r b a
    ∧ a.leg.roll = none
    ∧ slice (sessionArgs r) 0 8 = lastChain a
    ∧ 4032 ≤ a.leg.log.length := by
  simp only [meets, meetsBy, meetsFrom, opensAt, opensTo, opens, takesTriggers, takes_iff, inSession_iff]
  and_intros
  all_goals first
    | exact tagged_ok _ _ rfl
    | decide +kernel
    | rfl

theorem wit_sealedServicesComplete_10 :
    let t : Nat := 0
    let r : LgcReq := ⟨1, 5, 0x85, tagged [1, 0, 0, 0, 6, 8], true⟩
    let d : Nat := (sessionArgs r).getD 0 0
    let s : State := inSeal [1, 0, 0, 0, 6, 8]
    let m : State := met t s
    let b : State := taken m
    let a : State := sessionNext r b
    meets t s m
    ∧ r.code = 0x85
    ∧ r.data.getD 4 0 = 6
    ∧ takes r m b
    ∧ inSession r b a
    ∧ d = (sessionArgs r).getD 0 0
    ∧ 6 ≤ d
    ∧ d ≤ 8
    ∧ balanced a d = true := by
  simp only [meets, meetsBy, meetsFrom, opensAt, opensTo, opens, takesTriggers, takes_iff, inSession_iff]
  and_intros
  all_goals first
    | exact tagged_ok _ _ rfl
    | decide +kernel
    | rfl

theorem wit_sealedServicesComplete_11 :
    let t : Nat := 0
    let r : LgcReq := ⟨1, 5, 0x85, tagged [1, 0, 0, 0, 7], true⟩
    let s : State := inSeal [1, 0, 0, 0, 7]
    let m : State := met t s
    let b : State := taken m
    let a : State := sessionNext r b
    meets t s m
    ∧ r.code = 0x85
    ∧ r.data.getD 4 0 = 7
    ∧ takes r m b
    ∧ inSession r b a := by
  simp only [meets, meetsBy, meetsFrom, opensAt, opensTo, opens, takesTriggers, takes_iff, inSession_iff]
  and_intros
  all_goals first
    | exact tagged_ok _ _ rfl
    | decide +kernel
    | rfl

theorem wit_sealedServicesComplete_12 :
    let t : Nat := 0
    let r : LgcReq := ⟨1, 5, 0x8B, [], true⟩
    let s : State := asked ⟨1, 5, 0x8B, [], true⟩
    let m : State := met t s
    let b : State := taken m
    meets t s m
    ∧ r.code = 0x8B
    ∧ takes r m b := by
  simp only [meets, meetsBy, meetsFrom, opensAt, opensTo, opens, takesTriggers, takes_iff, inSession_iff] <;> decide +kernel

theorem wit_sealAndStoreCommandsComplete_1 :
    let t : Nat := 0
    let k : Nat := 0
    let s : State := { (State.reset |> wr SYS.LGC_STATE 2) with leg := { idStart := some 0 } }
    let m : State := met t s
    meets t s m
    ∧ m.leg.idStart = some k
    ∧ lgcRuns m = true := by
  simp only [meets, meetsBy, meetsFrom, opensAt, opensTo, opens, takesTriggers, takes_iff, inSession_iff] <;> decide +kernel

theorem wit_sealAndStoreCommandsComplete_2 :
    let t : Nat := 0
    let s : State := State.reset |> wr LEGL.SW_FILT 1
    let m : State := met t s
    let b : State := wr LEGL.SW_FILT 0 { m with leg := { m.leg with edges := m.time.cycle :: sealEdges m } }
    meets t s m
    ∧ rd m LEGL.SW_FILT = 1
    ∧ (sealEdges m).length < rd m LEGL.SEAL_MAX_EDGES
    ∧ b = wr LEGL.SW_FILT 0 { m with leg := { m.leg with edges := m.time.cycle :: sealEdges m } } := by
  simp only [meets, meetsBy, meetsFrom, opensAt, opensTo, opens, takesTriggers, takes_iff, inSession_iff] <;> decide +kernel

theorem wit_sealAndStoreCommandsComplete_3 :
    let t : Nat := 0
    let s : State := State.reset
    let m : State := met t s
    let b : State := wr LEGL.SW_FILT 1 { m with leg := { m.leg with edges := m.time.cycle :: sealEdges m, rose := m.time.ticks, noSession := true, leftLogged := false } }
    meets t s m
    ∧ rd m LEGL.SW_FILT = 0
    ∧ (sealEdges m).length < rd m LEGL.SEAL_MAX_EDGES
    ∧ m.leg.chatter = false
    ∧ sealOpen m = false
    ∧ b = wr LEGL.SW_FILT 1 { m with leg := { m.leg with edges := m.time.cycle :: sealEdges m, rose := m.time.ticks, noSession := true, leftLogged := false } } := by
  simp only [meets, meetsBy, meetsFrom, opensAt, opensTo, opens, takesTriggers, takes_iff, inSession_iff] <;> decide +kernel

theorem wit_sealAndStoreCommandsComplete_4 :
    let t : Nat := 0
    let s : State := atTick 50000000 { (State.reset |> wr LEGL.SW_FILT 1 |> wr SYS.LGC_STATE 2) with leg := { noSession := true } }
    let m : State := met t s
    meets t s m
    ∧ rd m LEGL.SW_FILT = 1
    ∧ m.leg.noSession = true
    ∧ m.leg.leftLogged = false
    ∧ m.leg.rose + 400 * rd m LEGL.OPEN_TIMEOUT ≤ m.time.ticks
    ∧ lgcRuns m = true := by
  simp only [meets, meetsBy, meetsFrom, opensAt, opensTo, opens, takesTriggers, takes_iff, inSession_iff] <;> decide +kernel

theorem wit_sealAndStoreCommandsComplete_5 :
    let t : Nat := 0
    let s : State := State.reset |> wr SYS.LGC_STATE 2
    let m : State := met t s
    let b : State := raise 0x60 2 (inc LEGL.TAMPER_COUNT (endSession 3 (wr LEGL.TAMPER_FILT 1 m)))
    meets t s m
    ∧ rd m LEGL.TAMPER_FILT = 0
    ∧ lgcRuns m = true
    ∧ m.leg.tamperAt = none
    ∧ b = raise 0x60 2 (inc LEGL.TAMPER_COUNT (endSession 3 (wr LEGL.TAMPER_FILT 1 m))) := by
  simp only [meets, meetsBy, meetsFrom, opensAt, opensTo, opens, takesTriggers, takes_iff, inSession_iff] <;> decide +kernel

theorem wit_sealAndStoreCommandsComplete_6 :
    let t : Nat := 0
    let s : State := State.reset
    let m : State := met t s
    meets t s m := by
  simp only [meets, meetsBy, meetsFrom, opensAt, opensTo, opens, takesTriggers, takes_iff, inSession_iff] <;> decide +kernel

theorem wit_sealAndStoreCommandsComplete_7 :
    let t : Nat := 0
    let s : State := atTick 50000000 (State.reset |> wr LEGL.SEAL_STATE 2)
    let m : State := met t s
    meets t s m
    ∧ sealOpen m = true
    ∧ m.leg.lastCmd + 400 * rd m LEGL.SESSION_TIMEOUT ≤ m.time.ticks := by
  simp only [meets, meetsBy, meetsFrom, opensAt, opensTo, opens, takesTriggers, takes_iff, inSession_iff] <;> decide +kernel

theorem wit_sealAndStoreCommandsComplete_8 :
    let t : Nat := 0
    let s : State := State.reset
    let m : State := met t s
    let mv : Nat := rd m LEGL.VRES_MIN
    let b : State := { m with leg := { m.leg with vresRun := m.leg.vresRun + 1 } }
    meets t s m
    ∧ rd m LEGL.VRES_MIN ≤ mv
    ∧ mv ≤ rd m LEGL.VRES_MAX
    ∧ b = { m with leg := { m.leg with vresRun := m.leg.vresRun + 1 } } := by
  simp only [meets, meetsBy, meetsFrom, opensAt, opensTo, opens, takesTriggers, takes_iff, inSession_iff] <;> decide +kernel

theorem wit_sealAndStoreCommandsComplete_9 :
    let t : Nat := 0
    let s : State := State.reset
    let m : State := met t s
    let mv : Nat := rd m LEGL.VRES_MIN - 1
    let b : State := { m with leg := { m.leg with vresRun := 0 } }
    meets t s m
    ∧ (mv < rd m LEGL.VRES_MIN ∨ rd m LEGL.VRES_MAX < mv)
    ∧ b = { m with leg := { m.leg with vresRun := 0 } } := by
  simp only [meets, meetsBy, meetsFrom, opensAt, opensTo, opens, takesTriggers, takes_iff, inSession_iff] <;> decide +kernel

theorem wit_sealAndStoreCommandsComplete_10 :
    let t : Nat := 0
    let s : State := { (State.reset |> wr SYS.LGC_STATE 2 |> wr LEGL.VRES_OK 1) with leg := { due := true } }
    let m : State := met t s
    let b : Nat := rd m LEGL.ACTIVE_BANK
    let p : List Nat := totalsPayload (view m)
    let a : State := modBank b (fun k => { k with journal := aset k.journal (nextSlot m) { payload := p } }) m
    let n : Nat := (if billHalted m = true then 0 else m.leg.bookings.length)
    meets t s m
    ∧ onTick m = true
    ∧ lgcRuns m = true
    ∧ m.leg.tot = none
    ∧ m.leg.due = true
    ∧ calRuns m = false
    ∧ rd m LEGL.STORE_LOST = 0
    ∧ rd m LEGL.VRES_OK = 1
    ∧ b = rd m LEGL.ACTIVE_BANK
    ∧ n = (if billHalted m = true then 0 else m.leg.bookings.length)
    ∧ p = totalsPayload (if billHalted m = true then m else view m)
    ∧ (a = modBank b (fun k => { k with journal := aset k.journal (nextSlot m) { payload := p } }) m) := by
  simp only [meets, meetsBy, meetsFrom, opensAt, opensTo, opens, takesTriggers, takes_iff, inSession_iff] <;> decide +kernel

theorem wit_sealAndStoreCommandsComplete_11 :
    let t : Nat := 0
    let x : TotRun := ⟨0, 1, 0, [], 0⟩
    let s : State := { State.reset with leg := { tot := some ⟨0, 1, 0, [], 0⟩ } }
    let m : State := met t s
    meets t s m
    ∧ m.leg.tot = some x := by
  simp only [meets, meetsBy, meetsFrom, opensAt, opensTo, opens, takesTriggers, takes_iff, inSession_iff] <;> decide +kernel

theorem wit_sealAndStoreCommandsComplete_12 :
    let t : Nat := 0
    let c : CalRun := ⟨2, 1, 0, [], some 0, 0, false, ⟨1, 5, 0x85, [], true⟩, 1⟩
    let s : State := { State.reset with leg := { cal := some ⟨2, 1, 0, [], some 0, 0, false, ⟨1, 5, 0x85, [], true⟩, 1⟩ } }
    let m : State := met t s
    meets t s m
    ∧ m.leg.cal = some c
    ∧ c.start.isSome = true
    ∧ c.done = false := by
  simp only [meets, meetsBy, meetsFrom, opensAt, opensTo, opens, takesTriggers, takes_iff, inSession_iff] <;> decide +kernel

theorem wit_sealAndStoreCommandsComplete_13 :
    let t : Nat := 0
    let c : Nat := 0
    let seq : Nat := 1
    let r : LgcReq := ⟨1, 5, 0x85, [], true⟩
    let s : State := { (State.reset |> wr LEGL.SEAL_STATE 2) with leg := { roll := some (0, ⟨1, 5, 0x85, [], true⟩, 1) } }
    let m : State := met t s
    meets t s m
    ∧ m.leg.roll = some (c, r, seq)
    ∧ sealOpen (eraseLog m) = true := by
  simp only [meets, meetsBy, meetsFrom, opensAt, opensTo, opens, takesTriggers, takes_iff, inSession_iff] <;> decide +kernel

theorem wit_sealAndStoreCommandsComplete_14 :
    let t : Nat := 0
    let pos : Nat := 0
    let p : Port := .pcie
    let s : State := { State.reset with leg := { log := [{}] } }
    let m : State := metBy (.writer (.fabric p)) t s
    let a : State := (accepted p 0x61 none m |> wr ALOG.READ_POS pos |> wr ALOG.READ_READY 1)
    meetsFrom p t s m
    ∧ opens m p 0x61
    ∧ pos < 4096
    ∧ pos < m.leg.log.length
    ∧ a = (accepted p 0x61 none m |> wr ALOG.READ_POS pos |> wr ALOG.READ_READY 1) := by
  simp only [meets, meetsBy, meetsFrom, opensAt, opensTo, opens, takesTriggers, takes_iff, inSession_iff] <;> decide +kernel

theorem wit_logIsAppended_1_stored :
    let e : LogEntry := {}
    let s : State := State.reset
    s.leg.log.length < 4096 := by
  simp only [meets, meetsBy, meetsFrom, opensAt, opensTo, opens, takesTriggers, takes_iff, inSession_iff] <;> decide +kernel

theorem wit_logIsAppended_1_full :
    let e : LogEntry := {}
    let s : State := { State.reset with leg := { log := List.replicate 4096 {} } }
    4096 ≤ s.leg.log.length := by
  simp only [meets, meetsBy, meetsFrom, opensAt, opensTo, opens, takesTriggers, takes_iff, inSession_iff] <;> decide +kernel

theorem wit_onlyTheSealOpensASession_1 :
    let r : LgcReq := ⟨1, 5, 0x85, [], true⟩
    let s : State := State.reset
    sealOpen s = false := by
  simp only [meets, meetsBy, meetsFrom, opensAt, opensTo, opens, takesTriggers, takes_iff, inSession_iff] <;> decide +kernel

theorem wit_onlyTheSealOpensASession_2_third :
    let d : List Nat := []
    let s : State := { (State.reset |> wr LEGL.SEAL_STATE 2) with leg := { badTags := 2 } }
    sealOpen s = true
    ∧ d.drop (d.length - 16) ≠ sessionTag s (d.take (d.length - 16))
    ∧ 2 ≤ s.leg.badTags := by
  simp only [meets, meetsBy, meetsFrom, opensAt, opensTo, opens, takesTriggers, takes_iff, inSession_iff] <;> decide +kernel

theorem wit_onlyTheSealOpensASession_3 :
    let reason : Nat := 3
    let s : State := State.reset |> wr LEGL.SEAL_STATE 2
    sealOpen s = true := by
  simp only [meets, meetsBy, meetsFrom, opensAt, opensTo, opens, takesTriggers, takes_iff, inSession_iff] <;> decide +kernel

theorem wit_onlyTheSealOpensASession_4 :
    let d : List Nat := sessionResp State.reset sealNonce
    let s : State := nonceWaits
    sealOpen s = false
    ∧ sealOpen (sessionResponse d s).2.2 = true := by
  exact ⟨by decide +kernel, nonceWaits_opens⟩

theorem wit_billingCommandsComplete_1_topup :
    let t : Nat := 0
    let op : Nat := 1
    let c : Instr := .topup t
    let r : LgcReq := ⟨1, 5, 0x88, voucher 1, true⟩
    let x : List Nat := fit 36 r.data
    let s : State := asked ⟨1, 5, 0x88, voucher 1, true⟩ |> wr (PREP.A_OPEN 0) 1
    let m : State := met t s
    let b : State := taken m
    meets t s m
    ∧ r.code = 0x88
    ∧ r.data.getD 4 0 = op
    ∧ takes r m b
    ∧ (op = 1 ∧ c = .topup t ∨ op = 2 ∧ c = .expire t ∨ op = 3 ∧ c = .accountClose t ∨ op = 4 ∧ c = .accountOpen t)
    ∧ x = fit 36 r.data
    ∧ creditRange b x = false
    ∧ slice x 20 8 = voucherTag b x
    ∧ creditState b x = false := by
  simp only [meets, meetsBy, meetsFrom, opensAt, opensTo, opens, takesTriggers, takes_iff, inSession_iff]
  and_intros
  all_goals first
    | exact tagged_ok _ _ rfl
    | decide +kernel
    | rfl

theorem wit_billingCommandsComplete_1_expire :
    let t : Nat := 0
    let op : Nat := 2
    let c : Instr := .expire t
    let r : LgcReq := ⟨1, 5, 0x88, voucher 2, true⟩
    let x : List Nat := fit 36 r.data
    let s : State := asked ⟨1, 5, 0x88, voucher 2, true⟩ |> wr (PREP.A_OPEN 0) 1 |> wr (PREP.BALANCE 0) 100
    let m : State := met t s
    let b : State := taken m
    meets t s m
    ∧ r.code = 0x88
    ∧ r.data.getD 4 0 = op
    ∧ takes r m b
    ∧ (op = 1 ∧ c = .topup t ∨ op = 2 ∧ c = .expire t ∨ op = 3 ∧ c = .accountClose t ∨ op = 4 ∧ c = .accountOpen t)
    ∧ x = fit 36 r.data
    ∧ creditRange b x = false
    ∧ slice x 20 8 = voucherTag b x
    ∧ creditState b x = false := by
  simp only [meets, meetsBy, meetsFrom, opensAt, opensTo, opens, takesTriggers, takes_iff, inSession_iff]
  and_intros
  all_goals first
    | exact tagged_ok _ _ rfl
    | decide +kernel
    | rfl

theorem wit_billingCommandsComplete_1_close :
    let t : Nat := 0
    let op : Nat := 3
    let c : Instr := .accountClose t
    let r : LgcReq := ⟨1, 5, 0x88, voucher 3, true⟩
    let x : List Nat := fit 36 r.data
    let s : State := asked ⟨1, 5, 0x88, voucher 3, true⟩ |> wr (PREP.A_OPEN 0) 1
    let m : State := met t s
    let b : State := taken m
    meets t s m
    ∧ r.code = 0x88
    ∧ r.data.getD 4 0 = op
    ∧ takes r m b
    ∧ (op = 1 ∧ c = .topup t ∨ op = 2 ∧ c = .expire t ∨ op = 3 ∧ c = .accountClose t ∨ op = 4 ∧ c = .accountOpen t)
    ∧ x = fit 36 r.data
    ∧ creditRange b x = false
    ∧ slice x 20 8 = voucherTag b x
    ∧ creditState b x = false := by
  simp only [meets, meetsBy, meetsFrom, opensAt, opensTo, opens, takesTriggers, takes_iff, inSession_iff]
  and_intros
  all_goals first
    | exact tagged_ok _ _ rfl
    | decide +kernel
    | rfl

theorem wit_billingCommandsComplete_1_open :
    let t : Nat := 0
    let op : Nat := 4
    let c : Instr := .accountOpen t
    let r : LgcReq := ⟨1, 5, 0x88, voucher 4, true⟩
    let x : List Nat := fit 36 r.data
    let s : State := asked ⟨1, 5, 0x88, voucher 4, true⟩
    let m : State := met t s
    let b : State := taken m
    meets t s m
    ∧ r.code = 0x88
    ∧ r.data.getD 4 0 = op
    ∧ takes r m b
    ∧ (op = 1 ∧ c = .topup t ∨ op = 2 ∧ c = .expire t ∨ op = 3 ∧ c = .accountClose t ∨ op = 4 ∧ c = .accountOpen t)
    ∧ x = fit 36 r.data
    ∧ creditRange b x = false
    ∧ slice x 20 8 = voucherTag b x
    ∧ creditState b x = false := by
  simp only [meets, meetsBy, meetsFrom, opensAt, opensTo, opens, takesTriggers, takes_iff, inSession_iff]
  and_intros
  all_goals first
    | exact tagged_ok _ _ rfl
    | decide +kernel
    | rfl

theorem wit_billingCommandsComplete_2 :
    let t : Nat := 0
    let r : LgcReq := ⟨1, 5, 0x89, prices, true⟩
    let x : List Nat := fit 36 r.data
    let s : State := asked ⟨1, 5, 0x89, prices, true⟩
    let m : State := met t s
    let b : State := taken m
    let a : State := (b |> wr (BILL.ST_PRICE_MASS (x.getD 5 0)) (be (slice x 8 4)) |> wr (BILL.ST_PRICE_VOL (x.getD 5 0)) (be (slice x 12 4)) |> wr (BILL.ST_PRICE_SVC (x.getD 5 0)) (be (slice x 16 4)) |> wr BILL.STAGED_ACT (be (slice x 20 6)) |> wr BILL.STAGED_PEND 1 |> raise 0x68 4)
    meets t s m
    ∧ r.code = 0x89
    ∧ r.win = 1
    ∧ takes r m b
    ∧ x = fit 36 r.data
    ∧ x.getD 4 0 = 1
    ∧ x.getD 5 0 ≤ 7
    ∧ x.getD 6 0 = 0
    ∧ x.getD 7 0 = 0
    ∧ (slice x 26 10).all (· == 0) = true
    ∧ scFrame b + 25 ≤ be (slice x 20 6)
    ∧ a = (b |> wr (BILL.ST_PRICE_MASS (x.getD 5 0)) (be (slice x 8 4)) |> wr (BILL.ST_PRICE_VOL (x.getD 5 0)) (be (slice x 12 4)) |> wr (BILL.ST_PRICE_SVC (x.getD 5 0)) (be (slice x 16 4)) |> wr BILL.STAGED_ACT (be (slice x 20 6)) |> wr BILL.STAGED_PEND 1 |> raise 0x68 4) := by
  simp only [meets, meetsBy, meetsFrom, opensAt, opensTo, opens, takesTriggers, takes_iff, inSession_iff] <;> decide +kernel

theorem wit_billingCommandsComplete_3 :
    let t : Nat := 0
    let r : LgcReq := ⟨1, 5, 0x8A, [7], true⟩
    let a : Nat := r.data.getD 0 0
    let s : State := asked ⟨1, 5, 0x8A, [7], true⟩ |> wr (PREP.A_OPEN 7) 1 |> wr (PREP.E_AMT 7) 500
    let m : State := met t s
    let b : State := taken m
    let v : State := view b
    meets t s m
    ∧ r.code = 0x8A
    ∧ takes r m b
    ∧ v = view b
    ∧ a = r.data.getD 0 0
    ∧ a ≤ 7
    ∧ rd v (PREP.A_OPEN a) ≠ 0
    ∧ rd v (PREP.EMERG_OUT a) = 0
    ∧ 0 < rd v (PREP.E_AMT a)
    ∧ balanceOf v a < rd v (PREP.E_AMT a)
    ∧ bookingBlocked b = false := by
  simp only [meets, meetsBy, meetsFrom, opensAt, opensTo, opens, takesTriggers, takes_iff, inSession_iff] <;> decide +kernel

theorem wit_billingCommandsComplete_4 :
    let t : Nat := 0
    let r : LgcReq := ⟨1, 5, 0x86, opening, true⟩
    let s : State := asked ⟨1, 5, 0x86, opening, true⟩ |> wr (PREP.A_OPEN 0) 1 |> wr (PREP.A_ARMED 0) 1 |> wr (PREP.BALANCE 0) 100
    let m : State := met t s
    let b : State := taken m
    let a : State := openDelivery r.data b
    meets t s m
    ∧ r.code = 0x86
    ∧ takes r m b
    ∧ (bit (r.data.getD 2 0) 1 = true → Variant.usxPaths b.fuse.variant ≠ 0)
    ∧ openRange r.data = false
    ∧ openState b r.data = false
    ∧ b.leg.log.length < 4096
    ∧ a = openDelivery r.data b := by
  simp only [meets, meetsBy, meetsFrom, opensAt, opensTo, opens, takesTriggers, takes_iff, inSession_iff] <;> decide +kernel

theorem wit_billingCommandsComplete_5 :
    let t : Nat := 0
    let r : LgcReq := ⟨1, 5, 0x87, [3, 0, 0, 0], true⟩
    let s : State := asked ⟨1, 5, 0x87, [3, 0, 0, 0], true⟩ |> wr BILL.DEL_OPEN 1 |> wr BILL.DEL_NO 3
    let m : State := met t s
    let b : State := taken m
    meets t s m
    ∧ r.code = 0x87
    ∧ takes r m b
    ∧ rd b BILL.DEL_OPEN ≠ 0
    ∧ le (slice r.data 0 4) = rd b BILL.DEL_NO := by
  simp only [meets, meetsBy, meetsFrom, opensAt, opensTo, opens, takesTriggers, takes_iff, inSession_iff] <;> decide +kernel

theorem wit_billingCommandsComplete_6_prices :
    let t : Nat := 0
    let u : Nat := 0x68
    let act : Nat := 1
    let occ : Nat := 0
    let arg : Nat := 0
    let src : TrigSrc := .cmd
    let c : Instr := .activatePrices t src occ arg
    let s : State := State.reset |> wr SYS.LGC_STATE 2
    let m : State := met t s
    let a : State := arrived src u m
    meets t s m
    ∧ a = arrived src u m
    ∧ takesTriggers a u
    ∧ (u = 0x68 ∧ act = 1 ∧ c = .activatePrices t src occ arg ∨ u = 0x69 ∧ act = 1 ∧ c = .tarfEvaluate t src occ arg ∨ u = 0x6A ∧ act = 1 ∧ c = .prepEvaluate t src occ arg ∨ u = 0x6A ∧ act = 2 ∧ c = .arm t src occ arg)
    ∧ actionKnown u act arg = true
    ∧ lgcRuns a = true
    ∧ a.bill.queue.length < 8 := by
  simp only [meets, meetsBy, meetsFrom, opensAt, opensTo, opens, takesTriggers, takes_iff, inSession_iff, true_and, true_or, and_true, or_true] <;> decide +kernel

theorem wit_billingCommandsComplete_6_evaluate :
    let t : Nat := 0
    let u : Nat := 0x69
    let act : Nat := 1
    let occ : Nat := 0
    let arg : Nat := 0
    let src : TrigSrc := .cmd
    let c : Instr := .tarfEvaluate t src occ arg
    let s : State := State.reset |> wr SYS.LGC_STATE 2
    let m : State := met t s
    let a : State := arrived src u m
    meets t s m
    ∧ a = arrived src u m
    ∧ takesTriggers a u
    ∧ (u = 0x68 ∧ act = 1 ∧ c = .activatePrices t src occ arg ∨ u = 0x69 ∧ act = 1 ∧ c = .tarfEvaluate t src occ arg ∨ u = 0x6A ∧ act = 1 ∧ c = .prepEvaluate t src occ arg ∨ u = 0x6A ∧ act = 2 ∧ c = .arm t src occ arg)
    ∧ actionKnown u act arg = true
    ∧ lgcRuns a = true
    ∧ a.bill.queue.length < 8 := by
  simp only [meets, meetsBy, meetsFrom, opensAt, opensTo, opens, takesTriggers, takes_iff, inSession_iff, true_and, true_or, and_true, or_true] <;> decide +kernel

theorem wit_billingCommandsComplete_6_arm :
    let t : Nat := 0
    let u : Nat := 0x6A
    let act : Nat := 2
    let occ : Nat := 0
    let arg : Nat := 0
    let src : TrigSrc := .cmd
    let c : Instr := .arm t src occ arg
    let s : State := State.reset |> wr SYS.LGC_STATE 2
    let m : State := met t s
    let a : State := arrived src u m
    meets t s m
    ∧ a = arrived src u m
    ∧ takesTriggers a u
    ∧ (u = 0x68 ∧ act = 1 ∧ c = .activatePrices t src occ arg ∨ u = 0x69 ∧ act = 1 ∧ c = .tarfEvaluate t src occ arg ∨ u = 0x6A ∧ act = 1 ∧ c = .prepEvaluate t src occ arg ∨ u = 0x6A ∧ act = 2 ∧ c = .arm t src occ arg)
    ∧ actionKnown u act arg = true
    ∧ lgcRuns a = true
    ∧ a.bill.queue.length < 8 := by
  simp only [meets, meetsBy, meetsFrom, opensAt, opensTo, opens, takesTriggers, takes_iff, inSession_iff, true_and, true_or, and_true, or_true] <;> decide +kernel

theorem wit_billingCommandsComplete_7 :
    let t : Nat := 0
    let s : State := atTick 50000000 (State.reset |> wr SYS.LGC_STATE 2 |> wr BILL.DEL_OPEN 1 |> wr BILL.DEL_STOPPING 1)
    let m : State := met t s
    let x : Int × Bool × Nat := (deliveryDue m).getD (0, false, 0)
    meets t s m
    ∧ onTick m = true
    ∧ lgcRuns m = true
    ∧ deliveryDue m = some x := by
  simp only [meets, meetsBy, meetsFrom, opensAt, opensTo, opens, takesTriggers, takes_iff, inSession_iff] <;> decide +kernel

theorem wit_billingCommandsComplete_8 :
    let t : Nat := 0
    let d : DelBook := signed1
    let l : List DelBook := []
    let s : State := { (State.reset |> wr SYS.LGC_STATE 2) with bill := { toSign := [signed1] }, deck := { signed := true } }
    let m : State := met t s
    let rec_ : List Nat := d.record ++ recordTag m d.record
    let b : State := { m with bill := { m.bill with toSign := l, records := (rec_ :: m.bill.records).take 32 }, deck := { m.deck with signing := !l.isEmpty, signed := false } }
    meets t s m
    ∧ onTick m = true
    ∧ lgcRuns m = true
    ∧ m.bill.toSign = d :: l
    ∧ m.deck.signed = true
    ∧ billHalted m = false
    ∧ m.leg.bookings.length < 8
    ∧ rec_ = d.record ++ recordTag m d.record
    ∧ b = { m with bill := { m.bill with toSign := l, records := (rec_ :: m.bill.records).take 32 }, deck := { m.deck with signing := !l.isEmpty, signed := false } } := by
  simp only [meets, meetsBy, meetsFrom, opensAt, opensTo, opens, takesTriggers, takes_iff, inSession_iff] <;> decide +kernel

theorem wit_billingCommandsComplete_9 :
    let t : Nat := 0
    let no : Nat := 4
    let sc : Nat := 0
    let u : Unattr := { no := some (4, 0) }
    let s : State := atTick 50000000 { (State.reset |> wr SYS.LGC_STATE 2) with bill := { unattr := some { no := some (4, 0) } } }
    let m : State := met t s
    meets t s m
    ∧ onTick m = true
    ∧ lgcRuns m = true
    ∧ m.bill.unattr = some u
    ∧ u.no = some (no, sc)
    ∧ u.lastTick + rd m BILL.UNATTR_IDLE ≤ m.time.ticks := by
  simp only [meets, meetsBy, meetsFrom, opensAt, opensTo, opens, takesTriggers, takes_iff, inSession_iff] <;> decide +kernel

theorem wit_moneyIsConserved_1_load :
    let op : Nat := 1
    let a : Nat := 7
    let voucher : Nat := 0
    let amount : Nat := 2 ^ 62
    let auto : Bool := false
    let s : State := State.reset
    a < 8
    ∧ (op = 1 ∨ op = 2)
    ∧ amount < 2 ^ 63
    ∧ (-2 ^ 63 ≤ balanceOf s a - amount)
    ∧ balanceOf s a + amount < 2 ^ 63
    ∧ (-2 ^ 63 ≤ emergOf s a)
    ∧ emergOf s a ≤ 0
    ∧ rd s (PREP.LOADED a) + amount < 2 ^ 63
    ∧ rd s (PREP.EXPIRED a) + amount < 2 ^ 63
    ∧ (rd s (PREP.LOADED a) : Int) - rd s (PREP.CONSUMED a) - rd s (PREP.EXPIRED a) = balanceOf s a + emergOf s a := by
  simp only [meets, meetsBy, meetsFrom, opensAt, opensTo, opens, takesTriggers, takes_iff, inSession_iff] <;> decide +kernel

theorem wit_moneyIsConserved_1_expire :
    let op : Nat := 2
    let a : Nat := 0
    let voucher : Nat := 0
    let amount : Nat := 5
    let auto : Bool := false
    let s : State := State.reset |> wr (PREP.LOADED 0) 5 |> wr (PREP.BALANCE 0) 5
    a < 8
    ∧ (op = 1 ∨ op = 2)
    ∧ amount < 2 ^ 63
    ∧ (-2 ^ 63 ≤ balanceOf s a - amount)
    ∧ balanceOf s a + amount < 2 ^ 63
    ∧ (-2 ^ 63 ≤ emergOf s a)
    ∧ emergOf s a ≤ 0
    ∧ rd s (PREP.LOADED a) + amount < 2 ^ 63
    ∧ rd s (PREP.EXPIRED a) + amount < 2 ^ 63
    ∧ (rd s (PREP.LOADED a) : Int) - rd s (PREP.CONSUMED a) - rd s (PREP.EXPIRED a) = balanceOf s a + emergOf s a := by
  simp only [meets, meetsBy, meetsFrom, opensAt, opensTo, opens, takesTriggers, takes_iff, inSession_iff] <;> decide +kernel

theorem wit_moneyIsConserved_2 :
    let a : Nat := 7
    let s : State := State.reset |> wr (PREP.E_AMT 7) 500
    a < 8
    ∧ rd s (PREP.E_AMT a) < 2 ^ 62
    ∧ (-2 ^ 62 ≤ balanceOf s a)
    ∧ balanceOf s a < 2 ^ 62
    ∧ (-2 ^ 62 ≤ emergOf s a)
    ∧ emergOf s a < 2 ^ 62 := by
  simp only [meets, meetsBy, meetsFrom, opensAt, opensTo, opens, takesTriggers, takes_iff, inSession_iff] <;> decide +kernel

theorem wit_moneyIsConserved_3 :
    let q : Nat := 17
    let price : Nat := 3
    let n : Nat := 1
    let priceSvc : Nat := 0
    let residue : Nat := 999999
    residue < 1000000 := by
  simp only [meets, meetsBy, meetsFrom, opensAt, opensTo, opens, takesTriggers, takes_iff, inSession_iff] <;> decide +kernel

theorem wit_bookingsWaitForTheirCommit_2 :
    let x : TotRun := ⟨0, 1, 0, [], 2⟩
    let s : State := { (State.reset |> wr LEDG.BREAK (2 ^ 6)) with leg := { tot := some ⟨0, 1, 0, [], 2⟩, due := true, bookings := [.emergency 1, .emergency 2] } }
    s.leg.tot = some x
    ∧ billHalted s = true
    ∧ 0 < x.covers := by
  simp only [meets, meetsBy, meetsFrom, opensAt, opensTo, opens, takesTriggers, takes_iff, inSession_iff] <;> decide +kernel

theorem wit_bookingsWaitForTheirCommit_3 :
    let x : TotRun := ⟨0, 1, 0, [], 1⟩
    let s : State := { State.reset with leg := { tot := some ⟨0, 1, 0, [], 1⟩, bookings := [.emergency 0] } }
    s.leg.tot = some x
    ∧ (billHalted s = false ∨ x.covers = 0) := by
  simp only [meets, meetsBy, meetsFrom, opensAt, opensTo, opens, takesTriggers, takes_iff, inSession_iff] <;> decide +kernel

theorem wit_switchCommandsComplete_1 :
    let t : Nat := 0
    let src : TrigSrc := .cmd
    let s : State := on 0x70 (State.reset |> wr SWCH.VIN_OK 1)
    let m : State := met t s
    let c : State := arrived src 0x70 m
    meets t s m
    ∧ c = arrived src 0x70 m
    ∧ takesTriggers c 0x70
    ∧ swFound c = 0
    ∧ rd c PWR.STATE ≠ 3
    ∧ rd c SWCH.VIN_OK = 1
    ∧ enabled c 0x70 = true := by
  simp only [meets, meetsBy, meetsFrom, opensAt, opensTo, opens, takesTriggers, takes_iff, inSession_iff] <;> decide +kernel

theorem wit_switchCommandsComplete_2 :
    let t : Nat := 0
    let src : TrigSrc := .cmd
    let s : State := State.reset |> wr SWCH.STATE 4
    let m : State := met t s
    let c : State := arrived src 0x70 m
    meets t s m
    ∧ c = arrived src 0x70 m
    ∧ takesTriggers c 0x70
    ∧ (swFound c = 1 ∨ swFound c = 2 ∨ swFound c = 4) := by
  simp only [meets, meetsBy, meetsFrom, opensAt, opensTo, opens, takesTriggers, takes_iff, inSession_iff] <;> decide +kernel

theorem wit_switchCommandsComplete_3 :
    let t : Nat := 0
    let src : TrigSrc := .cmd
    let s : State := State.reset |> wr SWCH.STATE 5
    let m : State := met t s
    let c : State := arrived src 0x70 m
    meets t s m
    ∧ c = arrived src 0x70 m
    ∧ takesTriggers c 0x70
    ∧ (swFound c = 3 ∨ swFound c = 5 ∨ swFound c = 0 ∧ c.sw.causes = []) := by
  simp only [meets, meetsBy, meetsFrom, opensAt, opensTo, opens, takesTriggers, takes_iff, inSession_iff] <;> decide +kernel

theorem wit_switchCommandsComplete_4 :
    let t : Nat := 0
    let arg : Nat := 1
    let src : TrigSrc := .cmd
    let s : State := State.reset
    let m : State := met t s
    let c : State := arrived src 0x70 m
    meets t s m
    ∧ c = arrived src 0x70 m
    ∧ takesTriggers c 0x70
    ∧ 1 ≤ arg
    ∧ arg ≤ 65535
    ∧ totalLimitFits c (100 * arg) = true := by
  simp only [meets, meetsBy, meetsFrom, opensAt, opensTo, opens, takesTriggers, takes_iff, inSession_iff] <;> decide +kernel

theorem wit_switchCommandsComplete_5 :
    let t : Nat := 0
    let vin : Nat := 0
    let vout : Nat := 0
    let v : List Int := []
    let cm : List Nat := []
    let s : State := State.reset
    let m : State := met t s
    meets t s m := by
  simp only [meets, meetsBy, meetsFrom, opensAt, opensTo, opens, takesTriggers, takes_iff, inSession_iff] <;> decide +kernel

theorem wit_switchCommandsComplete_6 :
    let t : Nat := 0
    let p : Nat := 0
    let s : State := State.reset |> wr SWCH.STATE 2 |> wr (SWCH.PH_EN 0) 1
    let m : State := met t s
    meets t s m
    ∧ 1 ≤ swFound m
    ∧ swFound m ≤ 3
    ∧ p ∈ swEnabled m := by
  simp only [meets, meetsBy, meetsFrom, opensAt, opensTo, opens, takesTriggers, takes_iff, inSession_iff] <;> decide +kernel

theorem wit_switchCommandsComplete_7 :
    let t : Nat := 0
    let s : State := now 500000000 (State.reset |> wr SWCH.STATE 1)
    let m : State := met t s
    meets t s m
    ∧ rd m SWCH.STATE = 1
    ∧ m.sw.rampStart + rd m SWCH.RAMP_MAX * frameSteps ≤ m.time.cycle := by
  simp only [meets, meetsBy, meetsFrom, opensAt, opensTo, opens, takesTriggers, takes_iff, inSession_iff] <;> decide +kernel

theorem wit_switchCommandsComplete_8 :
    let t : Nat := 0
    let s : State := State.reset |> wr SWCH.STATE 3
    let m : State := met t s
    meets t s m
    ∧ rd m SWCH.STATE = 3 := by
  simp only [meets, meetsBy, meetsFrom, opensAt, opensTo, opens, takesTriggers, takes_iff, inSession_iff] <;> decide +kernel

theorem wit_switchCommandsComplete_9 :
    let t : Nat := 0
    let s : State := State.reset |> wr SWCH.STATE 4
    let m : State := met t s
    meets t s m
    ∧ rd m SWCH.STATE = 4
    ∧ m.sw.waitUntil ≤ m.time.cycle
    ∧ (m.sw.causes = [] ∨ m.sw.causeAt ≠ m.time.cycle)
    ∧ m.tap = false := by
  simp only [meets, meetsBy, meetsFrom, opensAt, opensTo, opens, takesTriggers, takes_iff, inSession_iff] <;> decide +kernel

theorem wit_switchCommandsComplete_10 :
    let t : Nat := 0
    let s : State := { (State.reset |> wr SWCH.STATE 2) with sw := { onRun := 10000000 } }
    let m : State := met t s
    meets t s m
    ∧ rd m SWCH.STATE = 2
    ∧ rd m SWCH.RESET_TICKS ≤ m.sw.onRun := by
  simp only [meets, meetsBy, meetsFrom, opensAt, opensTo, opens, takesTriggers, takes_iff, inSession_iff] <;> decide +kernel

theorem wit_switchCommandsComplete_11 :
    let t : Nat := 0
    let s : State := State.reset
    let m : State := met t s
    meets t s m
    ∧ m.sw.pinLow = false
    ∧ (warnEdges m).length < rd m SWCH.WARN_MAX_EDGES := by
  simp only [meets, meetsBy, meetsFrom, opensAt, opensTo, opens, takesTriggers, takes_iff, inSession_iff] <;> decide +kernel

theorem wit_switchCommandsComplete_12 :
    let t : Nat := 0
    let s : State := { State.reset with sw := { pinLow := true } }
    let m : State := met t s
    meets t s m
    ∧ m.sw.pinLow = true := by
  simp only [meets, meetsBy, meetsFrom, opensAt, opensTo, opens, takesTriggers, takes_iff, inSession_iff] <;> decide +kernel

theorem wit_switchCommandsComplete_13 :
    let t : Nat := 0
    let s : State := atTick 500000 { State.reset with sw := { pinLow := true } }
    let m : State := met t s
    meets t s m
    ∧ m.sw.pinLow = true
    ∧ m.sw.stuck = false
    ∧ rd m SWCH.WARN_INT = 0
    ∧ m.sw.lowTick + rd m SWCH.WARN_TIMEOUT ≤ m.time.ticks := by
  simp only [meets, meetsBy, meetsFrom, opensAt, opensTo, opens, takesTriggers, takes_iff, inSession_iff] <;> decide +kernel

theorem wit_switchCommandsComplete_14 :
    let t : Nat := 0
    let s : State := State.reset
    let m : State := met t s
    meets t s m := by
  simp only [meets, meetsBy, meetsFrom, opensAt, opensTo, opens, takesTriggers, takes_iff, inSession_iff] <;> decide +kernel

theorem wit_switchCommandsComplete_15 :
    let t : Nat := 0
    let p : Port := .pcie
    let s : State := State.reset |> wr SWCH.STATE 5
    let m : State := metBy (.writer (.fabric p)) t s
    let a : State := accepted p 0x70 (some SWCH.CMD_CODE) m
    meetsFrom p t s m
    ∧ opens m p 0x70
    ∧ cmdBusy m swCmdAddr = false
    ∧ rd m SWCH.STATE = 5
    ∧ a = accepted p 0x70 (some SWCH.CMD_CODE) m := by
  simp only [meets, meetsBy, meetsFrom, opensAt, opensTo, opens, takesTriggers, takes_iff, inSession_iff] <;> decide +kernel

theorem wit_switchCommandsComplete_16 :
    let t : Nat := 0
    let q : Nat := 3
    let p : Port := .pcie
    let s : State := State.reset |> wr (SWCH.PH_OPEN 3) 1
    let m : State := metBy (.writer (.fabric p)) t s
    let a : State := accepted p 0x70 (some SWCH.CMD_CODE) m
    meetsFrom p t s m
    ∧ opens m p 0x70
    ∧ cmdBusy m swCmdAddr = false
    ∧ q < Variant.phases m.fuse.variant
    ∧ (rd m SWCH.STATE = 0 ∨ rd m SWCH.STATE = 5)
    ∧ phaseBad m q = true
    ∧ a = accepted p 0x70 (some SWCH.CMD_CODE) m := by
  simp only [meets, meetsBy, meetsFrom, opensAt, opensTo, opens, takesTriggers, takes_iff, inSession_iff] <;> decide +kernel

theorem wit_switchCommandsComplete_17 :
    let t : Nat := 0
    let why : Nat := 0
    let s : State := State.reset
    let m : State := met t s
    meets t s m
    ∧ rd m SYS.LGC_STATE ≠ 3 := by
  simp only [meets, meetsBy, meetsFrom, opensAt, opensTo, opens, takesTriggers, takes_iff, inSession_iff] <;> decide +kernel

theorem wit_switchCommandsComplete_18 :
    let t : Nat := 0
    let s : State := State.reset
    let m : State := met t s
    meets t s m
    ∧ rd m SYS.LGC_STATE = 1
    ∧ m.leg.selfDone = false := by
  simp only [meets, meetsBy, meetsFrom, opensAt, opensTo, opens, takesTriggers, takes_iff, inSession_iff] <;> decide +kernel

theorem wit_tripsAreRetriedOrLatched_1 :
    let st : Nat := 1
    let s : State := State.reset |> wr SWCH.RETRIES 3
    s.tap = false
    ∧ (st = 1 ∨ st = 2)
    ∧ rd s SWCH.RETRY_K < rd s SWCH.RETRIES := by
  simp only [meets, meetsBy, meetsFrom, opensAt, opensTo, opens, takesTriggers, takes_iff, inSession_iff] <;> decide +kernel

theorem wit_tripsAreRetriedOrLatched_2 :
    let st : Nat := 2
    let s : State := State.reset |> wr SWCH.RETRIES 3 |> wr SWCH.RETRY_K 3
    s.tap = false
    ∧ (st = 1 ∨ st = 2)
    ∧ rd s SWCH.RETRIES ≤ rd s SWCH.RETRY_K := by
  simp only [meets, meetsBy, meetsFrom, opensAt, opensTo, opens, takesTriggers, takes_iff, inSession_iff] <;> decide +kernel

theorem wit_tripsAreRetriedOrLatched_3 :
    let l : List SwCause := [.vin, .trip]
    let st : Nat := 1
    let s : State := State.reset
    s.tap = false
    ∧ (st = 1 ∨ st = 2)
    ∧ SwCause.vin ∈ l := by
  simp only [meets, meetsBy, meetsFrom, opensAt, opensTo, opens, takesTriggers, takes_iff, inSession_iff] <;> decide +kernel

theorem wit_tripsAreRetriedOrLatched_4 :
    let l : List SwCause := default
    let st : Nat := 5
    let s : State := State.reset |> wr SWCH.STATE 5
    s.tap = false
    ∧ st = 5
    ∧ rd s SWCH.STATE = 5 := by
  simp only [meets, meetsBy, meetsFrom, opensAt, opensTo, opens, takesTriggers, takes_iff, inSession_iff] <;> decide +kernel

theorem wit_powerCommandsComplete_1 :
    let t : Nat := 0
    let target : Nat := 1
    let s : State := State.reset
    let m : State := metBy (.writer (.fabric .stc)) t s
    let a : State := accepted .stc 0x78 (some PWR.CMD_CODE) m
    meetsFrom .stc t s m
    ∧ opens m .stc 0x78
    ∧ firstFail (requestChecks m target) = none
    ∧ entering m = false
    ∧ a = accepted .stc 0x78 (some PWR.CMD_CODE) m := by
  simp only [meets, meetsBy, meetsFrom, opensAt, opensTo, opens, takesTriggers, takes_iff, inSession_iff] <;> decide +kernel

theorem wit_powerCommandsComplete_2 :
    let t : Nat := 0
    let arg : Nat := 1
    let src : TrigSrc := .cmd
    let s : State := State.reset
    let m : State := met t s
    let c : State := arrived src 0x78 m
    meets t s m
    ∧ c = arrived src 0x78 m
    ∧ takesTriggers c 0x78
    ∧ firstFail (requestChecks c arg) = none := by
  simp only [meets, meetsBy, meetsFrom, opensAt, opensTo, opens, takesTriggers, takes_iff, inSession_iff] <;> decide +kernel

theorem wit_powerCommandsComplete_3 :
    let t : Nat := 0
    let s : State := { (State.reset |> wr PWR.TRANSIT 1 |> wr PWR.STEP 7) with pwr := { target := some 4 } }
    let m : State := met t s
    meets t s m
    ∧ entering m = true
    ∧ rd m PWR.STEP = 7
    ∧ quiesceHeld m = []
    ∧ m.pwr.wakeSeen = false
    ∧ m.pwr.target = some 4 := by
  simp only [meets, meetsBy, meetsFrom, opensAt, opensTo, opens, takesTriggers, takes_iff, inSession_iff] <;> decide +kernel

theorem wit_powerCommandsComplete_4 :
    let t : Nat := 0
    let st : Nat := 3
    let s : State := { (State.reset |> wr PWR.TRANSIT 1 |> wr PWR.STEP 2) with pwr := { target := some 3 } }
    let m : State := met t s
    meets t s m
    ∧ entering m = true
    ∧ rd m PWR.STEP = 2
    ∧ quiesceHeld m = []
    ∧ m.pwr.wakeSeen = false
    ∧ m.pwr.target = some st
    ∧ (st = 2 ∨ st = 3) := by
  simp only [meets, meetsBy, meetsFrom, opensAt, opensTo, opens, takesTriggers, takes_iff, inSession_iff] <;> decide +kernel

theorem wit_powerCommandsComplete_5 :
    let t : Nat := 0
    let v : Nat := 2 ^ 31
    let mode : Nat := 0
    let p : Port := .pcie
    let s : State := State.reset
    let m : State := metBy (.writer (.fabric p)) t s
    let a : State := setRows (fun _ => true) 0x79 0x040 v (accepted p 0x79 none m)
    meetsFrom p t s m
    ∧ opens m p 0x79
    ∧ firstFail (vregChecks m v) = none
    ∧ (a = setRows (fun _ => true) 0x79 0x040 v (accepted p 0x79 none m)) := by
  simp only [meets, meetsBy, meetsFrom, opensAt, opensTo, opens, takesTriggers, takes_iff, inSession_iff] <;> decide +kernel

theorem wit_powerCommandsComplete_6 :
    let t : Nat := 0
    let mv : Nat := 0
    let s : State := now 50000000 (State.reset |> wr VREG.V_IN_FLIGHT 1 |> wr VREG.ACK_MODE 0)
    let m : State := met t s
    let a : State := (if rd m VREG.ACK_MODE = 0 then m else wr VREG.READ_MV mv m)
    meets t s m
    ∧ rd m VREG.V_IN_FLIGHT = 1
    ∧ m.pwr.reqAt + rd m VREG.SETTLE_US * 400 ≤ m.time.cycle
    ∧ (rd m VREG.ACK_MODE = 0 ∨ mv ≤ rd m VREG.TARGET_MV + rd m VREG.TOL_MV ∧ rd m VREG.TARGET_MV ≤ mv + rd m VREG.TOL_MV)
    ∧ a = (if rd m VREG.ACK_MODE = 0 then m else wr VREG.READ_MV mv m) := by
  simp only [meets, meetsBy, meetsFrom, opensAt, opensTo, opens, takesTriggers, takes_iff, inSession_iff] <;> decide +kernel

theorem wit_powerCommandsComplete_7 :
    let t : Nat := 0
    let st : Nat := 0
    let s : State := now 50000000 (State.reset |> wr VREG.V_IN_FLIGHT 1)
    let m : State := met t s
    let n : Nat := min 255 (rd m VREG.FAILS_IN_ROW + 1)
    let a : State := (pmbusSend 0x03 0 (pmbusSend 0x79 0 m) |> wr VREG.V_IN_FLIGHT 0 |> wr VREG.ACK_MV (min (rd m VREG.ACK_MV) (rd m VREG.TARGET_MV)) |> inc VREG.FAILS |> wr VREG.FAILS_IN_ROW n |> wr VREG.LAST_STATUS_WORD st)
    meets t s m
    ∧ rd m VREG.V_IN_FLIGHT = 1
    ∧ m.pwr.reqAt + rd m VREG.ACK_TIMEOUT_US * 400 ≤ m.time.cycle
    ∧ n = min 255 (rd m VREG.FAILS_IN_ROW + 1)
    ∧ a = (pmbusSend 0x03 0 (pmbusSend 0x79 0 m) |> wr VREG.V_IN_FLIGHT 0 |> wr VREG.ACK_MV (min (rd m VREG.ACK_MV) (rd m VREG.TARGET_MV)) |> inc VREG.FAILS |> wr VREG.FAILS_IN_ROW n |> wr VREG.LAST_STATUS_WORD st) := by
  simp only [meets, meetsBy, meetsFrom, opensAt, opensTo, opens, takesTriggers, takes_iff, inSession_iff] <;> decide +kernel

theorem wit_powerCommandsComplete_8 :
    let t : Nat := 0
    let s : State := State.reset
    let m : State := met t s
    meets t s m
    ∧ rd m VREG.V_IN_FLIGHT = 0 := by
  simp only [meets, meetsBy, meetsFrom, opensAt, opensTo, opens, takesTriggers, takes_iff, inSession_iff] <;> decide +kernel

theorem wit_powerCommandsComplete_9 :
    let t : Nat := 0
    let now : Nat := 0
    let s : State := State.reset
    let m : State := met t s
    meets t s m := by
  simp only [meets, meetsBy, meetsFrom, opensAt, opensTo, opens, takesTriggers, takes_iff, inSession_iff] <;> decide +kernel

theorem wit_powerCommandsComplete_10 :
    let t : Nat := 0
    let s : State := { State.reset with pwr := { critRun := 4 } }
    let m : State := met t s
    meets t s m
    ∧ 4 ≤ m.pwr.critRun
    ∧ rd m PWR.STATE = 0
    ∧ rd m PWR.TRANSIT = 0 := by
  simp only [meets, meetsBy, meetsFrom, opensAt, opensTo, opens, takesTriggers, takes_iff, inSession_iff] <;> decide +kernel

theorem wit_powerCommandsComplete_11 :
    let t : Nat := 0
    let p : Port := .pcie
    let s : State := State.reset
    let m : State := metBy (.writer (.fabric p)) t s
    let a : State := accepted p 0x78 (some PWR.CMD_CODE) m
    meetsFrom p t s m
    ∧ opens m p 0x78
    ∧ m.pwr.clocksDown = false
    ∧ rd m PWR.STATE < 2
    ∧ a = accepted p 0x78 (some PWR.CMD_CODE) m := by
  simp only [meets, meetsBy, meetsFrom, opensAt, opensTo, opens, takesTriggers, takes_iff, inSession_iff] <;> decide +kernel

theorem wit_powerCommandsComplete_12 :
    let t : Nat := 0
    let p : Port := .pcie
    let s : State := State.reset |> wr PWR.STATE 3
    let m : State := metBy (.writer (.fabric p)) t s
    let a : State := accepted p 0x78 none m
    meetsFrom p t s m
    ∧ opens m p 0x78
    ∧ (rd m PWR.STATE = 2 ∨ rd m PWR.STATE = 3 ∨ entering m = true ∧ m.pwr.target ≠ some 4)
    ∧ a = accepted p 0x78 none m := by
  simp only [meets, meetsBy, meetsFrom, opensAt, opensTo, opens, takesTriggers, takes_iff, inSession_iff] <;> decide +kernel

theorem wit_powerCommandsComplete_13 :
    let t : Nat := 0
    let s : State := { State.reset with pwr := { exiting := true } }
    let m : State := met t s
    let b : State := (if m.pwr.undoing = true ∧ rd (clocksBack m) PWR.STATE = rd m PWR.PRIOR then clocksBack m else takeState (rd m PWR.PRIOR) (clocksBack m))
    let c : State := wr PWR.STEP 15 (endTransit { b with pwr := { b.pwr with after := none } })
    meets t s m
    ∧ m.pwr.exiting = true
    ∧ rd m VREG.V_IN_FLIGHT = 0
    ∧ needMv m (rd m PWR.PRIOR) ≤ ackMv m
    ∧ (b = (if m.pwr.undoing = true ∧ rd (clocksBack m) PWR.STATE = rd m PWR.PRIOR then clocksBack m else takeState (rd m PWR.PRIOR) (clocksBack m)))
    ∧ c = wr PWR.STEP 15 (endTransit { b with pwr := { b.pwr with after := none } }) := by
  simp only [meets, meetsBy, meetsFrom, opensAt, opensTo, opens, takesTriggers, takes_iff, inSession_iff] <;> decide +kernel

theorem wit_powerCommandsComplete_14 :
    let t : Nat := 0
    let p : Port := .pcie
    let s : State := { State.reset with pwr := { wakeLog := [(1, 2, 3)] } }
    let m : State := metBy (.writer (.fabric p)) t s
    let a : State := accepted p 0x78 none m
    meetsFrom p t s m
    ∧ opens m p 0x78
    ∧ m.pwr.wakeLog ≠ []
    ∧ a = accepted p 0x78 none m := by
  simp only [meets, meetsBy, meetsFrom, opensAt, opensTo, opens, takesTriggers, takes_iff, inSession_iff] <;> decide +kernel

theorem wit_domeAndResetCommandsComplete_1 :
    let t : Nat := 0
    let n : Nat := 1
    let level : Bool := true
    let s : State := State.reset |> wr (PWR.WK_EN 1) 1 |> wr (PWR.WK_POL 1) 0
    let m : State := advanceTo t s
    let a : State := modPin n (fun x => { x with edges := rtcNow m :: (wakePin m n).edges.filter fun x => decide (rtcNow m < x + rtcSecond) }) (inc PWR.WAKE_EDGES (modPin n (fun x => { x with level := level, since := rtcNow m }) m))
    m = advanceTo t s
    ∧ rd m (PWR.WK_EN n) = 1
    ∧ (wakePin m n).level ≠ level
    ∧ level = !decide (rd m (PWR.WK_POL n) = 1)
    ∧ (a = modPin n (fun x => { x with edges := rtcNow m :: (wakePin m n).edges.filter fun x => decide (rtcNow m < x + rtcSecond) }) (inc PWR.WAKE_EDGES (modPin n (fun x => { x with level := level, since := rtcNow m }) m)))
    ∧ (wakePin a n).chatter = false
    ∧ (wakePin a n).stuck = false
    ∧ (wakePin a n).edges.length ≤ rd m (PWR.WK_MAX_EDGES n) := by
  simp only [meets, meetsBy, meetsFrom, opensAt, opensTo, opens, takesTriggers, takes_iff, inSession_iff] <;> decide +kernel

theorem wit_domeAndResetCommandsComplete_2 :
    let t : Nat := 0
    let n : Nat := 1
    let s : State := now 400000000000 { (State.reset |> wr (PWR.WK_EN 1) 1 |> wr (PWR.WK_POL 1) 0) with pwr := { dome := { pin1 := { level := true } } } }
    let m : State := advanceTo t s
    m = advanceTo t s
    ∧ rd m (PWR.WK_EN n) = 1
    ∧ (wakePin m n).stuck = false
    ∧ (wakePin m n).level = (!decide (rd m (PWR.WK_POL n) = 1))
    ∧ (wakePin m n).since + rd m (PWR.WK_TIMEOUT n) * rtcSecond < rtcNow m := by
  simp only [meets, meetsBy, meetsFrom, opensAt, opensTo, opens, takesTriggers, takes_iff, inSession_iff] <;> decide +kernel

theorem wit_domeAndResetCommandsComplete_3 :
    let t : Nat := 0
    let s : State := State.reset |> wr PWR.ALARM_EN 1
    let m : State := advanceTo t s
    m = advanceTo t s
    ∧ rd m PWR.ALARM_EN = 1
    ∧ rd m PWR.RTC_ALARM ≤ rtcNow m := by
  simp only [meets, meetsBy, meetsFrom, opensAt, opensTo, opens, takesTriggers, takes_iff, inSession_iff] <;> decide +kernel

theorem wit_domeAndResetCommandsComplete_4 :
    let t : Nat := 0
    let s : State := State.reset |> wr PWR.STATE 4 |> wr PWR.MATCH_EN 1
    let m : State := advanceTo t s
    m = advanceTo t s
    ∧ hibernating m = true
    ∧ rd m PWR.MATCH_EN = 1 := by
  simp only [meets, meetsBy, meetsFrom, opensAt, opensTo, opens, takesTriggers, takes_iff, inSession_iff] <;> decide +kernel

theorem wit_domeAndResetCommandsComplete_5 :
    let t : Nat := 0
    let s : State := { (State.reset |> wr PWR.STATE 4) with pwr := { dome := { latched := [(1, 2)] } } }
    let m : State := advanceTo t s
    m = advanceTo t s
    ∧ hibernating m = true
    ∧ m.pwr.dome.latched ≠ [] := by
  simp only [meets, meetsBy, meetsFrom, opensAt, opensTo, opens, takesTriggers, takes_iff, inSession_iff] <;> decide +kernel

theorem wit_domeAndResetCommandsComplete_6 :
    let t : Nat := 0
    let s : State := State.reset
    let m : State := advanceTo t s
    m = advanceTo t s := by
  simp only [meets, meetsBy, meetsFrom, opensAt, opensTo, opens, takesTriggers, takes_iff, inSession_iff] <;> decide +kernel

theorem wit_domeAndResetCommandsComplete_7 :
    let t : Nat := 0
    let up : Nat := 0
    let down : Nat := 0
    let failed : List Nat := []
    let a : List (List Nat) := []
    let b : List (List Nat) := []
    let s : State := { State.reset with time := { stage := .held } }
    let m : State := advanceTo t s
    m = advanceTo t s
    ∧ m.time.stage = .held := by
  simp only [meets, meetsBy, meetsFrom, opensAt, opensTo, opens, takesTriggers, takes_iff, inSession_iff] <;> decide +kernel

theorem wit_domeAndResetCommandsComplete_8 :
    let t : Nat := 0
    let s : State := { State.reset with time := { stage := .released } }
    let m : State := advanceTo t s
    m = advanceTo t s
    ∧ m.time.stage = .released := by
  simp only [meets, meetsBy, meetsFrom, opensAt, opensTo, opens, takesTriggers, takes_iff, inSession_iff] <;> decide +kernel

theorem wit_domeAndResetCommandsComplete_9 :
    let t : Nat := 0
    let failed : List Nat := []
    let a : List (List Nat) := []
    let b : List (List Nat) := []
    let s : State := { (State.reset |> wr PWR.STATE 4) with pwr := { dome := { latched := [(1, 2)] } } }
    let m : State := advanceTo t s
    let r : State := (testHeld (domeRestore m.pwr.dome (katRecords (engineKat failed (repairLoad a b (spareReset (afterReset .running m) |> wr TWIT.STRAPS (rd m TWIT.STRAPS) |> wr TWIT.STRAP_FLOAT (rd m TWIT.STRAP_FLOAT)))))) |> wr SYS.LGC_STATE 1 |> wr SYS.FAST_GATED 1 |> wr PWR.STATE 4 |> wr PWR.PRIOR 0)
    m = advanceTo t s
    ∧ hibernating m = true
    ∧ m.pwr.dome.latched ≠ []
    ∧ r = (testHeld (domeRestore m.pwr.dome (katRecords (engineKat failed (repairLoad a b (spareReset (afterReset .running m) |> wr TWIT.STRAPS (rd m TWIT.STRAPS) |> wr TWIT.STRAP_FLOAT (rd m TWIT.STRAP_FLOAT)))))) |> wr SYS.LGC_STATE 1 |> wr SYS.FAST_GATED 1 |> wr PWR.STATE 4 |> wr PWR.PRIOR 0) := by
  simp only [meets, meetsBy, meetsFrom, opensAt, opensTo, opens, takesTriggers, takes_iff, inSession_iff] <;> decide +kernel

theorem wit_domeAndResetCommandsComplete_10_bypass :
    let t : Nat := 0
    let code : Nat := 0
    let s : State := State.reset
    let m : State := met t s
    let a : State := { m with tapIr := code % 32 }
    meets t s m
    ∧ a = { m with tapIr := code % 32 } := by
  simp only [meets, meetsBy, meetsFrom, opensAt, opensTo, opens, takesTriggers, takes_iff, inSession_iff] <;> decide +kernel

theorem wit_domeAndResetCommandsComplete_10_five :
    let t : Nat := 0
    let code : Nat := 5
    let s : State := State.reset
    let m : State := met t s
    let a : State := { m with tapIr := code % 32 }
    meets t s m
    ∧ a = { m with tapIr := code % 32 } := by
  simp only [meets, meetsBy, meetsFrom, opensAt, opensTo, opens, takesTriggers, takes_iff, inSession_iff] <;> decide +kernel

theorem wit_domeAndResetCommandsComplete_11 :
    let t : Nat := 0
    let s : State := State.reset
    let m : State := met t s
    meets t s m := by
  simp only [meets, meetsBy, meetsFrom, opensAt, opensTo, opens, takesTriggers, takes_iff, inSession_iff] <;> decide +kernel

theorem wit_wakesAreKept_1_latched :
    let src : Nat := 1
    let s : State := { (State.reset |> wr PWR.STATE 4) with pwr := { dome := { latched := List.replicate 7 (0, 0) } } }
    hibernating s = true
    ∧ wakesFrom src 4 = true
    ∧ s.pwr.dome.latched.length < 8 := by
  simp only [meets, meetsBy, meetsFrom, opensAt, opensTo, opens, takesTriggers, takes_iff, inSession_iff] <;> decide +kernel

theorem wit_wakesAreKept_1_lost :
    let src : Nat := 1
    let s : State := { (State.reset |> wr PWR.STATE 4) with pwr := { dome := { latched := List.replicate 8 (0, 0) } } }
    hibernating s = true
    ∧ wakesFrom src 4 = true
    ∧ 8 ≤ s.pwr.dome.latched.length := by
  simp only [meets, meetsBy, meetsFrom, opensAt, opensTo, opens, takesTriggers, takes_iff, inSession_iff] <;> decide +kernel

theorem wit_wakesAreKept_2 :
    let src : Nat := 1
    let s : State := State.reset |> wr PWR.STATE 3
    (rd s PWR.STATE = 2 ∨ rd s PWR.STATE = 3)
    ∧ entering s = false
    ∧ s.pwr.exiting = false
    ∧ wakesFrom src (rd s PWR.STATE) = true
    ∧ s.pwr.wakeLog.length < 16 := by
  simp only [meets, meetsBy, meetsFrom, opensAt, opensTo, opens, takesTriggers, takes_iff, inSession_iff] <;> decide +kernel

theorem wit_wakesAreKept_3 :
    let n : Nat := 7
    let go : State → State := id
    let s : State := { State.reset with pwr := { wakeSeen := true } }
    s.pwr.wakeSeen = true
    ∧ s.pwr.clocksDown = false
    ∧ n < 8 := by
  simp only [meets, meetsBy, meetsFrom, opensAt, opensTo, opens, takesTriggers, takes_iff, inSession_iff] <;> decide +kernel

theorem wit_repairCommandsComplete_1 :
    let t : Nat := 0
    let k : Nat := 1
    let i : Nat := 15
    let row : Nat := 511
    let col : Nat := 0
    let c : CellAt := .free
    let s : State := State.reset
    let m : State := met t s
    meets t s m
    ∧ isRow (k, i, row) = true := by
  simp only [meets, meetsBy, meetsFrom, opensAt, opensTo, opens, takesTriggers, takes_iff, inSession_iff] <;> decide +kernel

theorem wit_repairCommandsComplete_2 :
    let t : Nat := 0
    let k : Nat := 1
    let i : Nat := 15
    let row : Nat := 511
    let col : Nat := 0
    let c : CellAt := .free
    let s : State := State.reset |> wr RPR.CE_ROW_MAX 3
    let m : State := met t s
    meets t s m
    ∧ isRow (k, i, row) = true
    ∧ k ≠ 5
    ∧ (ceTable m (k, i, row)).1.n < rd m RPR.CE_ROW_MAX := by
  simp only [meets, meetsBy, meetsFrom, opensAt, opensTo, opens, takesTriggers, takes_iff, inSession_iff] <;> decide +kernel

theorem wit_repairCommandsComplete_3 :
    let t : Nat := 0
    let k : Nat := 3
    let i : Nat := 0
    let row : Nat := 0
    let e : Nat := 0
    let c : CellAt := .free
    let u : CellUse := .other
    let s : State := State.reset
    let m : State := met t s
    meets t s m
    ∧ isRow (k, i, row) = true
    ∧ 1 < k
    ∧ k ≠ 5 := by
  simp only [meets, meetsBy, meetsFrom, opensAt, opensTo, opens, takesTriggers, takes_iff, inSession_iff] <;> decide +kernel

theorem wit_repairCommandsComplete_4 :
    let t : Nat := 0
    let bank : Nat := 15
    let row : Nat := 511
    let pass : Bool := false
    let d : DueRow := ⟨(1, 15, 511), .test, .work⟩
    let s : State := { State.reset with rpr := { due := [⟨(1, 15, 511), .test, .work⟩] } }
    let m : State := met t s
    meets t s m
    ∧ ((m.rpr.due.find? fun d => decide (d.row = (1, bank, row) ∧ d.stage = .work)) = some d)
    ∧ (sweeperRuns m = true ∨ d.why = .test ∨ d.why = .retire) := by
  simp only [meets, meetsBy, meetsFrom, opensAt, opensTo, opens, takesTriggers, takes_iff, inSession_iff] <;> decide +kernel

theorem wit_repairCommandsComplete_5 :
    let t : Nat := 0
    let k : Nat := 2
    let row : Nat := 3
    let d : DueRow := ⟨(2, 0, 3), .retire, .work⟩
    let s : State := { State.reset with rpr := { due := [⟨(2, 0, 3), .retire, .work⟩] } }
    let m : State := met t s
    meets t s m
    ∧ ((m.rpr.due.find? fun d => decide (d.row = (k, 0, row) ∧ k ≠ 1 ∧ d.stage = .work)) = some d)
    ∧ (sweeperRuns m = true ∨ d.why = .retire) := by
  simp only [meets, meetsBy, meetsFrom, opensAt, opensTo, opens, takesTriggers, takes_iff, inSession_iff] <;> decide +kernel

theorem wit_repairCommandsComplete_6 :
    let t : Nat := 0
    let bank : Nat := 15
    let col : Nat := 7
    let l : List (Nat × Nat × Nat) := []
    let s : State := { State.reset with rpr := { cols := [(15, 7, 0)] } }
    let m : State := met t s
    meets t s m
    ∧ m.rpr.cols = (bank, col, 0) :: l := by
  simp only [meets, meetsBy, meetsFrom, opensAt, opensTo, opens, takesTriggers, takes_iff, inSession_iff] <;> decide +kernel

theorem wit_repairCommandsComplete_7 :
    let t : Nat := 0
    let e : Nat := 8
    let s : State := on 0x90 State.reset
    let m : State := met t s
    meets t s m
    ∧ sweeperRuns m = true
    ∧ engineIdle m e = true := by
  simp only [meets, meetsBy, meetsFrom, opensAt, opensTo, opens, takesTriggers, takes_iff, inSession_iff] <;> decide +kernel

theorem wit_repairCommandsComplete_8 :
    let t : Nat := 0
    let i : Nat := 17
    let s : State := on 0x90 (State.reset |> wr (AFE.SLICE_ROLE 17) 3)
    let m : State := met t s
    meets t s m
    ∧ sweeperRuns m = true
    ∧ i < Variant.slices m.fuse.variant
    ∧ rd m (AFE.SLICE_ROLE i) = 3
    ∧ shadows m i = false := by
  simp only [meets, meetsBy, meetsFrom, opensAt, opensTo, opens, takesTriggers, takes_iff, inSession_iff] <;> decide +kernel

theorem wit_repairCommandsComplete_9_test :
    let t : Nat := 0
    let op : Nat := 1
    let k : Nat := 1
    let i : Nat := 0
    let x : Nat := 0
    let c : CellAt := .free
    let q : Instr := .rprTest t .stc k i x c
    let s : State := on 0x90 State.reset
    let m : State := metBy (.writer (.fabric .stc)) t s
    let a : State := accepted .stc 0x90 (some RPR.CMD_CODE) m
    meetsFrom .stc t s m
    ∧ opens m .stc 0x90
    ∧ (op = 1 ∧ q = .rprTest t .stc k i x c ∨ op = 2 ∧ q = .rprRetire t .stc k i x c ∨ op = 3 ∧ q = .rprColumn t .stc k i x ∧ c = .free ∨ op = 4 ∧ q = .ceClear t .stc ∧ k = 0 ∧ i = 0 ∧ x = 0 ∧ c = .free)
    ∧ firstFail (rprChecks .stc op (k, i, x) m) = none
    ∧ a = accepted .stc 0x90 (some RPR.CMD_CODE) m := by
  simp only [meets, meetsBy, meetsFrom, opensAt, opensTo, opens, takesTriggers, takes_iff, inSession_iff, true_and, true_or, and_true, or_true] <;> decide +kernel

theorem wit_repairCommandsComplete_9_retire :
    let t : Nat := 0
    let op : Nat := 2
    let k : Nat := 1
    let i : Nat := 15
    let x : Nat := 511
    let c : CellAt := .free
    let q : Instr := .rprRetire t .stc k i x c
    let s : State := on 0x90 State.reset
    let m : State := metBy (.writer (.fabric .stc)) t s
    let a : State := accepted .stc 0x90 (some RPR.CMD_CODE) m
    meetsFrom .stc t s m
    ∧ opens m .stc 0x90
    ∧ (op = 1 ∧ q = .rprTest t .stc k i x c ∨ op = 2 ∧ q = .rprRetire t .stc k i x c ∨ op = 3 ∧ q = .rprColumn t .stc k i x ∧ c = .free ∨ op = 4 ∧ q = .ceClear t .stc ∧ k = 0 ∧ i = 0 ∧ x = 0 ∧ c = .free)
    ∧ firstFail (rprChecks .stc op (k, i, x) m) = none
    ∧ a = accepted .stc 0x90 (some RPR.CMD_CODE) m := by
  simp only [meets, meetsBy, meetsFrom, opensAt, opensTo, opens, takesTriggers, takes_iff, inSession_iff, true_and, true_or, and_true, or_true] <;> decide +kernel

theorem wit_repairCommandsComplete_9_clear :
    let t : Nat := 0
    let op : Nat := 4
    let k : Nat := 0
    let i : Nat := 0
    let x : Nat := 0
    let c : CellAt := .free
    let q : Instr := .ceClear t .stc
    let s : State := on 0x90 State.reset
    let m : State := metBy (.writer (.fabric .stc)) t s
    let a : State := accepted .stc 0x90 (some RPR.CMD_CODE) m
    meetsFrom .stc t s m
    ∧ opens m .stc 0x90
    ∧ (op = 1 ∧ q = .rprTest t .stc k i x c ∨ op = 2 ∧ q = .rprRetire t .stc k i x c ∨ op = 3 ∧ q = .rprColumn t .stc k i x ∧ c = .free ∨ op = 4 ∧ q = .ceClear t .stc ∧ k = 0 ∧ i = 0 ∧ x = 0 ∧ c = .free)
    ∧ firstFail (rprChecks .stc op (k, i, x) m) = none
    ∧ a = accepted .stc 0x90 (some RPR.CMD_CODE) m := by
  simp only [meets, meetsBy, meetsFrom, opensAt, opensTo, opens, takesTriggers, takes_iff, inSession_iff, true_and, true_or, and_true, or_true] <;> decide +kernel

theorem wit_repairCommandsComplete_10 :
    let t : Nat := 0
    let w : Nat := 2
    let c : CellAt := .free
    let r : StcReq := ⟨2, 5, 8, [4, 1, 0, 0, 0, 0], 0⟩
    let s : State := { (State.reset |> wr SYS.STC_STATE 2) with stc := { waiting := [⟨2, 5, 8, [4, 1, 0, 0, 0, 0], 0⟩] } }
    let m : State := met t s
    let b : State := rprCmd .stc (r.data.getD 0 0) (r.data.getD 1 0, r.data.getD 2 0, le (slice r.data 4 2)) c m
    meets t s m
    ∧ stcRuns m = true
    ∧ ((m.stc.waiting.find? fun r => r.win == w) = some r)
    ∧ r.code = 0x08
    ∧ 1 ≤ r.data.getD 0 0
    ∧ r.data.getD 0 0 ≤ 4
    ∧ b = rprCmd .stc (r.data.getD 0 0) (r.data.getD 1 0, r.data.getD 2 0, le (slice r.data 4 2)) c m := by
  simp only [meets, meetsBy, meetsFrom, opensAt, opensTo, opens, takesTriggers, takes_iff, inSession_iff] <;> decide +kernel

theorem wit_repairCommandsComplete_11 :
    let t : Nat := 0
    let w : Nat := 2
    let r : StcReq := ⟨2, 5, 8, [5], 0⟩
    let s : State := { (State.reset |> wr SYS.STC_STATE 2) with stc := { waiting := [⟨2, 5, 8, [5], 0⟩] } }
    let m : State := met t s
    meets t s m
    ∧ stcRuns m = true
    ∧ ((m.stc.waiting.find? fun r => r.win == w) = some r)
    ∧ r.code = 0x08
    ∧ r.data.getD 0 0 = 5 := by
  simp only [meets, meetsBy, meetsFrom, opensAt, opensTo, opens, takesTriggers, takes_iff, inSession_iff] <;> decide +kernel

theorem wit_repairCommandsComplete_12 :
    let t : Nat := 0
    let s : State := { State.reset with rpr := { queue := [(1, 2)] } }
    let m : State := metBy (.writer (.fabric .stc)) t s
    let a : State := accepted .stc 0x90 none m
    meetsFrom .stc t s m
    ∧ opens m .stc 0x90
    ∧ m.rpr.queue ≠ []
    ∧ a = accepted .stc 0x90 none m := by
  simp only [meets, meetsBy, meetsFrom, opensAt, opensTo, opens, takesTriggers, takes_iff, inSession_iff] <;> decide +kernel

theorem wit_repairCommandsComplete_13 :
    let t : Nat := 0
    let k : Nat := 15
    let s : State := { State.reset with rpr := { low := [(15, 4)] } }
    let m : State := met t s
    meets t s m
    ∧ aget m.rpr.low k 0 = 4 := by
  simp only [meets, meetsBy, meetsFrom, opensAt, opensTo, opens, takesTriggers, takes_iff, inSession_iff] <;> decide +kernel

theorem wit_repairsKeepTheCells_1 :
    let r : Nat × Nat × Nat := (1, 15, 511)
    let s : State := { State.reset with led := { cellsFree := 65535, cellsQuar := 1 } }
    1 ≤ s.led.cellsQuar
    ∧ balanced s 0 = true := by
  simp only [meets, meetsBy, meetsFrom, opensAt, opensTo, opens, takesTriggers, takes_iff, inSession_iff] <;> decide +kernel

theorem wit_repairsKeepTheCells_3 :
    let d : DueRow := ⟨(1, 15, 511), .ce, .work⟩
    let s : State := State.reset
    d.why = .ce
    ∧ d.row ∉ s.rpr.once := by
  simp only [meets, meetsBy, meetsFrom, opensAt, opensTo, opens, takesTriggers, takes_iff, inSession_iff] <;> decide +kernel

theorem wit_hostAndTwoWireCommandsComplete_1 :
    let t : Nat := 0
    let rx : Bool := false
    let tx : Bool := false
    let s : State := State.reset
    let m : State := met t s
    meets t s m := by
  simp only [meets, meetsBy, meetsFrom, opensAt, opensTo, opens, takesTriggers, takes_iff, inSession_iff] <;> decide +kernel

theorem wit_hostAndTwoWireCommandsComplete_2 :
    let t : Nat := 0
    let sp : Nat := 3
    let wd : Nat := 8
    let s : State := State.reset
    let m : State := met t s
    meets t s m
    ∧ sp ≠ 0 := by
  simp only [meets, meetsBy, meetsFrom, opensAt, opensTo, opens, takesTriggers, takes_iff, inSession_iff] <;> decide +kernel

theorem wit_hostAndTwoWireCommandsComplete_3 :
    let t : Nat := 0
    let mask : Bool := false
    let s : State := State.reset
    let m : State := met t s
    meets t s m := by
  simp only [meets, meetsBy, meetsFrom, opensAt, opensTo, opens, takesTriggers, takes_iff, inSession_iff] <;> decide +kernel

theorem wit_hostAndTwoWireCommandsComplete_4 :
    let t : Nat := 0
    let mask : Bool := false
    let s : State := { (State.reset |> wr HOST.DSTATE 3) with host := { msixStopped := true, pba := [5] } }
    let m : State := met t s
    let a : State := wr HOST.DSTATE 0 { m with host := { m.host with msixStopped := false, funcMask := mask } }
    meets t s m
    ∧ a = wr HOST.DSTATE 0 { m with host := { m.host with msixStopped := false, funcMask := mask } } := by
  simp only [meets, meetsBy, meetsFrom, opensAt, opensTo, opens, takesTriggers, takes_iff, inSession_iff] <;> decide +kernel

theorem wit_hostAndTwoWireCommandsComplete_5 :
    let t : Nat := 0
    let p : Nat := 1
    let s : State := on 0x82 State.reset
    let m : State := met t s
    meets t s m
    ∧ enabled m (0x81 + p) = true
    ∧ Variant.pageAbsent m.fuse.variant (0x81 + p) = false
    ∧ rd m (ETH.E_LINK p) ≠ 1 := by
  simp only [meets, meetsBy, meetsFrom, opensAt, opensTo, opens, takesTriggers, takes_iff, inSession_iff] <;> decide +kernel

theorem wit_hostAndTwoWireCommandsComplete_6 :
    let t : Nat := 0
    let p : Nat := 1
    let s : State := on 0x82 (State.reset |> wr (ETH.E_LINK 1) 1)
    let m : State := met t s
    let ber : Bool := true
    meets t s m
    ∧ enabled m (0x81 + p) = true
    ∧ Variant.pageAbsent m.fuse.variant (0x81 + p) = false
    ∧ rd m (ETH.E_LINK p) = 1 := by
  simp only [meets, meetsBy, meetsFrom, opensAt, opensTo, opens, takesTriggers, takes_iff, inSession_iff] <;> decide +kernel

theorem wit_hostAndTwoWireCommandsComplete_7 :
    let t : Nat := 0
    let r : Nat := 7
    let ds : List (List Nat) := [txDesc]
    let len : Nat := (ds.map fun d => le (slice d 8 2)).foldl (· + ·) 0
    let descs : List (List Nat) := [txDesc]
    let data : List Nat := zeros 64
    let s : State := State.reset |> wr (HOST.TX_EN 7) 1 |> wr (HOST.TX_SIZE 7) 4 |> wr (HOST.TX_TAIL 7) 3
    let m : State := met t s
    meets t s m
    ∧ ((ringOrder m.host.lastTx).find? (fun r => decide (rd m (HOST.TX_EN r) = 1 ∧ ringHeld m (16 + r) ≠ 0)) = some r)
    ∧ toEop descs = some ds
    ∧ ds.length ≤ ringHeld m (16 + r)
    ∧ dmaRuns m = true
    ∧ (len = (ds.map fun d => le (slice d 8 2)).foldl (· + ·) 0)
    ∧ 64 ≤ len
    ∧ len ≤ 9728
    ∧ ((ds.all fun d => decide (slice d 11 5 = zeros 5)) = true) := by
  simp only [meets, meetsBy, meetsFrom, opensAt, opensTo, opens, takesTriggers, takes_iff, inSession_iff] <;> decide +kernel

theorem wit_hostAndTwoWireCommandsComplete_8 :
    let t : Nat := 0
    let page : Nat := 0x0A
    let hi : Nat := 15
    let lo : Nat := 252
    let body : List Nat := zeros 32
    let x : Outside := {}
    let s : State := State.reset
    let m : State := met t s
    meets t s m
    ∧ bridgeIsBusy m = false
    ∧ rd m TWIT.TW_PEC = 0
    ∧ excluded page = false
    ∧ hi * 256 + lo < 4096
    ∧ (hi * 256 + lo) % 4 = 0
    ∧ body.length ≤ 32 := by
  simp only [meets, meetsBy, meetsFrom, opensAt, opensTo, opens, takesTriggers, takes_iff, inSession_iff] <;> decide +kernel

theorem wit_hostAndTwoWireCommandsComplete_9 :
    let t : Nat := 0
    let bytes : List Nat := []
    let x : Outside := {}
    let s : State := { now 5 State.reset with stc := { twBusy := 100 } }
    let m : State := met t s
    meets t s m
    ∧ bridgeIsBusy m = true := by
  simp only [meets, meetsBy, meetsFrom, opensAt, opensTo, opens, takesTriggers, takes_iff, inSession_iff] <;> decide +kernel

theorem wit_hostAndTwoWireCommandsComplete_10 :
    let t : Nat := 0
    let n : Nat := 0
    let s : State := State.reset
    let m : State := met t s
    meets t s m
    ∧ bridgeIsBusy m = false := by
  simp only [meets, meetsBy, meetsFrom, opensAt, opensTo, opens, takesTriggers, takes_iff, inSession_iff] <;> decide +kernel

theorem wit_hostAndTwoWireCommandsComplete_11 :
    let t : Nat := 0
    let s : State := State.reset
    let m : State := met t s
    meets t s m := by
  simp only [meets, meetsBy, meetsFrom, opensAt, opensTo, opens, takesTriggers, takes_iff, inSession_iff] <;> decide +kernel

theorem wit_hostAndTwoWireCommandsComplete_12 :
    let t : Nat := 0
    let s : State := { State.reset with sw := { chatter := true } }
    let m : State := met t s
    meets t s m
    ∧ m.sw.chatter = true
    ∧ (warnEdges m).length ≤ rd m SWCH.WARN_MAX_EDGES := by
  simp only [meets, meetsBy, meetsFrom, opensAt, opensTo, opens, takesTriggers, takes_iff, inSession_iff] <;> decide +kernel

theorem wit_hostAndTwoWireCommandsComplete_13 :
    let t : Nat := 0
    let s : State := State.reset
    let m : State := met t s
    meets t s m := by
  simp only [meets, meetsBy, meetsFrom, opensAt, opensTo, opens, takesTriggers, takes_iff, inSession_iff] <;> decide +kernel

theorem wit_hostAndTwoWireCommandsComplete_14 :
    let t : Nat := 0
    let n : Nat := 1
    let s : State := State.reset
    let m : State := advanceTo t s
    m = advanceTo t s
    ∧ n < 2 := by
  simp only [meets, meetsBy, meetsFrom, opensAt, opensTo, opens, takesTriggers, takes_iff, inSession_iff] <;> decide +kernel

theorem wit_siteControllerCommandsComplete_1 :
    let t : Nat := 0
    let a : List Nat := []
    let b : List Nat := []
    let x : Bool := false
    let y : Bool := false
    let s : State := State.reset
    let m : State := met t s
    meets t s m := by
  simp only [meets, meetsBy, meetsFrom, opensAt, opensTo, opens, takesTriggers, takes_iff, inSession_iff] <;> decide +kernel

theorem wit_siteControllerCommandsComplete_2 :
    let t : Nat := 0
    let a : List Nat := []
    let b : List Nat := []
    let s : State := { (State.reset |> wr SYS.STC_STATE 1) with stc := { loading := true, age := 2 } }
    let m : State := met t s
    meets t s m
    ∧ rd m SYS.STC_STATE = 1
    ∧ m.stc.loading = true
    ∧ 2 ≤ m.stc.age := by
  simp only [meets, meetsBy, meetsFrom, opensAt, opensTo, opens, takesTriggers, takes_iff, inSession_iff] <;> decide +kernel

theorem wit_siteControllerCommandsComplete_3 :
    let t : Nat := 0
    let s : State := State.reset
    let m : State := metBy (.writer (.fabric .stc)) t s
    let a : State := accepted .stc 0x86 none m
    meetsFrom .stc t s m
    ∧ opens m .stc 0x86
    ∧ a = accepted .stc 0x86 none m := by
  simp only [meets, meetsBy, meetsFrom, opensAt, opensTo, opens, takesTriggers, takes_iff, inSession_iff] <;> decide +kernel

theorem wit_siteControllerCommandsComplete_4 :
    let t : Nat := 0
    let s : State := { (State.reset |> wr SYS.STC_STATE 2) with stc := { kickAge := 1000000 } }
    let m : State := met t s
    meets t s m
    ∧ stcRuns m = true
    ∧ rd m QSPI.STC_WDOG ≤ m.stc.kickAge := by
  simp only [meets, meetsBy, meetsFrom, opensAt, opensTo, opens, takesTriggers, takes_iff, inSession_iff] <;> decide +kernel

theorem wit_siteControllerCommandsComplete_5 :
    let t : Nat := 0
    let s : State := { (State.reset |> wr SYS.STC_STATE 1) with stc := { age := 1000000 } }
    let m : State := met t s
    let k : Nat := rd m SYS.STC_IMAGE
    meets t s m
    ∧ rd m SYS.STC_STATE = 1
    ∧ m.stc.loading = false
    ∧ rd m QSPI.BOOT_TIMEOUT ≤ m.stc.age
    ∧ k = rd m SYS.STC_IMAGE := by
  simp only [meets, meetsBy, meetsFrom, opensAt, opensTo, opens, takesTriggers, takes_iff, inSession_iff] <;> decide +kernel

theorem wit_siteControllerCommandsComplete_6 :
    let t : Nat := 0
    let slot : Nat := 0
    let s : State := State.reset
    let m : State := metBy (.writer (.fabric .pcie)) t s
    meetsFrom .pcie t s m
    ∧ opens m .pcie 0x86 := by
  simp only [meets, meetsBy, meetsFrom, opensAt, opensTo, opens, takesTriggers, takes_iff, inSession_iff] <;> decide +kernel

theorem wit_siteControllerCommandsComplete_7 :
    let t : Nat := 0
    let p : Port := .stc
    let s : State := State.reset
    let m : State := metBy (.writer (.fabric p)) t s
    meetsFrom p t s m
    ∧ opens m p 0x86
    ∧ flashBusy m = false
    ∧ flashDenied m p = false := by
  simp only [meets, meetsBy, meetsFrom, opensAt, opensTo, opens, takesTriggers, takes_iff, inSession_iff] <;> decide +kernel

theorem wit_siteControllerCommandsComplete_8 :
    let t : Nat := 0
    let data : List Nat := []
    let s : State := State.reset |> wr QSPI.FL_BUSY 1
    let m : State := met t s
    meets t s m
    ∧ rd m QSPI.FL_BUSY ≠ 0
    ∧ rd m QSPI.FL_DIR = 0 := by
  simp only [meets, meetsBy, meetsFrom, opensAt, opensTo, opens, takesTriggers, takes_iff, inSession_iff] <;> decide +kernel

theorem wit_siteControllerCommandsComplete_9 :
    let t : Nat := 0
    let data : List Nat := []
    let s : State := State.reset |> wr QSPI.FL_BUSY 1 |> wr QSPI.FL_DIR 1 |> wr QSPI.FL_LEN 2 |> wr (QSPI.FL_DATA 0) 0x1234
    let m : State := met t s
    let out : List Nat := ((List.range 8).flatMap fun k => toLe 4 (rd m (QSPI.FL_DATA k))).take (rd m QSPI.FL_LEN)
    meets t s m
    ∧ rd m QSPI.FL_BUSY ≠ 0
    ∧ rd m QSPI.FL_DIR ≠ 0
    ∧ (out = ((List.range 8).flatMap fun k => toLe 4 (rd m (QSPI.FL_DATA k))).take (rd m QSPI.FL_LEN)) := by
  simp only [meets, meetsBy, meetsFrom, opensAt, opensTo, opens, takesTriggers, takes_iff, inSession_iff] <;> decide +kernel

theorem wit_siteControllerCommandsComplete_10 :
    let t : Nat := 0
    let s : State := State.reset |> wr TWIC.TWC_WLEN 3 |> wr TWIC.TWC_RLEN 5
    let m : State := metBy (.writer (.fabric .stc)) t s
    meetsFrom .stc t s m
    ∧ opens m .stc 0x85
    ∧ rd m TWIC.TWC_BUSY ≠ 1
    ∧ twcRange m = false := by
  simp only [meets, meetsBy, meetsFrom, opensAt, opensTo, opens, takesTriggers, takes_iff, inSession_iff] <;> decide +kernel

theorem wit_siteControllerCommandsComplete_11_host :
    let t : Nat := 0
    let r : Nat := 3
    let data : List Nat := []
    let s : State := State.reset |> wr TWIC.TWC_BUSY 1
    let m : State := met t s
    let n : Nat := rd m TWIC.TWC_RLEN
    let b : List Nat := fit 8 (data.take n)
    let a : State := raise 0x85 1 (wr TWIC.TWC_RESULT r (wr TWIC.TWC_BUSY 0 m))
    let c : State := when (r == 4) (raise 0x85 2) (if r = 0 ∧ 0 < n then a |> wr (TWIC.TWC_RX 0) (le (slice b 0 4)) |> wr (TWIC.TWC_RX 1) (le (slice b 4 4)) else a)
    meets t s m
    ∧ rd m TWIC.TWC_BUSY ≠ 0
    ∧ n = rd m TWIC.TWC_RLEN
    ∧ b = fit 8 (data.take n)
    ∧ a = raise 0x85 1 (wr TWIC.TWC_RESULT r (wr TWIC.TWC_BUSY 0 m))
    ∧ (c = when (r == 4) (raise 0x85 2) (if r = 0 ∧ 0 < n then a |> wr (TWIC.TWC_RX 0) (le (slice b 0 4)) |> wr (TWIC.TWC_RX 1) (le (slice b 4 4)) else a))
    ∧ m.stc.modWait = none := by
  simp only [meets, meetsBy, meetsFrom, opensAt, opensTo, opens, takesTriggers, takes_iff, inSession_iff] <;> decide +kernel

theorem wit_siteControllerCommandsComplete_11_module :
    let t : Nat := 0
    let r : Nat := 0
    let data : List Nat := [7]
    let s : State := { (State.reset |> wr TWIC.TWC_BUSY 1 |> wr TWIC.TWC_RLEN 1) with stc := { modWait := some (1, 5, 4) } }
    let m : State := met t s
    let n : Nat := rd m TWIC.TWC_RLEN
    let b : List Nat := fit 8 (data.take n)
    let a : State := raise 0x85 1 (wr TWIC.TWC_RESULT r (wr TWIC.TWC_BUSY 0 m))
    let c : State := when (r == 4) (raise 0x85 2) (if r = 0 ∧ 0 < n then a |> wr (TWIC.TWC_RX 0) (le (slice b 0 4)) |> wr (TWIC.TWC_RX 1) (le (slice b 4 4)) else a)
    meets t s m
    ∧ rd m TWIC.TWC_BUSY ≠ 0
    ∧ n = rd m TWIC.TWC_RLEN
    ∧ b = fit 8 (data.take n)
    ∧ a = raise 0x85 1 (wr TWIC.TWC_RESULT r (wr TWIC.TWC_BUSY 0 m))
    ∧ (c = when (r == 4) (raise 0x85 2) (if r = 0 ∧ 0 < n then a |> wr (TWIC.TWC_RX 0) (le (slice b 0 4)) |> wr (TWIC.TWC_RX 1) (le (slice b 4 4)) else a))
    ∧ m.stc.modWait = some (1, 5, 4) := by
  simp only [meets, meetsBy, meetsFrom, opensAt, opensTo, opens, takesTriggers, takes_iff, inSession_iff] <;> decide +kernel

theorem wit_siteControllerCommandsComplete_12 :
    let t : Nat := 0
    let data : List Nat := []
    let s : State := atTick 1000000 (State.reset |> wr TWIC.POLL_EN 1)
    let m : State := met t s
    let b : List Nat := fit 8 (data.take (rd m TWIC.POLL_LEN))
    meets t s m
    ∧ rd m TWIC.POLL_EN ≠ 0
    ∧ m.stc.pollTick + rd m TWIC.POLL_TICKS ≤ m.time.ticks
    ∧ b = fit 8 (data.take (rd m TWIC.POLL_LEN)) := by
  simp only [meets, meetsBy, meetsFrom, opensAt, opensTo, opens, takesTriggers, takes_iff, inSession_iff] <;> decide +kernel

theorem wit_siteControllerCommandsComplete_13_stale :
    let t : Nat := 0
    let r : Nat := 2
    let data : List Nat := []
    let s : State := atTick 100 { (State.reset |> wr TWIC.POLL_EN 1 |> wr TWIC.POLL_TICKS 100 |> wr TWIC.POLL_FILTER 3) with stc := { pollFails := 2 } }
    let m : State := met t s
    let a : State := { m with stc := { m.stc with pollTick := m.time.ticks, pollFails := m.stc.pollFails + 1 } }
    meets t s m
    ∧ rd m TWIC.POLL_EN ≠ 0
    ∧ m.stc.pollTick + rd m TWIC.POLL_TICKS ≤ m.time.ticks
    ∧ r ≠ 0
    ∧ r ≠ 4
    ∧ a = { m with stc := { m.stc with pollTick := m.time.ticks, pollFails := m.stc.pollFails + 1 } } := by
  simp only [meets, meetsBy, meetsFrom, opensAt, opensTo, opens, takesTriggers, takes_iff, inSession_iff] <;> decide +kernel

theorem wit_siteControllerCommandsComplete_13_fails :
    let t : Nat := 0
    let r : Nat := 1
    let data : List Nat := []
    let s : State := atTick 100 (State.reset |> wr TWIC.POLL_EN 1 |> wr TWIC.POLL_TICKS 100 |> wr TWIC.POLL_FILTER 3)
    let m : State := met t s
    let a : State := { m with stc := { m.stc with pollTick := m.time.ticks, pollFails := m.stc.pollFails + 1 } }
    meets t s m
    ∧ rd m TWIC.POLL_EN ≠ 0
    ∧ m.stc.pollTick + rd m TWIC.POLL_TICKS ≤ m.time.ticks
    ∧ r ≠ 0
    ∧ r ≠ 4
    ∧ a = { m with stc := { m.stc with pollTick := m.time.ticks, pollFails := m.stc.pollFails + 1 } } := by
  simp only [meets, meetsBy, meetsFrom, opensAt, opensTo, opens, takesTriggers, takes_iff, inSession_iff] <;> decide +kernel

theorem wit_siteControllerCommandsComplete_14_stc :
    let t : Nat := 0
    let p : Port := .pcie
    let w : Nat := windowOf p
    let s : State := State.reset |> wr SYS.STC_STATE 2 |> wr (MBOX.REQ_CODE 0) 13
    let m : State := metBy (.writer (.fabric p)) t s
    let a : State := wr (MBOX.RSP_OUT w) 1 (accepted p 0xF0 none m)
    meetsFrom p t s m
    ∧ opens m p 0xF0
    ∧ w = windowOf p
    ∧ rd m (MBOX.RSP_OUT w) ≠ 1
    ∧ reqRange m w = false
    ∧ (rd m (MBOX.REQ_DEST w) = 0 → w ≠ 1 ∧ rd m SYS.STC_STATE = 2)
    ∧ a = wr (MBOX.RSP_OUT w) 1 (accepted p 0xF0 none m) := by
  simp only [meets, meetsBy, meetsFrom, opensAt, opensTo, opens, takesTriggers, takes_iff, inSession_iff] <;> decide +kernel

theorem wit_siteControllerCommandsComplete_14_lgc :
    let t : Nat := 0
    let p : Port := .twi
    let w : Nat := windowOf p
    let s : State := State.reset |> wr (MBOX.REQ_DEST 2) 1 |> wr (MBOX.REQ_CODE 2) 0x8B |> wr (MBOX.REQ_LEN 2) 64
    let m : State := metBy (.writer (.fabric p)) t s
    let a : State := wr (MBOX.RSP_OUT w) 1 (accepted p 0xF0 none m)
    meetsFrom p t s m
    ∧ opens m p 0xF0
    ∧ w = windowOf p
    ∧ rd m (MBOX.RSP_OUT w) ≠ 1
    ∧ reqRange m w = false
    ∧ (rd m (MBOX.REQ_DEST w) = 0 → w ≠ 1 ∧ rd m SYS.STC_STATE = 2)
    ∧ a = wr (MBOX.RSP_OUT w) 1 (accepted p 0xF0 none m) := by
  simp only [meets, meetsBy, meetsFrom, opensAt, opensTo, opens, takesTriggers, takes_iff, inSession_iff] <;> decide +kernel

theorem wit_siteControllerCommandsComplete_15 :
    let t : Nat := 0
    let p : Port := .pcie
    let w : Nat := windowOf p
    let s : State := State.reset
    let m : State := metBy (.writer (.fabric p)) t s
    meetsFrom p t s m
    ∧ opens m p 0xF0
    ∧ w = windowOf p := by
  simp only [meets, meetsBy, meetsFrom, opensAt, opensTo, opens, takesTriggers, takes_iff, inSession_iff] <;> decide +kernel

theorem wit_siteControllerCommandsComplete_16 :
    let t : Nat := 0
    let s : State := { State.reset with stc := { waiting := [⟨0, 5, 1, [], 0⟩] } }
    let m : State := metBy (.writer (.fabric .stc)) t s
    let w : Nat := rd m MBOX.OUT_WINDOW
    let a : State := accepted .stc 0xF0 none m
    meetsFrom .stc t s m
    ∧ opens m .stc 0xF0
    ∧ w = rd m MBOX.OUT_WINDOW
    ∧ stcWaits m w = true
    ∧ a = accepted .stc 0xF0 none m := by
  simp only [meets, meetsBy, meetsFrom, opensAt, opensTo, opens, takesTriggers, takes_iff, inSession_iff] <;> decide +kernel

theorem wit_siteControllerCommandsComplete_17 :
    let t : Nat := 0
    let w : Nat := 2
    let r : StcReq := ⟨2, 5, 1, [], 0⟩
    let s : State := atTick 1000000 { State.reset with stc := { waiting := [⟨2, 5, 1, [], 0⟩] } }
    let m : State := met t s
    meets t s m
    ∧ ((m.stc.waiting.find? fun r => r.win == w) = some r)
    ∧ r.tick + rd m MBOX.STC_RSP_TIMEOUT ≤ m.time.ticks := by
  simp only [meets, meetsBy, meetsFrom, opensAt, opensTo, opens, takesTriggers, takes_iff, inSession_iff] <;> decide +kernel

theorem wit_siteControllerCommandsComplete_18 :
    let t : Nat := 0
    let v : Nat := 0
    let s : State := State.reset
    let m : State := metBy (.writer (.fabric .stc)) t s
    let a : State := accepted .stc 0xF0 none m
    meetsFrom .stc t s m
    ∧ opens m .stc 0xF0
    ∧ m.stc.events.length < 16
    ∧ a = accepted .stc 0xF0 none m := by
  simp only [meets, meetsBy, meetsFrom, opensAt, opensTo, opens, takesTriggers, takes_iff, inSession_iff] <;> decide +kernel

theorem wit_siteControllerCommandsComplete_19 :
    let t : Nat := 0
    let p : Port := .pcie
    let s : State := { State.reset with stc := { events := [(1, 2, 3)] } }
    let m : State := metBy (.writer (.fabric p)) t s
    let a : State := accepted p 0xF0 none m
    meetsFrom p t s m
    ∧ opens m p 0xF0
    ∧ m.stc.events ≠ []
    ∧ a = accepted p 0xF0 none m := by
  simp only [meets, meetsBy, meetsFrom, opensAt, opensTo, opens, takesTriggers, takes_iff, inSession_iff] <;> decide +kernel

theorem wit_siteControllerCommandsComplete_20 :
    let t : Nat := 0
    let occ : Nat := 0
    let arg : Nat := 0
    let src : TrigSrc := .cmd
    let s : State := State.reset |> wr SYS.STC_STATE 2
    let m : State := met t s
    let c : State := arrived src 0xF0 m
    meets t s m
    ∧ c = arrived src 0xF0 m
    ∧ takesTriggers c 0xF0
    ∧ c.stc.oevs.length < 8
    ∧ rd c SYS.STC_STATE = 2 := by
  simp only [meets, meetsBy, meetsFrom, opensAt, opensTo, opens, takesTriggers, takes_iff, inSession_iff] <;> decide +kernel

theorem wit_siteControllerCommandsComplete_21 :
    let t : Nat := 0
    let s : State := { State.reset with stc := { oevs := [(1, 2)] } }
    let m : State := metBy (.writer (.fabric .stc)) t s
    let a : State := accepted .stc 0xF0 none m
    meetsFrom .stc t s m
    ∧ opens m .stc 0xF0
    ∧ m.stc.oevs ≠ []
    ∧ a = accepted .stc 0xF0 none m := by
  simp only [meets, meetsBy, meetsFrom, opensAt, opensTo, opens, takesTriggers, takes_iff, inSession_iff] <;> decide +kernel

theorem wit_siteControllerCommandsComplete_22_getInfo :
    let t : Nat := 0
    let w : Nat := 1
    let r : StcReq := ⟨1, 5, 1, [], 0⟩
    let s : State := { (State.reset |> wr SYS.STC_STATE 2) with stc := { waiting := [⟨1, 5, 1, [], 0⟩] } }
    let m : State := met t s
    meets t s m
    ∧ stcRuns m = true
    ∧ ((m.stc.waiting.find? fun r => r.win == w) = some r)
    ∧ r.code = 1 := by
  simp only [meets, meetsBy, meetsFrom, opensAt, opensTo, opens, takesTriggers, takes_iff, inSession_iff] <;> decide +kernel

theorem wit_siteControllerCommandsComplete_22_power :
    let t : Nat := 0
    let w : Nat := 1
    let r : StcReq := ⟨1, 5, 2, [2], 0⟩
    let s : State := { (State.reset |> wr SYS.STC_STATE 2) with stc := { waiting := [⟨1, 5, 2, [2], 0⟩] } }
    let m : State := met t s
    meets t s m
    ∧ stcRuns m = true
    ∧ ((m.stc.waiting.find? fun r => r.win == w) = some r)
    ∧ r.code = 2 := by
  simp only [meets, meetsBy, meetsFrom, opensAt, opensTo, opens, takesTriggers, takes_iff, inSession_iff] <;> decide +kernel

theorem wit_siteControllerCommandsComplete_22_policySet :
    let t : Nat := 0
    let w : Nat := 1
    let r : StcReq := ⟨1, 5, 3, [3], 0⟩
    let s : State := { (State.reset |> wr SYS.STC_STATE 2) with stc := { waiting := [⟨1, 5, 3, [3], 0⟩] } }
    let m : State := met t s
    meets t s m
    ∧ stcRuns m = true
    ∧ ((m.stc.waiting.find? fun r => r.win == w) = some r)
    ∧ r.code = 3 := by
  simp only [meets, meetsBy, meetsFrom, opensAt, opensTo, opens, takesTriggers, takes_iff, inSession_iff] <;> decide +kernel

theorem wit_siteControllerCommandsComplete_22_moduleRead :
    let t : Nat := 0
    let w : Nat := 1
    let r : StcReq := ⟨1, 5, 4, [80, 0, 7], 0⟩
    let s : State := { (State.reset |> wr SYS.STC_STATE 2) with stc := { waiting := [⟨1, 5, 4, [80, 0, 7], 0⟩] } }
    let m : State := met t s
    meets t s m
    ∧ stcRuns m = true
    ∧ ((m.stc.waiting.find? fun r => r.win == w) = some r)
    ∧ r.code = 4
    ∧ 1 ≤ r.data.getD 2 0
    ∧ r.data.getD 2 0 ≤ 7
    ∧ rd m TWIC.TWC_BUSY ≠ 1 := by
  simp only [meets, meetsBy, meetsFrom, opensAt, opensTo, opens, takesTriggers, takes_iff, inSession_iff] <;> decide +kernel

theorem wit_siteControllerCommandsComplete_22_moduleWrite :
    let t : Nat := 0
    let w : Nat := 1
    let r : StcReq := ⟨1, 5, 5, [80, 0, 7, 1, 2, 3, 4, 5, 6, 7], 0⟩
    let s : State := { (State.reset |> wr SYS.STC_STATE 2) with stc := { waiting := [⟨1, 5, 5, [80, 0, 7, 1, 2, 3, 4, 5, 6, 7], 0⟩] } }
    let m : State := met t s
    meets t s m
    ∧ stcRuns m = true
    ∧ ((m.stc.waiting.find? fun r => r.win == w) = some r)
    ∧ r.code = 5
    ∧ 1 ≤ r.data.getD 2 0
    ∧ r.data.getD 2 0 ≤ 7
    ∧ rd m TWIC.TWC_BUSY ≠ 1 := by
  simp only [meets, meetsBy, meetsFrom, opensAt, opensTo, opens, takesTriggers, takes_iff, inSession_iff] <;> decide +kernel

theorem wit_siteControllerCommandsComplete_22_pmReport :
    let t : Nat := 0
    let w : Nat := 1
    let r : StcReq := ⟨1, 5, 6, [2], 0⟩
    let s : State := { (State.reset |> wr SYS.STC_STATE 2) with stc := { waiting := [⟨1, 5, 6, [2], 0⟩] } }
    let m : State := met t s
    meets t s m
    ∧ stcRuns m = true
    ∧ ((m.stc.waiting.find? fun r => r.win == w) = some r)
    ∧ r.code = 6
    ∧ r.data.getD 0 0 ≤ 2 := by
  simp only [meets, meetsBy, meetsFrom, opensAt, opensTo, opens, takesTriggers, takes_iff, inSession_iff] <;> decide +kernel

theorem wit_siteControllerCommandsComplete_22_oamSend :
    let t : Nat := 0
    let w : Nat := 1
    let r : StcReq := ⟨1, 5, 7, [0], 0⟩
    let s : State := { (State.reset |> wr SYS.STC_STATE 2) with stc := { waiting := [⟨1, 5, 7, [0], 0⟩] } }
    let m : State := met t s
    meets t s m
    ∧ stcRuns m = true
    ∧ ((m.stc.waiting.find? fun r => r.win == w) = some r)
    ∧ r.code = 7 := by
  simp only [meets, meetsBy, meetsFrom, opensAt, opensTo, opens, takesTriggers, takes_iff, inSession_iff] <;> decide +kernel

theorem wit_siteControllerCommandsComplete_22_imageBegin :
    let t : Nat := 0
    let w : Nat := 1
    let r : StcReq := ⟨1, 5, 9, [0], 0⟩
    let s : State := { (State.reset |> wr SYS.STC_STATE 2) with stc := { waiting := [⟨1, 5, 9, [0], 0⟩] } }
    let m : State := met t s
    meets t s m
    ∧ stcRuns m = true
    ∧ ((m.stc.waiting.find? fun r => r.win == w) = some r)
    ∧ r.code = 9 := by
  simp only [meets, meetsBy, meetsFrom, opensAt, opensTo, opens, takesTriggers, takes_iff, inSession_iff] <;> decide +kernel

theorem wit_siteControllerCommandsComplete_22_imageData :
    let t : Nat := 0
    let w : Nat := 1
    let r : StcReq := ⟨1, 5, 10, [0], 0⟩
    let s : State := { (State.reset |> wr SYS.STC_STATE 2) with stc := { waiting := [⟨1, 5, 10, [0], 0⟩] } }
    let m : State := met t s
    meets t s m
    ∧ stcRuns m = true
    ∧ ((m.stc.waiting.find? fun r => r.win == w) = some r)
    ∧ r.code = 10 := by
  simp only [meets, meetsBy, meetsFrom, opensAt, opensTo, opens, takesTriggers, takes_iff, inSession_iff] <;> decide +kernel

theorem wit_siteControllerCommandsComplete_22_imageCommit :
    let t : Nat := 0
    let w : Nat := 1
    let r : StcReq := ⟨1, 5, 11, [0], 0⟩
    let s : State := { (State.reset |> wr SYS.STC_STATE 2) with stc := { waiting := [⟨1, 5, 11, [0], 0⟩] } }
    let m : State := met t s
    meets t s m
    ∧ stcRuns m = true
    ∧ ((m.stc.waiting.find? fun r => r.win == w) = some r)
    ∧ r.code = 11 := by
  simp only [meets, meetsBy, meetsFrom, opensAt, opensTo, opens, takesTriggers, takes_iff, inSession_iff] <;> decide +kernel

theorem wit_siteControllerCommandsComplete_22_activationEnable :
    let t : Nat := 0
    let w : Nat := 1
    let r : StcReq := ⟨1, 5, 12, [1], 0⟩
    let s : State := { (State.reset |> wr SYS.STC_STATE 2) with stc := { waiting := [⟨1, 5, 12, [1], 0⟩] } }
    let m : State := met t s
    meets t s m
    ∧ stcRuns m = true
    ∧ ((m.stc.waiting.find? fun r => r.win == w) = some r)
    ∧ r.code = 12
    ∧ r.data.getD 0 0 = 1
    ∧ lockedOut m .stc 0x0D = false := by
  simp only [meets, meetsBy, meetsFrom, opensAt, opensTo, opens, takesTriggers, takes_iff, inSession_iff] <;> decide +kernel

theorem wit_siteControllerCommandsComplete_22_activationDisable :
    let t : Nat := 0
    let w : Nat := 1
    let r : StcReq := ⟨1, 5, 12, [2], 0⟩
    let s : State := { (State.reset |> wr SYS.STC_STATE 2) with stc := { waiting := [⟨1, 5, 12, [2], 0⟩] } }
    let m : State := met t s
    meets t s m
    ∧ stcRuns m = true
    ∧ ((m.stc.waiting.find? fun r => r.win == w) = some r)
    ∧ r.code = 12
    ∧ r.data.getD 0 0 = 2
    ∧ lockedOut m .stc 0x0D = false := by
  simp only [meets, meetsBy, meetsFrom, opensAt, opensTo, opens, takesTriggers, takes_iff, inSession_iff] <;> decide +kernel

theorem wit_siteControllerCommandsComplete_22_activationRejoin :
    let t : Nat := 0
    let w : Nat := 1
    let r : StcReq := ⟨1, 5, 12, [3], 0⟩
    let s : State := { (State.reset |> wr SYS.STC_STATE 2) with stc := { waiting := [⟨1, 5, 12, [3], 0⟩] } }
    let m : State := met t s
    meets t s m
    ∧ stcRuns m = true
    ∧ ((m.stc.waiting.find? fun r => r.win == w) = some r)
    ∧ r.code = 12
    ∧ r.data.getD 0 0 = 3 := by
  simp only [meets, meetsBy, meetsFrom, opensAt, opensTo, opens, takesTriggers, takes_iff, inSession_iff] <;> decide +kernel

theorem wit_siteControllerCommandsComplete_22_recordForward :
    let t : Nat := 0
    let w : Nat := 1
    let r : StcReq := ⟨1, 5, 13, [1], 0⟩
    let s : State := { (State.reset |> wr SYS.STC_STATE 2) with stc := { waiting := [⟨1, 5, 13, [1], 0⟩] } }
    let m : State := met t s
    meets t s m
    ∧ stcRuns m = true
    ∧ ((m.stc.waiting.find? fun r => r.win == w) = some r)
    ∧ r.code = 13
    ∧ r.data.getD 0 0 ≤ 1 := by
  simp only [meets, meetsBy, meetsFrom, opensAt, opensTo, opens, takesTriggers, takes_iff, inSession_iff] <;> decide +kernel

end Sys2Proof.Tests
end

section
/-! PROOFS. Absent pages (R6 to R8): what a step leaves of the SYS page and the fuses, where R84 keeps the record of a refusal, and the record
that a write to an absent page leaves. -/
namespace Sys2Proof.Machine

/-! ## What leaves the SYS page and the fuses -/

/-- The fuses and every field of page 0 stand as before. -/
structure SysKept (s u : State) : Prop where
  fuse : u.fuse = s.fuse
  rd : ∀ f : Fld, f.key < 131072 → Machine.rd u f = Machine.rd s f

theorem SysKept.refl (s : State) : SysKept s s := ⟨rfl, fun _ _ => rfl⟩

theorem SysKept.trans {s u v : State} (h : SysKept s u) (g : SysKept u v) : SysKept s v :=
  ⟨g.fuse.trans h.fuse, fun f hf => (g.rd f hf).trans (h.rd f hf)⟩

/-- A change outside the register file and the fuses. -/
theorem sysKept_of_regs {s u : State} (hr : u.regs = s.regs) (hf : u.fuse = s.fuse) : SysKept s u :=
  ⟨hf, fun f _ => rd_congr hr f⟩

/-- A change outside the register file and the fuses follows. -/
theorem SysKept.regs {s u v : State} (h : SysKept s u) (hr : v.regs = u.regs) (hf : v.fuse = u.fuse) : SysKept s v :=
  h.trans (sysKept_of_regs hr hf)

/-- A write behind page 0 follows. -/
theorem SysKept.wr {s u : State} (h : SysKept s u) {f : Fld} (hf : 131072 ≤ f.key) (v : Nat) : SysKept s (wr f v u) :=
  h.trans ⟨rfl, fun g hg => rd_wr_ne v u (by omega)⟩

/-- An event behind page 0 follows. -/
theorem SysKept.event {s u : State} (h : SysKept s u) {f : Fld} (hf : 131072 ≤ f.key) (m : Nat) : SysKept s (event f m u) :=
  (h.regs (v := { u with fab := { u.fab with setNow := aset u.fab.setNow f.key (setNow u f ||| m) } }) rfl rfl).wr hf _

/-- A conditional step keeps what its step keeps. -/
theorem sysKept_when {c : Bool} {f : State → State} (h : ∀ u, SysKept u (f u)) (s : State) : SysKept s (when c f s) := by
  cases c
  · exact .refl s
  · exact h s

/-- A loop keeps what each of its rounds keeps. -/
theorem sysKept_forEach {α : Type} {f : α → State → State} (h : ∀ a u, SysKept u (f a u)) (l : List α) (s : State) :
    SysKept s (forEach l f s) := by
  induction l generalizing s with
  | nil => exact .refl s
  | cons a r ih => exact (h a s).trans (ih (f a s))

/-! ## What a comer meets -/

theorem sysKept_advanceTo (t : Nat) (s : State) : SysKept s (advanceTo t s) :=
  ⟨advanceTo_fuse t s, fun _ hf => rd_advanceTo (by omega) t s⟩

theorem sysKept_releaseCls (c : Option (Nat × Nat)) (s : State) : SysKept s (releaseCls c s) := by
  cases c with
  | none => exact .refl s
  | some x =>
    unfold releaseCls
    simp only []
    split <;> exact sysKept_of_regs rfl rfl

theorem sysKept_rowReady (cell : Nat) (s : State) : SysKept s (rowReady cell s) := sysKept_of_regs rfl rfl

theorem sysKept_resetIdle (q : Nat) (s : State) : SysKept s (resetIdle q s) := sysKept_of_regs rfl rfl

theorem sysKept_freeFrame (staged : Bool) (f : QFrame) (s : State) : SysKept s (freeFrame staged f s) := by
  unfold freeFrame
  refine .trans (.trans ?_ (sysKept_releaseCls f.cls _)) (sysKept_forEach sysKept_rowReady f.bad _)
  exact sysKept_of_regs rfl rfl

/-- The counters of a frame that leaves stand in FRMU and TMGR. -/
theorem sysKept_frameLeaves (port queue : Nat) (staged : Bool) (f : QFrame) (s : State) :
    SysKept s (frameLeaves port queue staged f s) := by
  have hout : 131072 ≤ (TMGR.FRAMES_OUT port).key := by simp only [TMGR.FRAMES_OUT, Fld.key]; omega
  have hbytes : 131072 ≤ (TMGR.BYTES_OUT port).key := by simp only [TMGR.BYTES_OUT, Fld.key]; omega
  refine SysKept.trans (((SysKept.trans ?_ (sysKept_when (fun u => ?_) _)).wr hout _).wr hbytes _) (sysKept_freeFrame staged f _)
  · exact sysKept_of_regs rfl rfl
  · exact (SysKept.refl u).wr (by decide) _

theorem sysKept_idleQueues (l : List (Nat × Nat × SFrame)) (s : State) :
    SysKept s (forEach l (fun x s => resetIdle x.2.2.queue s) s) := by
  apply sysKept_forEach
  exact fun x u => sysKept_resetIdle x.2.2.queue u

theorem sysKept_framesLeave (l : List (Nat × Nat × SFrame)) (s : State) :
    SysKept s (forEach l (fun x s => frameLeaves x.2.1 x.2.2.queue true x.2.2.frame s) s) := by
  apply sysKept_forEach
  exact fun x u => sysKept_frameLeaves x.2.1 x.2.2.queue true x.2.2.frame u

/-- The part of a burst that is out is counted in FRMU and TMGR. -/
theorem sysKept_catchUp (s : State) : SysKept s (catchUp s) := by
  unfold catchUp
  extract_lets out left _ kept idle
  have hleft : SysKept s left := sysKept_framesLeave out s
  have hkept : SysKept left kept := sysKept_of_regs rfl rfl
  have hidle : SysKept kept idle := sysKept_idleQueues out kept
  have hall : SysKept s idle := (hleft.trans hkept).trans hidle
  split
  · exact .refl s
  · split
    · exact hall
    · exact (hall.wr (f := FRMU.CW_SENT) (by decide) _).regs rfl rfl

theorem sysKept_metBy (c : Comer) (t : Nat) (s : State) : SysKept s (metBy c t s) :=
  ((sysKept_advanceTo (serveAt t c s) s).trans (sysKept_catchUp _)).regs rfl rfl

/-! ## The LGC's write between the two halves of an 8-byte write (R71) -/

/-- A refused write of the LGC is not recorded; an accepted one keeps what its effect keeps. -/
theorem sysKept_writerCmd_lgc {page off : Nat} {codeF : Option Fld} {busy sealed : Bool} {checks : List (Bool × Code)}
    {act : State → State} (hc : ∀ f ∈ codeF, 131072 ≤ f.key) (ha : ∀ u, SysKept u (act u)) (s : State) :
    SysKept s (writerCmd .lgc page off codeF busy sealed checks act s) := by
  have keeps : ∀ (b : Bool) (u : State), SysKept s u → SysKept s (if b then u else act u) := by
    intro b u h
    cases b
    · exact h.trans (ha u)
    · exact h
  cases codeF with
  | none => exact keeps _ _ (.refl s)
  | some f => exact keeps _ _ ((SysKept.refl s).wr (hc f rfl) _)

theorem AFE.PIN_key (n : Nat) : 131072 ≤ (AFE.LEGAL_LOCK n).key ∧ 131072 ≤ (AFE.OPEN_PULL n).key ∧ 131072 ≤ (AFE.PIN_ROLE n).key
    ∧ 131072 ≤ (AFE.PIN_OWNER n).key := by
  simp only [AFE.LEGAL_LOCK, AFE.OPEN_PULL, AFE.PIN_ROLE, AFE.PIN_OWNER, Fld.key]; omega

theorem sysKept_pinCfg (n v : Nat) (s : State) : SysKept s (pinCfg .lgc n v s) := by
  obtain ⟨hlock, hpull, hrole, howner⟩ := AFE.PIN_key n
  unfold pinCfg
  refine sysKept_writerCmd_lgc (codeF := none) (by simp) (fun u => ?_) s
  have h := ((((SysKept.refl u).wr hlock (bits v 31 31)).wr hpull (bits v 30 30)).wr hrole (bits v 11 8)).wr howner (bits v 4 0)
  simp only []
  split
  · exact h.regs rfl rfl
  · exact h

theorem AFE.EXC_key (k : Nat) : 131072 ≤ (AFE.EXC_EN k).key ∧ 131072 ≤ (AFE.EXC_REVERSE k).key ∧ 131072 ≤ (AFE.REV_PERIOD k).key
    ∧ 131072 ≤ (AFE.EXC_SENSE k).key ∧ 131072 ≤ (AFE.ILIM k).key ∧ 131072 ≤ (AFE.EXC_STATE k).key ∧ 131072 ≤ (AFE.REVERSED k).key := by
  simp only [AFE.EXC_EN, AFE.EXC_REVERSE, AFE.REV_PERIOD, AFE.EXC_SENSE, AFE.ILIM, AFE.EXC_STATE, AFE.REVERSED, Fld.key]; omega

theorem sysKept_modPair (k : Nat) (f : PairU → PairU) (s : State) : SysKept s (modPair k f s) := sysKept_of_regs rfl rfl

theorem sysKept_revInstant (k : Nat) (s : State) : SysKept s (revInstant k s) := sysKept_of_regs rfl rfl

theorem sysKept_excApply (k en rev : Nat) (s : State) : SysKept s (excApply k en rev s) := by
  obtain ⟨hen, hrev, -, -, -, hstate, hdone⟩ := AFE.EXC_key k
  have h := (SysKept.refl s).wr hrev rev
  unfold excApply
  simp only []
  split
  · exact (((h.wr hen 0).wr hstate 0).wr hdone 0).trans (sysKept_modPair k _ _)
  · split
    · exact (((h.wr hen 1).wr hstate _).wr hdone 0).trans (sysKept_modPair k _ _)
    · refine .trans (h.trans (sysKept_when (fun u => ?_) _)) (sysKept_when (fun u => sysKept_modPair k _ u) _)
      exact ((SysKept.refl u).wr hdone 0).trans (sysKept_revInstant k _)

theorem sysKept_excCfg (k v : Nat) (s : State) : SysKept s (excCfg .lgc k v s) := by
  obtain ⟨-, -, hper, hsense, hilim, -, -⟩ := AFE.EXC_key k
  unfold excCfg
  refine sysKept_writerCmd_lgc (codeF := none) (by simp) (fun u => ?_) s
  exact ((((SysKept.refl u).wr hper _).wr hsense _).wr hilim _).trans (sysKept_excApply k _ _ _)

theorem sysKept_modTally (u : Nat) (f : TrigTally → TrigTally) (s : State) : SysKept s (modTally u f s) := sysKept_of_regs rfl rfl

theorem sysKept_openWindow (g w0 w1 : Nat) (s : State) : SysKept s (openWindow g w0 w1 s) := by
  unfold openWindow
  refine .wr (f := AFE.BLANK_OPEN) (sysKept_of_regs ?_ ?_) (by decide) _ <;> rfl

/-- A window that opens is counted in AFE. -/
theorem sysKept_countedWindow (g w0 w1 : Nat) (s : State) : SysKept s (inc AFE.WINDOWS (openWindow g w0 w1 s)) :=
  .wr (f := AFE.WINDOWS) (sysKept_openWindow g w0 w1 s) (by decide) _

theorem sysKept_retire (groups w0 w1 : Nat) (s : State) : SysKept s (retire groups w0 w1 s) := sysKept_of_regs rfl rfl

theorem sysKept_blankWindow (g t n : Nat) (s : State) : SysKept s (blankWindow g t n s) := by
  unfold blankWindow
  split
  · exact (sysKept_countedWindow _ _ _ s).trans (sysKept_modTally _ _ _)
  · split
    · exact (sysKept_openWindow _ _ _ s).trans (sysKept_modTally _ _ _)
    · split
      · exact sysKept_modTally _ _ s
      · exact ((sysKept_retire _ _ _ s).trans (sysKept_countedWindow _ _ _ _)).trans (sysKept_modTally _ _ _)

theorem sysKept_arrive {act : State → State} (ha : ∀ u, SysKept u (act u)) (src : TrigSrc) (u : Nat) (s : State) :
    SysKept s (arrive src u act s) := by
  have counted : SysKept s (countSrc src u s) := sysKept_modTally _ _ s
  have ends : ∀ (b : Bool) (v : State), SysKept s v → SysKept s (if b then trigRefuse u v else act v) := by
    intro b v h
    cases b
    · exact h.trans (ha v)
    · exact h.trans (v := trigRefuse u v) (sysKept_modTally _ _ v)
  unfold arrive
  refine ends _ _ ?_
  split
  · exact counted.regs rfl rfl
  · exact counted

theorem sysKept_afeCmd (v : Nat) (s : State) : SysKept s (afeCmd .lgc v s) := by
  unfold afeCmd
  simp only []
  split
  · exact .refl s
  · refine sysKept_writerCmd_lgc (codeF := some AFE.CMD_CODE) (by simp [AFE.CMD_CODE, Fld.key]) (fun u => ?_) s
    have begun : SysKept u (startCmd 0x30140 4 u) := sysKept_of_regs rfl rfl
    exact (begun.event (f := HDR.CAUSE 0x30) (by decide) _).trans (sysKept_arrive (sysKept_blankWindow _ _ _) _ _ _)

theorem sysKept_swapCmd (v : Nat) (state : Bool) {act : State → State} (ha : ∀ u, SysKept u (act u)) (s : State) :
    SysKept s (swapCmd .lgc v state act s) := by
  unfold swapCmd
  exact sysKept_writerCmd_lgc (codeF := some AFE.SWAP_CODE) (by simp [AFE.SWAP_CODE, Fld.key]) ha s

/-- The settings of a shadow stand in AFE and in the page of its slice. -/
theorem shadow_key (x : Nat) : 131072 ≤ (AFE.SLICE_SHADOW x).key ∧ 131072 ≤ (SLICE.SETTLED x).key := by
  simp only [AFE.SLICE_SHADOW, SLICE.SETTLED, Fld.key]; omega

theorem sysKept_startShadow (x a : Nat) (s : State) : SysKept s (startShadow x a s) := by
  obtain ⟨hshadow, hsettled⟩ := shadow_key x
  exact (((SysKept.refl s).wr hshadow a).wr hsettled 0).regs rfl rfl

theorem sysKept_endShadow (x : Nat) (s : State) : SysKept s (endShadow x s) := by
  obtain ⟨hshadow, hsettled⟩ := shadow_key x
  exact ((SysKept.refl s).wr hshadow 31).wr hsettled 0

theorem sysKept_lgcWrite (w : LgcWrite) (s : State) : SysKept s (lgcWrite w s) := by
  cases w with
  | pinCfg pin v =>
    by_cases h : pin < 32
    · simpa [lgcWrite, h] using sysKept_pinCfg pin v s
    · simpa [lgcWrite, h] using SysKept.refl s
  | excCfg pair v =>
    by_cases h : pair < 8
    · simpa [lgcWrite, h] using sysKept_excCfg pair v s
    · simpa [lgcWrite, h] using SysKept.refl s
  | afe v => exact sysKept_afeCmd v s
  | shadow x a => exact sysKept_swapCmd _ _ (sysKept_startShadow x a) s
  | release x => exact sysKept_swapCmd _ _ (sysKept_endShadow x) s
  | takeover x a result =>
    refine sysKept_swapCmd _ _ (act := fun s => { s with afe := { s.afe with takeover := some (x, a, result, s.time.sc) } }) (fun u => ?_) s
    exact sysKept_of_regs rfl rfl

theorem sysKept_secondFirst (x : Outside) (s : State) : SysKept s (secondFirst x s) := by
  unfold secondFirst
  split
  · exact sysKept_lgcWrite _ s
  · exact .refl s

/-! ## The record of a refusal of an absent page (R7, R84) -/

/-- SYS holds the record of the refusal of a write to an absent page, and REFUSAL_COUNT shows n. -/
structure AbsentRecorded (page off n : Nat) (u : State) : Prop where
  code : rd u (HDR.REF_CODE 0) = 5
  off : rd u (HDR.REF_OFF 0) = off
  page : rd u SYS.LAST_REFUSAL_PAGE = page
  flag : rd u SYS.REFUSED = 1
  count : rd u SYS.REFUSAL_COUNT = n % 2 ^ 32

/-- The record stands while page 0 stands. -/
theorem AbsentRecorded.kept {page off n : Nat} {u v : State} (h : AbsentRecorded page off n u) (k : SysKept u v) :
    AbsentRecorded page off n v :=
  ⟨(k.rd _ (by decide)).trans h.code, (k.rd _ (by decide)).trans h.off, (k.rd _ (by decide)).trans h.page,
    (k.rd _ (by decide)).trans h.flag, (k.rd _ (by decide)).trans h.count⟩

theorem rd_event_same (f : Fld) (m : Nat) (s : State) : rd (event f m s) f = (rd s f ||| m) % 2 ^ f.w := rd_wr_same ..

theorem rd_event_ne {f g : Fld} (m : Nat) (s : State) (h : g.key ≠ f.key) : rd (event f m s) g = rd s g :=
  rd_wr_ne (s := { s with fab := { s.fab with setNow := aset s.fab.setNow f.key (setNow s f ||| m) } }) _ h

theorem pagePresent_of_absent {s : State} {page : Nat} (h : Variant.pageAbsent s.fuse.variant page = true) :
    pagePresent s page = false := by
  simp [pagePresent, h]

/-- An absent page's refusal stands in REFUSAL of SYS. -/
theorem refuse_absentRecorded (p : Port) {page off : Nat} {s : State} (h : Variant.pageAbsent s.fuse.variant page = true)
    (hp : page < 256) (ho : off < 4096) : AbsentRecorded page off (rd s SYS.REFUSAL_COUNT + 1) (refuse p page off .absent s) := by
  simp only [refuse, pagePresent_of_absent h, Bool.false_eq_true, if_false]
  constructor
  case flag => rw [rd_event_same]; simp [SYS.REFUSED, Nat.or_mod_two_eq_one]
  all_goals
    rw [rd_event_ne _ _ (by decide)]
    repeat rw [rd_wr_ne _ _ (by decide)]
    rw [rd_wr_same]
  case count | code => rfl
  case off => exact Nat.mod_eq_of_lt ho
  case page => exact Nat.mod_eq_of_lt hp

/-! ## Writes to an absent page -/

/-- A field behind page 0, or the fields of a further choice. -/
theorem behind_ite {c : Prop} [Decidable c] {f : Fld} {o : Option Fld} (hf : 131072 ≤ f.key) (ho : ∀ g ∈ o, 131072 ≤ g.key) :
    ∀ g ∈ (if c then some f else o), 131072 ≤ g.key := by
  by_cases hc : c
  · simpa [hc] using hf
  · simpa [hc] using ho

/-- The status CODE of a command register stands behind page 0. -/
theorem codeField_key (p : Port) (page off : Nat) : ∀ f ∈ codeField p page off, 131072 ≤ f.key := by
  have halm : 131072 ≤ (ALM.W_CODE p.window).key := by simp only [ALM.W_CODE, Fld.key]; omega
  have hcls : 131072 ≤ (CLSW.W_CODE p.window).key := by simp only [CLSW.W_CODE, Fld.key]; omega
  have hset : 131072 ≤ (WGH.SET_CODE ((off - 0x100) / 256)).key := by simp only [WGH.SET_CODE, Fld.key]; omega
  have hwch : 131072 ≤ (WCH.CMD_CODE (page - 0x49)).key := by simp only [WCH.CMD_CODE, Fld.key]; omega
  unfold codeField
  refine behind_ite halm <| behind_ite ?_ <| behind_ite ?_ <| behind_ite ?_ <| behind_ite hcls <| behind_ite ?_ <| behind_ite ?_ <|
    behind_ite ?_ <| behind_ite hset <| behind_ite hwch <| behind_ite ?_ <| behind_ite ?_ <| behind_ite ?_ <| behind_ite ?_ <|
    behind_ite ?_ (by simp) <;> decide

/-- Behind the record, a refused write writes the status CODE alone. -/
theorem sysKept_refuseAt (p : Port) (page off w : Nat) (c : Code) (s : State) :
    SysKept (refuse p page off c s) (refuseAt p page off w c s) := by
  unfold refuseAt
  simp only []
  split
  case h_1 f h => exact (SysKept.refl _).wr (codeField_key p page w f h) _
  case h_2 => exact .refl _

theorem refuseWrite_eq_refuseAt (p : Port) (page off : Nat) (c : Code) (s : State) :
    refuseWrite p page off c s = refuseAt p page off off c s := rfl

/-- A refused write leaves the fuses. -/
theorem refuseAt_fuse (p : Port) (page off w : Nat) (c : Code) (s : State) : (refuseAt p page off w c s).fuse = s.fuse :=
  (sysKept_refuseAt p page off w c s).fuse.trans (refuse_fuse ..)

/-- An aligned 8-byte write of PCIe is its two 32-bit writes, a cycle apart (R71). -/
theorem writeAny_eight {addr : Nat} (ha : addr % 8 = 0) (v : Nat) (x : Outside) (s : State) :
    writeAny .pcie addr 8 v x s =
      fabricWrite .pcie (addr / 4096) (addr % 4096 + 4) (v / 2 ^ 32 % 2 ^ 32) x
        (secondFirst x (metBy (.writer (.fabric .pcie)) ((fabricWrite .pcie (addr / 4096) (addr % 4096) (v % 2 ^ 32) x s).time.cycle + 1)
          (fabricWrite .pcie (addr / 4096) (addr % 4096) (v % 2 ^ 32) x s))) := by
  unfold writeAny
  rw [if_neg (by omega), if_pos ⟨rfl, ha, rfl⟩]

section
variable {p : Port} {page : Nat} {s : State} (h : Variant.pageAbsent s.fuse.variant page = true)
include h

theorem refuseAt_absentRecorded {off : Nat} (w : Nat) (hp : page < 256) (ho : off < 4096) :
    AbsentRecorded page off (rd s SYS.REFUSAL_COUNT + 1) (refuseAt p page off w .absent s) :=
  (refuse_absentRecorded p h hp ho).kept (sysKept_refuseAt p page off w .absent s)

/-- The page check stands first in the order of R85. -/
theorem firstFail_gate_absent (off : Nat) : firstFail (gate s p page off) = some .absent := by
  simp [gate, firstFail, h]

theorem namedWrite_absent (off : Nat) (act : State → State) : namedWrite p page off act s = refuseWrite p page off .absent s := by
  simp [namedWrite, firstFail_gate_absent h]

theorem fabricCmd_absent (off : Nat) (codeF : Option Fld) (checks : List (Bool × Code)) (act : State → State) :
    fabricCmd p page off codeF checks act s = refusedAs p page off codeF .absent s := by
  cases codeF <;> simp [fabricCmd, pageChecks, firstFail, h, refusedAs]

/-- A 32-bit write to an absent page is refused with ABSENT; a held LO may be dropped before. -/
theorem fabricWrite_absent (off v : Nat) (x : Outside) : ∃ u, u.regs = s.regs ∧ u.fuse = s.fuse ∧
    fabricWrite p page off v x s = refuseWrite p page off .absent u := by
  simp only [fabricWrite, firstFail_gate_absent h]
  split
  · exact ⟨dropLo p (page * 0x1000 + off - 4) s, rfl, rfl, rfl⟩
  · exact ⟨s, rfl, rfl, rfl⟩

/-- So is a write of a size or alignment that R71 does not allow: ABSENT stands before WIDTH. -/
theorem badWidth_absent (off : Nat) : ∃ u w, u.regs = s.regs ∧ u.fuse = s.fuse ∧
    badWidth p page off s = refuseAt p page off w .absent u := by
  unfold badWidth
  extract_lets w u
  obtain ⟨hregs, hfuse⟩ : u.regs = s.regs ∧ u.fuse = s.fuse := by
    simp only [u]
    split <;> exact ⟨rfl, rfl⟩
  refine ⟨u, w, hregs, hfuse, ?_⟩
  simp [firstFail, hfuse, h]

theorem fabricWrite_absentRecorded {off : Nat} (hp : page < 256) (ho : off < 4096) (v : Nat) (x : Outside) :
    AbsentRecorded page off (rd s SYS.REFUSAL_COUNT + 1) (fabricWrite p page off v x s) := by
  obtain ⟨u, hregs, hfuse, hw⟩ := fabricWrite_absent (p := p) h off v x
  rw [hw, refuseWrite_eq_refuseAt, ← rd_congr hregs]
  exact refuseAt_absentRecorded (by rw [hfuse]; exact h) off hp ho

theorem fabricWrite_absent_fuse (off v : Nat) (x : Outside) : (fabricWrite p page off v x s).fuse = s.fuse := by
  obtain ⟨u, -, hfuse, hw⟩ := fabricWrite_absent (p := p) h off v x
  rw [hw, refuseWrite_eq_refuseAt, refuseAt_fuse, hfuse]

/-- One more write to the page, at another offset, leaves the record of its own refusal, counted behind the one that stood. -/
theorem AbsentRecorded.again {off off' n : Nat} {u : State} (r : AbsentRecorded page off n s) (k : SysKept s u) (hp : page < 256)
    (ho : off' < 4096) (v : Nat) (x : Outside) : AbsentRecorded page off' (n + 1) (fabricWrite p page off' v x u) := by
  obtain ⟨code, offset, last, flag, count⟩ := fabricWrite_absentRecorded (p := p) (s := u) (by rw [k.fuse]; exact h) hp ho v x
  rw [k.rd _ (by decide), r.count, Nat.mod_add_mod] at count
  exact ⟨code, offset, last, flag, count⟩

theorem badWidth_absentRecorded {off : Nat} (hp : page < 256) (ho : off < 4096) :
    AbsentRecorded page off (rd s SYS.REFUSAL_COUNT + 1) (badWidth p page off s) := by
  obtain ⟨u, w, hregs, hfuse, hw⟩ := badWidth_absent (p := p) h off
  rw [hw, ← rd_congr hregs]
  exact refuseAt_absentRecorded (by rw [hfuse]; exact h) w hp ho

/-- An aligned 8-byte write of PCIe is refused twice, its second half a cycle later (R71). -/
theorem writeAny_absent_eight {off : Nat} (hp : page < 256) (ho : off < 4096) (ha : (page * 0x1000 + off) % 8 = 0) (v : Nat)
    (x : Outside) : AbsentRecorded page (off + 4) (rd s SYS.REFUSAL_COUNT + 2) (writeAny .pcie (page * 0x1000 + off) 8 v x s) := by
  have hpage : (page * 0x1000 + off) / 4096 = page := by omega
  have hoff : (page * 0x1000 + off) % 4096 = off := by omega
  rw [writeAny_eight ha, hpage, hoff]
  generalize hfirst : fabricWrite .pcie page off (v % 2 ^ 32) x s = first
  have recorded : AbsentRecorded page off (rd s SYS.REFUSAL_COUNT + 1) first := hfirst ▸ fabricWrite_absentRecorded h hp ho _ x
  have absent : Variant.pageAbsent first.fuse.variant page = true := by rw [← hfirst, fabricWrite_absent_fuse h]; exact h
  exact AbsentRecorded.again absent recorded ((sysKept_metBy _ _ first).trans (sysKept_secondFirst x _)) hp (by omega) _ x

/-- Every other write is refused once. -/
theorem writeAny_absent_once {off size : Nat} (hp : page < 256) (ho : off < 4096)
    (h8 : ¬ (size = 8 ∧ (page * 0x1000 + off) % 8 = 0 ∧ p = .pcie)) (v : Nat) (x : Outside) :
    AbsentRecorded page off (rd s SYS.REFUSAL_COUNT + 1) (writeAny p (page * 0x1000 + off) size v x s) := by
  have hpage : (page * 0x1000 + off) / 4096 = page := by omega
  have hoff : (page * 0x1000 + off) % 4096 = off := by omega
  simp only [writeAny, hpage, hoff, if_neg h8]
  split
  · exact fabricWrite_absentRecorded h hp ho _ x
  · exact badWidth_absentRecorded h hp ho

/-! ## Reads of an absent page -/

/-- Only PAGE_ID of an absent page reads as other than 0 (R6). -/
theorem readWord_absent (off : Nat) : readWord s page off = if off = 0 then 0xDEAD0000 + page else 0 := by
  simp [readWord, h]

theorem readAct_absent (p : Port) (off : Nat) : readAct p page off s = s := by
  simp [readAct, pagePresent_of_absent h]

end

/-- REGISTER_WRITE writes on the state that its port meets. -/
theorem registerWrite_of_meets {t : Nat} {p : Port} {s m : State} (h : meetsFrom p t s m) {addr : Nat} (ha : addr < 2 ^ 20)
    (size v : Nat) (x : Outside) : exec (.registerWrite t p addr size v x) s = .next (writeAny p addr size v x m) :=
  calc exec (.registerWrite t p addr size v x) s
    _ = evPort p t s (writeAny p (addr % 2 ^ 20) size v x) := rfl
    _ = .next (writeAny p (addr % 2 ^ 20) size v x m) := evBy_of_meets h _
    _ = .next (writeAny p addr size v x m) := by rw [Nat.mod_eq_of_lt ha]

/-- Settles O5: each write meets the page check of R85 first, and what passes between the two halves of an 8-byte write leaves the SYS
page, where the record of the first half stands. -/
theorem absentPagesReadAndRefuse : Obligations.AbsentPagesReadAndRefuse := by
  refine ⟨?read, ?write, ?named, ?command, ?record, by decide⟩
  case read =>
    intro p page off s h unlatched
    exact ⟨by rw [readBy, unlatched]; exact readWord_absent h off, readAct_absent h p off⟩
  case write =>
    intro t page off size v p x s m hm hp ho h
    refine ⟨_, registerWrite_of_meets hm (by omega) size v x, ?_⟩
    by_cases h8 : size = 8 ∧ (page * 0x1000 + off) % 8 = 0 ∧ p = .pcie
    · obtain ⟨rfl, ha, rfl⟩ := id h8
      obtain ⟨code, offset, last, flag, count⟩ := writeAny_absent_eight h hp ho ha v x
      exact ⟨code, last, flag, fun _ => ⟨count, offset⟩, fun hn => absurd h8 hn⟩
    · obtain ⟨code, offset, last, flag, count⟩ := writeAny_absent_once h hp ho h8 v x
      exact ⟨code, last, flag, fun hn => absurd hn h8, fun _ => ⟨count, offset⟩⟩
  case named => exact fun p page off act s h => namedWrite_absent h off act
  case command => exact fun p page off codeF checks act s h => fabricCmd_absent h off codeF checks act
  case record =>
    intro p page off s h hp ho
    obtain ⟨code, offset, -, -, count⟩ := refuse_absentRecorded p h hp ho
    exact ⟨code, offset, count⟩

end Sys2Proof.Machine
end

section
/-! PROOFS. The commit cycle (R15 to R17, R75, R77): when it is due, and what the TK writes of earlier cycles leave of a field. -/
namespace Sys2Proof.Machine

/-- A command whose effect on the state it meets is known answers that effect. -/
theorem ev_answers {t : Nat} {s m u : State} {f : State → State} (hm : meets t s m) (hf : f m = u) : ev t s f = .next u := by
  rw [ev_of_meets hm, hf]

/-! ## A commit cycle that is due -/

/-- The step tick is due at once; a tick boundary is due until its commit cycle has run (R15, R35). -/
theorem commitDue_iff {s : State} : commitDue s = true ↔
    s.sidr.stepTick = true ∨ (s.time.sc % tickSteps = 0 ∧ (s.time.ticks = 0 ∨ s.time.tickSc ≠ s.time.sc)) := by
  simp [commitDue, onTick]

/-- Settles O9: TICK_COMMIT_CYCLE runs the commit cycle where one is due, and b is the state in which its work begins. -/
theorem commitCycleCompletes : Obligations.CommitCycleCompletes := by
  rintro t tj rosc age s m b hm hdue rfl
  change execTickCommitCycle t tj rosc age s = _
  exact ev_answers hm (if_pos (commitDue_iff.2 hdue))

/-! ## The TK writes that are due -/

/-- Field writes leave the fabric's own state. -/
theorem forEach_wr_fab (l : List (Fld × Nat × Nat)) (s : State) : (forEach l (fun e => wr e.1 e.2.1) s).fab = s.fab := by
  induction l generalizing s with
  | nil => rfl
  | cons e r ih => exact ih (wr e.1 e.2.1 s)

/-- Of the writes of one field the last one stands, and a field without one keeps its value. -/
theorem rd_forEach_wr {f : Fld} {l : List (Fld × Nat × Nat)} (hl : ∀ e ∈ l, e.1.key = f.key → e.1 = f) (s : State) :
    rd (forEach l (fun e => wr e.1 e.2.1) s) f =
      (l.filter fun e => decide (e.1.key = f.key)).getLast?.elim (rd s f) fun e => e.2.1 % 2 ^ f.w := by
  induction l generalizing s with
  | nil => rfl
  | cons e r ih =>
    change rd (forEach r _ (wr e.1 e.2.1 s)) f = _
    rw [ih (fun x hx => hl x (List.mem_cons_of_mem e hx)) (wr e.1 e.2.1 s)]
    by_cases hk : e.1.key = f.key
    · have hf : e.1 = f := hl e List.mem_cons_self hk
      rw [List.filter_cons_of_pos (by exact decide_eq_true hk), List.getLast?_cons, hf, rd_wr_same]
      cases (r.filter fun e => decide (e.1.key = f.key)).getLast? <;> rfl
    · rw [List.filter_cons_of_neg (by simpa using hk), rd_wr_ne _ _ (Ne.symm hk)]

/-- Where no lane fence is pending, applying the due writes is writing their fields (R16, R119). -/
theorem applyDue_of_noFence {s : State} (h : ∀ e ∈ s.fab.tkPend, laneFence e = false) :
    applyDue s = forEach (s.fab.tkPend.filter fun e => decide (e.2.2 < s.time.cycle)) (fun e => wr e.1 e.2.1)
      { s with fab := { s.fab with tkPend := s.fab.tkPend.filter fun e => !decide (e.2.2 < s.time.cycle) } } := by
  have hdue : (s.fab.tkPend.filter fun e => decide (e.2.2 < s.time.cycle)).any laneFence = false :=
    List.any_eq_false.2 fun e he => by simp [h e (List.mem_filter.1 he).1]
  simp [applyDue, hdue]

/-- The writes of the present cycle stay pending, and the fabric's own state is else as before. -/
theorem applyDue_fab {s : State} (h : ∀ e ∈ s.fab.tkPend, laneFence e = false) :
    (applyDue s).fab = { s.fab with tkPend := s.fab.tkPend.filter fun e => decide (s.time.cycle ≤ e.2.2) } := by
  have hlater (e : Fld × Nat × Nat) : (!decide (e.2.2 < s.time.cycle)) = decide (s.time.cycle ≤ e.2.2) := by
    rw [← decide_not, decide_eq_decide, Nat.not_lt]
  simp only [applyDue_of_noFence h, forEach_wr_fab, hlater]

/-- A field reads the last of its due writes. -/
theorem rd_applyDue {s : State} {f : Fld} (h : ∀ e ∈ s.fab.tkPend, laneFence e = false)
    (hf : ∀ e ∈ s.fab.tkPend, e.1.key = f.key → e.1 = f) :
    rd (applyDue s) f = (s.fab.tkPend.filter fun e => decide (e.2.2 < s.time.cycle ∧ e.1.key = f.key)).getLast?.elim (rd s f)
      fun e => e.2.1 % 2 ^ f.w := by
  have hboth (e : Fld × Nat × Nat) : (decide (e.1.key = f.key) && decide (e.2.2 < s.time.cycle)) =
      decide (e.2.2 < s.time.cycle ∧ e.1.key = f.key) := by
    rw [Bool.decide_and, Bool.and_comm]
  rw [applyDue_of_noFence h, rd_forEach_wr fun e he => hf e (List.mem_filter.1 he).1, List.filter_filter]
  simp only [rd_fab, hboth]

/-- With no group of RWC fields the TK writes are all that a commit cycle applies. -/
theorem applyTk_of_noGroup {s : State} (h : ∀ e ∈ s.fab.tkPend, laneFence e = false) (hg : s.fab.rwc = []) : applyTk s = applyDue s := by
  simp [applyTk, applyDue_fab h, hg, forEach]

/-- Settles O10: the writes of earlier cycles are applied in the order of their acceptance, so that the last one of a field stands. -/
theorem tkWriteWaitsForItsTick : Obligations.TkWriteWaitsForItsTick := by
  intro s f hgroup hfence hfield
  rw [applyTk_of_noGroup hfence hgroup]
  refine ⟨by rw [applyDue_fab hfence], (rd_applyDue hfence hfield).trans ?_⟩
  cases (s.fab.tkPend.filter fun e => decide (e.2.2 < s.time.cycle ∧ e.1.key = f.key)).getLast? <;> rfl

end Sys2Proof.Machine
end

section
/-! PROOFS. The supply switch (R385 to R399) and the start and halt of the LGC (R25, R489): what each trigger, event and command does in the
state that lets it act. -/
namespace Sys2Proof.Machine

/-- A trigger whose unit takes triggers answers its effect on the state in which it is counted. -/
theorem trigger_answers {t u : Nat} {src : TrigSrc} {s m c d : State} {act : State → State} (hm : meets t s m) (hc : c = arrived src u m)
    (ht : takesTriggers c u) (ha : act c = d) : ev t s (arrive src u act) = .next d := by
  subst hc
  exact ev_answers hm ((arrive_takes ht).trans ha)

/-- A port's write whose effect on the state it meets is known answers that effect. -/
theorem evPort_answers {t : Nat} {p : Port} {s m u : State} {f : State → State} (hm : meetsFrom p t s m) (hf : f m = u) :
    evPort p t s f = .next u := by
  rw [evPort, evBy_of_meets hm, hf]

/-! ## The triggers of R396 -/

theorem connectTrigger_off {c : State} (hst : swFound c = 0) (hnap : rd c PWR.STATE ≠ 3) (hvin : rd c SWCH.VIN_OK = 1)
    (hen : enabled c 0x70 = true) : connectTrigger 0 c = trigExec 0x70 (swCause .connect (wr SWCH.DERATED 0 c)) := by
  simp [connectTrigger, hst, hnap, hvin, hen]

theorem disconnectTrigger_stops {c : State} (hst : swFound c = 1 ∨ swFound c = 2 ∨ swFound c = 4) :
    disconnectTrigger 0 c = trigExec 0x70 (swCause .disconnect c) := by
  simp [disconnectTrigger, hst]

/-- Outside the states that DISCONNECT stops it is MERGED; with no CONNECT in its cycle nothing more comes of it. -/
theorem disconnectTrigger_merged {c : State} (hst : swFound c = 3 ∨ swFound c = 5 ∨ swFound c = 0 ∧ c.sw.causes = []) :
    disconnectTrigger 0 c = trigMerge 0x70 c := by
  rcases hst with hst | hst | ⟨hst, hcauses⟩
  · simp [disconnectTrigger, hst]
  · simp [disconnectTrigger, hst]
  · simp [disconnectTrigger, hst, hcauses]

theorem setTotalTrigger_fits {arg : Nat} {c : State} (hlow : 1 ≤ arg) (hhigh : arg ≤ 65535) (hfits : totalLimitFits c (100 * arg) = true) :
    setTotalTrigger arg c = trigExec 0x70 (wr SWCH.TOTAL_LIMIT (100 * arg) c) :=
  if_pos ⟨by omega, hhigh, hfits⟩

/-! ## A retry (R388) -/

/-- A cause that is the first of its cycle acts alone, on the switch as it stands. -/
theorem swCause_alone {c : SwCause} {s : State} (h : s.sw.causes = [] ∨ s.sw.causeAt ≠ s.time.cycle) :
    swCause c s = swNext [c] (rd s SWCH.STATE) { s with sw := { s.sw with causes := [c], causeAt := s.time.cycle, base := swBase s } } :=
  if_neg fun hn => h.elim hn.1 fun hne => hne hn.2

/-- The end of the backoff ramps the switch up again, unless the TAP holds its gates off. -/
theorem swNext_retry {s : State} (htap : s.tap = false) :
    swNext [.retry] 4 s = rampUp (inc SWCH.RETRIES_DONE (inc SWCH.RETRY_K s)) := by
  simp [swNext, htap, when]

theorem swCause_retry {s : State} (hst : rd s SWCH.STATE = 4) (halone : s.sw.causes = [] ∨ s.sw.causeAt ≠ s.time.cycle)
    (htap : s.tap = false) : swCause .retry s = rampUp (inc SWCH.RETRIES_DONE (inc SWCH.RETRY_K
      { s with sw := { s.sw with causes := [.retry], causeAt := s.time.cycle, base := swBase s } })) := by
  rw [swCause_alone halone, hst]
  exact swNext_retry htap

/-! ## PWR_WARN_N (R391) -/

/-- A counted assertion leaves the limit of the guard. -/
theorem rd_warnCount_maxEdges (s : State) : rd (warnCount s) SWCH.WARN_MAX_EDGES = rd s SWCH.WARN_MAX_EDGES :=
  calc rd (warnCount s) SWCH.WARN_MAX_EDGES
    _ = rd (inc SWCH.WARN_ASSERTS s) SWCH.WARN_MAX_EDGES := rd_event_ne _ _ (by decide)
    _ = rd s SWCH.WARN_MAX_EDGES := rd_wr_ne _ _ (by decide)

/-- An assertion within the limit of the guard is counted and followed. -/
theorem warnAssert_within {s : State} (hhigh : s.sw.pinLow = false) (hedges : (warnEdges s).length < rd s SWCH.WARN_MAX_EDGES) :
    warnAssert s = warnFollow (warnCount { s with sw := { s.sw with
      pinLow := true, pinEdges := s.time.cycle :: warnEdges s, lowTick := s.time.ticks } }) := by
  have hlimit (w : SwchU) : ¬ rd (warnCount { s with sw := w }) SWCH.WARN_MAX_EDGES < (s.time.cycle :: warnEdges s).length := by
    rw [rd_warnCount_maxEdges, List.length_cons]
    exact Nat.not_lt.2 hedges
  simp only [warnAssert, hhigh, hlimit, and_false, if_false, Bool.false_eq_true]

/-! ## SW_CMD (R399, R400) -/

/-- A SW_CMD that no check refuses occupies its register, acts apart from the causes of its cycle, and raises CMD_DONE. -/
theorem swCmd_accepted {p : Port} {checks : List (Bool × Code)} {act : State → State} {s a : State} (ho : opens s p 0x70)
    (hb : cmdBusy s swCmdAddr = false) (hc : firstFail checks = none) (ha : a = accepted p 0x70 (some SWCH.CMD_CODE) s) :
    swCmd p checks act s = raise 0x70 9 (act (startCmd swCmdAddr 4 { a with sw := { a.sw with causes := [] } })) := by
  subst ha
  exact fabricCmd_accepted ho (by simp [firstFail, hb, hc])

theorem clearLatch_accepted {p : Port} {s a : State} (ho : opens s p 0x70) (hb : cmdBusy s swCmdAddr = false) (hst : rd s SWCH.STATE = 5)
    (ha : a = accepted p 0x70 (some SWCH.CMD_CODE) s) :
    clearLatch p s = raise 0x70 9 (enterOff (startCmd swCmdAddr 4 { a with sw := { a.sw with causes := [] } })) :=
  swCmd_accepted ho hb (by simp [firstFail, hst]) ha

theorem phaseClear_accepted {p : Port} {q : Nat} {s a : State} (ho : opens s p 0x70) (hb : cmdBusy s swCmdAddr = false)
    (hq : q < Variant.phases s.fuse.variant) (hst : rd s SWCH.STATE = 0 ∨ rd s SWCH.STATE = 5) (hbad : phaseBad s q = true)
    (ha : a = accepted p 0x70 (some SWCH.CMD_CODE) s) :
    phaseClear p q s = raise 0x70 9 (startCmd swCmdAddr 4 { a with sw := { a.sw with causes := [] } }
      |> wr (SWCH.PH_OPEN q) 0 |> wr (SWCH.SENSE_LOST q) 0 |> wr (SWCH.LOST_WHY q) 0 |> wr SWCH.DERATE_LIMIT 0) := by
  have hstate : ¬ (rd s SWCH.STATE ≠ 0 ∧ rd s SWCH.STATE ≠ 5) := by omega
  have hfail : firstFail [(decide (Variant.phases s.fuse.variant ≤ q), Code.absent),
      (decide (rd s SWCH.STATE ≠ 0 ∧ rd s SWCH.STATE ≠ 5) || !phaseBad s q, Code.state)] = none := by
    simp [firstFail_none, hq, hstate, hbad]
  exact swCmd_accepted ho hb hfail ha

/-! ## The LGC (R25, R489) -/

theorem lgcHalt_runs {why : Nat} {s : State} (h : rd s SYS.LGC_STATE ≠ 3) :
    lgcHalt why s = swCause .halt (endSession 7 (raise 0x60 7 (wr SYS.LGC_STATE 3
      { s with leg := { s.leg with tot := none, haltWhy := why, idStart := none } }))) := if_neg h

theorem selftestDone_first {romOk : Bool} {s : State} (hst : rd s SYS.LGC_STATE = 1) (hdone : s.leg.selfDone = false) :
    selftestDone romOk s = if romOk then selftestEnd s else lgcHalt 2 s := if_neg (by simp [hst, hdone])

/-- Settles O52: each command has its effect in the state that lets it act. -/
theorem switchCommandsComplete : Obligations.SwitchCommandsComplete := by
  refine ⟨?connect, ?disconnect, ?merged, ?setTotal, ?sample, ?fastTrip, ?rampTimeout, ?rampOffDone, ?backoffEnd, ?countReset, ?assert,
    ?deassert, ?stuck, ?weld, ?clearLatch, ?phaseClear, ?halt, ?selftest⟩
  case connect =>
    intro t src s m c hm hc ht hst hnap hvin hen
    exact trigger_answers hm hc ht (connectTrigger_off hst hnap hvin hen)
  case disconnect =>
    intro t src s m c hm hc ht hst
    exact trigger_answers hm hc ht (disconnectTrigger_stops hst)
  case merged =>
    intro t src s m c hm hc ht hst
    exact trigger_answers hm hc ht (disconnectTrigger_merged hst)
  case setTotal =>
    intro t arg src s m c hm hc ht hlow hhigh hfits
    exact trigger_answers hm hc ht (setTotalTrigger_fits hlow hhigh hfits)
  case sample => exact fun t vin vout v cm s m hm => ev_of_meets hm _
  case fastTrip =>
    intro t p s m hm hlow hhigh hp
    change execFastTrip t p s = _
    exact ev_answers hm (if_pos ⟨by omega, List.contains_iff_mem.2 hp⟩)
  case rampTimeout =>
    intro t s m hm hst hmax
    change execRampTimeout t s = _
    exact ev_answers hm (if_pos ⟨hst, hmax⟩)
  case rampOffDone =>
    intro t s m hm hst
    change execRampOffDone t s = _
    exact ev_answers hm (if_pos hst)
  case backoffEnd =>
    intro t s m hm hst hwait halone htap
    change execRetryBackoffEnd t s = _
    exact ev_answers hm ((if_pos ⟨hst, hwait⟩).trans (swCause_retry hst halone htap))
  case countReset => exact fun t s m hm hst hticks => ev_answers hm (if_pos ⟨hst, hticks⟩)
  case assert => exact fun t s m hm hhigh hedges => ev_answers hm (warnAssert_within hhigh hedges)
  case deassert => exact fun t s m hm _ => ev_of_meets hm _
  case stuck => exact fun t s m hm hlow hstuck hint hticks => ev_answers hm (if_pos ⟨hlow, hstuck, hint, hticks⟩)
  case weld => exact fun t s m hm => ev_of_meets hm _
  case clearLatch =>
    intro t p s m a hm ho hb hst ha
    exact evPort_answers hm (clearLatch_accepted ho hb hst ha)
  case phaseClear =>
    intro t q p s m a hm ho hb hq hst hbad ha
    exact evPort_answers hm (phaseClear_accepted ho hb hq hst hbad ha)
  case halt => exact fun t why s m hm hst => ev_answers hm (lgcHalt_runs hst)
  case selftest =>
    intro t s m hm hst hdone
    exact ⟨ev_answers hm (selftestDone_first hst hdone), ev_answers hm (selftestDone_first hst hdone)⟩

end Sys2Proof.Machine
end

section
/-! PROOFS. The fields that an operation leaves: the fields of some places read as before. -/
namespace Sys2Proof.Machine

/-- Every field at one of the places reads as before. -/
def Kept (P : Nat → Prop) (s u : State) : Prop := ∀ f : Fld, P f.key → rd u f = rd s f

section
variable {P : Nat → Prop} {s u v : State}

theorem Kept.refl (s : State) : Kept P s s := fun _ _ => rfl

theorem Kept.trans (h : Kept P s u) (g : Kept P u v) : Kept P s v := fun f hf => (g f hf).trans (h f hf)

/-- Fewer places are kept too. -/
theorem Kept.mono {Q : Nat → Prop} (h : Kept P s u) (hq : ∀ k, Q k → P k) : Kept Q s u := fun f hf => h f (hq _ hf)

/-- A change outside the register file. -/
theorem kept_of_regs (h : u.regs = s.regs) : Kept P s u := fun f _ => rd_congr h f

/-- A change outside the register file follows. -/
theorem Kept.regs (h : Kept P s u) (hv : v.regs = u.regs) : Kept P s v := h.trans (kept_of_regs hv)

/-- A write at another place. -/
theorem kept_wr {f : Fld} (hf : ¬ P f.key) (v : Nat) (s : State) : Kept P s (wr f v s) :=
  fun _ hg => rd_wr_ne v s fun h => hf (h ▸ hg)

/-- A write at another place follows. -/
theorem Kept.wr (h : Kept P s u) {f : Fld} (hf : ¬ P f.key) (v : Nat) : Kept P s (wr f v u) := h.trans (kept_wr hf v u)

/-- An event at another place follows. -/
theorem Kept.event (h : Kept P s u) {f : Fld} (hf : ¬ P f.key) (m : Nat) : Kept P s (event f m u) :=
  (h.regs (v := { u with fab := { u.fab with setNow := aset u.fab.setNow f.key (setNow u f ||| m) } }) rfl).wr hf _

/-- A conditional step keeps what its step keeps. -/
theorem kept_when {c : Bool} {f : State → State} (h : ∀ s, Kept P s (f s)) (s : State) : Kept P s (when c f s) := by
  cases c
  · exact .refl s
  · exact h s

/-- A choice of two steps keeps what both keep. -/
theorem kept_ite {c : Prop} [Decidable c] (hu : Kept P s u) (hv : Kept P s v) : Kept P s (if c then u else v) := by
  split
  · exact hu
  · exact hv

/-- A loop keeps what each of its rounds keeps. -/
theorem kept_forEach {α : Type} {f : α → State → State} (h : ∀ a s, Kept P s (f a s)) (l : List α) (s : State) :
    Kept P s (forEach l f s) := by
  induction l generalizing s with
  | nil => exact .refl s
  | cons a r ih => exact (h a s).trans (ih (f a s))

end

end Sys2Proof.Machine
end

section
/-! PROOFS. The corrections of the SC (R33 to R35): how a correction begins, and what a step of the SC leaves. -/
namespace Sys2Proof.Machine

/-! ## What a change of SC_QUALITY leaves (R29) -/

/-- The places that a change of SC_QUALITY may write. -/
abbrev qualityPlace (k : Nat) : Prop :=
  k = SIDR.SC_QUALITY.key ∨ k = SIDR.SC_UNCERT.key ∨ k = SIDR.WALL_STATE.key ∨ k = (HDR.CAUSE 0x03).key

/-- Beside those fields and the PM marks, a change of SC_QUALITY writes of SIDR's own state what R30 to R32 time from it. -/
structure QualityOnly (s u : State) : Prop where
  time : u.time = s.time
  orry : u.orry = s.orry
  stepTick : u.sidr.stepTick = s.sidr.stepTick
  stepE : u.sidr.stepE = s.sidr.stepE
  kept : Kept (fun k => ¬ qualityPlace k) s u

theorem QualityOnly.refl (s : State) : QualityOnly s s := ⟨rfl, rfl, rfl, rfl, .refl s⟩

theorem QualityOnly.trans {s u v : State} (h : QualityOnly s u) (g : QualityOnly u v) : QualityOnly s v :=
  ⟨g.time.trans h.time, g.orry.trans h.orry, g.stepTick.trans h.stepTick, g.stepE.trans h.stepE, h.kept.trans g.kept⟩

theorem updateWall_only (s : State) : QualityOnly s (updateWall s) := by
  unfold updateWall
  extract_lets w
  split
  · exact .refl s
  · exact ⟨rfl, rfl, rfl, rfl, ((Kept.refl s).wr (f := SIDR.WALL_STATE) (by decide) w).event (f := HDR.CAUSE 0x03) (by decide) _⟩

theorem setQuality_only (q : Nat) (s : State) : QualityOnly s (setQuality q s) := by
  unfold setQuality
  extract_lets was marked changed _ _ entered _ left _ timed
  have hchanged : QualityOnly s changed :=
    ⟨rfl, rfl, rfl, rfl, (((Kept.refl s).regs (v := marked) rfl).wr (f := SIDR.SC_QUALITY) (by decide) q).event
      (f := HDR.CAUSE 0x03) (by decide) _⟩
  have hentered : QualityOnly changed entered := by
    simp only [entered]
    split
    · exact ⟨rfl, rfl, rfl, rfl, (kept_wr (f := SIDR.SC_UNCERT) (by decide) 0 changed).regs rfl⟩
    · exact .refl changed
  have hleft : QualityOnly entered left := by
    simp only [left]
    split
    · exact ⟨rfl, rfl, rfl, rfl, kept_of_regs rfl⟩
    · exact .refl entered
  have htimed : QualityOnly left timed := ⟨rfl, rfl, rfl, rfl, kept_of_regs rfl⟩
  split
  · exact .refl s
  · exact (((hchanged.trans hentered).trans hleft).trans htimed).trans (updateWall_only timed)

/-! ## Signed fields -/

/-- A signed value that fits a width reads back from its two's complement word. -/
theorem toSigned_ofSigned {w : Nat} {i : Int} (hl : -(2 : Int) ^ w ≤ i) (hh : i < (2 : Int) ^ w) :
    toSigned (w + 1) (ofSigned (w + 1) i % 2 ^ (w + 1)) = i := by
  have hp : ((2 ^ w : Nat) : Int) = (2 : Int) ^ w := by push_cast; rfl
  have hw : ofSigned (w + 1) i % 2 ^ (w + 1) = if 0 ≤ i then i.toNat else (i + 2 * 2 ^ w).toNat := by
    have hm : (ofSigned (w + 1) i : Int) = i % (2 * 2 ^ w) := by
      rw [ofSigned, Int.pow_succ', Int.toNat_of_nonneg (Int.emod_nonneg _ (by omega))]
    have hlt : ofSigned (w + 1) i < 2 ^ (w + 1) := by
      have := Int.emod_lt_of_pos i (show (0 : Int) < 2 * 2 ^ w by omega)
      rw [Nat.pow_succ']; omega
    rw [Nat.mod_eq_of_lt hlt]
    split
    · rw [Int.emod_eq_of_lt (by omega) (by omega)] at hm; omega
    · rw [← Int.add_emod_right, Int.emod_eq_of_lt (by omega) (by omega)] at hm; omega
  unfold toSigned
  rw [hw]
  split <;> split <;> omega

theorem rdS_wrS_same {f : Fld} {w : Nat} (hf : f.w = w + 1) {i : Int} (hl : -(2 : Int) ^ w ≤ i) (hh : i < (2 : Int) ^ w) (s : State) :
    rdS (wrS f i s) f = i := by
  rw [rdS, wrS, rd_wr_same, hf, toSigned_ofSigned hl hh]

/-! ## How a correction begins (R33, R34) -/

theorem beginCorrection_slew {e : Int} {s : State} (he : e ≠ 0) (hs : e.natAbs ≤ frameSteps) (hv : rd s SIDR.SC_VALID = 1) :
    beginCorrection e s = wr SIDR.SLEWING 1 (wrS SIDR.SLEW_REMAIN e { s with sidr := { s.sidr with stepE := none } }) := by
  simp [beginCorrection, hs, hv, he]

theorem beginCorrection_step {e : Int} {s : State} (h : ¬ (e.natAbs ≤ frameSteps ∧ rd s SIDR.SC_VALID = 1)) :
    beginCorrection e s = { (s |> wr SIDR.SLEW_REMAIN 0 |> wr SIDR.SLEWING 0) with sidr := { s.sidr with stepE := some e } } := if_neg h

/-- A correction other than 0 only notes what it is to do. -/
theorem beginCorrection_notes {e : Int} (he : e ≠ 0) (s : State) :
    (beginCorrection e s).time = s.time ∧ Kept (· = SIDR.SC_QUALITY.key) s (beginCorrection e s) := by
  by_cases h : e.natAbs ≤ frameSteps ∧ rd s SIDR.SC_VALID = 1
  · obtain ⟨hs, hv⟩ := h
    rw [beginCorrection_slew he hs hv]
    exact ⟨rfl, (((Kept.refl s).regs (v := { s with sidr := { s.sidr with stepE := none } }) rfl).wr (f := SIDR.SLEW_REMAIN)
      (by decide) _).wr (f := SIDR.SLEWING) (by decide) 1⟩
  · rw [beginCorrection_step h]
    exact ⟨rfl, (((Kept.refl s).wr (f := SIDR.SLEW_REMAIN) (by decide) 0).wr (f := SIDR.SLEWING) (by decide) 0).regs rfl⟩

/-- A slew that has begun shows what it has to remove. -/
theorem slewRem_slew {e : Int} (hl : -(2 : Int) ^ 31 ≤ e) (hh : e < (2 : Int) ^ 31) (s : State) :
    slewRem (wr SIDR.SLEWING 1 (wrS SIDR.SLEW_REMAIN e s)) = e := by
  rw [slewRem, rdS, rd_wr_ne _ _ (by decide)]
  exact rdS_wrS_same (w := 31) rfl hl hh s

/-- No slew runs while a step is pending. -/
theorem slew_cleared (s : State) : slewRem (s |> wr SIDR.SLEW_REMAIN 0 |> wr SIDR.SLEWING 0) = 0
    ∧ rd (s |> wr SIDR.SLEW_REMAIN 0 |> wr SIDR.SLEWING 0) SIDR.SLEWING = 0 := by
  refine ⟨?_, rd_wr_same ..⟩
  rw [slewRem, rdS, rd_wr_ne _ _ (by decide), rd_wr_same]
  rfl

/-- Settles O13: a correction begins as a slew or as a pending step, and only notes what it is to do. -/
theorem correctionBySlewOrStep : Obligations.CorrectionBySlewOrStep := by
  intro e s he hl hh
  obtain ⟨htime, hquality⟩ := beginCorrection_notes he s
  refine ⟨?slew, ?step, htime, hquality _ rfl⟩
  case slew =>
    intro hs hv
    rw [beginCorrection_slew he hs hv]
    exact ⟨slewRem_slew hl hh _, rd_wr_same .., rfl⟩
  case step =>
    intro h
    obtain ⟨hrem, hslewing⟩ := slew_cleared s
    rw [beginCorrection_step (by omega)]
    exact ⟨hrem, hslewing, rfl⟩

/-! ## What a step of the SC leaves (R35, R47) -/

/-- The Orrery's own fields and entries change; what it has sent stands. -/
structure OrreryOnly (s u : State) : Prop where
  time : u.time = s.time
  sidr : u.sidr = s.sidr
  sent : u.orry.sent = s.orry.sent
  kept : Kept (fun k => k / 131072 ≠ 4) s u

theorem OrreryOnly.refl (s : State) : OrreryOnly s s := ⟨rfl, rfl, rfl, .refl s⟩

theorem OrreryOnly.trans {s u v : State} (h : OrreryOnly s u) (g : OrreryOnly u v) : OrreryOnly s v :=
  ⟨g.time.trans h.time, g.sidr.trans h.sidr, g.sent.trans h.sent, h.kept.trans g.kept⟩

theorem orreryOnly_forEach {α : Type} {f : α → State → State} (h : ∀ a s, OrreryOnly s (f a s)) (l : List α) (s : State) :
    OrreryOnly s (forEach l f s) := by
  induction l generalizing s with
  | nil => exact .refl s
  | cons a r ih => exact (h a s).trans (ih (f a s))

theorem putEntry_only (i : Nat) (e : AEntry) (s : State) : OrreryOnly s (putEntry i e s) :=
  ⟨rfl, rfl, rfl, ((Kept.refl s).regs (v := { s with orry := { s.orry with entries := insEntry s.orry.entries i e } }) rfl).wr
    (f := ORRY.VALID_ENTRIES) (by decide) _⟩

theorem oweEntry_only (i : Nat) (e : AEntry) (old : Nat) (s : State) : OrreryOnly s (oweEntry i e old s) := by
  unfold oweEntry
  split
  case h_1 o w _ =>
    split
    · exact (putEntry_only i (e.take o w) s).trans ⟨rfl, rfl, rfl, kept_of_regs rfl⟩
    · exact .refl s
  case h_2 => exact .refl s

theorem countMissed_only (i n : Nat) (e : AEntry) (s : State) :
    OrreryOnly s (putEntry i e s |> addTo ORRY.MISSED_TOTAL n |> raise 0x04 0) :=
  (putEntry_only i e s).trans ⟨rfl, rfl, rfl,
    ((Kept.refl (putEntry i e s)).wr (f := ORRY.MISSED_TOTAL) (by decide) _).event (f := HDR.CAUSE 0x04) (by decide) _⟩

theorem jumpEntry_only (i : Nat) (e : AEntry) (limit : Nat) (s : State) : OrreryOnly s (jumpEntry i e limit s) := by
  unfold jumpEntry
  split
  case h_1 => exact .refl s
  case h_2 n o w _ =>
    extract_lets _ counted
    have hcounted : OrreryOnly s counted := countMissed_only i n { e.take o w with missed := e.missed + n } s
    split
    · exact hcounted.trans ⟨rfl, rfl, rfl, kept_of_regs rfl⟩
    · exact hcounted

theorem jumpStep_only (old new : Nat) (s : State) : OrreryOnly s (jumpStep old new s) := by
  refine (orreryOnly_forEach ?_ _ s).trans (orreryOnly_forEach ?_ _ _)
  · exact fun x u => oweEntry_only x.1 x.2 old u
  · exact fun x u => jumpEntry_only x.1 x.2 (jumpLimit u x.2 new) u

/-- The places of the fields that a step of the SC writes. -/
abbrev stepPlace (k : Nat) : Prop :=
  k = SIDR.SC_VALID.key ∨ k = SIDR.STEP_SC.key ∨ k = SIDR.STEP_FRAMES.key ∨ k = SIDR.STEP_COUNT.key

/-- What a step has noted stands: the time, the step tick, its fields, and what the Orrery has sent. -/
structure StepStands (s u : State) : Prop where
  time : u.time = s.time
  stepTick : u.sidr.stepTick = s.sidr.stepTick
  stepE : u.sidr.stepE = s.sidr.stepE
  sent : u.orry.sent = s.orry.sent
  kept : Kept stepPlace s u

theorem StepStands.refl (s : State) : StepStands s s := ⟨rfl, rfl, rfl, rfl, .refl s⟩

theorem StepStands.trans {s u v : State} (h : StepStands s u) (g : StepStands u v) : StepStands s v :=
  ⟨g.time.trans h.time, g.stepTick.trans h.stepTick, g.stepE.trans h.stepE, g.sent.trans h.sent, h.kept.trans g.kept⟩

theorem OrreryOnly.stepStands {s u : State} (h : OrreryOnly s u) : StepStands s u :=
  ⟨h.time, by rw [h.sidr], by rw [h.sidr], h.sent, h.kept.mono (by rintro k (rfl | rfl | rfl | rfl) <;> decide)⟩

theorem QualityOnly.stepStands {s u : State} (h : QualityOnly s u) : StepStands s u :=
  ⟨h.time, h.stepTick, h.stepE, by rw [h.orry], h.kept.mono (by rintro k (rfl | rfl | rfl | rfl) <;> decide)⟩

/-- The fields in which a step is recorded. -/
theorem rd_stepNotes (sc : Nat) (frames : Int) (s : State) {u : State}
    (hu : u = (s |> wr SIDR.STEP_SC sc |> wrS SIDR.STEP_FRAMES frames |> incSat SIDR.STEP_COUNT |> wr SIDR.SC_VALID 1 |> raise 0x03 1)) :
    rd u SIDR.SC_VALID = 1 ∧ rd u SIDR.STEP_SC = sc % 2 ^ 64
    ∧ rd u SIDR.STEP_FRAMES = ofSigned SIDR.STEP_FRAMES.w frames % 2 ^ SIDR.STEP_FRAMES.w
    ∧ rd u SIDR.STEP_COUNT = min (rd s SIDR.STEP_COUNT + 1) SIDR.STEP_COUNT.top % 2 ^ SIDR.STEP_COUNT.w := by
  subst hu
  simp only [raise, incSat, wrS]
  refine ⟨?valid, ?sc, ?frames, ?count⟩
  all_goals
    rw [rd_event_ne _ _ (by decide)]
    repeat rw [rd_wr_ne _ _ (by decide)]
    rw [rd_wr_same]
  case valid | sc => rfl
  case count =>
    repeat rw [rd_wr_ne _ _ (by decide)]

/-- Settles O12: what follows the notes of a step, the occurrences it jumps over and the change of SC_QUALITY, leaves them. -/
theorem stepGivesTheSc : Obligations.StepGivesTheSc := by
  intro e s he
  generalize hu : stepSc e s = u
  unfold stepSc at hu
  extract_lets old new _ _ _ _ _ moved marked noted jumped at hu
  have hjumped : StepStands noted jumped := by
    simp only [jumped]
    split
    · exact (jumpStep_only old new noted).stepStands
    · exact .refl noted
  have hfinal : StepStands jumped u := by
    rw [← hu]
    split
    · exact (setQuality_only qLOCKED jumped).stepStands
    · exact .refl jumped
  obtain ⟨htime, htick, hpending, hsent, hkept⟩ := hjumped.trans hfinal
  obtain ⟨hvalid, hsc, hframes, hcount⟩ := rd_stepNotes (scReg new) (e / frameSteps) marked (u := noted) rfl
  refine ⟨?_, (hkept _ (by decide)).trans hvalid, (hkept _ (by decide)).trans hsc, (hkept _ (by decide)).trans hframes,
    (hkept _ (by decide)).trans hcount, htick, hpending, hsent⟩
  rw [htime]
  exact Int.toNat_of_nonneg he

end Sys2Proof.Machine
end

section
/-! PROOFS. The ephemeris guard (R38, R492): which messages it rejects, and what it keeps of a rejected one. -/
namespace Sys2Proof.Machine

/-! ## The mark of a leap second (R144) -/

/-- A leap second marks the PM second and its bins alone. -/
theorem leapMark_pmon (s : State) : ∃ x, leapMark s = { s with pmon := x } := by
  unfold leapMark
  extract_lets x
  split
  · exact ⟨_, rfl⟩
  · exact ⟨s.pmon, rfl⟩

@[simp] theorem leapMark_sidr (s : State) : (leapMark s).sidr = s.sidr := by
  obtain ⟨x, h⟩ := leapMark_pmon s
  rw [h]

@[simp] theorem leapMark_time (s : State) : (leapMark s).time = s.time := by
  obtain ⟨x, h⟩ := leapMark_pmon s
  rw [h]

@[simp] theorem leapMark_regs (s : State) : (leapMark s).regs = s.regs := by
  obtain ⟨x, h⟩ := leapMark_pmon s
  rw [h]

/-- The run in progress does not bear on the mark. -/
theorem leapMark_ephRun (r : Option (Eph × Nat)) (s : State) :
    leapMark { s with sidr := { s.sidr with ephRun := r } } =
      { leapMark s with sidr := { (leapMark s).sidr with ephRun := r } } := by
  rw [leapMark_sidr]
  by_cases h : leapSince s s.pmon.sec.start = true
  · rw [show leapMark s = _ from if_pos h]
    exact if_pos h
  · rw [show leapMark s = _ from if_neg h]
    exact if_neg h

/-! ## What the guard judges by -/

/-- The last accepted ephemeris stands in these places. -/
abbrev ephPlace (k : Nat) : Prop :=
  k = SIDR.EPH_FRAME.key ∨ k = SIDR.EPH_DAY.key ∨ k = SIDR.EPH_SOD.key ∨ k = SIDR.EPH_LEAP.key

theorem Kept.lastEph {s u : State} (h : Kept ephPlace s u) : lastEph u = lastEph s := by
  simp only [Machine.lastEph, h SIDR.EPH_FRAME (by decide), h SIDR.EPH_DAY (by decide), h SIDR.EPH_SOD (by decide),
    h SIDR.EPH_LEAP (by decide)]

theorem lastEph_leapMark (s : State) : lastEph (leapMark s) = lastEph s :=
  (kept_of_regs (leapMark_regs s)).lastEph

theorem ephInRange_leapMark (s : State) (m : Eph) : ephInRange (leapMark s) m = ephInRange s m := by
  have hframe : scFrame (leapMark s) = scFrame s := by rw [scFrame, leapMark_time, scFrame]
  unfold ephInRange
  rw [hframe, rd_congr (leapMark_regs s)]

theorem ephRunLen_leapMark (s : State) (m : Eph) : ephRunLen (leapMark s) m = ephRunLen s m := by
  simp only [ephRunLen, leapMark_sidr]

/-! ## What becomes of a message -/

/-- A rejected message leaves the last accepted ephemeris. -/
theorem ephReject_kept (s : State) : Kept ephPlace s (ephReject s) :=
  ((Kept.refl s).wr (f := SIDR.EPH_REJECTED) (by decide) _).event (f := HDR.CAUSE 0x03) (by decide) _

/-- The EPH registers hold an accepted message whose fields fit them. -/
theorem lastEph_ephAccept {m : Eph} (hf : m.frame < 2 ^ 48) (hd : m.day < 2 ^ 20) (hs : m.sod < 2 ^ 17) (hl : m.leap < 4) (s : State) :
    lastEph (ephAccept m s) = m := by
  unfold ephAccept
  extract_lets held _
  have hupdate : lastEph (updateWall { held with sidr := { held.sidr with
      ephHave := true, ephSince := true, ephStamp := held.time.cycle, ephRun := none } }) = lastEph held :=
    Kept.lastEph ((kept_of_regs rfl).trans ((updateWall_only _).kept.mono (by rintro k (rfl | rfl | rfl | rfl) <;> decide)))
  rw [hupdate]
  obtain ⟨frame, day, sod, leap⟩ := m
  simp only [Machine.lastEph, held, incSat, Eph.mk.injEq]
  refine ⟨?frame, ?day, ?sod, ?leap⟩
  all_goals
    repeat rw [rd_wr_ne _ _ (by decide)]
    rw [rd_wr_same]
  case frame => exact Nat.mod_eq_of_lt hf
  case day => exact Nat.mod_eq_of_lt hd
  case sod => exact Nat.mod_eq_of_lt hs
  case leap => exact Nat.mod_eq_of_lt hl

theorem updateWall_sidr (s : State) : (updateWall s).sidr = s.sidr := by
  unfold updateWall
  extract_lets w
  split <;> rfl

/-- With an accepted message wall time exists, and no run is in progress. -/
theorem ephAccept_sidr (m : Eph) (s : State) : (ephAccept m s).sidr.ephHave = true ∧ (ephAccept m s).sidr.ephRun = none := by
  simp only [ephAccept, updateWall_sidr, and_self]

theorem ephMessage_outOfRange {m : Eph} {s : State} (h : ephInRange s m = false) : ephMessage m s = ephReject (leapMark s) := by
  unfold ephMessage
  extract_lets marked
  exact if_pos (by rw [ephInRange_leapMark, h]; rfl)

theorem ephMessage_first {m : Eph} {s : State} (h : ephInRange s m = true) (hn : s.sidr.ephHave = false) :
    ephMessage m s = ephAccept m (leapMark s) := by
  unfold ephMessage
  extract_lets marked
  rw [if_neg (by rw [ephInRange_leapMark, h]; simp), if_pos (by rw [leapMark_sidr, hn]; rfl)]

theorem ephMessage_disagrees {m : Eph} {s : State} (h : ephInRange s m = true) (hh : s.sidr.ephHave = true)
    (hd : ephAgrees (lastEph s) m = false) (hr : ephRunLen s m < rd s SIDR.EPH_FILTER) :
    ephMessage m s = ephReject (leapMark { s with sidr := { s.sidr with ephRun := some (m, ephRunLen s m) } }) := by
  unfold ephMessage
  extract_lets marked _ n
  rw [if_neg (by rw [ephInRange_leapMark, h]; simp), if_neg (by rw [leapMark_sidr, hh]; simp), if_neg (by rw [lastEph_leapMark, hd]; simp)]
  have hn : n = ephRunLen s m := ephRunLen_leapMark s m
  have hfilter : ¬ rd marked SIDR.EPH_FILTER ≤ n := by
    rw [hn, rd_congr (leapMark_regs s)]
    omega
  rw [if_neg hfilter, hn, leapMark_ephRun]

/-- Settles O15: a rejected message is counted, raises EPH_REJECT, and leaves the last accepted one. -/
theorem ephemerisGuard : Obligations.EphemerisGuard := by
  intro e s
  refine ⟨?outOfRange, ?first, ?disagrees⟩
  case outOfRange =>
    intro h
    rw [ephMessage_outOfRange h]
    exact ⟨rfl, congrArg Sidr.ephRun (leapMark_sidr s), (ephReject_kept _).lastEph.trans (lastEph_leapMark s)⟩
  case first =>
    intro h hn hf hd hs hl
    rw [ephMessage_first h hn]
    refine ⟨lastEph_ephAccept hf hd hs hl _, ephAccept_sidr e _⟩
  case disagrees =>
    intro h hh hd hr
    rw [ephMessage_disagrees h hh hd hr]
    exact ⟨rfl, (ephReject_kept _).lastEph.trans (lastEph_leapMark _)⟩

end Sys2Proof.Machine
end

section
/-! PROOFS. The Orrery's choice of a firing (R42 to R47): the order of the due firings, the consumed occurrence, and the next one. -/
namespace Sys2Proof.Machine

/-! ## The first of the due firings (R45) -/

theorem firesBefore_iff {a b : DueFire} : firesBefore a b = true ↔ a.occ < b.occ ∨ (a.occ = b.occ ∧ a.index ≤ b.index) := by
  simp [firesBefore]

theorem firstDue_none {l : List DueFire} : firstDue l = none ↔ l = [] := by
  cases l with
  | nil => simp [firstDue]
  | cons a r => simp only [firstDue]; split <;> simp

/-- The first of a list of due firings is one of them, and none goes before it. -/
theorem firstDue_least {l : List DueFire} {d : DueFire} (h : firstDue l = some d) : d ∈ l ∧ ∀ e ∈ l, firesBefore d e = true := by
  induction l generalizing d with
  | nil => cases h
  | cons a r ih =>
    cases hr : firstDue r with
    | none =>
      obtain rfl : r = [] := firstDue_none.1 hr
      obtain rfl : a = d := by simpa [firstDue] using h
      simp [firesBefore_iff]
    | some b =>
      obtain ⟨hb, hleast⟩ := ih hr
      simp only [firstDue, hr, Option.some.injEq] at h
      simp only [firesBefore_iff] at hleast h ⊢
      split at h
      case isTrue hab =>
        subst h
        refine ⟨List.mem_cons_self, List.forall_mem_cons.2 ⟨by omega, fun e he => ?_⟩⟩
        have := hleast e he
        omega
      case isFalse hab =>
        subst h
        exact ⟨List.mem_cons_of_mem a hb, List.forall_mem_cons.2 ⟨by omega, hleast⟩⟩

/-! ## The consumed occurrence (R44) -/

/-- An inserted entry is found at its index. -/
theorem find_insEntry (l : List (Nat × AEntry)) (i : Nat) (e : AEntry) :
    (insEntry l i e).find? (fun x => x.1 == i) = some (i, e) := by
  induction l with
  | nil => simp [insEntry]
  | cons a r ih =>
    obtain ⟨j, x⟩ := a
    rcases Nat.lt_trichotomy i j with h | h | h
    · simp [insEntry, h]
    · simp [insEntry, h]
    · have hn : ¬ i < j := by omega
      have hne : i ≠ j := by omega
      simp [insEntry, hn, hne, hne.symm, ih]

theorem entryAt_putEntry (i : Nat) (e : AEntry) (s : State) : entryAt (putEntry i e s) i = some e := by
  change ((insEntry s.orry.entries i e).find? (fun x => x.1 == i)).map (·.2) = some e
  rw [find_insEntry]
  rfl

/-! ## The next occurrence of an SC entry (R42, R47) -/

theorem le_gridFrame (period offset f : Nat) : f ≤ gridFrame period offset f := Nat.le_add_right ..

/-- The occurrence from a bound on does not lie below it. -/
theorem le_scOcc {e : AEntry} {bound n : Nat} (h : scOcc e bound = some n) : bound ≤ n := by
  unfold scOcc at h
  extract_lets target phase low at h
  split at h
  · split at h
    case isTrue hb => exact Option.some.inj h ▸ hb
    case isFalse => cases h
  · obtain rfl := Option.some.inj h
    have hgrid := le_gridFrame e.period e.offset ((low - phase + frameSteps - 1) / frameSteps)
    have hlow : bound ≤ low := Nat.le_max_right ..
    simp only [frameSteps] at *
    omega

theorem afterLast_eq {e : AEntry} {o : Nat} (h : e.lastFire = some o) : afterLast e = o + 1 := by
  simp [afterLast, h]

/-- An SC entry's next occurrence lies after its last. -/
theorem lastFire_lt_nextOcc {e : AEntry} {o n : Nat} {w : Option (Nat × Nat)} {s : State} (hw : e.wall = false) (ho : e.lastFire = some o)
    (hn : nextOcc s e = some (n, w)) : o < n := by
  simp only [nextOcc, occFrom, hw, Bool.false_eq_true, if_false, Option.map_eq_some_iff, Prod.mk.injEq] at hn
  obtain ⟨x, hx, rfl, -⟩ := hn
  have := le_scOcc hx
  rw [afterLast_eq ho] at this
  omega

/-- Settles O17: the firing taken is the least of the due ones, and its occurrence is consumed. -/
theorem orreryFiresTheLowest : Obligations.OrreryFiresTheLowest := by
  refine ⟨?least, ?consumed, ?next⟩
  case least =>
    intro l d h
    obtain ⟨hd, hleast⟩ := firstDue_least h
    exact ⟨hd, fun e he => firesBefore_iff.1 (hleast e he)⟩
  case consumed =>
    intro d s h
    unfold consume
    extract_lets taken
    rw [if_neg (by simp [h]), entryAt_putEntry]
    rfl
  case next => exact fun e o n w s hw ho hn => lastFire_lt_nextOcc hw ho hn

end Sys2Proof.Machine
end

section
/-! PROOFS. Self-repair (R471): what the retirement of a row leaves of the cell tallies and of the rows due. -/
namespace Sys2Proof.Machine

/-! ## Spares and records leave the ledgers and the rows due -/

theorem pushRecord_led (word mtag : Nat) (s : State) : (pushRecord word mtag s).led = s.led := by
  unfold pushRecord
  extract_lets made
  split <;> rfl

theorem pushRecord_due (word mtag : Nat) (s : State) : (pushRecord word mtag s).rpr.due = s.rpr.due := by
  unfold pushRecord
  extract_lets made
  split <;> rfl

theorem takeSpare_led (r : Nat × Nat × Nat) (s : State) : (takeSpare r s).led = s.led := by
  unfold takeSpare
  extract_lets n spare taken warned
  rw [pushRecord_led]
  simp only [warned, when]
  split <;> rfl

/-- A row whose work is over is due no longer. -/
theorem isDue_dropDue (r : Nat × Nat × Nat) (s : State) : isDue (dropDue r s) r = false := by
  simp [isDue, dropDue, modRpr]

theorem isDue_congr {s u : State} (h : u.rpr.due = s.rpr.due) (r : Nat × Nat × Nat) : isDue u r = isDue s r := by
  simp only [isDue, h]

/-! ## The cells (R54, R471) -/

/-- The CELLS balance is a matter of its tallies. -/
theorem balanced_cells_iff {s : State} : balanced s 0 = true ↔
    s.led.cellsFree + s.led.cellsQueued + s.led.cellsStaged + s.led.cellsQuar = 65536 := by
  simp [balanced]

theorem balanced_cells_congr {s u : State} (h : u.led = s.led) : balanced u 0 = balanced s 0 := by
  simp only [balanced, h]

/-- A quarantined cell that returns to FREE keeps the balance. -/
theorem balanced_cellFreed {s : State} (hq : 1 ≤ s.led.cellsQuar) (h : balanced s 0 = true) : balanced (cellFreed s) 0 = true := by
  rw [balanced_cells_iff] at *
  simp only [cellFreed]
  omega

/-- A remapped row of the packet buffer frees its cell; one of another memory has none. -/
theorem remapRow_cases (r : Nat × Nat × Nat) (s : State) : ∃ u, u.led = s.led ∧ isDue u r = false
    ∧ remapRow r s = if r.1 = 1 then cellFreed u else u :=
  ⟨dropCe r (dropDue r (takeSpare r (raise rprPage 2 (inc RPR.ROWS_REMAPPED s)))), takeSpare_led .., isDue_dropDue .., rfl⟩

theorem loseRow_led (r : Nat × Nat × Nat) (s : State) : (loseRow r s).led = s.led := pushRecord_led ..

theorem isDue_loseRow (r : Nat × Nat × Nat) (s : State) : isDue (loseRow r s) r = false :=
  (isDue_congr (pushRecord_due ..) r).trans (isDue_dropDue r (inc RPR.ROWS_LOST s))

/-- A first pass of the test of a row that corrected errors made due frees it as a transient. -/
theorem rowTested_transient {d : DueRow} {s : State} (hw : d.why = .ce) (ho : d.row ∉ s.rpr.once) :
    rowTested d true s = cellFreed (dropCe d.row (dropDue d.row (inc RPR.TRANSIENTS s))) :=
  if_pos (by simp [hw, ho])

/-- Settles O58: a cell that returns to FREE leaves QUARANTINED in the same step, and the row's work ends with it. -/
theorem repairsKeepTheCells : Obligations.RepairsKeepTheCells := by
  refine ⟨?balance, ?due, ?transient⟩
  case balance =>
    intro r s hq h
    obtain ⟨u, hled, -, hu⟩ := remapRow_cases r s
    have hb : balanced u 0 = true := (balanced_cells_congr hled).trans h
    refine ⟨?_, (balanced_cells_congr (loseRow_led r s)).trans h, balanced_cellFreed hq h⟩
    rw [hu]
    split
    · exact balanced_cellFreed (by rw [hled]; exact hq) hb
    · exact hb
  case due =>
    intro r s
    obtain ⟨u, -, hdue, hu⟩ := remapRow_cases r s
    refine ⟨?_, isDue_loseRow r s⟩
    rw [hu]
    split <;> exact hdue
  case transient =>
    intro d s hw ho
    rw [rowTested_transient hw ho]
    exact ⟨isDue_dropDue d.row (inc RPR.TRANSIENTS s), List.mem_cons_self, rfl, rfl⟩

end Sys2Proof.Machine
end

section
/-! PROOFS. The declared section defects (R28, R136, R138): what follows a detection, down to the use of the line for time and the
activation state, leaves the detections and the declaration. -/
namespace Sys2Proof.Machine

/-! ## Frames that leave the buffer write no field (R177, R195) -/

theorem forEach_regs {α : Type} {f : α → State → State} (h : ∀ a s, (f a s).regs = s.regs) (l : List α) (s : State) :
    (forEach l f s).regs = s.regs := by
  induction l generalizing s with
  | nil => rfl
  | cons a r ih => exact (ih (f a s)).trans (h a s)

theorem releaseCls_regs (c : Option (Nat × Nat)) (s : State) : (releaseCls c s).regs = s.regs := by
  unfold releaseCls
  split
  · rfl
  · extract_lets e
    split <;> rfl

theorem freeFrame_regs (staged : Bool) (f : QFrame) (s : State) : (freeFrame staged f s).regs = s.regs :=
  (forEach_regs (f := rowReady) (fun _ _ => rfl) f.bad _).trans (releaseCls_regs f.cls _)

theorem creditPath_regs (defs shapers : List (Nat × Nat)) (n : Int) (s : State) : (creditPath defs shapers n s).regs = s.regs :=
  (forEach_regs (by exact fun _ _ => rfl) _ _).trans (forEach_regs (by exact fun _ _ => rfl) _ _)

theorem returnFrame_regs (confirmed : Bool) (f : SFrame) (s : State) : (returnFrame confirmed f s).regs = s.regs :=
  creditPath_regs ..

theorem loseFrames_regs (l : List SFrame) (s : State) : (loseFrames l s).regs = s.regs := by
  apply forEach_regs
  exact fun f u => freeFrame_regs true f.frame u

/-! ## A transition of the activation state writes no field of SIDR or FRMD (R149 to R151) -/

/-- The places of the pages SIDR and FRMD. -/
abbrev timeOrFraming (k : Nat) : Prop := k / 131072 = 0x03 ∨ k / 131072 = 0x0A

theorem addSrei_kept (v : Nat) (s : State) : Kept timeOrFraming s (addSrei v s) := by
  refine ((Kept.refl s).wr (f := FRMU.SREI_ACC) (by decide) _).trans (kept_when (fun u => ?_) _)
  exact (Kept.refl u).event (f := HDR.CAUSE 0x0B) (by decide) _

theorem addPrei_kept (p v : Nat) (s : State) : Kept timeOrFraming s (addPrei p v s) := by
  have hp : ¬ timeOrFraming (FRMU.PREI_ACC p).key := by simp only [FRMU.PREI_ACC, Fld.key]; omega
  refine ((Kept.refl s).wr hp _).trans (kept_when (fun u => ?_) _)
  exact (Kept.refl u).event (f := HDR.CAUSE 0x0B) (by decide) _

theorem restoreRei_kept (p : Plan) (s : State) : Kept timeOrFraming s (restoreRei p s) := by
  refine kept_ite (.refl s) ?_
  exact (((addSrei_kept p.srei s).trans (addPrei_kept p.preiPath p.prei _)).wr (f := FRMU.NEXT_PATH) (by decide) _).wr
    (f := FRMU.REI_RESTORED) (by decide) _

theorem dropPlans_kept (st : Nat) (s : State) : Kept timeOrFraming s (dropPlans st s) := by
  unfold dropPlans
  split
  exact (kept_of_regs rfl).trans (kept_forEach restoreRei_kept _ _)

theorem dropPlan_kept (c target : Nat) (s : State) : Kept timeOrFraming s (dropPlan c target s) := by
  unfold dropPlan
  split
  exact (kept_of_regs rfl).trans (kept_forEach restoreRei_kept _ _)

theorem withdrawOne_kept (why : Nat) (c : Staged) (s : State) : Kept timeOrFraming s (withdrawOne why c s) := by
  have hcount : ¬ timeOrFraming (BB.BB_WITHDRAWN c.cont).key := by simp only [BB.BB_WITHDRAWN, Fld.key]; omega
  have hlast : ¬ timeOrFraming (BB.LAST_WD c.cont).key := by simp only [BB.LAST_WD, Fld.key]; omega
  unfold withdrawOne
  extract_lets returned blocks _ unstaged noted
  have hreturned : Kept timeOrFraming s unstaged := kept_of_regs (forEach_regs (returnFrame_regs c.confirmed) c.frames.reverse s)
  exact (((hreturned.wr hcount _).wr hlast why).event (f := HDR.CAUSE 0x1D) (by decide) _).trans
    (kept_when (dropPlan_kept c.cont c.target) _)

theorem seatIdle_kept (seat : Nat) (s : State) : Kept timeOrFraming s (seatIdle seat s) := by
  have hseat : ¬ timeOrFraming (DEAL.SEAT_LOST seat).key := by simp only [DEAL.SEAT_LOST, Fld.key]; omega
  exact kept_ite (.refl s)
    (((Kept.refl s).regs (v := { s with deck := { s.deck with lostRun := adel s.deck.lostRun seat } }) rfl).wr hseat 0)

theorem withdrawAll_kept (why : Nat) (s : State) : Kept timeOrFraming s (withdrawAll why s) :=
  ((Kept.refl s).regs (v := { s with tm := { s.tm with waiting := [] } }) rfl).trans
    ((kept_forEach (withdrawOne_kept why) s.tm.staged.reverse _).trans (seatIdle_kept 1 _))

theorem countAbort_kept (s : State) : Kept timeOrFraming s (countAbort s) :=
  ((Kept.refl s).wr (f := FRMU.BURSTS_ABORTED) (by decide) _).wr (f := LANE.BURSTS_ABORTED) (by decide) _

theorem abortLead_kept (p : Plan) (s : State) : Kept timeOrFraming s (abortLead p s) := by
  unfold abortLead
  extract_lets _ counted
  have hcounted : Kept timeOrFraming s counted := (kept_of_regs rfl).trans (countAbort_kept _)
  split
  · exact hcounted
  · exact hcounted.regs (loseFrames_regs _ _)

theorem abortSent_kept (s : State) : Kept timeOrFraming s (abortSent s) := by
  unfold abortSent
  refine kept_ite (.refl s) ?_
  exact ((kept_of_regs rfl).trans (countAbort_kept _)).regs (loseFrames_regs _ _)

/-- An aborted burst is counted in FRMU and LANE. -/
theorem abortBurst_kept (s : State) : Kept timeOrFraming s (abortBurst s) :=
  ((abortSent_kept s).trans (kept_forEach abortLead_kept _ _)).regs rfl

theorem noteFall_kept {P : Nat → Prop} {f : State → State} (h : ∀ s, Kept P s (f s)) (s : State) : Kept P s (noteFall f s) := by
  unfold noteFall
  extract_lets u
  exact kept_ite ((h s).regs rfl) (h s)

theorem goState_kept (st : Nat) (s : State) : Kept timeOrFraming s (goState st s) := by
  refine noteFall_kept (fun u => ?_) s
  extract_lets was dropped withdrawn aborted _ turned changed term profile ranged halted
  refine kept_ite (.refl u) ?_
  have hdropped : Kept timeOrFraming u dropped := dropPlans_kept st u
  have hwithdrawn : Kept timeOrFraming dropped withdrawn := kept_ite (withdrawAll_kept 5 dropped) (.refl dropped)
  have haborted : Kept timeOrFraming withdrawn aborted := kept_ite (abortBurst_kept withdrawn) (.refl withdrawn)
  have hchanged : Kept timeOrFraming aborted changed :=
    (((Kept.refl aborted).regs (v := turned) rfl).wr (f := ACTV.STATE) (by decide) st).event (f := HDR.CAUSE 0x0D) (by decide) _
  have hterm : Kept timeOrFraming changed term := kept_ite (.refl changed) (kept_wr (f := ACTV.TERM_ID) (by decide) 0xFFF changed)
  have hprofile : Kept timeOrFraming term profile := kept_ite (kept_wr (f := ACTV.PROFILE_VALID) (by decide) 0 term) (.refl term)
  have hranged : Kept timeOrFraming profile ranged := kept_ite (.refl profile)
    ((kept_wr (f := ACTV.RANGED_FLAG) (by decide) 0 profile).wr (f := ACTV.POPUP_SEEN) (by decide) 0)
  have hhalted : Kept timeOrFraming ranged halted :=
    kept_when (fun v => (Kept.refl v).event (f := HDR.CAUSE 0x0D) (by decide) _) ranged
  have hleft : Kept timeOrFraming u aborted := (hdropped.trans hwithdrawn).trans haborted
  have hentered : Kept timeOrFraming aborted halted := (((hchanged.trans hterm).trans hprofile).trans hranged).trans hhalted
  exact (hleft.trans hentered).regs rfl

theorem tryStandby_kept (s : State) : Kept timeOrFraming s (tryStandby s) := kept_ite (goState_kept 1 s) (.refl s)

theorem actvLine_kept (s : State) : Kept timeOrFraming s (actvLine s) := by
  unfold actvLine
  extract_lets st was left
  have hleft : Kept timeOrFraming s left := by
    refine kept_ite (kept_ite (goState_kept 0 s) (kept_ite (goState_kept 5 s) (kept_ite (goState_kept 0 s) (.refl s)))) (.refl s)
  exact hleft.trans (tryStandby_kept left)

/-! ## The use of the line for time leaves the defects and ADVANCE (R29, R33) -/

/-- The places of the detections, the declaration and ADVANCE_VALID. -/
abbrev defectPlace (k : Nat) : Prop := k = FRMD.DETECTED.key ∨ k = FRMD.DECLARED.key ∨ k = SIDR.ADV_VALID.key

theorem setQuality_defects (q : Nat) (s : State) : Kept defectPlace s (setQuality q s) :=
  (setQuality_only q s).kept.mono (by rintro k (rfl | rfl | rfl) <;> decide)

theorem slewDone_defects (s : State) : Kept defectPlace s (slewDone s) := by
  have hdone := ((Kept.refl (P := defectPlace) s).wr (f := SIDR.SLEWING) (by decide) 0).event (f := HDR.CAUSE 0x03) (by decide) (2 ^ 7)
  exact hdone.trans (kept_ite (setQuality_defects qLOCKED _) (.refl _))

theorem beginCorrection_defects (e : Int) (s : State) : Kept defectPlace s (beginCorrection e s) := by
  unfold beginCorrection
  extract_lets _ slewing _ _
  have hslewing : Kept defectPlace s slewing := (kept_of_regs rfl).trans (kept_wr (f := SIDR.SLEW_REMAIN) (by decide) _ _)
  refine kept_ite (hslewing.trans (kept_ite (slewDone_defects slewing) (kept_wr (f := SIDR.SLEWING) (by decide) 1 slewing))) ?_
  exact (((Kept.refl s).wr (f := SIDR.SLEW_REMAIN) (by decide) 0).wr (f := SIDR.SLEWING) (by decide) 0).regs rfl

theorem leaveLocked_defects (s : State) : Kept defectPlace s (leaveLocked s) :=
  kept_ite (.refl s) (kept_ite (setQuality_defects _ s) (kept_ite (setQuality_defects _ s) (setQuality_defects _ s)))

theorem abandonCorrection_defects (s : State) : Kept defectPlace s (abandonCorrection s) :=
  (((Kept.refl s).wr (f := SIDR.SLEW_REMAIN) (by decide) 0).wr (f := SIDR.SLEWING) (by decide) 0).regs rfl

theorem updateUsable_defects (s : State) : Kept defectPlace s (updateUsable s) := by
  unfold updateUsable
  extract_lets now was usable
  refine kept_ite ((kept_wr (by decide) 1 s).trans (beginCorrection_defects _ _)) (kept_ite ?_ (.refl s))
  exact ((kept_wr (f := SIDR.LINE_USABLE) (by decide) 0 s).trans (abandonCorrection_defects _)).trans (leaveLocked_defects _)

theorem declarePath_defects (p : Nat) (s : State) : Kept defectPlace s (declarePath p s) := by
  have hdeclared : ¬ defectPlace (FRMD.P_DECLARED p).key := by
    simp only [defectPlace, FRMD.P_DECLARED, FRMD.DETECTED, FRMD.DECLARED, SIDR.ADV_VALID, Fld.key]; omega
  have hcause : ¬ defectPlace (HDR.SUB_CAUSE 0x0A (p / 32)).key := by
    simp only [defectPlace, HDR.SUB_CAUSE, FRMD.DETECTED, FRMD.DECLARED, SIDR.ADV_VALID, Fld.key]; omega
  exact kept_ite (.refl s) ((kept_wr hdeclared _ s).trans (kept_when (fun u => (Kept.refl u).event hcause _) _))

/-! ## Detection and declaration -/

/-- What a declaration writes. -/
theorem declare_defects (s : State) : Kept defectPlace (wr FRMD.DECLARED (highest (rd s FRMD.DETECTED)) s) (declare s) := by
  unfold declare
  extract_lets old det new written cleared raised paths
  have hcleared : Kept defectPlace written cleared :=
    kept_ite ((Kept.refl written).event (f := HDR.CAUSE 0x0A) (by decide) _) (.refl written)
  have hraised : Kept defectPlace cleared raised :=
    kept_ite ((Kept.refl cleared).event (f := HDR.CAUSE 0x0A) (by decide) _) (.refl cleared)
  have hpaths : Kept defectPlace raised paths := kept_forEach declarePath_defects (List.range 16) raised
  exact (((hcleared.trans hraised).trans hpaths).trans (updateUsable_defects paths)).trans
    ((actvLine_kept _).mono (by rintro k (rfl | rfl | rfl) <;> decide))

/-- A declaration leaves the detections and ADVANCE_VALID, and declares the highest of the detections. -/
theorem rd_declare {s : State} (h : rd s FRMD.DETECTED < 32) : rd (declare s) FRMD.DETECTED = rd s FRMD.DETECTED
    ∧ rd (declare s) FRMD.DECLARED = highest (rd s FRMD.DETECTED) ∧ rd (declare s) SIDR.ADV_VALID = rd s SIDR.ADV_VALID := by
  have hfits : ∀ n < 32, highest n < 2 ^ 5 := by decide
  have hkept := declare_defects s
  refine ⟨(hkept _ (by decide)).trans (rd_wr_ne _ _ (by decide)), ?_, (hkept _ (by decide)).trans (rd_wr_ne _ _ (by decide))⟩
  rw [hkept _ (by decide), rd_wr_same]
  exact Nat.mod_eq_of_lt (hfits _ h)

/-- A word of five bits holds a further one. -/
theorem add_bit_lt {v b : Nat} (hb : b < 5) (h : bit v b = false) (hv : v < 32) : v + 2 ^ b < 32 := by
  have hall : ∀ v < 32, ∀ b < 5, bit v b = false → v + 2 ^ b < 32 := by decide
  exact hall v hv b hb h

/-- A new detection stands with those before it, and LOS clears ADVANCE_VALID. -/
theorem rd_setDet {b : Nat} {s : State} (hb : b < 5) (h : bit (rd s FRMD.DETECTED) b = false) (hs : rd s FRMD.DETECTED < 32) :
    rd (setDet b s) FRMD.DETECTED = rd s FRMD.DETECTED + 2 ^ b ∧ (b = 0 → rd (setDet b s) SIDR.ADV_VALID = 0) := by
  unfold setDet
  extract_lets noted skipped
  have hnoted : rd noted FRMD.DETECTED = rd s FRMD.DETECTED + 2 ^ b :=
    (rd_wr_same FRMD.DETECTED _ s).trans (Nat.mod_eq_of_lt (add_bit_lt hb h hs))
  have hskipped : Kept defectPlace noted skipped := kept_ite (kept_of_regs rfl) (.refl noted)
  rw [if_neg (by simp [h])]
  constructor
  · rw [← hnoted, ← hskipped FRMD.DETECTED (by decide)]
    exact kept_when (P := (· = FRMD.DETECTED.key)) (kept_wr (f := SIDR.ADV_VALID) (by decide) 0) skipped _ rfl
  · rintro rfl
    exact rd_wr_same SIDR.ADV_VALID 0 skipped

/-- A detection that has ended no longer stands. -/
theorem rd_clrDet {b : Nat} {s : State} (h : bit (rd s FRMD.DETECTED) b = true) (hs : rd s FRMD.DETECTED < 32) :
    rd (clrDet b s) FRMD.DETECTED = rd s FRMD.DETECTED - 2 ^ b := by
  unfold clrDet
  rw [if_neg (by simp [h])]
  have hcleared : rd (wr FRMD.DETECTED (rd s FRMD.DETECTED - 2 ^ b) s) FRMD.DETECTED = rd s FRMD.DETECTED - 2 ^ b := by
    rw [rd_wr_same]
    exact Nat.mod_eq_of_lt (Nat.lt_of_le_of_lt (Nat.sub_le ..) hs)
  refine Eq.trans (rd_congr ?_ _) hcleared
  unfold secDefEnds
  split <;> rfl

theorem detect_new {b : Nat} {s : State} (h : bit (rd s FRMD.DETECTED) b = false) : detect b s = declare (setDet b s) :=
  if_neg (by simp [h])

theorem undetect_standing {b : Nat} {s : State} (h : bit (rd s FRMD.DETECTED) b = true) : undetect b s = declare (clrDet b s) := if_pos h

/-- Settles O24: a detection is noted first, and what its declaration causes leaves it. -/
theorem defectsAreDeclaredByRank : Obligations.DefectsAreDeclaredByRank := by
  refine ⟨?detect, ?undetect⟩
  case detect =>
    intro b s hb h hs
    obtain ⟨hdet, hlos⟩ := rd_setDet hb h hs
    obtain ⟨hstands, hdeclared, hadvance⟩ := rd_declare (s := setDet b s) (by rw [hdet]; exact add_bit_lt hb h hs)
    rw [detect_new h]
    exact ⟨hstands.trans hdet, by rw [hdeclared, hdet], fun h0 => hadvance.trans (hlos h0)⟩
  case undetect =>
    intro b s _ h hs
    have hdet := rd_clrDet h hs
    obtain ⟨hstands, hdeclared, -⟩ := rd_declare (s := clrDet b s) (by rw [hdet]; exact Nat.lt_of_le_of_lt (Nat.sub_le ..) hs)
    rw [undetect_standing h]
    exact ⟨hstands.trans hdet, by rw [hdeclared, hdet]⟩

end Sys2Proof.Machine
end

section
/-! PROOFS. The commands of sidereal time (R28 to R35): what each does in the state that lets it act. -/
namespace Sys2Proof.Machine

/-! ## ADVANCE (R27, R28) -/

theorem advanceCmd_accepted {p : Port} {v : Nat} {s a : State} (ho : opens s p 0x03) (hr : bits v 30 24 = 0) (hb : bits v 23 0 ≤ 12800000)
    (ha : a = renewLease p 0x03 s) :
    advanceCmd p v s = { a with sidr := { a.sidr with advPend := some (bit v 31, bits v 23 0, a.time.cycle) } } := by
  subst ha
  exact fabricCmd_accepted ho (by simp [firstFail, hr, hb])

theorem updateUsable_unusable {s : State} (hn : lineUsableNow s = false) (hw : rd s SIDR.LINE_USABLE = 0) : updateUsable s = s := by
  simp [updateUsable, hn, hw]

theorem updateUsable_usable {s : State} (hn : lineUsableNow s = true) (hw : rd s SIDR.LINE_USABLE = 1) : updateUsable s = s := by
  simp [updateUsable, hn, hw]

section
variable {valid : Bool} {b : Nat} {s a : State}
  (ha : a = { (s |> wr SIDR.ADV_BITS b |> wrB SIDR.ADV_VALID valid) with sidr := { s.sidr with advPend := none, fine := b % 64 } })
include ha

/-- On a line that is not usable an ADVANCE is in force and nothing more. -/
theorem applyAdvance_unusable (hn : lineUsableNow a = false) (hw : rd a SIDR.LINE_USABLE = 0) : applyAdvance valid b s = a := by
  unfold applyAdvance
  extract_lets old written kept _ applied floor small was updated
  have happlied : applied = a := ha.symm
  have hupdated : updated = a := by simp only [updated, happlied]; exact updateUsable_unusable hn hw
  rw [hupdated]
  simp [was, happlied, hw]

/-- On a usable line a change of at most 64 bit periods moves the SC by the change in whole steps, later in the frame. -/
theorem applyAdvance_small (hn : lineUsableNow a = true) (hw : rd a SIDR.LINE_USABLE = 1) (hup : b ≤ rd s SIDR.ADV_BITS + 64)
    (hdown : rd s SIDR.ADV_BITS ≤ b + 64) : applyAdvance valid b s =
      if b / 64 = rd s SIDR.ADV_BITS / 64 then a else { a with sidr := { a.sidr with
        oneStep := some (((b / 64 : Nat) : Int) - (rd s SIDR.ADV_BITS / 64 : Nat), b % 64), fine := s.sidr.fine } } := by
  unfold applyAdvance
  extract_lets old written kept _ applied floor small was updated
  have happlied : applied = a := ha.symm
  have hupdated : updated = a := by simp only [updated, happlied]; exact updateUsable_usable hn hw
  have hsmall : small = true := by simp only [small, old, Bool.and_eq_true, decide_eq_true_eq]; omega
  have hfloor : floor = 0 ↔ b / 64 = rd s SIDR.ADV_BITS / 64 := by simp only [floor, old]; omega
  have hwas : (decide was && decide (rd updated SIDR.LINE_USABLE = 1)) = true := by simp [was, hupdated, happlied, hw]
  clear_value updated
  subst hupdated
  rw [if_pos hwas, if_pos hsmall]
  simp only [hfloor]
  rfl

end

theorem advanceApply_due {t b c : Nat} {valid : Bool} {s m : State} (hm : meets t s m) (hpend : m.sidr.advPend = some (valid, b, c))
    (hphase : scPhase m = 0) (hc : c < m.time.cycle) : execAdvanceApply t s = .next (applyAdvance valid b m) := by
  refine ev_answers hm ?_
  simp only [hpend, hphase, hc, and_self, if_true]

/-! ## REFCLK learning (R30) -/

section
variable {t : Nat} {ppb : Int} {s m : State} (hm : meets t s m) (hq : quality m = qLOCKED)
  (ht : m.sidr.learnStamp + secondSteps ≤ m.time.cycle)
include hm hq ht

/-- A measurement that is due and out of range restarts the count. -/
theorem learnMeasurement_lost (hp : ppb < -100000 ∨ 100000 < ppb) : execLearnMeasurement t ppb s =
    .next (when (decide (rd m SIDR.LEARN_VALID = 1)) (raise 0x03 6) { wr SIDR.LEARN_VALID 0 m with
      sidr := { m.sidr with learnStamp := m.time.cycle, learnSecs := 0, learnStarted := false } }) := by
  have hdue : ¬ (quality m ≠ qLOCKED ∨ m.time.cycle < m.sidr.learnStamp + secondSteps) := by omega
  exact ev_answers hm ((if_neg hdue).trans (if_pos hp))

/-- A measurement that is due and in range joins the average, or begins it. -/
theorem learnMeasurement_inRange (hlow : -100000 ≤ ppb) (hhigh : ppb ≤ 100000) {a : Int}
    (ha : a = if m.sidr.learnStarted then learnAverage m.sidr.learnAvg ppb else 65536 * ppb) : execLearnMeasurement t ppb s =
    .next (when (decide (256 ≤ m.sidr.learnSecs + 1)) (wr SIDR.LEARN_VALID 1) { wrS SIDR.LEARN_PPB ((a + 32768) / 65536) m with
      sidr := { m.sidr with learnStamp := m.time.cycle, learnSecs := m.sidr.learnSecs + 1, learnStarted := true, learnAvg := a } }) := by
  have hdue : ¬ (quality m ≠ qLOCKED ∨ m.time.cycle < m.sidr.learnStamp + secondSteps) := by omega
  have hrange : ¬ (ppb < -100000 ∨ 100000 < ppb) := by omega
  subst ha
  exact ev_answers hm ((if_neg hdue).trans (if_neg hrange))

end

/-! ## SC_UNCERT and the mains guard (R29, R31, R32) -/

theorem holdLimit_notHoldover {s : State} (h : quality s ≠ qHOLDOVER) : holdLimit s = s := if_neg fun hn => h hn.1

theorem leaveMeridian_notMeridian {s : State} (h : quality s ≠ qMERIDIAN) : leaveMeridian s = s := if_pos h

theorem mainsLearn_notLocked {n : Nat} {s : State} (h : quality s ≠ qLOCKED) : mainsLearn n s = s := if_pos h

theorem mainsSteer_notMeridian {x : Nat} {s : State} (h : quality s ≠ qMERIDIAN) : mainsSteer x s = s := if_pos h

theorem mainsEnter_disabled {s : State} (h : rd s SIDR.MERIDIAN_EN = 0) : mainsEnter s = s := if_neg fun hn => by omega

/-- Outside MERIDIAN a failing guard changes the mains state alone. -/
theorem mainsFail_notMeridian {s : State} (h : quality s ≠ qMERIDIAN) : mainsFail s =
    { (s |> wr SIDR.MAINS_OK 0 |> raise 0x03 5) with sidr := { s.sidr with mainsRun := 0, mainsOkRun := 0 } } := by
  have hkept : Kept (· = SIDR.SC_QUALITY.key) s (s |> wr SIDR.MAINS_OK 0 |> raise 0x03 5) :=
    ((Kept.refl s).wr (f := SIDR.MAINS_OK) (by decide) 0).event (f := HDR.CAUSE 0x03) (by decide) _
  exact leaveMeridian_notMeridian fun hq => h ((hkept _ rfl).symm.trans hq)

theorem uncertGrowth_due {t f : Nat} {s m : State} (hm : meets t s m) (hlocked : quality m ≠ qLOCKED)
    (hholdover : quality m ≠ qHOLDOVER) (ht : m.sidr.uncStamp + secondSteps ≤ m.time.cycle)
    (hf : f = m.sidr.uncFifths + 2 * uncertBound m) : execUncertGrowth t s =
    .next { wr SIDR.SC_UNCERT (min (f / 5) 0xFFFFFFFF) m with sidr := { m.sidr with uncFifths := f, uncStamp := m.time.cycle } } := by
  subst hf
  have hdue : ¬ (quality m = qLOCKED ∨ m.time.cycle < m.sidr.uncStamp + secondSteps) := by omega
  refine ev_answers hm ((if_neg hdue).trans (holdLimit_notHoldover fun hq => hholdover (Eq.trans (Eq.symm ?_) hq)))
  exact rd_wr_ne (f := SIDR.SC_UNCERT) _ m (by decide)

/-- The places that say whether the SC is steered by the mains. -/
abbrev steerPlace (k : Nat) : Prop := k = SIDR.SC_QUALITY.key ∨ k = SIDR.MERIDIAN_EN.key

/-- In FREE, with MERIDIAN disabled, a crossing is neither learned nor steered by, and no other quality is entered. -/
theorem mainsFollows_free {x n : Nat} {s : State} (hq : quality s = qFREE) (hen : rd s SIDR.MERIDIAN_EN = 0) :
    (s |> mainsLearn n |> mainsSteer x |> mainsEnter) = s := by
  rw [mainsLearn_notLocked (by rw [hq]; decide), mainsSteer_notMeridian (by rw [hq]; decide), mainsEnter_disabled hen]

theorem mainsCrossing_counted {t l x : Nat} {s m : State} (hm : meets t s m) (hlast : m.sidr.mainsLast = some l) (hq : quality m = qFREE)
    (hen : rd m SIDR.MERIDIAN_EN = 0) (hx : x = m.time.sc - rd m SIDR.MAINS_FILTER) (hlow : rd m SIDR.MAINS_MIN * frameSteps ≤ x - l)
    (hhigh : x - l ≤ rd m SIDR.MAINS_MAX * frameSteps) : execMainsCrossing t s =
    .next (when (decide (50 ≤ m.sidr.mainsRun + 1)) (wr SIDR.MAINS_OK 1)
      { m with sidr := { m.sidr with mainsLast := some x, mainsTimedOut := false, mainsRun := m.sidr.mainsRun + 1
                                     mainsOkRun := if rd m SIDR.MAINS_OK = 1 then m.sidr.mainsOkRun + 1 else 0 } }) := by
  subst hx
  refine ev_answers hm ?_
  simp only [hlast]
  refine (if_neg (not_or.2 ⟨Nat.not_lt.2 hlow, Nat.not_lt.2 hhigh⟩)).trans ?_
  have hkept (c : Bool) (a : Sidr) : Kept steerPlace m (when c (wr SIDR.MAINS_OK 1) { m with sidr := a }) :=
    ((Kept.refl m).regs rfl).trans (kept_when (fun u => kept_wr (P := steerPlace) (f := SIDR.MAINS_OK) (by decide) 1 u) _)
  exact mainsFollows_free ((hkept _ _ _ (by decide)).trans hq) ((hkept _ _ _ (by decide)).trans hen)

theorem mainsTimeout_due {t l : Nat} {s m : State} (hm : meets t s m) (hlast : m.sidr.mainsLast = some l)
    (hto : m.sidr.mainsTimedOut = false) (hq : quality m ≠ qMERIDIAN) (ht : l + rd m SIDR.MAINS_TIMEOUT * frameSteps ≤ m.time.sc) :
    execMainsTimeout t s = .next { (m |> wr SIDR.MAINS_OK 0 |> raise 0x03 5) with
      sidr := { m.sidr with mainsTimedOut := true, mainsRun := 0, mainsOkRun := 0 } } := by
  refine ev_answers hm ?_
  split
  case h_1 k hk =>
    obtain rfl : l = k := Option.some.inj (hlast.symm.trans hk)
    refine (if_pos (by simp [hto, ht])).trans ?_
    exact mainsFail_notMeridian (s := { m with sidr := { m.sidr with mainsTimedOut := true } }) hq
  case h_2 hn => rw [hlast] at hn; cases hn

/-! ## Slew and step (R28, R34, R35) -/

/-- An adjustment before the last of its slew moves the SC by one step towards the target. -/
theorem slewStep_runs {d : Int} {s : State} (hd : d = 1 ∧ 1 < slewRem s ∨ d = -1 ∧ slewRem s < -1) :
    slewStep s = moveSc d (wrS SIDR.SLEW_REMAIN (slewRem s - d) s) := by
  have hruns : slewRem s ≠ 0 := by omega
  have hmore : slewRem s - d ≠ 0 := by omega
  have hdir : (if 0 < slewRem s then 1 else -1) = d := by split <;> omega
  unfold slewStep
  simp only [hdir, if_neg hruns, if_neg hmore]

theorem slewStep_still {s : State} (h : slewRem s = 0) : slewStep s = s := if_pos h

theorem stepOne_pending {d : Int} {f : Nat} {s : State} (h : s.sidr.oneStep = some (d, f)) :
    stepOne s = moveSc d { s with sidr := { s.sidr with oneStep := none, fine := f } } := by
  simp only [stepOne, h]

/-- The single step of a small ADVANCE change is due in this cycle. -/
theorem slewAdjustment_due {t : Nat} {c : Bool} {s m : State} (hm : meets t s m) (h0 : scPhase m ≠ 0) (hk : scPhase m % 1000 = 0)
    (hadj : m.sidr.lastAdj ≠ some m.time.sc) (hc : (scPhase m = 1000 && m.sidr.oneStep.isSome) = c) (hdue : slewRem m = 0 → c = true) :
    execSlewAdjustment t s = .next (when c stepOne (slewStep { m with sidr := { m.sidr with lastAdj := some m.time.sc } })) := by
  subst hc
  have hacts : ¬ (scPhase m = 0 ∨ scPhase m % 1000 ≠ 0 ∨ m.sidr.lastAdj = some m.time.sc
      ∨ (slewRem m = 0 ∧ (scPhase m = 1000 && m.sidr.oneStep.isSome) = false)) := by
    rintro (h | h | h | ⟨h, hn⟩)
    · exact h0 h
    · exact h hk
    · exact hadj h
    · rw [hdue h] at hn; cases hn
  exact ev_answers hm (if_neg hacts)

theorem scStep_due {t : Nat} {e : Int} {s m : State} (hm : meets t s m) (he : m.sidr.stepE = some e)
    (ht : ((m.time.sc : Int) + e) % tickSteps = 0) : execScStep t s = .next (stepSc e m) := by
  refine ev_answers hm ?_
  simp only [he]
  exact if_pos ht

/-- Settles O11: each command has its effect in the state that lets it act. -/
theorem siderealCommandsComplete : Obligations.SiderealCommandsComplete := by
  refine ⟨?write, ?apply, ?learnFirst, ?learnNext, ?learnLost, ?uncert, ?crossing, ?mainsTimeout, ?slew, ?oneStep, ?step, ?ephTimeout⟩
  case write =>
    intro t p v s m a hm ho hr hb ha
    exact evPort_answers hm (advanceCmd_accepted ho hr hb ha)
  case apply =>
    intro t valid b c s m a hm hpend hphase hc ha
    change (_ → _ → _ → execAdvanceApply t s = _) ∧ (_ → _ → _ → _ → _ → execAdvanceApply t s = _)
    rw [advanceApply_due hm hpend hphase hc]
    exact ⟨fun hn hw _ => congrArg _ (applyAdvance_unusable ha hn hw),
      fun hn hw _ hup hdown => congrArg _ (applyAdvance_small ha hn hw hup hdown)⟩
  case learnFirst =>
    intro t ppb s m hm hq ht hlow hhigh hstart hsecs
    have hsum : (65536 * ppb + 32768) / 65536 = ppb := by omega
    have hn : decide (256 ≤ m.sidr.learnSecs + 1) = false := decide_eq_false (by omega)
    change execLearnMeasurement t ppb s = _
    rw [learnMeasurement_inRange hm hq ht hlow hhigh (a := 65536 * ppb) (by rw [hstart]; rfl), hsum, hn]
    rfl
  case learnNext =>
    intro t ppb a s m hm hq ht hlow hhigh hstart ha
    change execLearnMeasurement t ppb s = _
    rw [learnMeasurement_inRange hm hq ht hlow hhigh (a := a) (by rw [hstart, ha]; rfl), ← hstart]
  case learnLost => exact fun t ppb s m hm hq ht hp => learnMeasurement_lost hm hq ht hp
  case uncert => exact fun t f s m hm hlocked hholdover ht hf => uncertGrowth_due hm hlocked hholdover ht hf
  case crossing => exact fun t l x s m hm hlast hq hen hx hlow hhigh => mainsCrossing_counted hm hlast hq hen hx hlow hhigh
  case mainsTimeout => exact fun t l s m hm hlast hto hq ht => mainsTimeout_due hm hlast hto hq ht
  case slew =>
    intro t d s m hm h0 hk hadj hone hd
    change execSlewAdjustment t s = _
    have hnone : (scPhase m = 1000 && m.sidr.oneStep.isSome) = false := by
      by_cases hp : scPhase m = 1000
      · simp [hone hp]
      · simp [hp]
    rw [slewAdjustment_due hm h0 hk hadj hnone (by omega)]
    exact congrArg _ (slewStep_runs (s := { m with sidr := { m.sidr with lastAdj := some m.time.sc } }) hd)
  case oneStep =>
    intro t f d s m hm hphase hadj hone hrem
    change execSlewAdjustment t s = _
    rw [slewAdjustment_due hm (by omega) (by omega) hadj (by simp [hphase, hone] : _ = true) (fun _ => rfl)]
    rw [slewStep_still (s := { m with sidr := { m.sidr with lastAdj := some m.time.sc } }) hrem]
    exact congrArg _ (stepOne_pending (s := { m with sidr := { m.sidr with lastAdj := some m.time.sc } }) hone)
  case step => exact fun t e s m hm he ht => scStep_due hm he ht
  case ephTimeout => exact fun t s m hm => ev_of_meets hm _

end Sys2Proof.Machine
end

section
/-! PROOFS. The commands of the Orrery, the Almanac and the ledgers (R44 to R67): what each does in the state that lets it act. -/
namespace Sys2Proof.Machine

/-! ## The Almanac (R48 to R50) -/

theorem almanacInstall_accepted {w i : Nat} {p : Port} {e : AEntry} {s a : State} (ho : opens s p 0x05) (hw : w = p.window)
    (hi : i = rd s (ALM.W_INDEX w)) (he : e = windowEntry s w p.code) (hb : cmdBusy s (almCmdAddr w) = false) (h64 : 64 ≤ i)
    (hl : actionLegalOnly s e.unit e.action e.arg = false) (hp : protectedFrom s i p.code = false)
    (hu : unitAbsent s.fuse.variant e.unit e.arg = false) (hr : entryRange e (rd s (ALM.W_TIMEBASE w)) = false)
    (hwall : e.wall = true → rd s SIDR.WALL_STATE ≠ 0) (ht : tooSoon s e = false) (ha : a = accepted p 0x05 (some (ALM.W_CODE w)) s) :
    almanacInstall p s = replaceEntry (rd a (ALM.W_INDEX w)) (windowEntry a w p.code)
      (fireOld (rd a (ALM.W_INDEX w)) (startCmd (almCmdAddr w) 4 a)) := by
  subst hw hi he ha
  have hstate : ((windowEntry s p.window p.code).wall && decide (rd s SIDR.WALL_STATE = 0)) = false := by
    cases hw : (windowEntry s p.window p.code).wall
    · rfl
    · simp [hwall hw]
  have hchecks : firstFail (installChecks s p.window p.code) = none := by
    simp [firstFail_none, installChecks, hb, h64, hl, hp, hu, hr, hstate, ht]
  unfold almanacInstall
  exact fabricCmd_accepted ho hchecks

theorem almanacRemove_accepted {w : Nat} {p : Port} {s a : State} (ho : opens s p 0x05) (hw : w = p.window)
    (hb : cmdBusy s (almCmdAddr w) = false) (h64 : 64 ≤ rd s (ALM.W_INDEX w)) (hp : protectedFrom s (rd s (ALM.W_INDEX w)) p.code = false)
    (ha : a = accepted p 0x05 (some (ALM.W_CODE w)) s) :
    almanacRemove p s = dropEntry (rd a (ALM.W_INDEX w)) (fireOld (rd a (ALM.W_INDEX w)) (startCmd (almCmdAddr w) 4 a)) := by
  subst hw ha
  have hchecks : firstFail (removeChecks s p.window p.code) = none := by simp [firstFail_none, removeChecks, hb, h64, hp]
  unfold almanacRemove
  exact fabricCmd_accepted ho hchecks

theorem almanacRead_accepted {w : Nat} {p : Port} {s a : State} (ho : opens s p 0x05) (hw : w = p.window)
    (hb : cmdBusy s (almCmdAddr w) = false) (ha : a = startCmd (almCmdAddr w) 4 (accepted p 0x05 (some (ALM.W_CODE w)) s)) :
    almanacRead p s = match entryAt a (rd a (ALM.W_INDEX w)) with
      | some e => loadWindow w (rd a (ALM.W_INDEX w)) e a
      | none => clearWindow w a := by
  subst hw ha
  unfold almanacRead
  exact fabricCmd_accepted ho (by simp [firstFail, hb])

/-! ## The Orrery (R44, R45) -/

theorem firingNow_unfired {s : State} (h : s.orry.firedAt ≠ some s.time.cycle) : firingNow s = firstDue (dueOrdinary s ++ dueOwed s) :=
  if_neg h

theorem orreryFire_due {d : DueFire} {s : State} (hf : s.orry.firedAt ≠ some s.time.cycle)
    (hd : firstDue (dueOrdinary s ++ dueOwed s) = some d) : orreryFire s =
    if fireSkipped (consume d s) d.index d.entry then inc ORRY.COND_SKIPPED (consume d s) else sendTrigger d (consume d s) := by
  simp only [orreryFire, firingNow_unfired hf, hd]

/-- An uncorrectable error of an entry that is not legal empties it. -/
theorem entryUe_nonLegal {i : Nat} {e : AEntry} {s : State} (he : entryAt s i = some e) (hi : 64 ≤ i) :
    entryUe i s = (dropEntry i s |> wr ORRY.UE_INDEX i |> wr ORRY.UE_SEEN 1 |> raise 0x04 2 |> condLost 2) := by
  simp only [entryUe, he, if_neg (Nat.not_lt.2 hi)]

/-! ## The snapshot bank and the breaks (R58, R59, R64) -/

/-- An accepted write of a register without a status CODE leaves every field. -/
theorem rd_acceptedBy (w : Writer) (page : Nat) (s : State) (f : Fld) : rd (acceptedBy w page none s) f = rd s f := by
  cases w with
  | lgc => rfl
  | fabric p => exact rd_renewLease p page s f

theorem snapshotCmd_first {w : Writer} {s a : State} (ho : opensTo s w 0x02) (hheld : rd s LEDG.SNAP_HELD = 0)
    (hpend : rd s LEDG.SNAP_PENDING = 0) (ha : a = acceptedBy w 0x02 none s) :
    snapshotCmd w s = ({ a with led := { a.led with snapAt := a.time.cycle } }
      |> wr LEDG.SNAP_PENDING 1 |> wr LEDG.SNAP_OWNER (Writer.code w)) := by
  subst ha
  refine (writerCmd_accepted ho (by simp [snapshotTaken, hheld]) (.inr rfl) rfl).trans (if_neg ?_)
  rw [rd_acceptedBy, hpend]
  decide

/-- A snapshot accepted before its commit cycle is taken in it. -/
theorem snapshotDue_onTick {s : State} (hpend : rd s LEDG.SNAP_PENDING = 1) (hat : s.led.snapAt < s.time.cycle)
    (htick : s.time.sc % tickSteps = 0 ∨ s.sidr.stepTick = true) : (snapshotDue s && (onTick s || s.sidr.stepTick)) = true := by
  simpa [snapshotDue, onTick, hpend, hat] using htick

theorem releaseCmd_owner {w : Writer} {s : State} (ho : opensTo s w 0x02) (hheld : rd s LEDG.SNAP_HELD = 1)
    (howner : rd s LEDG.SNAP_OWNER = Writer.code w) : releaseCmd w s = wr LEDG.SNAP_HELD 0 (acceptedBy w 0x02 none s) :=
  writerCmd_accepted ho rfl (.inr rfl) (by simp [firstFail, notOwner, hheld, howner])

theorem clearBreakCmd_balanced {p : Port} {d : Nat} {s : State} (ho : opens s p 0x02) (hd : d < 6) (hb : balanced s d = true) :
    clearBreakCmd p d s = endBreak d (renewLease p 0x02 s) := by
  have hsealed : ¬ (6 ≤ d ∧ d ≤ 8) := by omega
  have hrange : ¬ 8 < d := by omega
  exact fabricCmd_accepted ho (by simp only [firstFail, hsealed, hrange, hb]; rfl)

/-- Settles O16: each command has its effect in the state that lets it act. -/
theorem orreryAndLedgerCommandsComplete : Obligations.OrreryAndLedgerCommandsComplete := by
  refine ⟨?install, ?remove, ?read, ?fires, ?skips, ?ue, ?snapshot, ?copy, ?release, ?clear⟩
  case install =>
    intro t w i p e s m a hm ho hw hi he hb h64 hl hp hu hr hwall ht ha
    exact evPort_answers hm (almanacInstall_accepted ho hw hi he hb h64 hl hp hu hr hwall ht ha)
  case remove =>
    intro t w p s m a hm ho hw hb h64 hp ha
    exact evPort_answers hm (almanacRemove_accepted ho hw hb h64 hp ha)
  case read =>
    intro t w p s m a hm ho hw hb ha
    exact evPort_answers hm (almanacRead_accepted ho hw hb ha)
  case fires => exact fun t d s m hm hf hd hs => ev_answers hm ((orreryFire_due hf hd).trans (if_neg (by simp [hs])))
  case skips => exact fun t d s m hm hf hd hs => ev_answers hm ((orreryFire_due hf hd).trans (if_pos hs))
  case ue => exact fun t i e s m hm he hi => ev_answers hm (entryUe_nonLegal he hi)
  case snapshot =>
    intro t w s m a hm ho hheld hpend ha
    change evBy _ t s _ = _
    rw [evBy_of_meets hm, snapshotCmd_first ho hheld hpend ha]
  case copy =>
    intro t s m hm hpend hat htick
    change execSnapshotCopy t s = _
    exact ev_answers hm (if_pos (snapshotDue_onTick hpend hat htick))
  case release =>
    intro t w s m hm ho hheld howner
    change evBy _ t s _ = _
    rw [evBy_of_meets hm, releaseCmd_owner ho hheld howner]
  case clear => exact fun t d p s m hm ho hd hb => evPort_answers hm (clearBreakCmd_balanced ho hd hb)

end Sys2Proof.Machine
end

section
/-! PROOFS. The downstream messages of the head end (R155, R165 to R170, R225): what each does where it is next, well formed and
accepted. -/
namespace Sys2Proof.Machine

/-! ## The next waiting message (R167) -/

section
variable {ty f k : Nat} {formOk accepted : State → Nat → List Nat → Bool} {act : Nat → List Nat → State → State}
  {b : List Nat} {r : List (Nat × Nat × List Nat)} {s : State}
  (hoam : s.line.oam = (f, k, b) :: r) (hty : msgType b = ty)
include hoam hty

/-- A well formed message that the state accepts is executed, once the MIC that it requires holds. -/
theorem takeMsg_accepted (hcheck : toCheck s = none) (hform : formOk s k b = true) (hmic : micOk s b = true)
    (hacc : accepted s k b = true) : takeMsg ty formOk accepted act s = skimOam r (noMic (act k b s)) := by
  simp [takeMsg, hoam, hty, hcheck, hform, hmic, hacc]

/-- A message whose MIC failed is discarded. -/
theorem takeMsg_micBad (hcheck : toCheck s = none) (hmic : micOk s b = false) :
    takeMsg ty formOk accepted act s = skimOam r (noMic (msgDiscard s)) := by
  simp [takeMsg, hoam, hty, hcheck, hmic]

end

section
variable {f k : Nat} {b : List Nat} {r : List (Nat × Nat × List Nat)} {s : State} (hoam : s.line.oam = (f, k, b) :: r)
include hoam

/-- Seat 4 has a message to check where it requires a MIC that has not been checked. -/
theorem toCheck_next : toCheck s = if needsMic s b && s.actv.mic.isNone then some (f, k, b) else none := by
  simp only [toCheck, hoam]

/-- A message that requires no MIC is not held up. -/
theorem toCheck_open (h : needsMic s b = false) : toCheck s = none := by rw [toCheck_next hoam, h]; rfl

/-- Nor is one whose MIC has been checked. -/
theorem toCheck_checked {ok : Bool} (h : s.actv.mic = some ok) : toCheck s = none := by
  rw [toCheck_next hoam, h, Option.isNone_some, Bool.and_false]; rfl

/-- A message that seat 4 has still to check waits. -/
theorem takeMsg_unchecked {ty : Nat} {formOk accepted : State → Nat → List Nat → Bool} {act : Nat → List Nat → State → State}
    (hn : needsMic s b = true) (hmic : s.actv.mic = none) : takeMsg ty formOk accepted act s = s := by
  have hcheck : toCheck s = some (f, k, b) := by rw [toCheck_next hoam, hn, hmic]; rfl
  simp [takeMsg, hoam, hcheck]

end

theorem micOk_checked {s : State} {b : List Nat} {ok : Bool} (hn : needsMic s b = true) (hmic : s.actv.mic = some ok) : micOk s b = ok := by
  cases ok <;> simp [micOk, hn, hmic]

theorem micOk_open {s : State} {b : List Nat} (h : needsMic s b = false) : micOk s b = true := by simp [micOk, h]

/-! ## H-class messages (R168) -/

/-- The H-class messages but EPHEMERIS require no MIC. -/
theorem needsMic_low {s : State} {b : List Nat} (h : msgType b < 8) : needsMic s b = false := by
  unfold msgType at h
  simp only [needsMic, Bool.or_eq_false_iff, Bool.and_eq_false_iff, decide_eq_false_iff_not]
  omega

/-- EPHEMERIS requires one where EPH_AUTH says so. -/
theorem needsMic_eph {s : State} {b : List Nat} (h : msgType b = 8) (ha : rd s ACTV.EPH_AUTH = 0) : needsMic s b = false := by
  unfold needsMic
  rw [show b.getD 2 0 = 8 from h, ha]
  rfl

/-- A message that requires no MIC, is well formed and is accepted is executed. -/
theorem openMsg_answers {t ty f k : Nat} {formOk accepted : State → Nat → List Nat → Bool}
    {act : Nat → List Nat → State → State} {b : List Nat} {r : List (Nat × Nat × List Nat)} {s m : State}
    (hm : meets t s m) (hoam : m.line.oam = (f, k, b) :: r) (hty : msgType b = ty) (hopen : needsMic m b = false)
    (hform : formOk m k b = true) (hacc : accepted m k b = true) :
    ev t s (takeMsg ty formOk accepted act) = .next (skimOam r (noMic (act k b m))) :=
  ev_answers hm (takeMsg_accepted hoam hty (toCheck_open hoam hopen) hform (micOk_open hopen) hacc)

theorem notLockout_iff {s : State} {k : Nat} {b : List Nat} : notLockout s k b = true ↔ rd s ACTV.STATE ≠ 7 := by simp [notLockout]

/-! ## S-class messages (R168, R225) -/

theorem needsMic_sClass {s : State} {b : List Nat} (hl : 0x10 ≤ msgType b) (hh : msgType b ≤ 0x14) : needsMic s b = true :=
  Bool.or_eq_true_iff.2 (.inl (decide_eq_true ⟨hl, hh⟩))

/-- The command of an S-class message is delivery to the STC. -/
theorem exec_stcMessage {t ty : Nat} {c : Instr}
    (h : (ty = 0x10 ∧ c = .pathConfig t false) ∨ (ty = 0x11 ∧ c = .keyControl t false) ∨ (ty = 0x12 ∧ c = .price t false)
      ∨ (ty = 0x13 ∧ c = .credit t false) ∨ (ty = 0x14 ∧ c = .oamRequest t false)) (s : State) :
    exec c s = ev t s (stcMessage ty false) ∧ 0x10 ≤ ty ∧ ty ≤ 0x14 := by
  obtain ⟨rfl, rfl⟩ | ⟨rfl, rfl⟩ | ⟨rfl, rfl⟩ | ⟨rfl, rfl⟩ | ⟨rfl, rfl⟩ := h
  all_goals exact ⟨rfl, by decide, by decide⟩

/-- Settles O26: a message that requires a MIC meets the outcome of seat 4's check first, and any other its form and the state alone. -/
theorem headEndMessagesComplete : Obligations.HeadEndMessagesComplete := by
  refine ⟨?profile, ?assignId, ?rangingTime, ?deactivate, ?disable, ?enable, ?popup, ?ephemeris, ?authenticated⟩
  case profile =>
    intro t f k b r s m hm hoam hty hform hst
    exact openMsg_answers hm hoam hty (needsMic_low (by omega)) hform (notLockout_iff.2 hst)
  case assignId =>
    intro t f k b r s m hm hoam hty hzero hid hst hserial
    change execAssignId t s = _
    exact openMsg_answers hm hoam hty (needsMic_low (by omega)) (by simp [hzero, hid]) (by simp [hst, hserial])
  case rangingTime =>
    intro t f k b r s m hm hoam hty hzero hst
    change execRangingTime t s = _
    have hlock : notLockout m k b = true := notLockout_iff.2 (by omega)
    exact openMsg_answers hm hoam hty (needsMic_low (by omega)) hzero (by simp [hst, hlock])
  case deactivate =>
    intro t f k b r s m hm hoam hty hzero hlow hhigh
    change execDeactivate t s = _
    exact openMsg_answers hm hoam hty (needsMic_low (by omega)) hzero (decide_eq_true (by omega))
  case disable =>
    intro t f k b r s m hm hoam hty hzero hst hserial
    change execDisable t s = _
    exact openMsg_answers hm hoam hty (needsMic_low (by omega)) hzero (by rw [notLockout_iff.2 hst, hserial]; rfl)
  case enable =>
    intro t f k b r s m hm hoam hty hzero hst hserial
    change execEnable t s = _
    exact openMsg_answers hm hoam hty (needsMic_low (by omega)) hzero (by simpa [hst] using hserial)
  case popup =>
    intro t f k b r s m hm hoam hty hzero hst hdet
    change execPopup t s = _
    have hlock : notLockout m k b = true := notLockout_iff.2 (by omega)
    exact openMsg_answers hm hoam hty (needsMic_low (by omega)) hzero (by simp [hst, hdet, hlock])
  case ephemeris =>
    intro t f k b r s m hm hoam hty hform hauth
    exact openMsg_answers hm hoam hty (needsMic_eph hty hauth) hform rfl
  case authenticated =>
    intro t f k ty c b r s m hm hoam hty hid hstc hc
    obtain ⟨hexec, hlow, hhigh⟩ := exec_stcMessage hc s
    rw [hexec]
    have hneeds : needsMic m b = true := needsMic_sClass (by omega) (by omega)
    refine ⟨fun hmic => ?right, fun hmic => ?wrong, fun hmic => ?unchecked⟩
    case right =>
      exact ev_answers hm (takeMsg_accepted hoam hty (toCheck_checked hoam hmic) (by simp [hid, hstc]) (micOk_checked hneeds hmic) rfl)
    case wrong => exact ev_answers hm (takeMsg_micBad hoam hty (toCheck_checked hoam hmic) (micOk_checked hneeds hmic))
    case unchecked => exact ev_answers hm (takeMsg_unchecked hoam hneeds hmic)

end Sys2Proof.Machine
end

section
/-! PROOFS. The attention that software forces (R65, R92): what a write of CAUSE_FORCE on the LEDG page changes. -/
namespace Sys2Proof.Machine

/-- A CAUSE_FORCE of leaves that are defined and fitted raises them, and its writer's lease runs anew (R80, R92). -/
theorem causeForce_raises {p : Port} {page v : Nat} {s : State} (hfit : v &&& unfittedBits s page 0x018 = 0)
    (hdef : clearBits v (causeBits page) = 0) (hptr : hasPointer page = true → bit v 31 = false) :
    causeForce p page v s = wr (HDR.CAUSE page) (rd s (HDR.CAUSE page) ||| v) (renewLease p page s) := by
  have hpasses : worst [(decide (v &&& unfittedBits s page 0x018 ≠ 0), Code.absent),
      (decide (clearBits v (causeBits page) ≠ 0), .reserved), (hasPointer page && bit v 31, .range)] = none := by
    rw [worst_none]
    simpa [hfit, hdef] using hptr
  exact (guarded_passes hpasses).trans (by rw [rd_renewLease])

/-- Every leaf of the LEDG page is fitted. -/
theorem unfittedBits_ledg (s : State) (off : Nat) : unfittedBits s 0x02 off = 0 := by simp [unfittedBits]

/-- Settles O6: the accepted write is one write of CAUSE behind the renewal of the writer's lease, and both leave everything else. -/
theorem forcedLedgerCausesOnlyRaise : Obligations.ForcedLedgerCausesOnlyRaise := by
  intro t v p s m hm hopen hdef _ hptr
  have hraises : namedWrite p 0x02 0x018 (causeForce p 0x02 v) m =
      wr (HDR.CAUSE 0x02) (rd m (HDR.CAUSE 0x02) ||| v) (renewLease p 0x02 m) :=
    (namedWrite_opens hopen).trans (causeForce_raises (by rw [unfittedBits_ledg, Nat.and_zero]) hdef hptr)
  have hfields : ∀ f : Fld, f.key ≠ (HDR.CAUSE 0x02).key →
      rd (wr (HDR.CAUSE 0x02) (rd m (HDR.CAUSE 0x02) ||| v) (renewLease p 0x02 m)) f = rd m f :=
    fun f hf => (rd_wr_ne _ _ hf).trans (rd_renewLease p 0x02 m f)
  refine ⟨_, (evBy_of_meets hm _).trans (congrArg _ hraises), rd_wr_same .., fun f hf _ => hfields f hf, hfields _ (by decide), ?halts, ?_⟩
  case halts => exact fun u => congrArg (fun l : Ledger => (tallyOf l.trig u).halted) (by simp)
  simp

end Sys2Proof.Machine
end

section
/-! PROOFS. The packet buffer (R54, R177, R178): what the admission, the drop and the freeing of a frame do to the tallies of cells and
descriptors. -/
namespace Sys2Proof.Machine

/-! ## The balances of the buffer (R54) -/

/-- The DESC balance is a matter of its tallies. -/
theorem balanced_desc_iff {s : State} : balanced s 1 = true ↔ s.led.descFree + s.led.descInUse = 32768 := by simp [balanced]

/-- The CELLS and DESC balances hold. -/
abbrev BufferBalanced (s : State) : Prop := balanced s 0 = true ∧ balanced s 1 = true

theorem bufferBalanced_iff {s : State} : BufferBalanced s ↔
    s.led.cellsFree + s.led.cellsQueued + s.led.cellsStaged + s.led.cellsQuar = 65536 ∧ s.led.descFree + s.led.descInUse = 32768 :=
  and_congr balanced_cells_iff balanced_desc_iff

/-- The balances are a matter of the ledger. -/
theorem BufferBalanced.congr {s u : State} (h : BufferBalanced s) (hled : u.led = s.led) : BufferBalanced u := by
  rw [bufferBalanced_iff] at *
  rwa [hled]

/-! ## A frame enters its queue, or is dropped (R178) -/

/-- A frame is dropped and the ledger stands, or it enters its queue with the cells and the descriptor that it needs free. -/
theorem takeIn_cases (src q : Nat) (f : QFrame) (s : State) : (takeIn src q f s).led = s.led ∨
    (takeIn src q f s = enqueue q f s ∧ cellsOf f ≤ s.led.cellsFree ∧ 0 < s.led.descFree) := by
  unfold takeIn
  extract_lets n depth up tooDeep overY
  generalize (if up then TMGR.PART_UP else TMGR.PART_DN) = limit
  split
  case isTrue closed => exact .inl rfl
  split
  case isTrue full => exact .inl rfl
  split
  case isTrue partitionFull => exact .inl rfl
  split
  case isTrue noCells => exact .inl rfl
  case isFalse hcells =>
    split
    case isTrue noDescriptor => exact .inl rfl
    case isFalse hdesc => exact .inr ⟨rfl, Nat.le_of_not_lt hcells, Nat.pos_of_ne_zero hdesc⟩

/-- An enqueued frame's cells go from FREE to QUEUED, and its descriptor comes into use. -/
theorem bufferBalanced_enqueue {q : Nat} {f : QFrame} {s : State} (hcells : cellsOf f ≤ s.led.cellsFree) (hdesc : 0 < s.led.descFree)
    (h : BufferBalanced s) : BufferBalanced (enqueue q f s) := by
  rw [bufferBalanced_iff] at *
  obtain ⟨hc, hd⟩ := h
  simp only [enqueue]
  omega

/-! ## A frame leaves the buffer (R177) -/

/-- A loop leaves what each of its rounds leaves. -/
theorem forEach_same {α β : Type} {part : State → β} {f : α → State → State} (h : ∀ a s, part (f a s) = part s) (l : List α) (s : State) :
    part (forEach l f s) = part s := by
  induction l generalizing s with
  | nil => rfl
  | cons a r ih => exact (ih (f a s)).trans (h a s)

/-- The end of a reference to a classifier entry leaves the ledger. -/
theorem releaseCls_led (c : Option (Nat × Nat)) (s : State) : (releaseCls c s).led = s.led := by
  unfold releaseCls
  split
  · rfl
  · extract_lets e
    split <;> rfl

/-- The tallies as a frame's cells and descriptor return to FREE, its cells in rows due for retirement to QUARANTINED. -/
def ledAfterFree (staged : Bool) (f : QFrame) (l : Ledger) : Ledger :=
  { l with
    cellsFree := l.cellsFree + cellsOf f - f.bad.length
    cellsQuar := l.cellsQuar + f.bad.length
    cellsQueued := if staged then l.cellsQueued else l.cellsQueued - cellsOf f
    cellsStaged := if staged then l.cellsStaged - cellsOf f else l.cellsStaged
    descFree := l.descFree + 1
    descInUse := l.descInUse - 1 }

theorem freeFrame_led (staged : Bool) (f : QFrame) (s : State) : (freeFrame staged f s).led = ledAfterFree staged f s.led := by
  have hrows := forEach_same (part := State.led) (f := rowReady) (fun _ _ => rfl) f.bad
  cases staged <;> exact (hrows _).trans (releaseCls_led f.cls _)

/-- A frame's cells and descriptor return from where they are counted in use. -/
theorem bufferBalanced_freeFrame {staged : Bool} {f : QFrame} {s : State}
    (hcells : cellsOf f ≤ if staged then s.led.cellsStaged else s.led.cellsQueued) (hbad : f.bad.length ≤ cellsOf f)
    (hdesc : 0 < s.led.descInUse) (h : BufferBalanced s) : BufferBalanced (freeFrame staged f s) := by
  rw [bufferBalanced_iff] at *
  obtain ⟨hc, hd⟩ := h
  rw [freeFrame_led]
  cases staged
  case false => simp only [ledAfterFree, Bool.false_eq_true, if_false] at *; omega
  case true => simp only [ledAfterFree, if_true] at *; omega

/-- Settles O30: a frame takes only cells and a descriptor that are free, and gives back only what is counted in use. -/
theorem cellsAndDescriptorsAreConserved : Obligations.CellsAndDescriptorsAreConserved := by
  refine ⟨?taken, ?freed⟩
  case taken =>
    intro src q f s hc hd
    obtain hled | ⟨hin, hcells, hdesc⟩ := takeIn_cases src q f s
    · exact BufferBalanced.congr ⟨hc, hd⟩ hled
    · rw [hin]
      exact bufferBalanced_enqueue hcells hdesc ⟨hc, hd⟩
  case freed => exact fun staged f s hc hd hcells hbad hdesc => bufferBalanced_freeFrame hcells hbad hdesc ⟨hc, hd⟩

end Sys2Proof.Machine
end

section
/-! PROOFS. The frames that a check of ingress drops (R63, R178, R182, R200): what a frame reads of the state until it is dropped, and where
it is counted. -/
namespace Sys2Proof.Machine

/-! ## The counters of a source (R178) -/

/-- The places outside the counters of the sources, which stand from 0x10100 on, and the classifier's page behind them. -/
abbrev uncounted (k : Nat) : Prop := k / 32 < 0x10100 ∨ 0x12000 ≤ k / 32

theorem TMGR.SRC_CNT_key (i j : Nat) : (TMGR.SRC_CNT i j).key = 32 * 0x10100 + 1024 * i + 128 * j := by
  simp only [TMGR.SRC_CNT, Fld.key]; omega

theorem TMGR.SRC_CNT_counted {src j : Nat} (hs : src < 19) (hj : j < 8) : ¬ uncounted (TMGR.SRC_CNT src j).key := by
  rw [TMGR.SRC_CNT_key]; omega

/-- The counters of a source are apart. -/
theorem TMGR.SRC_CNT_key_ne {src i j : Nat} (h : i ≠ j) : (TMGR.SRC_CNT src i).key ≠ (TMGR.SRC_CNT src j).key := by
  rw [TMGR.SRC_CNT_key, TMGR.SRC_CNT_key]; omega

theorem rd_inc_same (f : Fld) (s : State) : rd (inc f s) f = (rd s f + 1) % 2 ^ f.w := rd_wr_same ..

theorem rd_inc_ne {f g : Fld} (h : g.key ≠ f.key) (s : State) : rd (inc f s) g = rd s g := rd_wr_ne _ _ h

/-! ## What decides over a frame -/

section
variable {s u : State} (h : Kept uncounted s u)
include h

theorem Kept.tmHalted : tmHalted u = tmHalted s := by
  simp only [Machine.tmHalted, broken, h LEDG.BREAK (by decide)]

theorem Kept.bulkRuns (hp : u.pwr = s.pwr) : bulkRuns u = bulkRuns s := by
  simp only [Machine.bulkRuns, h PWR.STATE (by decide), hp]

/-- The key of a frame is a matter of its bytes and the settings of its source. -/
theorem Kept.lookupKey {src : Nat} (hs : src < 19) (d : List Nat) : lookupKey u src d = lookupKey s src d := by
  have hsetting : ∀ lo w r : Nat, lo < 32 → rd u ⟨0x10080 + 4 * src, lo, w, r⟩ = rd s ⟨0x10080 + 4 * src, lo, w, r⟩ :=
    fun lo w r hlo => h _ (.inl (by simp only [Fld.key]; omega))
  have htag : rd u (TMGR.TAG_OFFSET src) = rd s (TMGR.TAG_OFFSET src) := hsetting 0 _ _ (by decide)
  have hvid : rd u (TMGR.USE_VID src) = rd s (TMGR.USE_VID src) := hsetting 30 _ _ (by decide)
  have hpcp : rd u (TMGR.USE_PCP src) = rd s (TMGR.USE_PCP src) := hsetting 29 _ _ (by decide)
  have huse : rd u (TMGR.USE_TAG src) = rd s (TMGR.USE_TAG src) := hsetting 28 _ _ (by decide)
  unfold Machine.lookupKey tagShort
  rw [htag, hvid, hpcp, huse]

end

/-! ## A frame dropped before its lookup (R63, R178, R200) -/

/-- A frame is counted as received at its source. -/
abbrev received (src : Nat) (s : State) : State := inc (TMGR.SRC_CNT src 0) s

theorem received_kept {src : Nat} (hs : src < 19) (s : State) : Kept uncounted s (received src s) :=
  kept_wr (TMGR.SRC_CNT_counted hs (by decide)) _ s

/-- What a discarded frame changes: its two counters at its source, and no queue and no tally. -/
structure Discarded (src : Nat) (s u : State) : Prop where
  err : rd u (TMGR.SRC_CNT src 1) = (rd s (TMGR.SRC_CNT src 1) + 1) % 2 ^ (TMGR.SRC_CNT src 1).w
  count : rd u (TMGR.SRC_CNT src 0) = (rd s (TMGR.SRC_CNT src 0) + 1) % 2 ^ (TMGR.SRC_CNT src 0).w
  queues : u.tm.queues = s.tm.queues
  led : u.led = s.led

theorem discarded_dropAt (src : Nat) (s : State) : Discarded src s (dropAt src 1 (received src s)) where
  err := by rw [dropAt, rd_inc_same, rd_inc_ne (TMGR.SRC_CNT_key_ne (by decide))]
  count := by rw [dropAt, rd_inc_ne (TMGR.SRC_CNT_key_ne (by decide)), rd_inc_same]
  queues := rfl
  led := rfl

/-- The cause of a frame of a wrong length leaves the counters. -/
theorem Discarded.raise {src : Nat} {s u : State} (h : Discarded src s u) (b : Nat) : Discarded src s (raise 0x10 b u) where
  err := (rd_event_ne _ _ (by rw [TMGR.SRC_CNT_key, HDR.CAUSE_key]; omega)).trans h.err
  count := (rd_event_ne _ _ (by rw [TMGR.SRC_CNT_key, HDR.CAUSE_key]; omega)).trans h.count
  queues := h.queues
  led := h.led

/-- A frame that comes while the traffic manager takes none, or whose length is out of range, is discarded. -/
theorem ingress_discarded {src : Nat} {d : List Nat} {s : State} (hs : src < 19)
    (h : rd s (HDR.ENABLE 0x10) = 0 ∨ tmHalted s = true ∨ d.length < 64 ∨ 9728 < d.length) : Discarded src s (ingress src d s) := by
  have hkept := received_kept hs s
  have henable : rd (received src s) (HDR.ENABLE 0x10) = rd s (HDR.ENABLE 0x10) := hkept _ (by decide)
  unfold ingress
  extract_lets r
  split
  case isTrue closed => exact discarded_dropAt src s
  case isFalse hopen =>
    have hlength : d.length < 64 ∨ 9728 < d.length := by
      obtain hdisabled | hhalt | hlength := h
      · exact absurd (.inl (henable.trans hdisabled)) hopen
      · exact absurd (.inr (.inl (hkept.tmHalted.trans hhalt))) hopen
      · exact hlength
    rw [if_pos hlength]
    exact (discarded_dropAt src s).raise 4

/-! ## A frame dropped by its entry (R180, R182) -/

/-- A frame has been looked up: it is received, a short TAG is counted at its source, and the lookup by the classifier. -/
def lookedUp (src : Nat) (d : List Nat) (s : State) : State :=
  inc CLS.LOOKUPS (when (tagShort (received src s) src d) (inc (TMGR.SRC_CNT src 5)) (received src s))

/-- A lookup is counted in registers alone. -/
theorem lookedUp_tm (src : Nat) (d : List Nat) (s : State) : (lookedUp src d s).tm = s.tm := by
  unfold lookedUp when
  split <;> simp

theorem lookedUp_led (src : Nat) (d : List Nat) (s : State) : (lookedUp src d s).led = s.led := by
  unfold lookedUp when
  split <;> simp

theorem lookedUp_kept {src : Nat} (hs : src < 19) (d : List Nat) (s : State) : Kept uncounted s (lookedUp src d s) :=
  ((received_kept hs s).trans (kept_when (fun u => kept_wr (TMGR.SRC_CNT_counted hs (by decide)) _ u) _)).wr (f := CLS.LOOKUPS) (by decide) _

/-- Neither the reception nor the lookup of a frame counts in the drops of its source. -/
theorem rd_lookedUp_dropCls {src : Nat} (hs : src < 19) (d : List Nat) (s : State) :
    rd (lookedUp src d s) (TMGR.SRC_CNT src 2) = rd s (TMGR.SRC_CNT src 2) := by
  have hlookups : (TMGR.SRC_CNT src 2).key ≠ CLS.LOOKUPS.key := by
    rw [TMGR.SRC_CNT_key]
    change _ ≠ 32 * 0x11044
    omega
  have hapart : ∀ j, 2 ≠ j → ∀ u : State, rd (inc (TMGR.SRC_CNT src j) u) (TMGR.SRC_CNT src 2) = rd u (TMGR.SRC_CNT src 2) :=
    fun j hj u => rd_inc_ne (TMGR.SRC_CNT_key_ne hj) u
  unfold lookedUp when
  rw [rd_inc_ne hlookups]
  split
  case isTrue short => rw [hapart 5 (by decide), hapart 0 (by decide)]
  case isFalse => rw [hapart 0 (by decide)]

/-- A frame of an admissible length whose entry says so is dropped once it is looked up (R182). -/
theorem ingress_droppedByEntry {src i : Nat} {e : CEntry} {d : List Nat} {s : State} (hs : src < 19)
    (hen : rd s (HDR.ENABLE 0x10) = 1) (hhalt : tmHalted s = false) (hruns : bulkRuns s = true) (hshort : 64 ≤ d.length)
    (hlong : d.length ≤ 9728) (hfind : findKey s (lookupKey s src d) = some (i, e)) (hdrop : bit e.action 31 = true) :
    ∃ u, ingress src d s = dropAt src 2 u ∧ u.regs = (lookedUp src d s).regs ∧ u.tm.queues = s.tm.queues ∧ u.led = s.led := by
  have hkept := received_kept hs s
  have hopen : ¬ (rd (received src s) (HDR.ENABLE 0x10) = 0 ∨ tmHalted (received src s) = true ∨ bulkRuns (received src s) = false) := by
    rw [hkept (HDR.ENABLE 0x10) (by decide), hkept.tmHalted, hkept.bulkRuns rfl, hen, hhalt, hruns]
    decide
  have hlength : ¬ (d.length < 64 ∨ 9728 < d.length) := by omega
  have hfound : findKey (lookedUp src d s) (lookupKey (lookedUp src d s) src d) = some (i, e) := by
    rw [(lookedUp_kept hs d s).lookupKey hs]
    simpa only [findKey, lookedUp_tm] using hfind
  have hqueues : (lookedUp src d s).tm.queues = s.tm.queues := by rw [lookedUp_tm]
  unfold ingress
  rw [if_neg hopen, if_neg hlength]
  generalize vlanOf d = vlan
  extract_lets short looked
  rw [show looked = lookedUp src d s from rfl]
  simp only [hfound, hdrop, if_true]
  exact ⟨_, rfl, rfl, hqueues, lookedUp_led src d s⟩

/-- Settles O31: what drops a frame before its lookup, and its entry after it, stand before any effect on a queue or a tally. -/
theorem framesDroppedAreCounted : Obligations.FramesDroppedAreCounted := by
  refine ⟨?discarded, ?byEntry⟩
  case discarded =>
    intro src d s hs h
    obtain ⟨err, count, queues, led⟩ := ingress_discarded hs h
    exact ⟨err, count, queues, led⟩
  case byEntry =>
    intro src i e d s hs hen hhalt hruns hshort hlong hfind hdrop
    obtain ⟨u, hu, hregs, hqueues, hled⟩ := ingress_droppedByEntry hs hen hhalt hruns hshort hlong hfind hdrop
    rw [hu, dropAt, rd_inc_same, rd_congr hregs, rd_lookedUp_dropCls hs]
    exact ⟨rfl, hqueues, hled⟩

end Sys2Proof.Machine
end

section
/-! PROOFS. The state at the instant F (R54, R486, R487): the ledgers balance, no unit is halted, and no leaf of the attention tree stands. -/
namespace Sys2Proof.Machine

/-- No page has a CAUSE or SUB_CAUSE leaf at reset, and no refusal stands. -/
theorem summary_reset : summary State.reset = 0 := by decide

/-- No domain is out of balance at reset: every cell, descriptor and engine is counted where it starts, and every other tally is 0. -/
theorem balanced_reset (d : Nat) : balanced State.reset d = true := by
  unfold balanced
  split <;> rfl

/-- A unit that no trigger has reached is not halted. -/
theorem unitHalted_untriggered {s : State} (h : s.led.trig = []) (u : Nat) : unitHalted s u = false := by
  simp [unitHalted, tallyOf, h]

theorem attnFollows_reset : attnFollows State.reset := by
  unfold attnFollows
  rw [summary_reset]
  decide

theorem stcFollows_reset : stcFollows State.reset := by
  unfold stcFollows stcCondition
  rw [summary_reset]
  decide

theorem vectorsFollow_reset : vectorsFollow State.reset := by
  unfold vectorsFollow
  rw [summary_reset]
  decide

/-- Settles O3: with no leaf standing SUMMARY is 0, so that no line is asserted and no vector has sent. -/
theorem resetState : Obligations.ResetState :=
  ⟨rfl, rfl, by decide, by decide, by decide, by decide, unitHalted_untriggered rfl, balanced_reset,
    attnFollows_reset, stcFollows_reset, vectorsFollow_reset⟩

end Sys2Proof.Machine
end

section
/-! PROOFS. The seal, its sensors, the sealed store and the audit log (R334 to R359): what each command does in the state that lets it act. -/
namespace Sys2Proof.Machine

/-! ## The seal (R337, R338) -/

/-- A filtered edge of SEAL_SW is noted with its time, a rise as the beginning of an opening. -/
def edgeNoted (up : Prop) [Decidable up] (s : State) : State :=
  wrB LEGL.SW_FILT (decide up) { s with leg := { s.leg with
    edges := s.time.cycle :: sealEdges s
    rose := if up then s.time.ticks else s.leg.rose
    noSession := decide up || s.leg.noSession
    leftLogged := s.leg.leftLogged && !decide up } }

section
variable {up : Prop} [Decidable up] (s : State)

theorem edgeNoted_rise (h : up) : edgeNoted up s = wr LEGL.SW_FILT 1 { s with leg := { s.leg with
    edges := s.time.cycle :: sealEdges s, rose := s.time.ticks, noSession := true, leftLogged := false } } := by
  simp [edgeNoted, h, wrB, b2n]

theorem edgeNoted_fall (h : ¬ up) :
    edgeNoted up s = wr LEGL.SW_FILT 0 { s with leg := { s.leg with edges := s.time.cycle :: sealEdges s } } := by
  simp [edgeNoted, h, wrB, b2n]

end

/-- An edge within MAX_EDGES does not set off the guard of SEAL_SW: the seal follows, and a fall ends the session. -/
theorem sealEdge_quiet {s : State} (h : (sealEdges s).length < rd s LEGL.SEAL_MAX_EDGES) :
    sealEdge s = sealFollow (if rd s LEGL.SW_FILT = 0 then edgeNoted (rd s LEGL.SW_FILT = 0) s
      else endSession 1 (edgeNoted (rd s LEGL.SW_FILT = 0) s)) := by
  unfold sealEdge
  extract_lets up _ noted fresh _ raised followed
  have hmax : rd noted LEGL.SEAL_MAX_EDGES = rd s LEGL.SEAL_MAX_EDGES := rd_wr_ne _ _ (by decide)
  have hedges : noted.leg.edges.length = (sealEdges s).length + 1 := rfl
  have hquiet : fresh = false := by
    simp only [fresh, hmax, hedges, Bool.and_eq_false_iff, decide_eq_false_iff_not]
    omega
  rw [show followed = noted from if_neg (by simp [hquiet])]
  rfl

/-- The places of the LGC's state and of the filtered levels of SEAL_SW and TAMPER_N. -/
abbrev sealInput (k : Nat) : Prop := k = SYS.LGC_STATE.key ∨ k = LEGL.SW_FILT.key ∨ k = LEGL.TAMPER_FILT.key

section
variable {s u : State} (h : Kept sealInput s u)
include h

theorem Kept.lgcRuns : lgcRuns u = lgcRuns s := by
  rw [Machine.lgcRuns, h _ (by decide), Machine.lgcRuns]

theorem Kept.sealLevels : sealLevels u = sealLevels s := by
  rw [Machine.sealLevels, h _ (by decide), h _ (by decide), Machine.sealLevels]

end

/-- Where the seal does not change, following it does nothing. -/
theorem sealFollow_same {s : State} (h : sealRest s = rd s LEGL.SEAL_STATE) : sealFollow s = s := if_pos (.inr h)

/-- A risen SEAL_SW outside a session arms the seal, which a running LGC logs. -/
theorem sealFollow_risen {s : State} (hshut : sealOpen s = false) (hup : rd s LEGL.SW_FILT = 1) (hcalm : s.leg.chatter = false) :
    sealFollow s = if rd s LEGL.SEAL_STATE = 1 then s else
      when (lgcRuns s) (logEvent 0x10 0x60 [1, rd s LEGL.TAMPER_FILT]) (raise 0x60 0 (wr LEGL.SEAL_STATE 1 s)) := by
  have hrest : sealRest s = 1 := if_pos ⟨hup, hcalm⟩
  by_cases harmed : rd s LEGL.SEAL_STATE = 1
  · rw [if_pos harmed, sealFollow_same (hrest.trans harmed.symm)]
  · have hchanges : ¬ (sealOpen s = true ∨ sealRest s = rd s LEGL.SEAL_STATE) := by
      rw [hshut, hrest]
      simpa [eq_comm] using harmed
    have hkept : Kept sealInput s (raise 0x60 0 (wr LEGL.SEAL_STATE 1 s)) :=
      ((Kept.refl s).wr (f := LEGL.SEAL_STATE) (by decide) 1).event (f := HDR.CAUSE 0x60) (by decide) _
    have hlevels : sealLevels (raise 0x60 0 (wr LEGL.SEAL_STATE 1 s)) = [1, rd s LEGL.TAMPER_FILT] := by
      rw [hkept.sealLevels, sealLevels, hup]
    unfold sealFollow
    rw [if_neg hchanges, if_neg harmed, hrest]
    simp only [hkept.lgcRuns, hlevels, decide_true, if_true]

/-- A fall within MAX_EDGES ends the session, and the seal follows. -/
theorem sealEdge_falls {s : State} (hfilt : rd s LEGL.SW_FILT = 1) (h : (sealEdges s).length < rd s LEGL.SEAL_MAX_EDGES) :
    sealEdge s = sealFollow (endSession 1 (wr LEGL.SW_FILT 0 { s with leg := { s.leg with edges := s.time.cycle :: sealEdges s } })) := by
  have hdown : ¬ rd s LEGL.SW_FILT = 0 := by omega
  rw [sealEdge_quiet h, if_neg hdown, edgeNoted_fall s hdown]

/-- A rise within MAX_EDGES outside a session arms the seal. -/
theorem sealEdge_rises {s b : State} (hfilt : rd s LEGL.SW_FILT = 0) (h : (sealEdges s).length < rd s LEGL.SEAL_MAX_EDGES)
    (hcalm : s.leg.chatter = false) (hshut : sealOpen s = false)
    (hb : b = wr LEGL.SW_FILT 1 { s with leg := { s.leg with
      edges := s.time.cycle :: sealEdges s, rose := s.time.ticks, noSession := true, leftLogged := false } }) :
    sealEdge s = if rd s LEGL.SEAL_STATE = 1 then b else
      when (lgcRuns s) (logEvent 0x10 0x60 [1, rd s LEGL.TAMPER_FILT]) (raise 0x60 0 (wr LEGL.SEAL_STATE 1 b)) := by
  have hkept : ∀ f : Fld, f.key ≠ LEGL.SW_FILT.key → rd b f = rd s f := fun f hf => by
    rw [hb]
    exact rd_wr_ne _ _ hf
  have hopen : sealOpen b = false := by
    rw [← hshut, sealOpen, hkept _ (by decide), sealOpen]
  have hup : rd b LEGL.SW_FILT = 1 := by rw [hb, rd_wr_same]; rfl
  have hchatter : b.leg.chatter = false := by rw [hb]; exact hcalm
  have hruns : lgcRuns b = lgcRuns s := by rw [lgcRuns, hkept _ (by decide), lgcRuns]
  rw [sealEdge_quiet h, if_pos hfilt, edgeNoted_rise s hfilt, ← hb, sealFollow_risen hopen hup hchatter, hruns,
    hkept LEGL.SEAL_STATE (by decide), hkept LEGL.TAMPER_FILT (by decide)]

/-- An opening without a session that has lasted OPEN_TIMEOUT is logged. -/
theorem leftOpen_due {s : State} (hup : rd s LEGL.SW_FILT = 1) (hnone : s.leg.noSession = true) (hfirst : s.leg.leftLogged = false)
    (hlong : s.leg.rose + 400 * rd s LEGL.OPEN_TIMEOUT ≤ s.time.ticks) (hruns : lgcRuns s = true) :
    leftOpen s = logEvent 0x11 0x60 (sealLevels s) (raise 0x60 1 { s with leg := { s.leg with leftLogged := true } }) := by
  have hkept : Kept sealInput s (raise 0x60 1 { s with leg := { s.leg with leftLogged := true } }) :=
    (kept_of_regs (u := { s with leg := { s.leg with leftLogged := true } }) rfl).event (f := HDR.CAUSE 0x60) (by decide) _
  have hstill := hkept.lgcRuns.trans hruns
  unfold leftOpen
  rw [if_pos ⟨hup, hnone, hfirst, hlong⟩]
  simp only [hstill, hkept.sealLevels, when, if_true]

/-! ## TAMPER_N (R339) -/

/-- A logged event stands in the buffer, or counts as lost in the ALOG page. -/
theorem logEvent_kept (event source : Nat) (data : List Nat) (s : State) : Kept sealInput s (logEvent event source data s) := by
  unfold logEvent logEventAt
  split
  split
  · exact kept_of_regs rfl
  · exact ((Kept.refl s).wr (f := ALOG.UNLOGGED) (by decide) _).event (f := HDR.CAUSE 0x61) (by decide) _

theorem logEvent_tamperAt (event source : Nat) (data : List Nat) (s : State) :
    (logEvent event source data s).leg.tamperAt = s.leg.tamperAt := by
  unfold logEvent logEventAt
  split
  split <;> rfl

/-- The end of a session writes SEAL_STATE, its two identities and a cause. -/
theorem endSession_kept (reason : Nat) (s : State) : Kept sealInput s (endSession reason s) := by
  unfold endSession
  split
  case isTrue shut => exact .refl s
  case isFalse =>
    extract_lets n logged
    have hlogged : Kept sealInput s logged := kept_when (logEvent_kept _ _ _) s
    refine Kept.event (f := HDR.CAUSE 0x60) ?_ (by decide) _
    refine Kept.wr (f := LEGL.OFFICER_ID) ?_ (by decide) 0
    refine Kept.wr (f := LEGL.STATION_ID) ?_ (by decide) 0
    refine Kept.wr (f := LEGL.SEAL_STATE) ?_ (by decide) _
    exact hlogged.regs rfl

/-- The end of a session leaves the time of the last logged tamper. -/
theorem endSession_tamperAt (reason : Nat) (s : State) : (endSession reason s).leg.tamperAt = s.leg.tamperAt := by
  unfold endSession
  split
  case isTrue shut => rfl
  case isFalse =>
    extract_lets n logged
    have hlogged : logged.leg.tamperAt = s.leg.tamperAt := by
      simp only [logged, when]
      split
      · exact logEvent_tamperAt ..
      · rfl
    exact hlogged

/-- The first tamper that a running LGC sees is counted, ends the session and is logged. -/
theorem tamper_logged {s b : State} (hruns : lgcRuns s = true) (hfirst : s.leg.tamperAt = none)
    (hb : b = raise 0x60 2 (inc LEGL.TAMPER_COUNT (endSession 3 (wr LEGL.TAMPER_FILT 1 s)))) :
    tamper s = logEvent 0x16 0x60 ([rd b LEGL.SW_FILT] ++ toLe 4 (rd b LEGL.TAMPER_COUNT))
      { b with leg := { b.leg with tamperAt := some b.time.cycle } } := by
  have hkept : Kept (· = SYS.LGC_STATE.key) s b := by
    rw [hb]
    have hended := ((Kept.refl s).wr (f := LEGL.TAMPER_FILT) (by decide) 1).trans
      ((endSession_kept 3 _).mono (Q := (· = SYS.LGC_STATE.key)) fun k hk => .inl hk)
    exact (hended.wr (f := LEGL.TAMPER_COUNT) (by decide) _).event (f := HDR.CAUSE 0x60) (by decide) _
  have hstill : lgcRuns b = true := by rw [← hruns, lgcRuns, hkept _ rfl, lgcRuns]
  have hnone : b.leg.tamperAt = none := by
    rw [hb]
    exact (endSession_tamperAt 3 _).trans hfirst
  subst hb
  unfold tamper
  extract_lets filtered counted held
  have hheld : held = false := by simp only [held, counted, filtered, hnone]
  rw [hheld, if_neg Bool.false_ne_true, if_pos hstill]

/-! ## The VRES guard (R347) -/

theorem vresSample_within {mv : Nat} {s : State} (hlow : rd s LEGL.VRES_MIN ≤ mv) (hhigh : mv ≤ rd s LEGL.VRES_MAX) :
    vresSample mv s = ({ s with leg := { s.leg with vresRun := s.leg.vresRun + 1 } } |> wr LEGL.VRES_NOW mv
      |> wrB LEGL.VRES_OK (decide (max 1 (rd s LEGL.VRES_FILTER) ≤ s.leg.vresRun + 1))) := by
  simp [vresSample, hlow, hhigh, when]

theorem vresSample_outside {mv : Nat} {s : State} (h : mv < rd s LEGL.VRES_MIN ∨ rd s LEGL.VRES_MAX < mv) :
    vresSample mv s = raise 0x60 3 ({ s with leg := { s.leg with vresRun := 0 } } |> wr LEGL.VRES_NOW mv |> wr LEGL.VRES_OK 0) := by
  have hout : ¬ (rd s LEGL.VRES_MIN ≤ mv ∧ mv ≤ rd s LEGL.VRES_MAX) := by omega
  simp [vresSample, hout, when, wrB, b2n]

/-! ## The store (R346, R349) -/

/-- With no commit running none is overdue. -/
theorem totOverdue_idle {s : State} (h : s.leg.tot = none) : totOverdue s = s := by simp [totOverdue, h]

/-- A due commit with VRES satisfied starts: its slot takes the payload, and it covers the bookings that no break stops. -/
theorem totStart_starts {b n : Nat} {p : List Nat} {s a : State} (htot : s.leg.tot = none) (hdue : s.leg.due = true)
    (hcal : calRuns s = false) (hstore : rd s LEGL.STORE_LOST = 0) (hvres : rd s LEGL.VRES_OK = 1) (hb : b = rd s LEGL.ACTIVE_BANK)
    (hn : n = if billHalted s = true then 0 else s.leg.bookings.length)
    (hp : p = totalsPayload (if billHalted s = true then s else view s))
    (ha : a = modBank b (fun k => { k with journal := aset k.journal (nextSlot s) { payload := p } }) s) :
    totStart s = showCommit { a with leg := { a.leg with due := false, tot := some {
      slot := nextSlot s, seq := (rd s LEGL.TOTALS_SEQ + 1) % 2 ^ 32, start := a.time.cycle, payload := p, covers := n } } } := by
  have hready : ¬ (!s.leg.due || s.leg.tot.isSome || calRuns s || decide (rd s LEGL.STORE_LOST = 1)) = true := by
    simp [htot, hdue, hcal, hstore]
  have hok : vresOk s = true := decide_eq_true hvres
  unfold totStart
  rw [if_neg hready]
  simp only [hok, if_true, ← hb, ← hn, ← hp, ← ha]

/-! ## The log (R356, R359) -/

theorem rolloverDone_runs {c seq : Nat} {r : LgcReq} {s : State} (hroll : s.leg.roll = some (c, r, seq))
    (hopen : sealOpen (eraseLog s) = true) :
    rolloverDone s = mboxAnswer r.win 0 r.tag r.code (sessionBytes (eraseLog s) seq 5 0 []) (eraseLog s) := by
  simp [rolloverDone, hroll, hopen]

/-- READ_POS at a position that the log holds loads the entry there. -/
theorem readPosCmd_held {p : Port} {pos : Nat} {s a : State} (ho : opens s p 0x61) (hpos : pos < 4096) (hheld : pos < s.leg.log.length)
    (ha : a = (accepted p 0x61 none s |> wr ALOG.READ_POS pos |> wr ALOG.READ_READY 1)) :
    readPosCmd p pos s = forEach (List.range 12)
      (fun k => wr (ALOG.ENTRY k) (le (slice (logBytes (s.leg.log.getD pos {})) (4 * k) 4))) a := by
  have hchecks : firstFail [(decide (4096 ≤ pos), Code.reserved), (decide (s.leg.log.length ≤ pos), .range)] = none := by
    simp [firstFail, Nat.not_le.2 hpos, Nat.not_le.2 hheld]
  have hleg : (accepted p 0x61 none s).leg = s.leg := renewLease_leg p 0x61 s
  unfold readPosCmd
  rw [fabricCmd_accepted ho hchecks, ha]
  simp only [hleg]

/-- Settles O46: each command has its effect in the state that lets it act. -/
theorem sealAndStoreCommandsComplete : Obligations.SealAndStoreCommandsComplete := by
  refine ⟨?idDone, ?falls, ?rises, ?leftOpen, ?tampered, ?released, ?timeout, ?within, ?outside, ?commit, ?commitDone, ?calDone, ?rollover,
    ?readPos⟩
  case idDone =>
    intro t k s m hm hid hruns
    change execIdComputeDone t s = _
    exact ev_answers hm (if_pos (by simp [hid, hruns]))
  case falls => exact fun t s m b hm hfilt hedges hb => ev_answers hm ((sealEdge_falls hfilt hedges).trans (by rw [hb]))
  case rises => exact fun t s m b hm hfilt hedges hcalm hshut hb => ev_answers hm (sealEdge_rises hfilt hedges hcalm hshut hb)
  case leftOpen => exact fun t s m hm hup hnone hfirst hlong hruns => ev_answers hm (leftOpen_due hup hnone hfirst hlong hruns)
  case tampered =>
    intro t s m b hm hfilt hruns hfirst hb
    change execTamper t true s = _
    exact ev_answers hm ((if_pos rfl).trans ((if_pos hfilt).trans (tamper_logged hruns hfirst hb)))
  case released =>
    intro t s m hm
    change execTamper t false s = _
    exact ev_answers hm (if_neg Bool.false_ne_true)
  case timeout => exact fun t s m hm hopen hlong => ev_answers hm (if_pos ⟨hopen, hlong⟩)
  case within => exact fun t mv s m b hm hlow hhigh hb => ev_answers hm ((vresSample_within hlow hhigh).trans (by rw [hb]))
  case outside => exact fun t mv s m b hm hout hb => ev_answers hm ((vresSample_outside hout).trans (by rw [hb]))
  case commit =>
    intro t b n p s m a hm htick hruns htot hdue hcal hstore hvres hb hn hp ha
    change execTotalsCommit t s = _
    refine ev_answers hm ((if_pos (by simp [htick, hruns])).trans ?_)
    rw [totOverdue_idle htot]
    exact totStart_starts htot hdue hcal hstore hvres hb hn hp ha
  case commitDone =>
    intro t x s m hm _
    change execTotalsCommitDone t s = _
    exact ev_of_meets hm _
  case calDone =>
    intro t c s m hm hcal hstart hdone
    change execCalCommitDone t s = _
    exact ev_answers hm (by simp [hcal, hstart, hdone])
  case rollover => exact fun t c seq r s m hm hroll hopen => ev_answers hm (rolloverDone_runs hroll hopen)
  case readPos => exact fun t pos p s m a hm ho hpos hheld ha => evPort_answers hm (readPosCmd_held ho hpos hheld ha)

end Sys2Proof.Machine
end

section
/-! PROOFS. The writes and reads of the fabric ports (R71, R72, R76, R79, R80, R83): where a 32-bit write goes, what each kind of write that no
check refuses does, and what a read of one or two words leaves. -/
namespace Sys2Proof.Machine

/-! ## Where a write goes -/

/-- A group of sub-cause words begins at its base. -/
theorem subWord_below {page off base : Nat} (h : off < base) : subWord page off base = none := if_neg fun hn => by omega

/-- Between the header and the sub-cause words a write that starts no command is a HI word, a LO word or a plain one. -/
theorem routeWrite_noCommand {p : Port} {page off v : Nat} {x : Outside} {s : State} (hlow : 0x20 ≤ off) (hhigh : off < 0xE00)
    (hc : command p page off v x = none) : routeWrite p page off v x s =
      if pairHiAt page off then pairHi p page off v s else if pairLoAt page off then pairLo p page off v s else plainWrite p page off v s := by
  unfold routeWrite
  rw [if_neg (by omega), subWord_below (by omega), subWord_below (by omega), subWord_below (by omega), hc]

/-- An aligned 4-byte write is one 32-bit write (R71). -/
theorem writeAny_four {p : Port} {page off v : Nat} (ho : off < 4096) (ha : off % 4 = 0) (hv : v < 2 ^ 32) (x : Outside) (s : State) :
    writeAny p (page * 0x1000 + off) 4 v x s = fabricWrite p page off v x s := by
  unfold writeAny
  rw [if_pos ⟨rfl, by omega⟩, Nat.mod_eq_of_lt hv, show (page * 0x1000 + off) / 4096 = page by omega,
    show (page * 0x1000 + off) % 4096 = off by omega]

/-! ## Writes that no check refuses -/

/-- A plain write takes the selection of its page's window first, and then writes the rows of its word. -/
theorem plainWrite_passes {p : Port} {page off v : Nat} {s l : State} (hl : l = loadSelection page s)
    (h : worst (plainChecks p l (setRows (fun r => r.ty.candidate) page off v l) page off v) = none) :
    plainWrite p page off v s = written page off (renewLease p page l)
      (forEach (wordRows page (rowsOff page off)) (rowWrite p page v) (renewLease p page l)) := by
  subst hl
  unfold plainWrite
  exact guarded_passes h

/-- A LO write is held apart for its port, in place of an earlier one. -/
theorem pairLo_passes {p : Port} {page off v : Nat} {s a : State} (hfit : unfitted s page off = false)
    (hserial : page = 0x0D → enabled s 0x0D = false) (ha : a = renewLease p page s) :
    pairLo p page off v s = { a with fab := { a.fab with
      heldLo := (p, page * 0x1000 + off, v % 2 ^ 32) :: a.fab.heldLo.filter fun h => !decide (h.1 = p ∧ h.2.1 = page * 0x1000 + off) } } := by
  subst ha
  unfold pairLo
  exact guarded_passes (worst_none.2 (by simpa [hfit] using hserial))

/-- The HI write with a held LO writes the pair as one value, the held LO being discarded. -/
theorem pairHi_passes {p : Port} {page off v lo : Nat} {s d a : State} (hpage : page ≠ 0x22)
    (hheld : heldLoOf s p (page * 0x1000 + off - 4) = some lo) (hd : d = dropLo p (page * 0x1000 + off - 4) s)
    (hsealed : sealedBits d page off = 0 ∨ pairDiffers d page off lo v = false) (hfit : unfitted d page off = false)
    (hdef : clearBits v (allowedBits page off) = 0) (hunit : worst (unitChecks p d (setPair page off lo v d) page off v) = none)
    (ha : a = renewLease p page d) : pairHi p page off v s = written page off a (setPair page off lo v a) := by
  subst ha
  unfold pairHi
  simp only [hheld, if_neg hpage, ← hd]
  refine guarded_passes (worst_none.2 ?_)
  rw [List.forall_mem_append]
  refine ⟨?_, worst_none.1 hunit⟩
  rcases hsealed with hsealed | hsame
  · simp [hsealed, hfit, hdef]
  · simp [hsame, hfit, hdef]

/-! ## PAGE_LOCK (R79) -/

/-- A lease runs for its owner alone (R80). -/
theorem renewLease_free {p : Port} {page : Nat} {s : State} (h : rd s (HDR.OWNER page) = 0) : renewLease p page s = s := by
  refine if_neg ?_
  rw [h]
  cases p <;> decide

/-- LOCK = 1 takes a free page for the writer. -/
theorem lockAct_free {p : Port} {page v : Nat} {s : State} (hlock : bit v 31 = true) (hfree : rd s (HDR.OWNER page) = 0) :
    lockAct p page v s = (s |> wr (HDR.OWNER page) p.code |> wr (HDR.LOCK page) 1) := by
  simp [lockAct, hlock, hfree]

/-- LOCK = 1 with ENABLE as it stands changes no more than the owner of a free page, whose lease begins. -/
theorem pageCtl_locks {p : Port} {page v : Nat} {s : State} (hfree : rd s (HDR.OWNER page) = 0) (hv : v = 2 ^ 31 + rd s (HDR.ENABLE page))
    (hen : rd s (HDR.ENABLE page) < 2)
    (hc : worst (enableChecks s (wr (HDR.ENABLE page) (rd s (HDR.ENABLE page)) s) page v) = none) :
    pageCtl p page v s = renewLease p page (s |> wr (HDR.OWNER page) p.code |> wr (HDR.LOCK page) 1) := by
  have henable : bits v 0 0 = rd s (HDR.ENABLE page) := by simp only [bits, hv]; omega
  have hreserved : bits v 30 30 = 0 ∧ bits v 27 1 = 0 := by simp only [bits, hv]; omega
  have hlock : bit v 31 = true := by simp only [bit, hv, beq_iff_eq]; omega
  have hflips : (enabled s page != enabled (wr (HDR.ENABLE page) (rd s (HDR.ENABLE page)) s) page) = false := by
    simp only [enabled, rd_wr_same, show (HDR.ENABLE page).w = 1 from rfl, Nat.pow_one, Nat.mod_eq_of_lt hen, bne_self_eq_false]
  unfold pageCtl
  simp only [henable, hreserved, hflips]
  refine (guarded_passes (worst_none.2 ?_)).trans ?_
  · rw [List.forall_mem_append]
    exact ⟨by simp, worst_none.1 hc⟩
  · rw [if_neg Bool.false_ne_true, renewLease_free hfree, lockAct_free hlock hfree]

/-! ## Reads (R71) -/

section
variable {p : Port} {page off : Nat} (s : State) (hp : page < 256) (ha : off % 4 = 0)
include hp ha

theorem readWords_four (ho : off < 4096) : readWords p (page * 0x1000 + off) 4 s = readAct p page off s := by
  have hn : ((page * 0x1000 + off) % 4 + 4 + 3) / 4 = 1 := by omega
  have hword : ((page * 0x1000 + off) / 4 * 4 + 4 * 0) % 2 ^ 20 = page * 0x1000 + off := by omega
  have hpage : (page * 0x1000 + off) / 4096 = page := by omega
  have hoff : (page * 0x1000 + off) % 4096 = off := by omega
  simp only [readWords, hn, List.range_one, List.map_cons, List.map_nil, forEach, List.foldl_cons, List.foldl_nil, hword, hpage, hoff]

/-- The words of a longer read are read in rising order. -/
theorem readWords_eight (ho : off + 4 < 4096) :
    readWords p (page * 0x1000 + off) 8 s = readAct p page (off + 4) (readAct p page off s) := by
  have hn : ((page * 0x1000 + off) % 4 + 8 + 3) / 4 = 2 := by omega
  have hfirst : ((page * 0x1000 + off) / 4 * 4 + 4 * 0) % 2 ^ 20 = page * 0x1000 + off := by omega
  have hnext : ((page * 0x1000 + off) / 4 * 4 + 4 * 1) % 2 ^ 20 = page * 0x1000 + (off + 4) := by omega
  have hpage : (page * 0x1000 + off) / 4096 = page ∧ (page * 0x1000 + (off + 4)) / 4096 = page := by omega
  have hoff : (page * 0x1000 + off) % 4096 = off ∧ (page * 0x1000 + (off + 4)) % 4096 = off + 4 := by omega
  have hrange : List.range 2 = [0, 1] := rfl
  simp only [readWords, hn, hrange, List.map_cons, List.map_nil, forEach, List.foldl_cons, List.foldl_nil, hfirst, hnext, hpage, hoff]

end

/-- Settles O7: each write passes the page checks and its own, and then has the effect of its rule. -/
theorem portWritesComplete : Obligations.PortWritesComplete := by
  refine ⟨?plain, ?read, ?pairLo, ?pairHi, ?pageLock, ?leaseExpire⟩
  case plain =>
    intro t p page off v x s m l hm ho hp hhigh ha hlow hv hcommand hhi hlo hl hpasses
    refine (registerWrite_of_meets hm (by omega) 4 v x).trans ?_
    rw [writeAny_four (by omega) ha hv, fabricWrite_opens ho, routeWrite_noCommand hlow hhigh hcommand, hhi, hlo]
    exact congrArg _ (plainWrite_passes hl hpasses)
  case read =>
    intro t p page off s m hm hp ho ha
    refine ⟨(evBy_of_meets hm _).trans ?_, fun ho' => (evBy_of_meets hm _).trans ?_⟩
    · exact congrArg _ (readWords_four m hp ha ho)
    · exact congrArg _ (readWords_eight m hp ha ho')
  case pairLo =>
    intro t p page off v s m a hm ho hlo hfit hserial ha
    change execPairLoWrite t p page off v s = _
    unfold execPairLoWrite
    exact evPort_answers hm ((if_pos hlo).trans ((namedWrite_opens ho).trans (pairLo_passes hfit hserial ha)))
  case pairHi =>
    intro t p page off v lo s m d a hm ho hhigh hlow hhi hpage hcommand hheld hd hsealed hfit hdef hunit ha
    change execPairHiWrite t p page off v s = _
    unfold execPairHiWrite
    refine evPort_answers hm ((if_pos hhi).trans ((fabricWrite_opens ho).trans ?_))
    rw [routeWrite_noCommand hlow hhigh hcommand, if_pos hhi]
    exact pairHi_passes hpage hheld hd hsealed hfit hdef hunit ha
  case pageLock =>
    intro t p page v s m hm ho hfree hv hen hc
    change execPageLock t p page v s = _
    exact evPort_answers hm ((namedWrite_opens ho).trans (pageCtl_locks hfree hv hen hc))
  case leaseExpire =>
    intro t page s m hm hended
    change execLockLeaseExpire t page s = _
    exact ev_answers hm (if_pos hended)

end Sys2Proof.Machine
end

section
/-! PROOFS. The commands of the page header and of the attention tree (R76, R77, R88 to R98, R432): the RWC groups, the clears and forces of
causes, the hold-offs, and the messages that are sent again. -/
namespace Sys2Proof.Machine

/-! ## RWC groups (R76, R77) -/

/-- The fields of a TICK_COMMIT word that names a GROUP_SEQ: COMMIT, DISCARD, the reserved bits and GROUP_SEQ (R73). -/
theorem tickCommit_fields {v c n : Nat} (hv : v = c + 65536 * n) (hc : c < 4) (hn : n < 65536) :
    bit v 0 = bit c 0 ∧ bit v 1 = bit c 1 ∧ bits v 15 2 = 0 ∧ bits v 31 16 = n := by
  subst hv
  refine ⟨congrArg (· == 1) (by omega), congrArg (· == 1) (by omega), ?_, ?_⟩
  · simp only [bits]
    omega
  · simp only [bits]
    omega

theorem commit_fields {v n : Nat} (hv : v = 1 + 65536 * n) (hn : n < 65536) :
    bit v 0 = true ∧ bit v 1 = false ∧ bits v 15 2 = 0 ∧ bits v 31 16 = n := tickCommit_fields hv (by decide) hn

theorem discard_fields {v n : Nat} (hv : v = 2 + 65536 * n) (hn : n < 65536) :
    bit v 0 = false ∧ bit v 1 = true ∧ bits v 15 2 = 0 ∧ bits v 31 16 = n := tickCommit_fields hv (by decide) hn

section
variable {p : Port} {page v : Nat} {g : RwcGroup} {s a : State} (hg : rwcOf s page = some g) (hidle : g.armed = false)
  (hseq : rd s (HDR.GROUP_SEQ page) < 65536) (ha : a = renewLease p page s)
include hg hidle hseq ha

/-- A COMMIT that names the page's GROUP_SEQ arms the group against its writer, in the present cycle. -/
theorem tickCommit_arms (hfields : g.fields ≠ []) (hcode : groupCode p s g = none) (hv : v = 1 + 65536 * rd s (HDR.GROUP_SEQ page)) :
    tickCommit p page v s = { a with fab := { a.fab with
      rwc := { g with armed := true, by_ := p, at_ := a.time.cycle } :: a.fab.rwc.filter fun x => x.page != page } } := by
  obtain ⟨hcommit, hkeep, hreserved, hnamed⟩ := commit_fields hv hseq
  subst ha
  unfold tickCommit
  simp only [hg, Option.getD_some, hcommit, hkeep, hreserved, hnamed, hidle, hcode]
  exact guarded_passes (worst_none.2 (by simp [hfields]))

/-- A DISCARD that names the page's GROUP_SEQ empties a group that is not armed. -/
theorem tickCommit_discards (hv : v = 2 + 65536 * rd s (HDR.GROUP_SEQ page)) :
    tickCommit p page v s = { a with fab := { a.fab with rwc := a.fab.rwc.filter fun x => x.page != page } } := by
  obtain ⟨hkeep, hdiscard, hreserved, hnamed⟩ := discard_fields hv hseq
  subst ha
  unfold tickCommit
  simp only [hg, Option.getD_some, hkeep, hdiscard, hreserved, hnamed, hidle]
  exact guarded_passes (worst_none.2 (by simp))

end

/-- An armed group of an earlier cycle that passes its recheck takes effect. -/
theorem groupApply_passes {page : Nat} {g : RwcGroup} {s : State} (hg : rwcOf s page = some g) (harmed : g.armed = true)
    (hat : g.at_ < s.time.cycle) (hcode : groupCode g.by_ s g = none) :
    groupApply page s = withGroup g (inc (HDR.GROUP_SEQ page) { s with fab := { s.fab with rwc := s.fab.rwc.filter fun x => x.page != page } }) := by
  simp [groupApply, hg, harmed, hat, hcode]

/-! ## Writes of CAUSE and of the sub-cause words (R90 to R92) -/

/-- An accepted clear of CAUSE clears the written leaves, and EVENT of MBOX stands while its queue holds an event. -/
theorem causeClear_clears {p : Port} {page v : Nat} {s a : State} (hdef : clearBits v (causeBits page) = 0)
    (hfit : v &&& unfittedBits s page 0x010 = 0) (hptr : hasPointer page = true → bit v 31 = true → pointerBit s page = true)
    (hv : v < 2 ^ 32) (ha : a = renewLease p page s) :
    causeClear p page v s = when (decide (page = 0xF0 ∧ s.stc.events ≠ [])) (raise 0xF0 4) (w1c (HDR.CAUSE page) v a) := by
  subst ha
  unfold causeClear
  refine (guarded_passes (worst_none.2 ?_)).trans (by rw [Nat.mod_eq_of_lt hv, renewLease_stc])
  simpa [hfit, hdef] using hptr

section
variable {p : Port} {page w v : Nat} {s a : State} (hfit : clearBits (v &&& subDefined page w) (subFitted s page w) = 0)
  (hdef : clearBits v (subDefined page w) = 0)
include hfit hdef

/-- No check refuses a write of sub-cause bits that are defined and fitted. -/
theorem worst_subChecks : worst (subChecks s page w v) = none := worst_none.2 (by simp [subChecks, hfit, hdef])

theorem subClear_clears (ha : a = renewLease p page s) : subClear p page w v s = w1c (HDR.SUB_CAUSE page w) v a := by
  subst ha
  exact guarded_passes (worst_subChecks hfit hdef)

theorem subForce_raises (ha : a = renewLease p page s) :
    subForce p page w v s = wr (HDR.SUB_CAUSE page w) (rd a (HDR.SUB_CAUSE page w) ||| v) a := by
  subst ha
  exact guarded_passes (worst_subChecks hfit hdef)

end

/-! ## A clear and an event of one cycle (R82, R98) -/

theorem bit_eq_testBit (v b : Nat) : bit v b = v.testBit b := by
  rw [Nat.testBit_eq_decide_div_mod_eq]
  rfl

theorem clearBits_mod_two (a b : Nat) : clearBits a b % 2 = clearBits (a % 2) (b % 2) := by
  have hle : a &&& b ≤ a := Nat.and_le_left
  have hlow : a % 2 &&& b % 2 ≤ a % 2 := Nat.and_le_left
  have hmod : (a &&& b) % 2 = a % 2 &&& b % 2 := Nat.and_mod_two_pow (n := 1)
  unfold clearBits
  omega

theorem clearBits_div_two (a b : Nat) : clearBits a b / 2 = clearBits (a / 2) (b / 2) := by
  have hdiv : (a &&& b) / 2 = a / 2 &&& b / 2 := Nat.and_div_two
  have hle : a / 2 &&& b / 2 ≤ a / 2 := Nat.and_le_left
  have hlow : a % 2 &&& b % 2 ≤ a % 2 := Nat.and_le_left
  have hmod : (a &&& b) % 2 = a % 2 &&& b % 2 := Nat.and_mod_two_pow (n := 1)
  unfold clearBits
  omega

/-- By the recursion of the bits: the lowest one is that of the remainders by 2, the others are those of the halves. -/
theorem testBit_clearBits (a b k : Nat) : (clearBits a b).testBit k = (a.testBit k && !b.testBit k) := by
  induction k generalizing a b with
  | zero =>
    rw [Nat.testBit_zero, Nat.testBit_zero, Nat.testBit_zero, clearBits_mod_two]
    rcases Nat.mod_two_eq_zero_or_one a with ha | ha
    · simp [ha, clearBits]
    · rcases Nat.mod_two_eq_zero_or_one b with hb | hb
      · simp [ha, hb, clearBits]
      · simp [ha, hb, clearBits]
  | succ k ih => rw [Nat.testBit_succ, clearBits_div_two, ih, Nat.testBit_succ, Nat.testBit_succ]

/-- A bit of what one word has beside another. -/
theorem bit_clearBits (a b k : Nat) : bit (clearBits a b) k = (bit a k && !bit b k) := by
  simp only [bit_eq_testBit, testBit_clearBits]

theorem bit_or (a b k : Nat) : bit (a ||| b) k = (bit a k || bit b k) := by
  simp only [bit_eq_testBit, Nat.testBit_or]

theorem bit_two_pow (k j : Nat) : bit (2 ^ k) j = decide (k = j) := by
  rw [bit_eq_testBit, Nat.testBit_two_pow]

/-- A bit within a field reads as it was written. -/
theorem bit_rd_wr {f : Fld} {k : Nat} (hk : k < f.w) (v : Nat) (s : State) : bit (rd (wr f v s) f) k = bit v k := by
  rw [rd_wr_same, bit_eq_testBit, bit_eq_testBit, Nat.testBit_mod_two_pow, decide_eq_true hk, Bool.true_and]

/-- An event sets its bits. -/
theorem bit_rd_event {f : Fld} {k : Nat} (hk : k < f.w) (m : Nat) (s : State) : bit (rd (event f m s) f) k = (bit (rd s f) k || bit m k) :=
  (bit_rd_wr hk _ _).trans (bit_or ..)

/-- The bits of an event are of its cycle. -/
theorem setNow_event (f : Fld) (m : Nat) (s : State) : setNow (event f m s) f = setNow s f ||| m := by
  simp [setNow, event_fab, aset, aget]

/-- A clear clears the written bits but those that an event of its cycle sets. -/
theorem bit_rd_w1c {f : Fld} {k : Nat} (hk : k < f.w) (v : Nat) (s : State) :
    bit (rd (w1c f v s) f) k = (bit (rd s f) k && !(bit v k && !bit (setNow s f) k)) := by
  rw [w1c, bit_rd_wr hk, bit_clearBits, bit_clearBits]

/-! ## The hold-offs (R95, R96) -/

/-- The driver of ATTN_N leaves the hold-off of the STC's line. -/
theorem attnPin_stcHold (e : Nat) (s : State) : (attnPin e s).attn.stcHold = s.attn.stcHold := by
  obtain ⟨-, -, hattn, -⟩ := attnPin_only e s
  rw [hattn]

/-- The hold-off of ATTN_N ends alone. -/
theorem holdoffEnd_pin {s : State} (hpin : rd s ATTN.HOLDOFF = 1) (hend : s.attn.holdEnd ≤ s.time.cycle) (hstc : s.attn.stcHold = false) :
    holdoffEnd s = attnPin s.time.cycle (wr ATTN.HOLDOFF 0 s) := by
  have hstill : (attnPin s.time.cycle (wr ATTN.HOLDOFF 0 s)).attn.stcHold = false := (attnPin_stcHold ..).trans hstc
  simp [holdoffEnd, hpin, hend, hstill]

/-- The hold-off of the STC's line ends alone. -/
theorem holdoffEnd_stc {s : State} (hpin : rd s ATTN.HOLDOFF = 0) (hstc : s.attn.stcHold = true) (hend : s.attn.stcHoldEnd ≤ s.time.cycle) :
    holdoffEnd s = attnStc s.time.cycle { s with attn := { s.attn with stcHold := false } } := by
  simp [holdoffEnd, hpin, hstc, hend]

/-! ## Messages (R432) -/

/-- VEC_REARM of one ATTN vector whose expression is non-zero sends its message. -/
theorem vecRearmCmd_one {p : Port} {k : Nat} {s a : State} (ho : opens s p 0x80) (hk : k < 32) (ha : a = renewLease p 0x80 s)
    (hkind : rd a (HOST.VEC_KIND k) = 1) (hexpr : vecExpr a a.attn.sum k = true) : vecRearmCmd p (2 ^ k) s = msixSend k a := by
  have hnamed (j : Nat) : (bit (2 ^ k) j && decide (rd a (HOST.VEC_KIND j) = 1) && vecExpr a a.attn.sum j) = (j == k) := by
    rw [bit_two_pow]
    by_cases hj : k = j
    · simp [← hj, hkind, hexpr]
    · simp [hj, Ne.symm hj]
  have honly : (List.range 32).filter (fun j => bit (2 ^ k) j && decide (rd a (HOST.VEC_KIND j) = 1) && vecExpr a a.attn.sum j) = [k] := by
    simp only [hnamed, List.filter_beq, List.count_range, if_pos hk, List.replicate_one]
  subst ha
  refine (fabricCmd_accepted ho rfl).trans ?_
  exact congrArg (fun l => forEach l msixSend (renewLease p 0x80 s)) honly

/-- Settles O8: each command passes its checks and has the effect of its rule, and an event of the cycle of a clear stands in either
order. -/
theorem groupAndCauseCommandsComplete : Obligations.GroupAndCauseCommandsComplete := by
  refine ⟨?commit, ?discard, ?apply, ?clear, ?subClear, ?eventStands, ?clears, ?force, ?subForce, ?pinHold, ?stcHold, ?rearm, ?timeout⟩
  case commit =>
    intro t p page v g s m a hm ho hg hidle hfields hcode hv hseq ha
    obtain ⟨hcommit, -⟩ := commit_fields hv hseq
    change execTickCommit t p page v s = _
    unfold execTickCommit
    exact evPort_answers hm ((if_pos hcommit).trans ((namedWrite_opens ho).trans (tickCommit_arms hg hidle hseq ha hfields hcode hv)))
  case discard =>
    intro t p page v g s m a hm ho hg hidle hv hseq ha
    obtain ⟨-, hdiscard, -⟩ := discard_fields hv hseq
    change execTickDiscard t p page v s = _
    unfold execTickDiscard
    exact evPort_answers hm ((if_pos hdiscard).trans ((namedWrite_opens ho).trans (tickCommit_discards hg hidle hseq ha hv)))
  case apply =>
    rintro t page g s m b hm hdue rfl hg harmed hat hcode
    change execRwcGroupApply t page s = _
    unfold execRwcGroupApply
    exact ev_answers hm ((if_pos (by simpa using hdue)).trans (groupApply_passes hg harmed hat hcode))
  case clear =>
    intro t p page v s m a hm ho hdef hfit hptr hv ha
    change execCauseClear t p page 0x010 v s = _
    unfold execCauseClear
    exact evPort_answers hm ((if_pos rfl).trans ((namedWrite_opens ho).trans (causeClear_clears hdef hfit hptr hv ha)))
  case subClear =>
    intro t p page w v s m a hm ho hw hfit hdef ha
    change execCauseClear t p page (0xE00 + 4 * w) v s = _
    unfold execCauseClear
    refine evPort_answers hm ?_
    rw [if_neg (by omega), hw]
    exact (namedWrite_opens ho).trans (subClear_clears hfit hdef ha)
  case eventStands =>
    intro page b v s hb
    constructor
    · rw [bit_rd_w1c hb, raise, setNow_event, bit_rd_event hb]
      simp [bit_or, bit_two_pow]
    · rw [raise, bit_rd_event hb]
      simp [bit_two_pow]
  case clears =>
    intro page b v s hb hnone
    rw [bit_rd_w1c hb, hnone, Bool.not_false, Bool.and_true]
  case force =>
    intro t p page v s m a hm ho hdef hfit hptr ha
    change execCauseForce t p page v s = _
    refine evPort_answers hm ((namedWrite_opens ho).trans ((causeForce_raises hfit hdef hptr).trans ?_))
    rw [ha, rd_renewLease]
  case subForce =>
    intro t p page w v s m a hm ho hw hfit hdef ha
    change execSubForce t p page w v s = _
    unfold execSubForce
    exact evPort_answers hm ((if_pos hw).trans ((namedWrite_opens ho).trans (subForce_raises hfit hdef ha)))
  case pinHold =>
    rintro t high s m b hm rfl hpin hend hstc
    change execHoldoffEnd ⟨t, high⟩ s = _
    unfold execHoldoffEnd
    exact ev_answers hm (holdoffEnd_pin hpin hend hstc)
  case stcHold =>
    rintro t high s m b hm rfl hpin hstc hend
    change execHoldoffEnd ⟨t, high⟩ s = _
    unfold execHoldoffEnd
    exact ev_answers hm (holdoffEnd_stc hpin hstc hend)
  case rearm =>
    rintro t p v k s m a hm ho rfl hk ha hkind hexpr
    exact evPort_answers hm (vecRearmCmd_one ho hk ha hkind hexpr)
  case timeout =>
    intro t vec n first s m hm hfind hdue
    change execCoalTimeout t vec s = _
    unfold execCoalTimeout
    exact ev_answers hm (by simp [hfind, hdue])

end Sys2Proof.Machine
end

section
/-! PROOFS. The step (R93 to R96, R432): every command answers a next state, and time alone brings the attention tree in step after it. -/
namespace Sys2Proof.Machine

/-- A range recovery answers: the guard of a wake pin is the Dome's, and every other guard is the fabric's (R416, R519). -/
theorem execRangeRecovery_next (t : Nat) (g : Guard) (s : State) : ∃ u, execRangeRecovery t g s = .next u := by
  cases g with
  | wake n => exact ⟨_, rfl⟩
  | modSd | blank | sealSw | pwrWarn => exact ev_next t s _

/-- Every command answers a next state: its meaning is an effect in one of the wrappers ev, evBy, evReset and evDome, each of which
answers with the effect or, on a die that does not answer the fabric, with the time alone. -/
theorem exec_next (c : Instr) (s : State) : ∃ u, exec c s = .next u := by
  cases c with
  | rangeRecovery t g => exact execRangeRecovery_next t g s
  | _ => exact ⟨_, rfl⟩

/-- Every step answers a next state, with a command in front of the queue or with none. -/
theorem step_next (s : State) : ∃ u, step s = .next u := by
  unfold step
  cases s.pending with
  | nil => exact ⟨idle s, rfl⟩
  | cons c rest => exact exec_next c { s with pending := rest }

/-- Settles O2: every step answers, and from whatever state it answers two cycles of the fabric carry the leaves through the stages of the
tree to its drivers. -/
theorem everyStepAnswersAndTheTreeFollows : Obligations.EveryStepAnswersAndTheTreeFollows := by
  intro s
  obtain ⟨u, hstep⟩ := step_next s
  exact ⟨u, hstep, fun _ elapsed => advanceTo_follows elapsed⟩

end Sys2Proof.Machine
end

section
/-! PROOFS. LINK (R103, R113) and the states of the receive lanes (R107, R114): what a change of LINK, a substitution and a lane's new state
leave of the fields, of the causes of LANE and of a transmit substitution. -/
namespace Sys2Proof.Machine

/-! ## What follows LINK -/

/-- The places that neither LINK, nor what follows it, nor the substitution of a receive lane writes. -/
abbrev besideLink (k : Nat) : Prop :=
  k ≠ LANE.LINK.key ∧ k ≠ (HDR.CAUSE 0x08).key ∧ k ≠ FRMD.DELIN.key ∧ k ≠ SYS.CORE_SRC.key ∧ k ≠ SYS.PLL_LOCK.key
    ∧ k ≠ LANE.RX_SUBST.key ∧ k ≠ LANE.RX_SUBSTS.key

/-- LINK and the fields beside it read as before, no cause of LANE is cleared, and a transmit substitution goes on. -/
structure LinkStands (s u : State) : Prop where
  kept : Kept (fun k => k = LANE.LINK.key ∨ besideLink k) s u
  causes : ∀ b < 32, bit (rd s (HDR.CAUSE 0x08)) b = true → bit (rd u (HDR.CAUSE 0x08)) b = true
  swap : u.lane.swap = s.lane.swap

section
variable {s u v : State}

theorem LinkStands.refl (s : State) : LinkStands s s := ⟨.refl s, fun _ _ h => h, rfl⟩

theorem LinkStands.trans (h : LinkStands s u) (g : LinkStands u v) : LinkStands s v :=
  ⟨h.kept.trans g.kept, fun b hb hs => g.causes b hb (h.causes b hb hs), g.swap.trans h.swap⟩

theorem linkStands_of_regs (hr : u.regs = s.regs) (hs : u.lane.swap = s.lane.swap) : LinkStands s u :=
  ⟨kept_of_regs hr, fun _ _ h => by rwa [rd_congr hr], hs⟩

theorem LinkStands.wr (h : LinkStands s u) {f : Fld} (hf : ¬ (f.key = LANE.LINK.key ∨ besideLink f.key))
    (hc : (HDR.CAUSE 0x08).key ≠ f.key) (x : Nat) : LinkStands s (wr f x u) :=
  h.trans ⟨kept_wr hf x u, fun _ _ hb => by rwa [rd_wr_ne x u hc], rfl⟩

theorem LinkStands.raise (h : LinkStands s u) (b : Nat) : LinkStands s (raise 0x08 b u) :=
  h.trans ⟨(Kept.refl u).event (by decide) _, fun k hk hb => by rw [Machine.raise, bit_rd_event hk, hb, Bool.true_or], rfl⟩

theorem linkStands_ite {c : Prop} [Decidable c] (hu : LinkStands s u) (hv : LinkStands s v) : LinkStands s (if c then u else v) := by
  split
  · exact hu
  · exact hv

end

theorem dropSync_stands (s : State) : LinkStands s (dropSync s) := by
  have hhunt : LinkStands s (wr FRMD.DELIN 0 s) := (LinkStands.refl s).wr (by decide) (by decide) 0
  exact linkStands_ite (hhunt.trans (linkStands_of_regs rfl rfl)) hhunt

theorem setCoreSrc_stands (v : Nat) (s : State) : LinkStands s (setCoreSrc v s) := by
  have hnoted : LinkStands s { s with afe := { s.afe with disturb := some s.time.sc } } := linkStands_of_regs rfl rfl
  exact linkStands_ite (.refl s) ((hnoted.wr (f := SYS.CORE_SRC) (by decide) (by decide) v).wr (f := SYS.PLL_LOCK) (by decide) (by decide) _)

/-- LINK takes its value, and its change into or out of DOWN is raised (R113). -/
def linkNoted (s : State) : State :=
  if rd s LANE.LINK ≠ 0 ∧ linkNow s = 0 then raise 0x08 4 (wr LANE.LINK (linkNow s) s)
  else if rd s LANE.LINK = 0 ∧ linkNow s ≠ 0 then raise 0x08 5 (wr LANE.LINK (linkNow s) s)
  else wr LANE.LINK (linkNow s) s

theorem linkNoted_stands (s : State) : LinkStands (wr LANE.LINK (linkNow s) s) (linkNoted s) :=
  linkStands_ite ((LinkStands.refl _).raise 4) (linkStands_ite ((LinkStands.refl _).raise 5) (.refl _))

/-- Delineation and the core clock follow LINK. -/
theorem updateLink_stands (s : State) : LinkStands (linkNoted s) (updateLink s) := by
  unfold updateLink
  extract_lets old new written raised hunting _ framed
  have hframed : LinkStands raised framed := by
    refine linkStands_ite ((dropSync_stands raised).trans (linkStands_of_regs rfl ?_)) (linkStands_ite (linkStands_of_regs rfl rfl) (.refl _))
    exact (dropSync_stands raised).swap.symm
  exact linkStands_ite (hframed.trans (setCoreSrc_stands 2 framed)) hframed

/-! ## What a change of LINK leaves -/

theorem rd_updateLink {f : Fld} (h : besideLink f.key) (s : State) : rd (updateLink s) f = rd s f := by
  have hnoted := (linkNoted_stands s).trans (updateLink_stands s)
  rw [hnoted.kept f (.inr h), rd_wr_ne _ s h.1]

theorem rd_updateLink_link (s : State) : rd (updateLink s) LANE.LINK = linkNow s % 4 := by
  have hnoted := (linkNoted_stands s).trans (updateLink_stands s)
  rw [hnoted.kept _ (.inl rfl), rd_wr_same]
  rfl

theorem cause_updateLink {b : Nat} (hb : b < 32) {s : State} (h : bit (rd s (HDR.CAUSE 0x08)) b = true) :
    bit (rd (updateLink s) (HDR.CAUSE 0x08)) b = true := by
  have hnoted := (linkNoted_stands s).trans (updateLink_stands s)
  refine hnoted.causes b hb ?_
  rwa [rd_wr_ne _ s (by decide)]

theorem updateLink_swap (s : State) : (updateLink s).lane.swap = s.lane.swap :=
  ((linkNoted_stands s).trans (updateLink_stands s)).swap

/-- A fall of LINK to DOWN raises LINK_DOWN. -/
theorem cause_linkDown {s : State} (hnow : linkNow s = 0) (hold : rd s LANE.LINK ≠ 0) :
    bit (rd (updateLink s) (HDR.CAUSE 0x08)) 4 = true := by
  refine (updateLink_stands s).causes 4 (by decide) ?_
  rw [linkNoted, if_pos ⟨hold, hnow⟩, raise, bit_rd_event (by decide), bit_two_pow, decide_eq_true rfl, Bool.or_true]

/-- LINK is DOWN while LANE is disabled, the RXC guard has failed, or the level of MOD_SD that it follows is low (R113). -/
theorem linkNow_down {s : State} (h : enabled s 0x08 = false ∨ rd s LANE.RXC_OK = 0 ∨ sdLevel s = false) : linkNow s = 0 :=
  if_pos (by simpa [or_assoc] using h)

/-! ## A lane's new state (R107, R114) -/

theorem rebuild_stands (n : Nat) (s : State) : LinkStands s (rebuild n s) := by
  refine linkStands_ite (.refl s) ?_
  exact (((LinkStands.refl s).wr (f := LANE.RX_SUBST) (by decide) (by decide) _).wr (f := LANE.RX_SUBSTS) (by decide) (by decide) _).raise 3

theorem rxSubstitute_stands (n was : Nat) (s : State) : LinkStands s (rxSubstitute n was s) := by
  unfold rxSubstitute
  split
  · exact rebuild_stands _ s
  · exact linkStands_ite (rebuild_stands n s) (.refl s)

/-- What follows a lane's new state leaves every field beside LINK. -/
theorem rd_rxEnter {f : Fld} (h : besideLink f.key) (n st : Nat) (s : State) : rd (rxEnter n st s) f = rd (rxPlace n st s) f :=
  (rd_updateLink h _).trans ((rxSubstitute_stands n (rxState s n) _).kept f (.inr h))

theorem cause_rxEnter {b n st : Nat} (hb : b < 32) {s : State} (h : bit (rd (rxPlace n st s) (HDR.CAUSE 0x08)) b = true) :
    bit (rd (rxEnter n st s) (HDR.CAUSE 0x08)) b = true :=
  cause_updateLink hb ((rxSubstitute_stands n (rxState s n) _).causes b hb h)

/-- What a receive lane keeps is no field. -/
theorem modRx_regs (n : Nat) (f : RxLane → RxLane) (s : State) : (modRx n f s).regs = s.regs := by
  unfold modRx
  split
  · rfl
  · split <;> rfl

section
variable {n : Nat}

theorem rxStateF_key (hn : n < 3) : (rxStateF n).key = LANE.RXD0_STATE.key + 4 * n := by
  revert n
  decide

theorem rxStateF_width (hn : n < 3) : (rxStateF n).w = 4 := by
  revert n
  decide

theorem rxStateF_beside (hn : n < 3) : besideLink (rxStateF n).key := by
  revert n
  decide

theorem downCount_beside (hn : n < 3) : besideLink (LANE.DOWN_COUNT n).key := by
  revert n
  decide

theorem downCount_ne_rxStateF (hn : n < 3) : (LANE.DOWN_COUNT n).key ≠ (rxStateF n).key := by
  revert n
  decide

/-- The fields of the RXC guard are neither the state nor the count of a lane. -/
theorem rxcFields_ne (hn : n < 3) : LANE.RXC_OK.key ≠ (LANE.DOWN_COUNT n).key ∧ LANE.RXC_OK.key ≠ (rxStateF n).key
    ∧ LANE.RXC_FAILS.key ≠ (rxStateF n).key := by
  revert n
  decide

end

/-- The places beside the counts of a lane's falls. -/
abbrev besideFalls (n k : Nat) : Prop := k ≠ (LANE.DOWN_COUNT n).key ∧ k ≠ (HDR.CAUSE 0x08).key

/-- A lane that takes a state writes its state field, and else only the counts of its falls. -/
theorem rxPlace_kept (n st : Nat) (s : State) : Kept (besideFalls n) (wr (rxStateF n) st s) (rxPlace n st s) := by
  unfold rxPlace
  extract_lets was written stamped
  have hstamped : Kept (besideFalls n) written stamped := kept_of_regs (modRx_regs n _ written)
  exact kept_ite ((hstamped.wr (fun h => h.1 rfl) _).event (fun h => h.2 rfl) _) hstamped

/-- A lane that was not DOWN counts its fall and raises its cause. -/
theorem rxPlace_down {n : Nat} {s : State} (h : rxState s n ≠ 6) : ∃ stamped : State, stamped.regs = (wr (rxStateF n) 6 s).regs ∧
    rxPlace n 6 s = raise 0x08 n (incSat (LANE.DOWN_COUNT n) stamped) :=
  ⟨_, modRx_regs n _ _, if_pos ⟨rfl, h⟩⟩

/-- A lane reads the state that it has taken. -/
theorem rxState_rxPlace_same {n st : Nat} (hn : n < 3) (hst : st < 16) (s : State) : rxState (rxPlace n st s) n = st := by
  obtain ⟨-, hcause, -⟩ := rxStateF_beside hn
  rw [rxState, rxPlace_kept n st s _ ⟨(downCount_ne_rxStateF hn).symm, hcause⟩, rd_wr_same, rxStateF_width hn]
  exact Nat.mod_eq_of_lt hst

/-- A lane's new state leaves the states of the others. -/
theorem rxState_rxPlace_ne {n k st : Nat} (hn : n < 3) (hk : k < 3) (hne : k ≠ n) (s : State) : rxState (rxPlace n st s) k = rxState s k := by
  have hcount : (rxStateF k).key ≠ (LANE.DOWN_COUNT n).key := by
    rw [rxStateF_key hk]
    simp only [LANE.DOWN_COUNT, LANE.RXD0_STATE, Fld.key]
    omega
  have hstate : (rxStateF k).key ≠ (rxStateF n).key := by
    rw [rxStateF_key hk, rxStateF_key hn]
    omega
  obtain ⟨-, hcause, -⟩ := rxStateF_beside hk
  rw [rxState, rxPlace_kept n st s _ ⟨hcount, hcause⟩, rd_wr_ne _ s hstate, rxState]

theorem rxState_rxEnter_same {n st : Nat} (hn : n < 3) (hst : st < 16) (s : State) : rxState (rxEnter n st s) n = st :=
  (rd_rxEnter (rxStateF_beside hn) n st s).trans (rxState_rxPlace_same hn hst s)

end Sys2Proof.Machine
end

section
/-! PROOFS. The commands of the receive lanes (R107 to R123): what each does in the state that lets it act. -/
namespace Sys2Proof.Machine

/-! ## Training (R108) -/

/-- A search that has taken its time ends with its last candidate. -/
theorem laneDeskewDone_due {t lane : Nat} {x : DeskewSeen} {s m : State} (hm : meets t s m) (hl : lane < 3) (hst : rxState m lane = 3)
    (hfirst : 1 ≤ x.cand) (hlast : x.cand ≤ fullSearch m) (hlong : (rxOf m lane).entered + searchSteps m x.cand ≤ m.time.cycle) :
    execLaneDeskewDone t lane x s = .next (if aligns m lane x.off x.hits then rxEnter lane 4 m
      else if x.cand = fullSearch m then rxEnter lane 1 m else m) :=
  ev_answers hm (if_pos ⟨hl, hst, hfirst, hlast, hlong⟩)

/-! ## The lane guard (R111, R112) -/

/-- The check lane's counts of mismatches take no time. -/
theorem countMismatches_time (lane n : Nat) (s : State) : (countMismatches lane n s).time = s.time := by
  unfold countMismatches
  split <;> rfl

theorem laneWindow_due {t lane errors eye : Nat} {ok : Bool} {corrected : List Nat} {x : CheckSeen} {s m b : State} (hm : meets t s m)
    (hl : lane < 3) (hst : rxState m lane = 4 ∨ rxState m lane = 5) (hlong : (rxOf m lane).winStart + 4096 ≤ m.time.cycle)
    (herrors : errors = attributed corrected x lane)
    (hb : b = modRx lane (fun x => { x with winStart := m.time.cycle }) (m |> wr (LANE.ERR_LAST lane) (min errors 0xFFFF)
      |> wr (LANE.EYE_LAST lane) eye |> addTo (LANE.ERR_TOTAL lane) errors |> countMismatches lane x.mismatches.length)) :
    execLaneWindow t lane corrected eye ok x s = .next (judgeWindow lane (windowFails b errors eye ok) b) := by
  subst herrors hb
  refine ev_answers hm ((if_pos ⟨hl, hst, hlong⟩).trans ?_)
  dsimp only
  rw [countMismatches_time]
  rfl

/-! ## The equalizer (R119, R120) -/

theorem eqUpdate_due {t lane param n h : Nat} {ask lo hi cur : Int} {s m : State} (hm : meets t s m) (hl : lane < 3) (hp : param < 6)
    (hst : rxState m lane = 2 ∨ rxState m lane = 4 ∨ rxState m lane = 5) (hfree : rd m (LANE.FREEZE lane) = 0)
    (hspaced : spacedBy (assocN (rxOf m lane).updated param) 256 m.time.cycle = true) (hfence : (lo, hi) = fenceOf m lane param)
    (hupd : (n, h) = tickUpdOf (rxOf m lane) param) (hcur : cur = liveOf m lane param) :
    execEqUpdate t lane param ask s = .next (modRx lane (fun x => { x with
        updated := (param, m.time.cycle) :: x.updated.filter (fun e => e.1 != param)
        tickUpd := (param, n + 1, h + if cur = hi ∧ hi < ask ∨ cur = lo ∧ ask < lo then 1 else 0) ::
          x.tickUpd.filter (fun e => e.1 != param) })
      (wrS (liveF lane param) (if ask < lo then lo else if hi < ask then hi else ask) m)) := by
  refine ev_answers hm ((if_pos ⟨hl, hp, hst, hfree, hspaced⟩).trans ?_)
  rw [← hfence, ← hupd, ← hcur]
  simp only [clampI, b2n, decide_eq_true_eq]

/-! ## LANE_CMD (R126) -/

/-- A LANE_CMD that no check refuses acts on the accepted state. -/
theorem laneCmd_accepted {p : Port} {badLane badState : Bool} {act : State → State} {s a : State} (ho : opens s p 0x08)
    (hb : cmdBusy s laneCmdAddr = false) (hbusy : rd s LANE.CMD_BUSY = 0) (hlane : badLane = false) (hstate : badState = false)
    (ha : a = accepted p 0x08 (some LANE.CMD_CODE) s) : laneCmd p badLane badState act s = act a := by
  subst ha
  exact fabricCmd_accepted ho (by simp [firstFail, hb, hbusy, hlane, hstate])

theorem isRxLane_of_lt {lane : Nat} (h : lane < 3) : isRxLane lane = true := decide_eq_true h

theorem holdCmd_accepted {p : Port} {lane : Nat} {s a : State} (ho : opens s p 0x08) (hl : lane < 3) (he : enabled s 0x08 = true)
    (hb : cmdBusy s laneCmdAddr = false) (hbusy : rd s LANE.CMD_BUSY = 0) (hfew : leavesTooFew s lane = false) (hst : rxState s lane ≠ 7)
    (ha : a = accepted p 0x08 (some LANE.CMD_CODE) s) : holdCmd p lane s = rxEnter lane 7 (laneDone a) :=
  laneCmd_accepted ho hb hbusy (by simp [isRxLane_of_lt hl]) (by simp [he, hfew, hst]) ha

theorem releaseLaneCmd_accepted {p : Port} {lane : Nat} {s a : State} (ho : opens s p 0x08) (hl : lane < 3) (he : enabled s 0x08 = true)
    (hb : cmdBusy s laneCmdAddr = false) (hbusy : rd s LANE.CMD_BUSY = 0) (hst : rxState s lane = 7)
    (ha : a = accepted p 0x08 (some LANE.CMD_CODE) s) :
    releaseLaneCmd p lane s = modRx lane (fun x => { x with released := true }) (rxEnter lane 1 (laneDone a)) :=
  laneCmd_accepted ho hb hbusy (by simp [isRxLane_of_lt hl]) (by simp [he, hst]) ha

/-! ## The RXC guard (R123) -/

theorem rxcWindow_inRange {t : Nat} {ppm : Int} {s m : State} (hm : meets t s m) (hok : rd m LANE.RXC_OK = 1)
    (hrange : ppm.natAbs ≤ rd m LANE.RXC_RANGE_PPM) : execRxcWindow t ppm s =
      .next { wrS LANE.RXC_PPM ppm m with lane := { m.lane with rxcRun := m.lane.rxcRun + 1 } } := by
  have hwithin : ¬ rd (wrS LANE.RXC_PPM ppm m) LANE.RXC_RANGE_PPM < ppm.natAbs := by
    rw [wrS, rd_wr_ne _ _ (by decide)]
    exact Nat.not_lt.2 hrange
  have hup : rd (wrS LANE.RXC_PPM ppm m) LANE.RXC_OK ≠ 0 := by
    rw [wrS, rd_wr_ne _ _ (by decide), hok]
    exact Nat.one_ne_zero
  exact ev_answers hm ((if_neg hwithin).trans (if_neg fun h => hup h.1))

/-- Settles O20: each command has its effect in the state that lets it act. -/
theorem receiveLaneCommandsComplete : Obligations.ReceiveLaneCommandsComplete := by
  refine ⟨?phase, ?adapt, ?deskew, ?window, ?timeout, ?retry, ?update, ?held, ?hold, ?release, ?contradict, ?rxcTimeout, ?rxcWindow⟩
  case phase =>
    intro t lane centre s m hm hl hst hlong
    change execLanePhaseDone t lane centre s = _
    exact ev_answers hm (if_pos ⟨hl, hst, hlong⟩)
  case adapt =>
    intro t lane s m hm hl hst hlong
    change execLaneAdaptDone t lane s = _
    exact ev_answers hm (if_pos ⟨hl, hst, hlong⟩)
  case deskew =>
    intro t lane cand hits off s m hm hl hst hfirst hlast hlong
    change (_ → execLaneDeskewDone t lane ⟨off, cand, hits⟩ s = _) ∧ (_ → _ → execLaneDeskewDone t lane ⟨off, cand, hits⟩ s = _)
    rw [laneDeskewDone_due hm hl hst hfirst hlast hlong]
    exact ⟨fun hfit => congrArg _ (if_pos hfit), fun hfit hfull => congrArg _ ((if_neg (by simp [hfit])).trans (if_pos hfull))⟩
  case window =>
    intro t lane errors eye ok corrected x s m b hm hl hst hlong herrors hb
    exact laneWindow_due hm hl hst hlong herrors hb
  case timeout =>
    intro t lane s m hm hl hlow hhigh hticks
    change execTrainTimeout t lane s = _
    exact ev_answers hm (if_pos ⟨hl, hlow, hhigh, hticks⟩)
  case retry =>
    intro t lane s m hm hl hst hok hticks
    change execLaneRetry t lane s = _
    exact ev_answers hm (if_pos ⟨hl, hst, hok, hticks⟩)
  case update =>
    intro t lane param n h ask lo hi cur s m hm hl hp hst hfree hspaced hfence hupd hcur
    exact eqUpdate_due hm hl hp hst hfree hspaced hfence hupd hcur
  case held =>
    intro t lane s m hm hl hticks hpos hfirst
    change execFenceHeld t lane s = _
    exact ev_answers hm (if_pos ⟨hl, hticks, hfirst, hpos⟩)
  case hold =>
    intro t lane p s m a hm ho hl he hb hbusy hfew hst ha
    exact evPort_answers hm (holdCmd_accepted ho hl he hb hbusy hfew hst ha)
  case release =>
    intro t lane p s m a hm ho hl he hb hbusy hst ha
    exact evPort_answers hm (releaseLaneCmd_accepted ho hl he hb hbusy hst ha)
  case contradict =>
    intro t s m b hm hlow hseen hticks hpass hb
    change execSdContradict t s = _
    exact ev_answers hm ((if_pos ⟨hlow, hseen, hticks, hpass⟩).trans (by rw [hb]; rfl))
  case rxcTimeout =>
    intro t s m hm hok
    change execRxcTimeout t s = _
    exact ev_answers hm (if_pos hok)
  case rxcWindow => exact fun t ppm s m hm hok hrange => rxcWindow_inRange hm hok hrange

end Sys2Proof.Machine
end

section
/-! PROOFS. The commands of the transmit lanes and of the module's pins (R110 to R122): what each does in the state that lets it act. -/
namespace Sys2Proof.Machine

/-! ## Falls of MOD_TXEN (R163, R166) -/

/-- Only the state that a change leads to matters. -/
theorem noteFall_to {f : State → State} {s u : State} (h : f s = u) : noteFall f s = noteFall (fun _ => u) s := by
  unfold noteFall
  rw [h]

/-! ## LANE_CMD (R126) -/

theorem retrainCmd_accepted {p : Port} {lane : Nat} {ok : Bool} {s a : State} (ho : opens s p 0x08) (hl : lane < 3)
    (he : enabled s 0x08 = true) (hb : cmdBusy s laneCmdAddr = false) (hbusy : rd s LANE.CMD_BUSY = 0)
    (hfew : leavesTooFew s lane = false) (ha : a = accepted p 0x08 (some LANE.CMD_CODE) s) :
    retrainCmd p lane ok s = rxEnter lane 1 (laneDone a) :=
  (laneCmd_accepted ho hb hbusy (by simp [isRxLane_of_lt hl]) (by simp [he, hfew]) ha).trans (if_pos (isRxLane_of_lt hl))

theorem txSwapCmd_accepted {p : Port} {k : Nat} {s a : State} (ho : opens s p 0x08) (hk : k < 2) (he : enabled s 0x08 = true)
    (hb : cmdBusy s laneCmdAddr = false) (hbusy : rd s LANE.CMD_BUSY = 0) (hactive : rd s (txStateF k) ≠ 3)
    (hdown : rd s (txStateF k) ≠ 6) (hrun : txRetrain s = false) (ha : a = accepted p 0x08 (some LANE.CMD_CODE) s) :
    txSwapCmd p (k + 4) s = startSwap k true false a := by
  have hlane : isTxLane (k + 4) = true := decide_eq_true (by omega)
  unfold txSwapCmd
  rw [Nat.add_sub_cancel]
  exact laneCmd_accepted ho hb hbusy (by simp [hlane]) (by simp [he, hactive, hdown, hrun]) ha

theorem startSwap_swap (k : Nat) (byCmd faulted : Bool) (s : State) :
    (startSwap k byCmd faulted s).lane.swap = some ⟨k, max s.time.cycle (flightEnd s), byCmd, faulted⟩ := by
  rw [startSwap, updateLink_swap]

/-- TXFLT_CLEAR meets the filtered level of the pin first. -/
theorem txfltClearCmd_released {p : Port} {s a : State} (ho : opens (wr LANE.TXFLT_FILT 0 s) p 0x08) (he : enabled s 0x08 = true)
    (hb : cmdBusy s laneCmdAddr = false) (hbusy : rd s LANE.CMD_BUSY = 0) (hguard : s.lane.fltGuard = true)
    (ha : a = accepted p 0x08 (some LANE.CMD_CODE) (wr LANE.TXFLT_FILT 0 s)) :
    txfltClearCmd p 0 false (wrB LANE.TXFLT_FILT false s) = laneDone { a with lane := { a.lane with fltGuard := false } } := by
  have henabled : enabled (wr LANE.TXFLT_FILT 0 s) 0x08 = true := by rwa [enabled, rd_wr_ne _ _ (by decide)]
  have hfree : rd (wr LANE.TXFLT_FILT 0 s) LANE.CMD_BUSY = 0 := by rwa [rd_wr_ne _ _ (by decide)]
  have hstate : (!enabled (wr LANE.TXFLT_FILT 0 s) 0x08 || false || !s.lane.fltGuard) = false := by rw [henabled, hguard]; rfl
  exact laneCmd_accepted ho hb hfree rfl hstate ha

/-! ## Transmit substitution (R116 to R118) -/

section
variable {k : Nat} {s a : State} (hactive : txActive s = some k) (ha : a = abortBurst (s |> raise 0x08 (10 + k) |> incSat LANE.TX_FAILS))
  (hidle : a.lane.swap = none)
include hactive ha hidle

theorem driverFault_alone (hspare : rd a LANE.TX_AUTO = 0 ∨ rd a (txStateF (1 - k)) ≠ 0) :
    driverFault s = updateLink (txLowFrom a.time.cycle (raise 0x08 17 (wr (txStateF k) 6 a))) := by
  have hnone : ¬ (rd a LANE.TX_AUTO = 1 ∧ rd a (txStateF (1 - k)) = 0) := by omega
  simp only [driverFault, hactive, ← ha, hidle, if_neg hnone]

theorem driverFault_substituted (hauto : rd a LANE.TX_AUTO = 1) (hspare : rd a (txStateF (1 - k)) = 0) :
    driverFault s = startSwap (1 - k) false true a := by
  simp only [driverFault, hactive, ← ha, hidle, if_pos (And.intro hauto hspare)]

end

theorem txSwapDone_due {t : Nat} {w : TxSwap} {s m : State} (hm : meets t s m) (hw : m.lane.swap = some w)
    (hlong : w.start + trainSteps m + 4 ≤ m.time.cycle) (hin : m.time.cycle ≤ w.start + rd m LANE.TX_TIMEOUT * tickSteps) :
    execTxSwapDone t true s = .next (finishSwap w m) := by
  have hbegun : ¬ m.time.cycle < w.start := by omega
  refine ev_answers hm ?_
  simp only [hw, if_neg hbegun, if_pos hlong, Bool.not_true, Bool.false_or, decide_eq_true_eq, if_neg (Nat.not_lt.2 hin)]

theorem txTrainingDone_due {t c : Nat} {s m : State} (hm : meets t s m) (hc : m.lane.txTrain = some c) (hlong : c + 4096 ≤ m.time.cycle) :
    execTxTrainingDone t s = .next (updateLink
      { (m |> wr (txStateF m.rpr.txLane) 3 |> wr LANE.TX_ACTIVE m.rpr.txLane) with lane := { m.lane with txTrain := none } }) := by
  refine ev_answers hm ?_
  simp only [hc, if_pos hlong]

/-! ## Module status pins (R121, R122) -/

/-- LANE's own state holds no field. -/
theorem rd_lane (x : LaneU) (s : State) (f : Fld) : rd { s with lane := x } f = rd s f := rfl

/-- A rise within MAX_EDGES edges of the last second. -/
theorem modSdEdge_rise {t : Nat} {edges : List Nat} {s m : State} (hm : meets t s m)
    (he : edges = inSecond m.time.cycle (m.time.cycle :: m.lane.sdEdges)) (hfew : edges.length ≤ rd m LANE.SD_MAX_EDGES) :
    execModSdEdge t true s = .next (updateLink
      { wr LANE.SD_FILT 1 m with lane := { m.lane with sdEdges := edges, sdIgnored := false } }) := by
  unfold execModSdEdge
  refine ev_answers hm ?_
  extract_lets seen filt _ noted _ _ guarded
  have hseen : seen = edges := he.symm
  have hnoted : noted = { wr LANE.SD_FILT 1 m with lane := { m.lane with sdEdges := edges, sdIgnored := false } } := by
    simp only [noted, Bool.not_true, Bool.and_false, hseen]
    rfl
  have hquiet : ¬ rd noted LANE.SD_MAX_EDGES < seen.length := by
    rw [hnoted, rd_lane, rd_wr_ne _ _ (by decide), hseen]
    exact Nat.not_lt.2 hfew
  rw [← hnoted]
  exact congrArg updateLink (if_neg (by simp [hquiet]))

theorem modTxfltAssert_low {t : Nat} {s m : State} (hm : meets t s m) (hlow : txenDriven m = false) :
    execModTxfltAssert ⟨t, true⟩ s = .next (lockout 2 (txfltAssert m)) :=
  ev_answers hm ((if_neg Bool.false_ne_true).trans (if_pos (by rw [hlow]; rfl)))

/-- Settles O22: each command has its effect in the state that lets it act. -/
theorem transmitLaneCommandsComplete : Obligations.TransmitLaneCommandsComplete := by
  refine ⟨?retrain, ?swap, ?fault, ?swapDone, ?trained, ?clear, ?edge, ?low, ?released, ?timeout⟩
  case retrain =>
    intro t lane p ok s m a hm ho hl he hb hbusy hfew ha
    exact evPort_answers hm (noteFall_to (congrArg declinePlans (retrainCmd_accepted ho hl he hb hbusy hfew ha)))
  case swap =>
    intro t k p s m a hm ho hk he hb hbusy hactive hdown hrun ha
    exact ⟨evPort_answers hm (noteFall_to (congrArg declinePlans (txSwapCmd_accepted ho hk he hb hbusy hactive hdown hrun ha))),
      startSwap_swap k true false a⟩
  case fault =>
    intro t k s m a hm hactive ha hidle
    exact ⟨fun hspare => ev_answers hm (noteFall_to (congrArg declinePlans (driverFault_alone hactive ha hidle hspare))),
      fun hauto hspare => ev_answers hm (noteFall_to (congrArg declinePlans (driverFault_substituted hactive ha hidle hauto hspare)))⟩
  case swapDone => exact fun t w s m hm hw hlong hin => txSwapDone_due hm hw hlong hin
  case trained => exact fun t c s m hm hc hlong => txTrainingDone_due hm hc hlong
  case clear =>
    intro t p s m a hm ho he hb hbusy hguard ha
    change execTxfltClear t p 0 false s = _
    unfold execTxfltClear
    exact evPort_answers hm (txfltClearCmd_released ho he hb hbusy hguard ha)
  case edge => exact fun t edges s m hm he hfew => modSdEdge_rise hm he hfew
  case low => exact fun t s m hm hlow => modTxfltAssert_low hm hlow
  case released =>
    intro t s m hm
    change execModTxfltAssert ⟨t, false⟩ s = _
    exact ev_of_meets hm _
  case timeout =>
    intro t s m hm hhigh hticks hguard
    change execTxfltTimeout t s = _
    exact ev_answers hm (if_pos ⟨hhigh, hticks, hguard⟩)

end Sys2Proof.Machine
end

section
/-! PROOFS. How receive lanes fall (R107, R111, R113, R123). -/
namespace Sys2Proof.Machine

/-! ## A lane becomes DOWN (R107, R111) -/

theorem rd_rxEnter_downCount {n : Nat} {s : State} (hn : n < 3) (h : rxState s n ≠ 6) : rd (rxEnter n 6 s) (LANE.DOWN_COUNT n) =
    min (rd s (LANE.DOWN_COUNT n) + 1) (LANE.DOWN_COUNT n).top % 2 ^ (LANE.DOWN_COUNT n).w := by
  obtain ⟨stamped, hregs, hplace⟩ := rxPlace_down h
  obtain ⟨-, hcause, -⟩ := downCount_beside hn
  rw [rd_rxEnter (downCount_beside hn), hplace, raise, rd_event_ne _ _ hcause, incSat, rd_wr_same, rd_congr hregs,
    rd_wr_ne _ s (downCount_ne_rxStateF hn)]

theorem cause_rxEnter_down {n : Nat} {s : State} (hn : n < 3) (h : rxState s n ≠ 6) :
    bit (rd (rxEnter n 6 s) (HDR.CAUSE 0x08)) n = true := by
  obtain ⟨stamped, -, hplace⟩ := rxPlace_down h
  have hbit : n < (HDR.CAUSE 0x08).w := Nat.lt_trans hn (by decide)
  refine cause_rxEnter hbit ?_
  rw [hplace, raise, bit_rd_event hbit, bit_two_pow, decide_eq_true rfl, Bool.or_true]

/-- The failing window that completes a run of FILTER. -/
theorem judgeWindow_falls {n : Nat} {s : State} (h : max 1 (rd s LANE.RX_FILTER) ≤ (rxOf s n).failRun + 1) :
    ∃ noted, judgeWindow n true s = rxEnter n 6 noted := by
  unfold judgeWindow
  exact ⟨_, (if_pos rfl).trans (if_pos h)⟩

/-! ## The RXC guard fails (R123) -/

/-- A lane that is neither OFF, DOWN nor HELD becomes DOWN as the RXC guard fails. -/
def rxcFalls (n : Nat) (s : State) : State := if rxState s n = 0 ∨ 6 ≤ rxState s n then s else rxPlace n 6 s

theorem rxState_rxcFalls_same {n : Nat} (hn : n < 3) (s : State) :
    rxState (rxcFalls n s) n = if rxState s n = 0 ∨ 6 ≤ rxState s n then rxState s n else 6 := by
  unfold rxcFalls
  split
  · rfl
  · exact rxState_rxPlace_same hn (by decide) s

theorem rxState_rxcFalls_ne {n k : Nat} (hn : n < 3) (hk : k < 3) (hne : k ≠ n) (s : State) : rxState (rxcFalls n s) k = rxState s k := by
  unfold rxcFalls
  split
  · rfl
  · exact rxState_rxPlace_ne hn hk hne s

theorem rxcFalls_ok {n : Nat} (hn : n < 3) (s : State) : rd (rxcFalls n s) LANE.RXC_OK = rd s LANE.RXC_OK := by
  unfold rxcFalls
  split
  · rfl
  · obtain ⟨hcount, hstate, -⟩ := rxcFields_ne hn
    rw [rxPlace_kept n 6 s _ ⟨hcount, by decide⟩, rd_wr_ne _ s hstate]

/-- What the failure of the RXC guard writes before its lanes fall. -/
theorem rxcFail_eq (s : State) : ∃ u, rxcFail s = updateLink (forEach [0, 1, 2] rxcFalls u) ∧
    rd u LANE.RXC_OK = 0 ∧ ∀ n < 3, rxState u n = rxState s n := by
  unfold rxcFail
  extract_lets failed _ reset clocked
  refine ⟨clocked, rfl, ?_⟩
  have hclocked : LinkStands reset clocked := linkStands_ite (setCoreSrc_stands 1 reset) (.refl reset)
  have hreset (f : Fld) (hcause : f.key ≠ (HDR.CAUSE 0x08).key) (hfails : f.key ≠ LANE.RXC_FAILS.key) :
      rd reset f = rd (wr LANE.RXC_OK 0 s) f :=
    (rd_event_ne (f := HDR.CAUSE 0x08) _ _ hcause).trans (rd_wr_ne _ _ hfails)
  refine ⟨?_, fun n hn => ?_⟩
  · rw [hclocked.kept LANE.RXC_OK (.inr (by decide)), hreset _ (by decide) (by decide), rd_wr_same]
    rfl
  · have hbeside := rxStateF_beside hn
    have ⟨_, hcause, _⟩ := hbeside
    obtain ⟨-, hok, hfails⟩ := rxcFields_ne hn
    rw [rxState, hclocked.kept _ (.inr hbeside), hreset _ hcause hfails.symm, rd_wr_ne _ s hok.symm, rxState]

theorem forEach_rxcFalls (s : State) : forEach [0, 1, 2] rxcFalls s = rxcFalls 2 (rxcFalls 1 (rxcFalls 0 s)) := rfl

theorem rd_rxcFail_ok (s : State) : rd (rxcFail s) LANE.RXC_OK = 0 := by
  obtain ⟨u, hu, hok, -⟩ := rxcFail_eq s
  rw [hu, rd_updateLink (by decide), forEach_rxcFalls, rxcFalls_ok (by decide), rxcFalls_ok (by decide), rxcFalls_ok (by decide), hok]

/-- Every lane that is neither OFF, DOWN nor HELD becomes DOWN; a lane whose field holds no state of R107 stays as it is. -/
theorem rxState_rxcFail {n : Nat} (hn : n < 3) (s : State) :
    rxState (rxcFail s) n = if rxState s n = 0 ∨ 6 ≤ rxState s n then rxState s n else 6 := by
  obtain ⟨u, hu, -, hstates⟩ := rxcFail_eq s
  have hlink : rxState (rxcFail s) n = rxState (rxcFalls 2 (rxcFalls 1 (rxcFalls 0 u))) n := by
    rw [hu, forEach_rxcFalls]
    exact rd_updateLink (rxStateF_beside hn) _
  rw [hlink, ← hstates n hn]
  have hlane : n = 0 ∨ n = 1 ∨ n = 2 := by omega
  rcases hlane with rfl | rfl | rfl
  · rw [rxState_rxcFalls_ne, rxState_rxcFalls_ne, rxState_rxcFalls_same] <;> decide
  · rw [rxState_rxcFalls_ne, rxState_rxcFalls_same, rxState_rxcFalls_ne] <;> decide
  · rw [rxState_rxcFalls_same, rxState_rxcFalls_ne, rxState_rxcFalls_ne] <;> decide

/-! ## The fall of the lanes as a whole -/

/-- Where the state fields hold the codes of R107, 0 to 7, lanes fall as the manual says. -/
theorem lanesFall_of_codes :
    (∀ (n : Nat) (s : State), n < 3 → rxState s n ≠ 6 →
      rxState (rxEnter n 6 s) n = 6 ∧ bit (rd (rxEnter n 6 s) (HDR.CAUSE 0x08)) n = true
      ∧ rd (rxEnter n 6 s) (LANE.DOWN_COUNT n) = min (rd s (LANE.DOWN_COUNT n) + 1) (LANE.DOWN_COUNT n).top % 2 ^ (LANE.DOWN_COUNT n).w)
    ∧ (∀ (n : Nat) (s : State), n < 3 → max 1 (rd s LANE.RX_FILTER) ≤ (rxOf s n).failRun + 1 → rxState (judgeWindow n true s) n = 6)
    ∧ (∀ (n : Nat) (s : State), n < 3 → rxState s n ≤ 7 → rd (rxcFail s) LANE.RXC_OK = 0
      ∧ rxState (rxcFail s) n = if rxState s n = 0 ∨ rxState s n = 7 then rxState s n else 6)
    ∧ (∀ (s : State), (enabled s 0x08 = false ∨ rd s LANE.RXC_OK = 0 ∨ sdLevel s = false) →
      rd (updateLink s) LANE.LINK = 0 ∧ (rd s LANE.LINK ≠ 0 → bit (rd (updateLink s) (HDR.CAUSE 0x08)) 4 = true)) := by
  refine ⟨?enters, ?judged, ?rxc, ?link⟩
  case enters =>
    intro n s hn h
    exact ⟨rxState_rxEnter_same hn (by decide) s, cause_rxEnter_down hn h, rd_rxEnter_downCount hn h⟩
  case judged =>
    intro n s hn h
    obtain ⟨noted, hfalls⟩ := judgeWindow_falls h
    rw [hfalls]
    exact rxState_rxEnter_same hn (by decide) noted
  case rxc =>
    intro n s hn hcode
    refine ⟨rd_rxcFail_ok s, (rxState_rxcFail hn s).trans ?_⟩
    split <;> split <;> omega
  case link =>
    intro s h
    have hdown := linkNow_down h
    exact ⟨by rw [rd_updateLink_link, hdown], cause_linkDown hdown⟩

/-- RXD0's field of four bits holds 8, which is no state of R107. -/
def strayLane : State := wr LANE.RXD0_STATE 8 State.reset

/-- Refutes O21: its clause on the RXC guard ranges over every state, and a lane whose field holds a value above HELD's 7 is neither OFF nor
HELD and stays as it is, where the statement has it DOWN. Only that keeps O21 from holding (lanesFall_of_codes). -/
theorem not_lanesFallAndReturn : ¬ Obligations.LanesFallAndReturn := by
  rintro ⟨-, -, hrxc, -⟩
  have hstray : rxState strayLane 0 = 8 := rd_wr_same ..
  obtain ⟨-, hsaid⟩ := hrxc 0 strayLane (by decide)
  have hstays := rxState_rxcFail (n := 0) (by decide) strayLane
  rw [hsaid, hstray] at hstays
  exact absurd hstays (by decide)

end Sys2Proof.Machine
end

section
/-! PROOFS. The commands of the line, its defects and performance monitoring (R129 to R147): what each does in the state that lets it act. -/
namespace Sys2Proof.Machine

/-! ## Delineation (R130) -/

/-- In HUNT no position is expected, and so none has passed. -/
theorem passedFrames_hunt {s : State} (h : rd s FRMD.DELIN = 0) (pos : Nat) : passedFrames pos s = s := if_pos (.inr h)

/-- No expected position has passed before the next one. -/
theorem passedFrames_onTime (s : State) : passedFrames s.line.nextAt s = s := if_pos (.inl (if_neg (Nat.lt_irrefl _)))

/-- The line's own state holds no field. -/
theorem rd_line (x : LineU) (s : State) (f : Fld) : rd { s with line := x } f = rd s f := rfl

/-- In SYNC a frame whose PSYNC stands ends the misses in a row. -/
theorem delineate_near {f : RxFrame} {s : State} (hsync : rd s FRMD.DELIN = 2) (hnear : f.psErrors ≤ rd s FRMD.PSYNC_TOL) :
    delineate f s = { s with line := { s.line with miss := 0 } } := by
  simp only [delineate, hsync, hnear, decide_true, if_true]

/-- In SYNC a frame whose PSYNC stands at the expected position is decoded. -/
theorem expectedFrame_near {f : RxFrame} {s : State} (hsync : rd s FRMD.DELIN = 2) (hnear : f.psErrors ≤ rd s FRMD.PSYNC_TOL) :
    expectedFrame f s = tryStandby (syncFrame false f
      { s with line := { s.line with nextAt := s.line.nextAt + frameBytesLen, miss := 0 } }) := by
  have hjudged : delineate f { s with line := { s.line with nextAt := s.line.nextAt + frameBytesLen } } =
      { s with line := { s.line with nextAt := s.line.nextAt + frameBytesLen, miss := 0 } } := delineate_near hsync hnear
  simp only [expectedFrame, hjudged, rd_line, hsync, if_true, ne_eq, not_true_eq_false, decide_false]

section
variable {pos : Nat} {bytes : List Nat} {s : State} (hen : enabled s 0x0A = true) (hlink : linkLost (rd s LANE.LINK) = false)
include hen hlink

theorem downstreamFrame_sync (hsync : rd s FRMD.DELIN = 2) (hpos : pos = s.line.nextAt)
    (hnear : (rxFrame bytes).psErrors ≤ rd s FRMD.PSYNC_TOL) :
    downstreamFrame pos bytes s = tryStandby (syncFrame false (rxFrame bytes)
      { s with line := { s.line with nextAt := s.line.nextAt + frameBytesLen, miss := 0 } }) := by
  have hlive : ¬ (enabled s 0x0A = false ∨ linkLost (rd s LANE.LINK) = true) := by simp [hen, hlink]
  have haligned : ¬ rd s FRMD.DELIN = 0 := by omega
  unfold downstreamFrame
  rw [if_neg hlive, hpos, passedFrames_onTime, if_neg haligned, if_pos rfl]
  exact expectedFrame_near hsync hnear

/-- In HUNT the first good candidate is taken as a frame's beginning (log 211). -/
theorem downstreamFrame_hunt {k c : Nat} (hhunt : rd s FRMD.DELIN = 0) (hfound : findSync 0 bytes = some (k, c)) :
    downstreamFrame pos bytes s =
      { wr FRMD.DELIN 1 s with line := { s.line with prev := c, nextAt := pos + k + frameBytesLen } } := by
  have hlive : ¬ (enabled s 0x0A = false ∨ linkLost (rd s LANE.LINK) = true) := by simp [hen, hlink]
  unfold downstreamFrame
  rw [if_neg hlive, passedFrames_hunt hhunt, if_pos hhunt, hfound]

end

/-! ## The windows (R136, R138) -/

theorem windowsEnd_enabled {s : State} (h : enabled s 0x0A = true) :
    windowsEnd s = declare (when (sdDue s) sdWindow (when (sfDue s) sfWindow s)) := if_pos h

/-! ## Bins (R142, R143, R147) -/

/-- The arrival of a trigger leaves performance monitoring as it is. -/
theorem arrived_pmon (src : TrigSrc) (u : Nat) (s : State) : (arrived src u s).pmon = s.pmon := by
  cases src <;> rfl

/-- The boundary of a close is a matter of the seconds. -/
theorem boundaryFor_congr {s u : State} (h : u.pmon = s.pmon) (occ : Nat) : boundaryFor u occ = boundaryFor s occ := by
  simp only [boundaryFor, h]

/-- A close of the 15-minute bin that meets none pending pends. -/
theorem binClose_pends {occ b n fin : Nat} {s : State} (hnone : s.pmon.bin15.closing = none) (hb : (b, n, fin) = boundaryFor s occ) :
    binClose occ 1 s = trigPend 0x0C (putBins 1 { s.pmon.bin15 with
      closing := some { s.pmon.bin15.cur with endSc := b }, upTo := n, closeFin := fin
      cur := { first := n, start := b, flags := 0 } } s) := by
  simp only [binClose, binsOf, if_true, ← hb, hnone]

theorem secondFinal_due {t : Nat} {d : PmDone} {r : List PmDone} {s m : State} (hm : meets t s m) (hd : m.pmon.done = d :: r)
    (hdue : d.finSc ≤ m.time.sc) : execSecondFinal t s = .next { m with
      pmon := { m.pmon with done := r, bin15 := binSetAdd d m.pmon.bin15, binDay := binSetAdd d m.pmon.binDay } } := by
  refine ev_answers hm ?_
  simp only [hd, if_pos hdue]

theorem binHistory_quarter {t : Nat} {c : Bin} {s m : State} (hm : meets t s m) (hdue : closeDue m 1 = some c) :
    execBinHistory t s = .next (binEnters 1 c m) := by
  refine ev_answers hm ?_
  simp only [hdue]

theorem clearHistoryCmd_accepted {p : Port} {s a : State} (ho : opens s p 0x0C) (h15 : s.pmon.bin15.closing = none)
    (hday : s.pmon.binDay.closing = none) (ha : a = renewLease p 0x0C s) :
    clearHistoryCmd p s = putBins 2 { cur := freshBin a } (putBins 1 { cur := freshBin a } a) := by
  subst ha
  exact fabricCmd_accepted ho (by simp [firstFail, h15, hday])

/-- BIN_SEL written 0 shows the current 15-minute bin, which has no END yet. -/
theorem binSelCmd_current {p : Port} {s a : State} (ho : opens s p 0x0C) (ha : a = renewLease p 0x0C s) :
    binSelCmd p 0 s = loadBin s.pmon.bin15.cur (scReg s.pmon.bin15.cur.start) 0
      (a |> wr PMON.BIN_KIND 0 |> wr PMON.BIN_INDEX 0) := by
  have hpmon : a.pmon = s.pmon := by rw [ha, renewLease_pmon]
  rw [← hpmon, ha]
  unfold binSelCmd
  extract_lets kind i
  exact fabricCmd_accepted ho rfl

/-- Settles O23: each command has its effect in the state that lets it act. -/
theorem lineCommandsComplete : Obligations.LineCommandsComplete := by
  refine ⟨?sync, ?hunt, ?los, ?losClear, ?lof, ?sf, ?sd, ?second, ?final, ?close, ?history, ?clear, ?select⟩
  case sync =>
    intro t sub x0 x1 x2 f s m hm hf hen hlink hsync hpos hnear
    subst hf
    change execDownstreamFrame t ⟨sub, x0, x1, x2⟩ s = _
    exact ev_answers hm (downstreamFrame_sync hen hlink hsync hpos hnear)
  case hunt =>
    intro t sub k c x0 x1 x2 s m hm hen hlink hhunt hfound
    change execDownstreamFrame t ⟨sub, x0, x1, x2⟩ s = _
    exact ev_answers hm (downstreamFrame_hunt hen hlink hhunt hfound)
  case los =>
    intro t s m hm hen hlink hlong
    change execLosDetect t s = _
    exact ev_answers hm (if_pos ⟨hen, hlink, hlong⟩)
  case losClear =>
    intro t s m hm hlink hlong
    change execLosClear t s = _
    exact ev_answers hm (if_pos ⟨hlink, hlong⟩)
  case lof =>
    intro t s m hm hen hout hlong
    change execLofDetect t s = _
    exact ev_answers hm (if_pos ⟨hen, hout, hlong⟩)
  case sf =>
    intro t s m hm hen hphase hframe hnew
    have hdue : sfDue m = true := decide_eq_true ⟨hphase, hframe, hnew⟩
    change execSfWindow t s = _
    exact ev_answers hm ((if_pos hdue).trans (by rw [windowsEnd_enabled hen, hdue]; rfl))
  case sd =>
    intro t s m hm hen hphase hframe hnew
    have hdue : sdDue m = true := decide_eq_true ⟨hphase, hframe, hnew⟩
    change execSdWindow t s = _
    exact ev_answers hm ((if_pos hdue).trans (by rw [windowsEnd_enabled hen, hdue]; rfl))
  case second =>
    intro t s m hm hwhole hnew
    change execPmSecond t s = _
    exact ev_answers hm (if_pos (.inr ⟨hwhole, hnew⟩))
  case final => exact fun t d r s m hm hd hdue => secondFinal_due hm hd hdue
  case close =>
    intro t occ b n fin src s m c hm hc ht hnone hb
    have hpmon : c.pmon = m.pmon := by rw [hc, arrived_pmon]
    rw [← hpmon] at hnone
    rw [← boundaryFor_congr hpmon] at hb
    change execBinClose t src occ 1 s = _
    exact trigger_answers hm hc ht ((if_pos (.inl rfl)).trans (binClose_pends hnone hb))
  case history => exact fun t c s m hm hdue => binHistory_quarter hm hdue
  case clear =>
    rintro t p b s m a hm ho h15 hday ha rfl
    exact evPort_answers hm (clearHistoryCmd_accepted ho h15 hday ha)
  case select =>
    intro t p s m a hm ho ha
    exact evPort_answers hm (binSelCmd_current ho ha)

end Sys2Proof.Machine
end

section
/-! PROOFS. The transitions of the activation state (R149 to R151, R166): what the fields of ACTV read in the state that is entered. -/
namespace Sys2Proof.Machine

/-! ## What a transition writes -/

/-- A fall of MOD_TXEN is noted outside the register file. -/
theorem noteFall_regs (f : State → State) (s : State) : (noteFall f s).regs = (f s).regs := by
  unfold noteFall
  extract_lets u
  split <;> rfl

/-- What a transition to another state writes once the bursts of the old one are given up. -/
def enterActv (st : Nat) (s : State) : State :=
  let s := s |> wr ACTV.STATE st |> raise 0x0D 0
  let s := if st = 3 ∨ st = 4 ∨ st = 5 then s else wr ACTV.TERM_ID 0xFFF s
  let s := if st = 1 then wr ACTV.PROFILE_VALID 0 s else s
  let s := if st = 4 ∨ st = 5 then s else s |> wr ACTV.RANGED_FLAG 0 |> wr ACTV.POPUP_SEEN 0
  when (decide (st = 6)) (raise 0x0D 6) s

theorem goState_enters {st : Nat} {s : State} (hnew : rd s ACTV.STATE ≠ st) :
    ∃ left : State, (goState st s).regs = (enterActv st left).regs := by
  unfold goState
  rw [noteFall_regs, if_neg hnew]
  exact ⟨_, rfl⟩

/-! ## What is read of it -/

theorem cause_raise {p b : Nat} (hb : b < 32) (s : State) : bit (rd (raise p b s) (HDR.CAUSE p)) b = true := by
  rw [raise, bit_rd_event hb, bit_two_pow, decide_eq_true rfl, Bool.or_true]

/-- A raised cause stands when another may be raised. -/
theorem cause_when_raise {p k : Nat} (hk : k < 32) {s : State} (h : bit (rd s (HDR.CAUSE p)) k = true) (c : Bool) (b : Nat) :
    bit (rd (when c (raise p b) s) (HDR.CAUSE p)) k = true := by
  cases c
  · exact h
  · exact (bit_rd_event hk _ s).trans (by rw [h, Bool.true_or])

/-- What ACTV reads after a transition to the state st. -/
structure ActvEntered (st : Nat) (u : State) : Prop where
  state : rd u ACTV.STATE = st
  cause : bit (rd u (HDR.CAUSE 0x0D)) 0 = true
  term : st ≠ 3 → st ≠ 4 → st ≠ 5 → rd u ACTV.TERM_ID = 0xFFF
  profile : st = 1 → rd u ACTV.PROFILE_VALID = 0
  flags : st ≠ 4 → st ≠ 5 → rd u ACTV.RANGED_FLAG = 0 ∧ rd u ACTV.POPUP_SEEN = 0

theorem ActvEntered.regs {st : Nat} {u v : State} (h : ActvEntered st u) (hr : v.regs = u.regs) : ActvEntered st v := by
  obtain ⟨hstate, hcause, hterm, hprofile, hflags⟩ := h
  constructor <;> simp only [rd_congr hr] <;> assumption

/-- Each field reads what the last write of its own gives it: the writes behind it are to other places. -/
theorem enterActv_entered {st : Nat} (hst : st < 8) (s : State) : ActvEntered st (enterActv st s) := by
  unfold enterActv
  extract_lets changed term profile ranged
  have hterm : Kept (· ≠ ACTV.TERM_ID.key) changed term := kept_ite (.refl changed) (kept_wr (by simp) 0xFFF changed)
  have hprofile : Kept (· ≠ ACTV.PROFILE_VALID.key) term profile := kept_ite (kept_wr (by simp) 0 term) (.refl term)
  have hranged : Kept (fun k => k ≠ ACTV.RANGED_FLAG.key ∧ k ≠ ACTV.POPUP_SEEN.key) profile ranged :=
    kept_ite (.refl profile) ((kept_wr (by simp) 0 profile).wr (by simp) 0)
  have hhalted : Kept (· ≠ (HDR.CAUSE 0x0D).key) ranged (when (decide (st = 6)) (raise 0x0D 6) ranged) :=
    kept_when (fun v => (Kept.refl v).event (by simp) _) ranged
  constructor
  case state =>
    rw [hhalted _ (by decide), hranged _ (by decide), hprofile _ (by decide), hterm _ (by decide)]
    have hfits : st < 2 ^ ACTV.STATE.w := Nat.lt_trans hst (by decide)
    exact (rd_event_ne _ _ (by decide)).trans ((rd_wr_same ..).trans (Nat.mod_eq_of_lt hfits))
  case cause =>
    refine cause_when_raise (by decide) ?_ _ 6
    rw [hranged _ (by decide), hprofile _ (by decide), hterm _ (by decide)]
    exact cause_raise (by decide) _
  case term =>
    intro h3 h4 h5
    rw [hhalted _ (by decide), hranged _ (by decide), hprofile _ (by decide)]
    simp only [term, h3, h4, h5, or_self, if_false]
    exact rd_wr_same ..
  case profile =>
    intro h1
    rw [hhalted _ (by decide), hranged _ (by decide)]
    simp only [profile, if_pos h1]
    exact rd_wr_same ..
  case flags =>
    intro h4 h5
    rw [hhalted _ (by decide), hhalted _ (by decide)]
    simp only [ranged, h4, h5, or_self, if_false]
    exact ⟨(rd_wr_ne _ _ (by decide)).trans (rd_wr_same ..), rd_wr_same ..⟩

theorem goState_entered {st : Nat} {s : State} (hst : st < 8) (hnew : rd s ACTV.STATE ≠ st) : ActvEntered st (goState st s) := by
  obtain ⟨left, hleft⟩ := goState_enters hnew
  exact (enterActv_entered hst left).regs hleft

/-! ## LOCKOUT (R166) -/

/-- A DISABLE that LOCKOUT overtakes moves only between the counts. -/
theorem lockout_enters {why : Nat} {s : State} (h : rd s ACTV.STATE ≠ 7) : ∃ u : State, rd u ACTV.STATE ≠ 7 ∧
    lockout why s = (goState 7 u |> wr ACTV.LOCKOUT_WHY why |> inc (ACTV.CNT 13) |> raise 0x0D 5) := by
  unfold lockout
  extract_lets was ignored
  have hignored : Kept (· = ACTV.STATE.key) s ignored :=
    kept_ite (((Kept.refl s).wr (by decide) _).wr (by decide) _) (.refl s)
  exact ⟨ignored, by rwa [hignored _ rfl], if_neg h⟩

/-- LOCKOUT's reason is written, counted and announced in the state it enters. -/
theorem rd_lockout {why : Nat} {s : State} (hwhy : why < 4) (h : rd s ACTV.STATE ≠ 7) :
    rd (lockout why s) ACTV.STATE = 7 ∧ rd (lockout why s) ACTV.LOCKOUT_WHY = why := by
  obtain ⟨u, hu, hlock⟩ := lockout_enters (why := why) h
  have hcounted : Kept (fun k => k = ACTV.STATE.key ∨ k = ACTV.LOCKOUT_WHY.key) (wr ACTV.LOCKOUT_WHY why (goState 7 u)) (lockout why s) := by
    rw [hlock]
    exact ((Kept.refl _).wr (f := ACTV.CNT 13) (by decide) _).event (f := HDR.CAUSE 0x0D) (by decide) _
  rw [hcounted _ (.inl rfl), hcounted _ (.inr rfl), rd_wr_ne _ _ (by decide), rd_wr_same]
  exact ⟨(goState_entered (by decide) hu).state, Nat.mod_eq_of_lt hwhy⟩

/-- Settles O27: a transition writes the fields of ACTV one after another, and LOCKOUT is the transition that records a reason. -/
theorem activationTransitions : Obligations.ActivationTransitions := by
  refine ⟨?enters, ?lockout, ?initial⟩
  case enters =>
    intro st s hst hnew
    obtain ⟨hstate, hcause, hterm, hprofile, hflags⟩ := goState_entered hst hnew
    exact ⟨hstate, hcause, hterm, hprofile, hflags⟩
  case lockout => exact fun why s hwhy => ⟨fun h => if_pos h, rd_lockout hwhy⟩
  case initial => exact fun s h => if_pos (.inr h)

end Sys2Proof.Machine
end

section
/-! PROOFS. The commands of activation and of bursts (R149 to R174): what each does in the state that lets it act. -/
namespace Sys2Proof.Machine

/-! ## Grant entries (R153 to R158) -/

/-- An entry whose CRC stands and that names the terminal in RANGING is the terminal's own, and one that is not discarded is used. -/
theorem grantEntry_ranging {k : Nat} {g : Grant} {p : Plan} {s o : State} (hcrc : g.crcOk = true) (hst : rd s ACTV.STATE = 3)
    (hterm : g.term = rd s ACTV.TERM_ID) (hp : p = planOf s g) (ho : o = { s with line := { s.line with owned := s.line.owned + 1 } })
    (hbad : entryBad o g p = false) : grantEntry k g s = useEntry k g p o := by
  subst hp ho
  simp [grantEntry, hcrc, hst, hterm, kindOf, hbad]

theorem planOf_ranging {g : Grant} {s : State} (hst : rd s ACTV.STATE = 3) : (planOf s g).kind = .ranging := by
  simp [planOf, hst]

/-- A burst of no data waits for its time, and its phases are the terminal's. -/
theorem useEntry_plans {k : Nat} {g : Grant} {p : Plan} {s c : State} (hc : c = inc (ACTV.CNT 0) s) (hkind : p.kind ≠ .data)
    (hlate : entryLate c k p = false) (hfree : fallsInRetrain c p = false) : useEntry k g p s = { c with
      burst := { c.burst with plans := c.burst.plans ++ [p] }
      line := { c.line with own := ((planSpan c p).1, (planSpan c p).2, 16) :: c.line.own } } := by
  subst hc
  simp [useEntry, hlate, hfree, hkind]

theorem grantEntry_waiting {t k : Nat} {b : List Nat} {r : List (Nat × List Nat)} {s m u : State} (hm : meets t s m)
    (hgrants : m.line.grants = (k, b) :: r) (hu : grantEntry k (grantOf b) { m with line := { m.line with grants := r } } = u) :
    execGrantEntry t s = .next u := by
  refine ev_answers hm ?_
  simp only [hgrants, hu]

/-! ## Bursts (R117, R159, R220) -/

/-- With MOD_TXEN free to rise and the keystream complete, a planned burst is sent. -/
theorem launch_sends {p : Plan} {s : State} (hfree : txForcedLow s = false) (hks : ∀ c, contOf s p = some c → c.ksLeft = 0) :
    launch p s = sendBurst p s := by
  have hready : ((contOf s p).any fun c => decide (0 < c.ksLeft)) = false := by
    cases hcont : contOf s p with
    | none => rfl
    | some c => simp [hks c hcont]
  simp [launch, hfree, hready]

theorem burstLaunch_sends {t : Nat} {p : Plan} {s m : State} (hm : meets t s m)
    (hp : (m.burst.plans.filter fun p => decide (launchCycle m p ≤ m.time.cycle)).foldl (sooner m) none = some p)
    (hfree : txForcedLow m = false) (hks : ∀ c, contOf m p = some c → c.ksLeft = 0) :
    execBurstLaunch t s = .next (noteFall (fun _ => stageWaiting (sendBurst p m)) m) := by
  refine ev_answers hm ?_
  simp only [hp]
  exact noteFall_to (congrArg stageWaiting (launch_sends hfree hks))

/-! ## Timers (R150) -/

theorem to1Expire_due {t k : Nat} {s m : State} (hm : meets t s m) (hk : m.actv.to1 = some k) (hlong : k + rd m ACTV.TO1 ≤ m.time.ticks) :
    execTo1Expire t s = .next (goState 1 (raise 0x0D 8 m)) := by
  refine ev_answers hm ?_
  simp only [hk, if_pos hlong]

theorem to2Expire_due {t k : Nat} {s m : State} (hm : meets t s m) (hk : to2Start m = some k) (hlong : k + rd m ACTV.TO2 ≤ m.time.ticks) :
    execTo2Expire t s = .next (tryStandby (goState 0 (raise 0x0D 9 m))) := by
  refine ev_answers hm ?_
  simp only [hk, if_pos hlong]

/-! ## ACTV_CMD and UPMSG_SEND (R173, R174) -/

section
variable {p : Port} {s a : State} (ho : opens s p 0x0D)
include ho

section
variable (hb : cmdBusy s actvCmdAddr = false) (ha : a = accepted p 0x0D (some ACTV.CMD_CODE) s)
include hb ha

theorem actvCmd_accepted {bad : Bool} {act : State → State} (hbad : bad = false) : actvCmd p bad act s = act (startCmd actvCmdAddr 4 a) := by
  subst ha
  exact fabricCmd_accepted ho (by simp [firstFail, hb, hbad])

theorem goOperationCmd_ranged (hst : rd s ACTV.STATE = 3) (hranged : rd s ACTV.RANGED_FLAG = 1) (hvalid : rd s SIDR.ADV_VALID = 1)
    (hbits : rd s SIDR.ADV_BITS = rd s ACTV.RANGED_ADVANCE) : goOperationCmd p s = goState 4 (startCmd actvCmdAddr 4 a) :=
  actvCmd_accepted ho hb ha (by simp [goOperationBad, hst, hranged, hvalid, hbits])

theorem rejoinCmd_accepted (hlow : 1 ≤ rd s ACTV.STATE) (hhigh : rd s ACTV.STATE ≤ 5) :
    rejoinCmd p s = toInitial (startCmd actvCmdAddr 4 a) :=
  actvCmd_accepted ho hb ha (decide_eq_false (by omega))

end

theorem upmsgSendCmd_accepted (hidle : s.actv.micMsg = none) (htype : rd s ACTV.UPMSG_TYPE = 0x90) (hst : rd s ACTV.STATE = 4)
    (hroom : s.actv.upq.length < 8) (ha : a = renewLease p 0x0D s) :
    upmsgSendCmd p s = { a with actv := { a.actv with
      micMsg := some (oamMessage (rd a ACTV.TERM_ID) 0x90 (rd a ACTV.UPMSG_SEQ) (upmsgBody a)) } } := by
  subst ha
  exact fabricCmd_accepted ho (by simp [firstFail, hidle, htype, hst, hroom])

end

/-- CLEAR_LOCKOUT meets the level of the pad first. -/
theorem clearLockoutCmd_released {p : Port} {s b a : State} (hpad : b = { s with actv := { s.actv with padHigh := false } })
    (ho : opens b p 0x0D) (hb : cmdBusy s actvCmdAddr = false) (hst : rd s ACTV.STATE = 7) (hguard : s.lane.fltGuard = false)
    (ha : a = accepted p 0x0D (some ACTV.CMD_CODE) b) :
    clearLockoutCmd p false s = tryStandby (goState 0 (startCmd actvCmdAddr 4 a)) := by
  subst hpad
  have hstate : (decide (rd s ACTV.STATE ≠ 7) || false || s.lane.fltGuard) = false := by rw [hst, hguard]; rfl
  exact actvCmd_accepted (act := fun u => tryStandby (goState 0 u)) ho hb ha hstate

/-- Settles O25: each command has its effect in the state that lets it act. -/
theorem activationCommandsComplete : Obligations.ActivationCommandsComplete := by
  refine ⟨?entry, ?launch, ?to1, ?to2, ?operation, ?clear, ?rejoin, ?message, ?pad, ?low⟩
  case entry =>
    intro t k b r g p s m a o c hm hgrants hg ha hcrc hst hterm hp ho hbad hc hlate hfree
    have hranging : rd a ACTV.STATE = 3 := by rw [ha]; exact hst
    have hown : g.term = rd a ACTV.TERM_ID := by rw [ha]; exact hterm
    have hkind : p.kind ≠ .data := by simp [hp, planOf_ranging hranging]
    refine grantEntry_waiting hm hgrants ?_
    rw [← hg, ← ha, grantEntry_ranging hcrc hranging hown hp ho hbad]
    exact useEntry_plans hc hkind hlate hfree
  case launch => exact fun t p s m hm hp hfree hks => burstLaunch_sends hm hp hfree hks
  case to1 => exact fun t k s m hm hk hlong => to1Expire_due hm hk hlong
  case to2 => exact fun t k s m hm hk hlong => to2Expire_due hm hk hlong
  case operation =>
    intro t p s m a hm ho hb hst hranged hvalid hbits ha
    exact evPort_answers hm (goOperationCmd_ranged ho hb ha hst hranged hvalid hbits)
  case clear =>
    intro t p s m b a hm hpad ho hb hst hguard ha
    exact evPort_answers hm (clearLockoutCmd_released hpad ho hb hst hguard ha)
  case rejoin =>
    intro t p s m a hm ho hb hlow hhigh ha
    exact evPort_answers hm (rejoinCmd_accepted ho hb ha hlow hhigh)
  case message =>
    intro t p s m a hm ho hidle htype hst hroom ha
    exact evPort_answers hm (upmsgSendCmd_accepted ho hidle htype hst hroom ha)
  case pad =>
    intro t s m hm hlow hlong
    change execRoguePad t s = _
    exact ev_answers hm (if_pos ⟨hlow, hlong⟩)
  case low =>
    intro t s m hm hhigh hlong
    change execTxenLow t s = _
    exact ev_answers hm (if_pos ⟨hhigh, hlong⟩)

end Sys2Proof.Machine
end

section
/-! PROOFS. The commands of the traffic manager (R175 to R207): what each does in the state that lets it act. -/
namespace Sys2Proof.Machine

/-! ## A frame without an entry (R178, R181) -/

section
variable {s u : State} (h : Kept uncounted s u)
include h

theorem Kept.nodeOf (q lvl : Nat) : nodeOf u q lvl = nodeOf s q lvl := by
  have hparent : rd u (QUE.Q_PARENT (q / 256) (q % 256)) = rd s (QUE.Q_PARENT (q / 256) (q % 256)) :=
    h _ (.inr (by simp only [QUE.Q_PARENT, Fld.key]; omega))
  have hsub (n : Nat) : rd u (SCHED.SUB_PARENT n) = rd s (SCHED.SUB_PARENT n) :=
    h _ (.inr (by simp only [SCHED.SUB_PARENT, Fld.key]; omega))
  have hsvc (n : Nat) : rd u (SCHED.SVC_PARENT n) = rd s (SCHED.SVC_PARENT n) :=
    h _ (.inr (by simp only [SCHED.SVC_PARENT, Fld.key]; omega))
  simp only [Machine.nodeOf, Machine.queueParent, hparent, hsub, hsvc]

theorem Kept.queueParent (q : Nat) : queueParent u q = queueParent s q := h.nodeOf q 1

theorem Kept.flatQueue (q : Nat) : flatQueue u q = flatQueue s q := by
  have hup : rd u TMGR.UP_FLAT = rd s TMGR.UP_FLAT := h _ (by decide)
  have hdn : rd u TMGR.DN_FLAT = rd s TMGR.DN_FLAT := h _ (by decide)
  simp only [Machine.flatQueue, h.nodeOf, h.queueParent, hup, hdn]

/-- A queue's port is a matter of the modes and of the parents of the queues and nodes. -/
theorem Kept.queuePort (q : Nat) : queuePort u q = queuePort s q := by
  simp only [Machine.queuePort, h.flatQueue, h.nodeOf, h.queueParent]

/-- What a partition holds is a matter of the frames and of the ports of their queues. -/
theorem Kept.occOf (htm : u.tm = s.tm) (hburst : u.burst = s.burst) (up : Bool) : occOf u up = occOf s up := by
  simp only [Machine.occOf, h.queuePort, htm, hburst]

end

/-- No check of R178 behind the classifier and the policer drops a green frame: its queue is enabled and has room for it, and so have its
partition and the pools. -/
structure Admits (s : State) (q : Nat) (up : Bool) (f : QFrame) : Prop where
  green : f.yellow = false
  on : rd s (QUE.Q_EN (q / 256) (q % 256)) = 1
  depth : queuedCells s q + stagedCells s q + cellsOf f ≤ rd s (QUE.MAX_DEPTH (q / 256) (q % 256))
  port : up = upPort (queuePort s q)
  part : occOf s up + cellsOf f ≤ rd s (if up then TMGR.PART_UP else TMGR.PART_DN)
  cells : cellsOf f ≤ s.led.cellsFree
  desc : 0 < s.led.descFree

/-- The counters of a source and of the classifier have no part in it. -/
theorem Admits.kept {s u : State} {q : Nat} {up : Bool} {f : QFrame} (h : Admits s q up f) (hk : Kept uncounted s u) (htm : u.tm = s.tm)
    (hburst : u.burst = s.burst) (hled : u.led = s.led) : Admits u q up f where
  green := h.green
  on := (hk _ (.inr (by simp only [QUE.Q_EN, Fld.key]; omega))).trans h.on
  depth := by
    have hmax : rd u (QUE.MAX_DEPTH (q / 256) (q % 256)) = rd s (QUE.MAX_DEPTH (q / 256) (q % 256)) :=
      hk _ (.inr (by simp only [QUE.MAX_DEPTH, Fld.key]; omega))
    simpa only [hmax, queuedCells, stagedCells, htm, hburst] using h.depth
  port := h.port.trans (congrArg upPort (hk.queuePort q).symm)
  part := by
    rw [hk.occOf htm hburst, hk _ (by cases up <;> decide)]
    exact h.part
  cells := hled ▸ h.cells
  desc := hled ▸ h.desc

theorem takeIn_admitted {src q : Nat} {up : Bool} {f : QFrame} {s : State} (h : Admits s q up f) : takeIn src q f s = enqueue q f s := by
  obtain ⟨green, on, depth, rfl, part, cells, desc⟩ := h
  have hfits : (decide (rd s (QUE.MAX_DEPTH (q / 256) (q % 256)) < queuedCells s q + stagedCells s q + cellsOf f)
      || f.yellow && decide (rd s (QUE.YELLOW_MAX (q / 256) (q % 256)) < queuedCells s q + stagedCells s q + cellsOf f)) = false := by
    simp [green, depth]
  simp only [takeIn, on, hfits, Nat.not_lt.2 part, Nat.not_lt.2 cells, Nat.ne_of_gt desc, Nat.one_ne_zero, if_false, Bool.false_eq_true]

/-- A frame is looked up in vain: the lookup and the miss are counted. -/
abbrev missed (src : Nat) (d : List Nat) (s : State) : State := inc CLS.MISSES (lookedUp src d s)

theorem missed_kept {src : Nat} (hs : src < 19) (d : List Nat) (s : State) : Kept uncounted s (missed src d s) :=
  (lookedUp_kept hs d s).wr (f := CLS.MISSES) (by decide) _

/-- A whole TAG is not counted. -/
theorem missed_tagged {src : Nat} {d : List Nat} {s : State} (hs : src < 19) (htag : tagShort s src d = false) :
    missed src d s = (s |> inc (TMGR.SRC_CNT src 0) |> inc CLS.LOOKUPS |> inc CLS.MISSES) := by
  have hoffset : rd (received src s) (TMGR.TAG_OFFSET src) = rd s (TMGR.TAG_OFFSET src) :=
    received_kept hs s _ (.inl (by simp only [TMGR.TAG_OFFSET, Fld.key]; omega))
  have hwhole : tagShort (received src s) src d = false := by rwa [tagShort, hoffset]
  simp only [missed, lookedUp, when, hwhole, Bool.false_eq_true, if_false]

theorem missed_time (src : Nat) (d : List Nat) (s : State) : (missed src d s).time = s.time := by
  unfold missed lookedUp when
  split <;> simp only [inc_time]

/-- A frame of an admissible length without an entry goes to its source's default queue (R181). -/
theorem ingress_missed {src : Nat} {d : List Nat} {s : State} (hs : src < 19) (hen : enabled s 0x10 = true) (hhalt : tmHalted s = false)
    (hruns : bulkRuns s = true) (hshort : 64 ≤ d.length) (hlong : d.length ≤ 9728) (hfind : findKey s (lookupKey s src d) = none)
    (hpass : rd s (TMGR.MISS_DROP src) = 0) : ingress src d s =
      takeIn src (rd s (TMGR.DEFAULT_QUEUE src)) { data := d, src := src, enq := s.time.sc } (missed src d s) := by
  have hreceived := received_kept hs s
  have hmissed := missed_kept hs d s
  have hopen : ¬ (rd (received src s) (HDR.ENABLE 0x10) = 0 ∨ tmHalted (received src s) = true ∨ bulkRuns (received src s) = false) := by
    rw [hreceived (HDR.ENABLE 0x10) (by decide), hreceived.tmHalted, hreceived.bulkRuns rfl, hhalt, hruns, of_decide_eq_true hen]
    decide
  have hlength : ¬ (d.length < 64 ∨ 9728 < d.length) := by omega
  have hlost : findKey (lookedUp src d s) (lookupKey (lookedUp src d s) src d) = none := by
    rw [(lookedUp_kept hs d s).lookupKey hs]
    simpa only [findKey, lookedUp_tm] using hfind
  have hdrop : rd (missed src d s) (TMGR.MISS_DROP src) = rd s (TMGR.MISS_DROP src) :=
    hmissed _ (.inl (by simp only [TMGR.MISS_DROP, Fld.key]; omega))
  have hpasses : ¬ rd (missed src d s) (TMGR.MISS_DROP src) = 1 := by rw [hdrop, hpass]; decide
  have hqueue : rd (missed src d s) (TMGR.DEFAULT_QUEUE src) = rd s (TMGR.DEFAULT_QUEUE src) :=
    hmissed _ (.inl (by simp only [TMGR.DEFAULT_QUEUE, Fld.key]; omega))
  unfold ingress
  rw [if_neg hopen, if_neg hlength]
  generalize vlanOf d = vlan
  extract_lets short looked
  rw [show looked = lookedUp src d s from rfl]
  simp only [hlost]
  rw [← hqueue, ← missed_time src d s]
  exact if_neg hpasses

/-- A line source is fitted on every variant. -/
theorem sourceFitted_line (v : Variant) {src : Nat} (h : src < 16) : sourceFitted v src = true := by
  cases v <;> simp [sourceFitted] <;> omega

theorem ingressFrame_line {t src : Nat} {d : List Nat} {s m : State} (hm : meetsBy (.ingress src) t s m) (hs : src < 16) :
    execIngressFrame t src d s = .next (ingress src d m) := by
  have hline : ¬ (src = 16 ∨ src = 17) := by omega
  rw [execIngressFrame, evBy_of_meets hm, sourceFitted_line _ hs, if_neg hline]
  rfl

theorem ethIngress_good {src : Nat} {d : List Nat} {s : State} (hlink : rd s (ETH.E_LINK (src - 16)) = 1) (hfcs : fcsHolds d = true)
    (hpause : be (slice d 12 2) ≠ 0x8808) : ethIngress src d s = ingress src d (inc (ETH.E_RX_FRAMES (src - 16)) s) := by
  simp [ethIngress, hlink, hfcs, hpause]

theorem ingressFrame_eth {t src : Nat} {d : List Nat} {s m : State} (hm : meetsBy (.ingress src) t s m) (hs : src = 16 ∨ src = 17)
    (hfit : sourceFitted m.fuse.variant src = true) : execIngressFrame t src d s = .next (ethIngress src d m) := by
  rw [execIngressFrame, evBy_of_meets hm, hfit, if_pos hs]
  rfl

/-! ## The classifier windows (R183, R185, R202) -/

/-- A window's command begins: its register is occupied, and the write accepted. -/
abbrev clsBegun (p : Port) (s : State) : State :=
  startCmd (0x12050 + 64 * p.window) 4 (accepted p 0x12 (some (CLSW.W_CODE p.window)) s)

theorem clsBegun_tm (p : Port) (s : State) : (clsBegun p s).tm = s.tm := by simp [accepted]

/-- A window's command that no check refuses acts on the accepted state. -/
theorem clsCmd_accepted {p : Port} {checks : List (Bool × Code)} {exhausted : Bool} {act : State → State} {s : State} (ho : opens s p 0x12)
    (hb : cmdBusy s (0x12050 + 64 * p.window) = false) (hc : firstFail checks = none) (he : exhausted = false) :
    clsCmd p checks exhausted act s = act (clsBegun p s) := by
  subst he
  have hchecks : firstFail ((cmdBusy s (0x12050 + 64 * p.window), Code.busy) :: checks ++ [(false, Code.exhausted)]) = none := by
    rw [firstFail_none] at hc ⊢
    simpa [hb] using hc
  have hpage : firstFail (pageChecks s p 0x12
      ++ ((cmdBusy s (0x12050 + 64 * p.window), Code.busy) :: checks ++ [(false, Code.exhausted)])) = none := by
    obtain ⟨hpresent, hassigned, hlock⟩ := ho
    simpa [pageChecks, firstFail, hpresent, hassigned, hlock] using hchecks
  simp only [clsCmd, hpage, reduceCtorEq, if_false]
  exact fabricCmd_accepted ho hchecks

/-- The places of the classifier windows. -/
abbrev inWindows (k : Nat) : Prop := 0x12000 ≤ k / 32 ∧ k / 32 < 0x13000

theorem Kept.windowAction {s u : State} (h : Kept inWindows s u) (p : Port) : windowAction u p.window = windowAction s p.window := by
  have hword : ∀ lo w r : Nat, lo < 32 → rd u ⟨0x12048 + 64 * p.window, lo, w, r⟩ = rd s ⟨0x12048 + 64 * p.window, lo, w, r⟩ := by
    intro lo w r hlo
    have hwindow : p.window < 3 := by cases p <;> decide
    refine h _ ?_
    simp only [inWindows, Fld.key]
    omega
  have hdrop : rd u (CLSW.A_DROP p.window) = rd s (CLSW.A_DROP p.window) := hword 31 _ _ (by decide)
  have hrewrite : rd u (CLSW.A_PCP_RW_EN p.window) = rd s (CLSW.A_PCP_RW_EN p.window) := hword 30 _ _ (by decide)
  have hpcp : rd u (CLSW.A_PCP_RW p.window) = rd s (CLSW.A_PCP_RW p.window) := hword 27 _ _ (by decide)
  have hqueue : rd u (CLSW.A_QUEUE p.window) = rd s (CLSW.A_QUEUE p.window) := hword 16 _ _ (by decide)
  have hpolicer : rd u (CLSW.A_POLICER p.window) = rd s (CLSW.A_POLICER p.window) := hword 8 _ _ (by decide)
  have hptype : rd u (CLSW.A_PTYPE p.window) = rd s (CLSW.A_PTYPE p.window) := hword 0 _ _ (by decide)
  rw [Machine.windowAction, hdrop, hrewrite, hpcp, hqueue, hpolicer, hptype]
  rfl

/-- A move to a ghost slot writes GHOSTS_TAKEN and a cause. -/
theorem toGhost_kept (i : Nat) (e : CEntry) (s : State) : Kept inWindows s (toGhost i e s) := by
  unfold toGhost
  split
  case isTrue unreferenced => exact .refl s
  case isFalse =>
    split
    case h_1 full => exact .refl s
    case h_2 g free =>
      extract_lets gs _ moved taken
      have hmoved : Kept inWindows s moved := kept_of_regs rfl
      have htaken : Kept inWindows s taken := hmoved.wr (f := GHOST.GHOSTS_TAKEN) (by decide) _
      exact htaken.trans (kept_when (fun u => (Kept.refl u).event (f := HDR.CAUSE 0x11) (by decide) _) taken)

/-- The old action alone is moved: the entries stand. -/
theorem toGhost_entries (i : Nat) (e : CEntry) (s : State) : (toGhost i e s).tm.entries = s.tm.entries := by
  unfold toGhost when
  split
  case isTrue unreferenced => rfl
  case isFalse =>
    split
    case h_1 full => rfl
    case h_2 g free =>
      dsimp only
      split <;> rfl

theorem findKey_congr {s u : State} (h : u.tm.entries = s.tm.entries) (key : Nat) : findKey u key = findKey s key := by
  rw [findKey, h, findKey]

section
variable {w : Nat} {p : Port} {s a : State} (ho : opens s p 0x12) (hw : w = p.window) (hb : cmdBusy s (0x12050 + 64 * w) = false)
  (ha : a = startCmd (0x12050 + 64 * w) 4 (accepted p 0x12 (some (CLSW.W_CODE w)) s))
include ho hw hb ha

theorem clsReadCmd_accepted : clsReadCmd p s =
    loadCls w ((a.tm.entries.find? fun x => x.1 == rd a (CLSW.W_INDEX w)).map (·.2)) a := by
  subst hw ha
  exact clsCmd_accepted ho hb rfl rfl

variable {i key : Nat} (hkey : key = windowKey s w) (hfit : sourceFitted s.fuse.variant (key / 2 ^ 35) = true)
  (hrange : keyRange s key = false) (hghost : noGhost s key = false)
include hkey hfit hrange hghost

/-- INSTALL moves a referenced entry of its key to a ghost, and then puts the new action with its generation. -/
theorem clsInstallCmd_accepted {g : Nat} {c : State} (hi : installIndex s key = some i)
    (hc : c = match findKey s key with | some (j, e) => toGhost j e a | none => a) (hg : g = nextGen c i) :
    clsInstallCmd p s = wr (CLSW.W_INDEX w) i
      (let b := setEntry i (some ⟨key, windowAction a w, g, 0, match findKey s key with | some (_, e) => e.hits | none => 0⟩) c
       { b with tm := { b.tm with gens := aset b.tm.gens i g } }) := by
  subst hw hkey hg
  have htm : a.tm = s.tm := by rw [ha, clsBegun_tm]
  have hfind := findKey_congr (congrArg TmU.entries htm) (windowKey s p.window)
  have hindex : installIndex a (windowKey s p.window) = some i := by rw [installIndex, hfind, htm, ← hi, installIndex]
  have hchecks : firstFail [(decide (windowKey s p.window / 2 ^ 35 ≤ 18)
      && !sourceFitted s.fuse.variant (windowKey s p.window / 2 ^ 35), Code.absent),
      (keyRange s (windowKey s p.window), Code.range)] = none := by
    rw [hfit, hrange]
    simp [firstFail]
  have hroom : ((installIndex s (windowKey s p.window)).isNone || noGhost s (windowKey s p.window)) = false := by
    rw [hi, hghost]
    rfl
  unfold clsInstallCmd
  refine (clsCmd_accepted ho hb hchecks hroom).trans ?_
  rw [clsBegun, ← ha]
  cases hold : findKey s (windowKey s p.window) with
  | none =>
    obtain rfl : c = a := by simpa [hold] using hc
    simp only [hindex, hfind, hold]
  | some x =>
    obtain ⟨j, e⟩ := x
    obtain rfl : c = toGhost j e a := by simpa [hold] using hc
    have hlater := findKey_congr (toGhost_entries j e a) (windowKey s p.window)
    simp only [hindex, hfind, hold, hlater, (toGhost_kept j e a).windowAction p]

/-- REMOVE moves a referenced entry of its key to a ghost, and empties its index. -/
theorem clsRemoveCmd_accepted {e : CEntry} (hfind : findKey s key = some (i, e)) :
    clsRemoveCmd p s = setEntry i none (toGhost i e a) := by
  subst hw hkey
  have htm : a.tm = s.tm := by rw [ha, clsBegun_tm]
  have hfound : findKey a (windowKey s p.window) = some (i, e) := (findKey_congr (congrArg TmU.entries htm) _).trans hfind
  have hchecks : firstFail [(decide (windowKey s p.window / 2 ^ 35 ≤ 18)
      && !sourceFitted s.fuse.variant (windowKey s p.window / 2 ^ 35), Code.absent),
      (keyRange s (windowKey s p.window), Code.range), ((findKey s (windowKey s p.window)).isNone, Code.state)] = none := by
    rw [hfit, hrange, hfind]
    simp [firstFail]
  unfold clsRemoveCmd
  refine (clsCmd_accepted ho hb hchecks hghost).trans ?_
  rw [clsBegun, ← ha]
  simp only [hfound]

end

/-! ## The downstream engine (R187, R197) -/

theorem egress_takes {ready bufs : List Nat} {x : SFrame} {s c : State} (hen : enabled s 0x10 = true) (hhalt : tmHalted s = false)
    (hruns : bulkRuns s = true) (hx : takeFrame s (egressPorts s ready) = some (c, x)) :
    egress ready bufs s = resetIdle x.queue
      (if queuePort s x.queue = 18 then hostEgress bufs x c else ethEgress (queuePort s x.queue) x c) := by
  simp [egress, hen, hhalt, hruns, hx]

/-! ## TM_CMD and TEL_SEL (R199, R207) -/

theorem tmResetCmd_accepted {p : Port} {s a : State} (ho : opens s p 0x10) (hb : cmdBusy s tmCmdAddr = false)
    (hen : enabled s 0x10 = false) (ha : a = withdrawAll 5 (accepted p 0x10 (some TMGR.CMD_CODE) s)) :
    tmResetCmd p s = raise 0x10 5 (startCmd tmCmdAddr tickSteps (tmReinit (forEach (fullQueues a) (flushQueue fun _ => true) a))) := by
  subst ha
  have hstate : decide (rd s (HDR.ENABLE 0x10) = 1) = false := hen
  exact fabricCmd_accepted ho (by simp only [firstFail, hb, hstate, Bool.false_eq_true, if_false])

theorem flushQueueCmd_accepted {p : Port} {q : Nat} {s a : State} (ho : opens s p 0x10) (hb : cmdBusy s tmCmdAddr = false) (hq : q ≤ 1023)
    (hstaged : stagedCells s q = 0) (ha : a = accepted p 0x10 (some TMGR.CMD_CODE) s) :
    flushQueueCmd p q s = raise 0x10 5 (startCmd tmCmdAddr 16 (flushQueue (fun f => f.enq != a.time.sc) q a)) := by
  subst ha
  exact fabricCmd_accepted ho (by simp [firstFail_none, hb, hq, hstaged])

/-- The fields of a TEL_SEL word that names a queue alone: reserved bits, QUEUE and CLEAR. -/
theorem telSel_fields {q : Nat} (hq : q ≤ 1023) : bits q 30 10 = 0 ∧ bits q 9 0 = q ∧ bits q 31 31 = 0 ∧ bit q 31 = false := by
  simp only [bits, bit, beq_eq_false_iff_ne]
  omega

theorem telSelCmd_shows {p : Port} {q : Nat} {s a : State} (ho : opens s p 0x1C) (hq : q ≤ 1023) (ha : a = renewLease p 0x1C s) :
    telSelCmd p q s = loadTel (aget a.tm.tel q {}) (a |> wr TEL.TEL_QUEUE q |> wr TEL.TEL_CLEAR 0) := by
  obtain ⟨hreserved, hqueue, hclear, hrestart⟩ := telSel_fields hq
  subst ha
  refine (fabricCmd_accepted ho (by simp [firstFail, hreserved])).trans ?_
  rw [hqueue, hclear, hrestart]
  rfl

/-- Settles O29: each command has its effect in the state that lets it act. -/
theorem trafficManagerCommandsComplete : Obligations.TrafficManagerCommandsComplete := by
  refine ⟨?ingress, ?eth, ?install, ?remove, ?egress, ?staging, ?refill, ?reset, ?flush, ?telemetry, ?read⟩
  case ingress =>
    intro t src q up d f s m a hm hs ha hen hhalt hruns hshort hlong htag hfind hpass hq hf hqueue hdepth hup hpart hcells hdesc
    have hsrc : src < 19 := by omega
    have hmissed : missed src d m = a := (missed_tagged hsrc htag).trans ha.symm
    have hkept : Kept uncounted m a := hmissed ▸ missed_kept hsrc d m
    have hadmits : Admits m q up f := ⟨by rw [hf], hqueue, hdepth, hup, hpart, hcells, hdesc⟩
    have henqueued : takeIn src q f a = enqueue q f a :=
      takeIn_admitted (hadmits.kept hkept (by simp only [ha, inc_tm]) (by simp only [ha, inc_burst]) (by simp only [ha, inc_led]))
    change execIngressFrame t src d s = _
    rw [ingressFrame_line hm hs, ingress_missed hsrc hen hhalt hruns hshort hlong hfind hpass, hmissed, ← hq, ← hf, henqueued]
  case eth =>
    intro t src d s m hm hs hfit hlink hfcs hpause
    change execIngressFrame t src d s = _
    rw [ingressFrame_eth hm hs hfit, ethIngress_good hlink hfcs hpause]
  case install =>
    intro t w i g key p s m a c hm ho hw hkey hb hfit hrange hi hghost ha hc hg
    exact evPort_answers hm (clsInstallCmd_accepted ho hw hb ha hkey hfit hrange hghost hi hc hg)
  case remove =>
    intro t w i key e p s m a hm ho hw hkey hb hfit hrange hfind hghost ha
    exact evPort_answers hm (clsRemoveCmd_accepted ho hw hb ha hkey hfit hrange hghost hfind)
  case egress => exact fun t ready bufs x s m c hm hen hhalt hruns hx => ev_answers hm (egress_takes hen hhalt hruns hx)
  case staging =>
    intro t s m hm hused hdone
    change execStaging t s = _
    exact ev_answers hm (if_pos ⟨hused, hdone⟩)
  case refill =>
    intro t s m hm hruns hphase hfirst
    change execTokenRefill t s = _
    exact ev_answers hm (if_pos ⟨hruns, hphase, hfirst⟩)
  case reset => exact fun t p s m a hm ho hb hen ha => evPort_answers hm (tmResetCmd_accepted ho hb hen ha)
  case flush =>
    intro t q p s m a hm ho hb hq hstaged ha
    exact evPort_answers hm (flushQueueCmd_accepted ho hb hq hstaged ha)
  case telemetry => exact fun t q p s m a hm ho hq ha => evPort_answers hm (telSelCmd_shows ho hq ha)
  case read => exact fun t w p s m a hm ho hw hb ha => evPort_answers hm (clsReadCmd_accepted ho hw hb ha)

end Sys2Proof.Machine
end

section
/-! PROOFS. The Dealer (R231 to R235): who wins a round, and what a grant and a release leave of the engines and of their balance. -/
namespace Sys2Proof.Machine

/-! ## The winner of a round (R232) -/

/-- The winner requests, and ranks ahead of every other seat that requests. -/
theorem winner_ranksAhead {s : State} {seats : List Nat} {w : Nat} (h : winner s seats = some w) :
    w ∈ seats ∧ ∀ b ∈ seats, b ≠ w → ranksAhead s w b = true := by
  refine ⟨List.mem_of_find?_eq_some h, fun b hb hne => ?_⟩
  have hahead : (w == b || ranksAhead s w b) = true := 
    List.all_eq_true.1 (List.find?_some (p := fun a => seats.all fun b => a == b || ranksAhead s a b) h) b hb
  simpa [hne.symm] using hahead

theorem ranksAhead_iff {s : State} {a b : Nat} : ranksAhead s a b = true ↔
    seatEff s b < seatEff s a ∨ (seatEff s b = seatEff s a ∧ (winAge s a < winAge s b ∨ (winAge s a = winAge s b ∧ a < b))) := by
  simp only [ranksAhead, decide_eq_true_eq, eq_comm (a := seatEff s a)]

/-! ## The ENGINE balance (R54, R235) -/

/-- Counting the values 0 to 3 one by one counts the values below 4. -/
theorem length_filter_lt_four (f : Nat → Nat) (l : List Nat) :
    (l.filter fun e => decide (f e = 0)).length + (l.filter fun e => decide (f e = 1)).length
      + (l.filter fun e => decide (f e = 2)).length + (l.filter fun e => decide (f e = 3)).length
      = (l.filter fun e => decide (f e < 4)).length := by
  induction l with
  | nil => rfl
  | cons a r ih =>
    simp only [List.filter_cons, decide_eq_true_eq]
    by_cases h : f a < 4
    · rw [if_pos h, List.length_cons, ← ih]
      obtain h | h | h | h : f a = 0 ∨ f a = 1 ∨ f a = 2 ∨ f a = 3 := by omega
      all_goals simp [h]; omega
    · rw [if_neg h, if_neg (by omega), if_neg (by omega), if_neg (by omega), if_neg (by omega), ih]

/-- The ENGINE balance holds where every fitted engine is in one of the four states of R238. -/
theorem balanced_engine_iff {s : State} : balanced s 5 = true ↔
    ∀ e < Variant.engines s.fuse.variant, rd s (DEAL.ENG_STATE e) < 4 := by
  have hcount := length_filter_lt_four (fun e => rd s (DEAL.ENG_STATE e)) (List.range (Variant.engines s.fuse.variant))
  have hall := List.length_filter_eq_length_iff (p := fun e => decide (rd s (DEAL.ENG_STATE e) < 4))
    (l := List.range (Variant.engines s.fuse.variant))
  simp only [List.length_range, List.mem_range, decide_eq_true_eq] at hall
  rw [← hall, ← hcount]
  exact decide_eq_true_iff

/-- The places of the states of the engines other than e. -/
abbrev otherEngine (e k : Nat) : Prop := ∃ x, x ≠ e ∧ k = (DEAL.ENG_STATE x).key

/-- The move of one engine to a state of R238 keeps the ENGINE balance. -/
theorem balanced_engine_moved {e : Nat} {s u : State} (hfuse : u.fuse = s.fuse) (hothers : Kept (otherEngine e) s u)
    (hmoved : rd u (DEAL.ENG_STATE e) < 4) (h : balanced s 5 = true) : balanced u 5 = true := by
  rw [balanced_engine_iff] at *
  intro x hx
  by_cases hxe : x = e
  · rwa [hxe]
  · rw [hothers _ ⟨x, hxe, rfl⟩]
    exact h x (hfuse ▸ hx)

/-! ## A grant (R232, R235) -/

/-- The fields that a grant writes. -/
abbrev grantWrites (e seat : Nat) (s : State) : State :=
  s |> wr (DEAL.ENG_STATE e) 2 |> wr (DEAL.ENG_SEAT e) seat |> inc (DEAL.SEAT_WINS seat) |> wr (DEAL.SEAT_LOST seat) 0

theorem grantEngine_regs (e seat : Nat) (h : Hand) (s : State) : (grantEngine e seat h s).regs = (grantWrites e seat s).regs := rfl

theorem grantEngine_fuse (e seat : Nat) (h : Hand) (s : State) : (grantEngine e seat h s).fuse = s.fuse := rfl

/-- The fields of the seats lie below those of the engines. -/
theorem seat_key_lt {seat : Nat} (hseat : seat < 5) (e : Nat) :
    (DEAL.SEAT_WINS seat).key < (DEAL.ENG_STATE e).key ∧ (DEAL.SEAT_LOST seat).key < (DEAL.ENG_STATE e).key
      ∧ (DEAL.SEAT_WINS seat).key < (DEAL.ENG_SEAT e).key ∧ (DEAL.SEAT_LOST seat).key < (DEAL.ENG_SEAT e).key := by
  simp only [DEAL.SEAT_WINS, DEAL.SEAT_LOST, DEAL.ENG_STATE, DEAL.ENG_SEAT, Fld.key]
  omega

theorem engSeat_key_ne (e x : Nat) : (DEAL.ENG_SEAT e).key ≠ (DEAL.ENG_STATE x).key := by
  simp only [DEAL.ENG_STATE, DEAL.ENG_SEAT, Fld.key]
  omega

theorem engState_key_ne {e x : Nat} (h : x ≠ e) : (DEAL.ENG_STATE e).key ≠ (DEAL.ENG_STATE x).key := by
  simp only [DEAL.ENG_STATE, Fld.key]
  omega

theorem rd_grantEngine_state {seat : Nat} (hseat : seat < 5) (e : Nat) (h : Hand) (s : State) :
    rd (grantEngine e seat h s) (DEAL.ENG_STATE e) = 2 := by
  obtain ⟨hwins, hlost, -, -⟩ := seat_key_lt hseat e
  rw [rd_congr (grantEngine_regs e seat h s), rd_wr_ne _ _ hlost.ne', rd_inc_ne hwins.ne', rd_wr_ne _ _ (engSeat_key_ne e e).symm,
    rd_wr_same]
  rfl

theorem rd_grantEngine_seat {seat : Nat} (hseat : seat < 5) (e : Nat) (h : Hand) (s : State) :
    rd (grantEngine e seat h s) (DEAL.ENG_SEAT e) = seat := by
  obtain ⟨-, -, hwins, hlost⟩ := seat_key_lt hseat e
  rw [rd_congr (grantEngine_regs e seat h s), rd_wr_ne _ _ hlost.ne', rd_inc_ne hwins.ne', rd_wr_same]
  exact Nat.mod_eq_of_lt (Nat.lt_trans hseat (show 5 < 2 ^ 3 by decide))

theorem rd_grantEngine_lost (e seat : Nat) (h : Hand) (s : State) : rd (grantEngine e seat h s) (DEAL.SEAT_LOST seat) = 0 := by
  rw [rd_congr (grantEngine_regs e seat h s), rd_wr_same, Nat.zero_mod]

theorem grantEngine_others {seat : Nat} (hseat : seat < 5) (e : Nat) (h : Hand) (s : State) :
    Kept (otherEngine e) s (grantEngine e seat h s) := by
  have hwrites : Kept (otherEngine e) s (grantWrites e seat s) := by
    rintro f ⟨x, hx, hf⟩
    obtain ⟨hwins, hlost, -, -⟩ := seat_key_lt hseat x
    rw [rd_wr_ne _ _ (hf ▸ hlost.ne'), rd_inc_ne (hf ▸ hwins.ne'), rd_wr_ne _ _ (hf ▸ (engSeat_key_ne e x).symm),
      rd_wr_ne _ _ (hf ▸ (engState_key_ne hx).symm)]
  exact hwrites.regs (grantEngine_regs e seat h s)

/-! ## A release (R231, R235) -/

/-- An engine not due for retirement returns to POOL by two writes. -/
theorem freeEngine_regs {e : Nat} {s : State} (hdue : s.rpr.engDue = []) :
    (freeEngine e s).regs = (s |> wr (DEAL.ENG_STATE e) 0 |> wr (DEAL.ENG_SEAT e) 0).regs := by
  simp [freeEngine, when, hdue]

theorem freeEngine_fuse {e : Nat} {s : State} (hdue : s.rpr.engDue = []) : (freeEngine e s).fuse = s.fuse := by
  simp [freeEngine, when, hdue]

theorem rd_freeEngine_state {e : Nat} {s : State} (hdue : s.rpr.engDue = []) : rd (freeEngine e s) (DEAL.ENG_STATE e) = 0 := by
  rw [rd_congr (freeEngine_regs hdue), rd_wr_ne _ _ (engSeat_key_ne e e).symm, rd_wr_same, Nat.zero_mod]

theorem freeEngine_others {e : Nat} {s : State} (hdue : s.rpr.engDue = []) : Kept (otherEngine e) s (freeEngine e s) := by
  rintro f ⟨x, hx, hf⟩
  rw [rd_congr (freeEngine_regs hdue), rd_wr_ne _ _ (hf ▸ (engSeat_key_ne e x).symm), rd_wr_ne _ _ (hf ▸ (engState_key_ne hx).symm)]

/-- Settles O33: the winner ranks ahead of every other requesting seat, and a grant and a release move one engine between two states of
R238. -/
theorem dealerGrantsByPriority : Obligations.DealerGrantsByPriority := by
  refine ⟨?winner, ?grant, ?release⟩
  case winner =>
    intro s seats w h
    obtain ⟨hmem, hahead⟩ := winner_ranksAhead h
    exact ⟨hmem, fun b hb hne => ranksAhead_iff.1 (hahead b hb hne)⟩
  case grant =>
    intro e seat h s _ hseat _ hbal
    have hheld := rd_grantEngine_state hseat e h s
    have hkept := balanced_engine_moved (grantEngine_fuse e seat h s) (grantEngine_others hseat e h s) (by rw [hheld]; decide) hbal
    exact ⟨hkept, hheld, rd_grantEngine_seat hseat e h s, rd_grantEngine_lost e seat h s⟩
  case release =>
    intro e s _ _ hdue hbal
    have hpool := rd_freeEngine_state (e := e) hdue
    have hkept := balanced_engine_moved (freeEngine_fuse hdue) (freeEngine_others hdue) (by rw [hpool]; decide) hbal
    exact ⟨hkept, hpool⟩

end Sys2Proof.Machine
end

section
/-! PROOFS. The commands of the keys, the cipher deck, the Dealer and the doorbells (R210 to R234, R430, R433): what each does in the state
that lets it act. -/
namespace Sys2Proof.Machine

/-! ## The key store (R215, R216, R222) -/

/-- The state in which the effect of an accepted KEY_CMD begins. -/
abbrev keyBegun (p : Port) (s : State) : State := accepted p 0x22 (some KEYS.KEY_CODE) s

/-- The status CODE alone is written. -/
theorem rd_keyBegun {f : Fld} (h : f.key ≠ KEYS.KEY_CODE.key) (p : Port) (s : State) : rd (keyBegun p s) f = rd s f :=
  (rd_wr_ne _ _ h).trans (rd_renewLease ..)

theorem keyBegun_deck (p : Port) (s : State) : (keyBegun p s).deck = s.deck := by simp [accepted]

theorem impBytes_keyBegun (p : Port) (s : State) : impBytes (keyBegun p s) = impBytes s := by
  have hdata : ∀ k ∈ List.range 10, rd (keyBegun p s) (KEYS.IMP_DATA k) = rd s (KEYS.IMP_DATA k) := by
    intro k hk
    have hlow := List.mem_range.1 hk
    refine rd_keyBegun ?_ p s
    simp only [KEYS.IMP_DATA, KEYS.KEY_CODE, Fld.key]
    omega
  rw [impBytes, rd_keyBegun (by decide), List.flatMap_congr fun k hk => congrArg (toLe 4) (hdata k hk), impBytes]

theorem keySlot_congr {s u : State} (h : u.deck = s.deck) (n : Nat) : keySlot u n = keySlot s n := by
  rw [keySlot, h, keySlot]

/-- The key that an import would load is a matter of the import registers and of the slots. -/
theorem impKey_keyBegun (p : Port) (s : State) : impKey (keyBegun p s) = impKey s := by
  rw [impKey, impBytes_keyBegun, rd_keyBegun (by decide), rd_keyBegun (by decide), keySlot_congr (keyBegun_deck p s), impKey]

section
variable {p : Port} {n : Nat} {s a : State} (ho : opens s p 0x22) (hn : n = rd s KEYS.IMP_SLOT) (hb : cmdBusy s keyCmdAddr = false)
  (huse : slotUse s n = 0) (h68 : n ≠ 68) (h69 : n ≠ 69) (hup : upSlot n = true → s.led.nonceOpen = 0) (ha : a = keyBegun p s)
include ho hn hb huse h68 h69 hup ha

theorem keyImportCmd_loads {k : List Nat} (hslot : n < 72 ∨ 95 < n) (hrange : impRange s n = false) (hkey : impKey s = some k) :
    keyImportCmd p s = keyChanged n ((if n = 64 then wr (KEYS.UP_IV_COUNT 0) 0 else
      if n = 66 then wr (KEYS.UP_IV_COUNT 1) 0 else id) (setSlot n
        { valid := true, secret := !hostSlot n || decide (rd a KEYS.IMP_SECRET = 1), keylen := rd a KEYS.IMP_KEYLEN
          salt := rd a KEYS.IMP_SALT, gen := ((keySlot a n).gen + 1) % 2 ^ 32, key := k } a)) := by
  subst hn ha
  have hsealed : ¬ (72 ≤ rd s KEYS.IMP_SLOT ∧ rd s KEYS.IMP_SLOT ≤ 95) := by omega
  unfold keyImportCmd
  extract_lets slot fails done
  have hloads : fails = false := by rw [show fails = (impKey s).isNone from rfl, hkey, Option.isNone_some]
  have hdone : done = _ := fabricCmd_accepted ho
    (by simpa [firstFail_none, slot, hb, huse, h68, h69, hsealed, hrange, hloads] using hup)
  rw [if_neg (by simp [hloads]), hdone, impKey_keyBegun, hkey]
  dsimp only
  split_ifs <;> rfl

theorem keyEraseCmd_empties (hslot : n < 71 ∨ 95 < n) :
    keyEraseCmd p s = keyChanged n (setSlot n { secret := (keySlot a n).secret, gen := ((keySlot a n).gen + 1) % 2 ^ 32 } a) := by
  subst hn ha
  have hsealed : ¬ (72 ≤ rd s KEYS.IMP_SLOT ∧ rd s KEYS.IMP_SLOT ≤ 95) := by omega
  have h71 : rd s KEYS.IMP_SLOT ≠ 71 := by omega
  unfold keyEraseCmd
  extract_lets slot
  refine fabricCmd_accepted ho ?_
  simpa [firstFail_none, slot, hb, huse, h68, h69, hsealed, h71] using hup

end

theorem upswCmd_arms {p : Port} {c lo hi : Nat} {s a : State} (ho : opens s p 0x22) (hpend : rd s (KEYS.UPSW_PEND c) = 0)
    (hres : bits hi 28 16 = 0) (hphase : bits hi 29 29 = rd s (KEYS.UPSW_ACT_PHASE c)) (ha : a = renewLease p 0x22 s) :
    upswCmd p c lo hi s = (a |> wr (KEYS.UPSW_LO c) lo |> wr (KEYS.UPSW_PEND c) (bits hi 31 31)
      |> wr (KEYS.UPSW_PHASE c) (bits hi 30 30) |> wr (KEYS.UPSW_FRAME_HI c) (bits hi 15 0)) := by
  subst ha
  exact fabricCmd_accepted ho (by simp [firstFail, hpend, hres, hphase])

theorem upswArm_container {t c lo hi : Nat} {p : Port} {s m : State} (hm : meetsFrom p t s m) (hc : c < 16) :
    execUpswArm t p c lo hi s = .next (upswCmd p c lo hi m) := by
  rw [execUpswArm, evPort, evBy_of_meets hm, if_pos hc]

/-! ## The cipher deck (R222, R224) -/

theorem drainCheck_drained {s : State} (hdrain : rd s DECK.UP_DRAIN = 1) (hopen : s.led.nonceOpen = 0) (hfirst : s.deck.drained = false) :
    drainCheck s = { raise 0x20 3 s with deck := { s.deck with drained := true } } := by
  rw [drainCheck, if_pos hdrain, if_pos ⟨hopen, hfirst⟩]

theorem arrived_regs (src : TrigSrc) (u : Nat) (s : State) : (arrived src u s).regs = s.regs := by cases src <;> rfl

theorem arrived_time (src : TrigSrc) (u : Nat) (s : State) : (arrived src u s).time = s.time := by cases src <;> rfl

/-- The trigger that is counted changes neither OAM_SET nor the SC. -/
theorem oamActivate_arrived {src : TrigSrc} {m c : State} (hc : c = arrived src 0x22 m) (arg : Nat) :
    oamActivate arg c = trigExec 0x22 (wr KEYS.ACT_FRAME (scFrame m) (wr KEYS.OAM_SET (arg % 2)
      { c with deck := { c.deck with prevSet := rd m KEYS.OAM_SET } })) := by
  have hset : rd c KEYS.OAM_SET = rd m KEYS.OAM_SET := by rw [hc, rd_congr (arrived_regs ..)]
  have hframe : scFrame c = scFrame m := by rw [scFrame, hc, arrived_time, scFrame]
  rw [← hset, ← hframe]
  rfl

/-! ## Rings and jobs (R229, R230, R433) -/

theorem doorbell_sets {n v : Nat} {s : State} (hn : n < 24) (hen : rd s (ringEn n) = 1) (hv : v < ringSlots s n) :
    doorbell (4 * n) v true s = wr (ringTail n) v s := by
  have hlow : 4 * n < 0x60 := by omega
  have hring : 4 * n / 4 = n := by omega
  simp [doorbell, hlow, hring, hen, hv]

theorem fetchJob_fetches {r : Nat} {desc ctx d : List Nat} {s : State} (hd : d = fit 64 desc)
    (hr : (ringOrder s.deck.lastRing).find? (fun r => decide (rd s (CTXQ.RING_EN r) = 1 ∧ ringHeld s r ≠ 0)) = some r)
    (hroom : jobsRunning s < rd s (DEAL.MAX_HELD 3)) (hdma : dmaRuns s = true) :
    fetchJob desc ctx s = ringNext r { s with deck := { s.deck with lastRing := r, jobs := s.deck.jobs ++
      [{ ring := r, index := rd s (CTXQ.RING_HEAD r), desc := d, slot := jobSlot s d
         ctx := if jobFlag d 0 then (restoreRecord d ctx).getD [] else ctx, left := jobBlocks d
         ended := (jobCheck s d ctx).map (·.1), refused := (jobCheck s d ctx).isSome
         counted := ((jobCheck s d ctx).map (·.2)).getD false }] } } := by
  subst hd
  have hfetch : ¬ (rd s (DEAL.MAX_HELD 3) ≤ jobsRunning s ∨ dmaRuns s = false) := by simp [hroom, hdma]
  simp only [fetchJob, hr, if_neg hfetch]

/-- A ring's oldest job that has ended completes with its status. -/
theorem jobDone_ended {ring st : Nat} {j : Job} {s : State} (hj : s.deck.jobs.find? (fun j => j.ring == ring) = some j)
    (hended : j.ended = some st) (aad tag : List Nat) (err : Bool) :
    jobDone ring aad tag err s = jobComplete j st (jobWritten j) s := by
  simp only [jobDone, hj, hended]

/-- A ring's oldest job whose blocks are all done completes with its result. -/
theorem jobDone_worked {ring : Nat} {j : Job} {r : JobResult} {aad tag : List Nat} {s : State}
    (hj : s.deck.jobs.find? (fun j => j.ring == ring) = some j) (hended : j.ended = none) (hleft : j.left = 0)
    (hr : r = jobResult (keySlot s j.slot) j j.input (fit (jobAad j.desc) aad) tag) :
    jobDone ring aad tag false s = jobComplete j r.status (if jobOp j.desc = 7 ∧ r.status ≠ 0 then 0 else jobLen j.desc)
      (jobWrites (keySlot s j.slot) j r s) := by
  subst hr
  simp only [jobDone, hj, hended, hleft]
  rfl

/-- HOST_JOB_DONE of a job that completes releases the engines that the job still holds. -/
theorem hostJobDone_completes {t ring : Nat} {j : Job} {aad tag : List Nat} {rdErr wrErr : Bool} {s m a : State} (hm : meets t s m)
    (hj : m.deck.jobs.find? (fun j => j.ring == ring) = some j) (ha : jobDone ring aad tag (rdErr || wrErr) m = a)
    (hgone : a.deck.jobs.contains j = false) : execHostJobDone t ring aad tag rdErr wrErr s =
      .next (seatsIdle (forEach (handsFor a 3 (jobWork j)) (fun h => freeEngine h.1) a)) := by
  refine ev_answers hm ?_
  simp only [hj, ha, hgone, Bool.false_eq_true, if_false]

/-! ## The Dealer (R231, R232, R234) -/

theorem dealerRound_due {t declared : Nat} {stalled : List (Nat × Nat)} {s m : State} (hm : meets t s m) (hbreak : broken m 5 = false)
    (hfirst : m.deck.lastRound ≠ some m.time.cycle) : execDealerRound t ⟨declared, stalled⟩ s = .next (dealRound declared stalled m) :=
  ev_answers hm (if_neg (by simp [hbreak, hfirst]))

theorem engineRelease_due {t e : Nat} {h : Hand} {input : List Nat} {s m : State} (hm : meets t s m)
    (hheld : rd m (DEAL.ENG_STATE e) = 2) (hh : h = aget m.deck.hands e {}) (hend : h.endAt ≤ m.time.cycle) :
    execEngineRelease t ⟨e, input⟩ s = .next (seatsIdle (handDone (rd m (DEAL.ENG_SEAT e)) h input (freeEngine e m))) := by
  subst hh
  exact ev_answers hm (if_pos ⟨hheld, .inl hend⟩)

theorem dealerReclaim_due {t e : Nat} {h : Hand} {s m a : State} (hm : meets t s m) (hheld : rd m (DEAL.ENG_STATE e) = 2)
    (hh : h = aget m.deck.hands e {}) (hlate : h.start + rd m DEAL.WDOG * bulkDiv m ≤ m.time.cycle)
    (ha : a = (freeEngine e m |> inc DEAL.RECLAIMS |> raise 0x21 0)) :
    execDealerReclaim t e s = .next (seatsIdle (reclaimWork (rd m (DEAL.ENG_SEAT e)) h a)) := by
  subst hh ha
  exact ev_answers hm (if_pos ⟨hheld, hlate⟩)

/-- Settles O32: each command has its effect in the state that lets it act. -/
theorem cipherDeckCommandsComplete : Obligations.CipherDeckCommandsComplete := by
  refine ⟨?load, ?erase, ?arm, ?drained, ?set, ?bank, ?doorbell, ?fetch, ?ended, ?worked, ?round, ?release, ?reclaim⟩
  case load =>
    intro t n k p s m a hm ho hn hb huse h68 h69 hslot hrange hkey hup ha
    exact evPort_answers hm (keyImportCmd_loads ho hn hb huse h68 h69 hup ha hslot hrange hkey)
  case erase =>
    intro t n p s m a hm ho hn hb huse h68 h69 hslot hup ha
    exact evPort_answers hm (keyEraseCmd_empties ho hn hb huse h68 h69 hup ha hslot)
  case arm =>
    intro t c lo hi p s m a hm ho hc hpend hres hphase ha
    exact (upswArm_container hm hc).trans (congrArg _ (upswCmd_arms ho hpend hres hphase ha))
  case drained => exact fun t s m hm hdrain hopen hfirst => ev_answers hm (drainCheck_drained hdrain hopen hfirst)
  case set => exact fun t arg src s m c hm hc ht => trigger_answers hm hc ht (oamActivate_arrived hc arg)
  case bank => exact fun t arg src s m c hm hc ht => trigger_answers hm hc ht rfl
  case doorbell => exact fun t n v s m hm hn hen hv => ev_answers hm (doorbell_sets hn hen hv)
  case fetch => exact fun t r desc ctx d s m hm hd hr hroom hdma => ev_answers hm (fetchJob_fetches hd hr hroom hdma)
  case ended =>
    intro t ring st j aad tag rdErr wrErr s m a hm hj hended ha hgone
    exact hostJobDone_completes hm hj ((jobDone_ended hj hended ..).trans ha.symm) hgone
  case worked =>
    intro t ring j r aad tag s m a hm hj hended hleft hr ha hgone
    exact hostJobDone_completes hm hj ((jobDone_worked hj hended hleft hr).trans ha.symm) hgone
  case round => exact fun t declared stalled s m hm hbreak hfirst => dealerRound_due hm hbreak hfirst
  case release => exact fun t e h input s m hm hheld hh hend => engineRelease_due hm hheld hh hend
  case reclaim => exact fun t e h s m a hm hheld hh hlate ha => dealerReclaim_due hm hheld hh hlate ha

end Sys2Proof.Machine
end

section
/-! PROOFS. A step of the machine: the command at the front of the queue, or one idle core cycle (log 2). -/
namespace Sys2Proof.Machine

theorem step_of_empty {s : State} (h : s.pending = []) : step s = .next (advanceTo (s.time.cycle + 1) s) := by
  unfold step
  rw [h]
  rfl

/-- Settles O1: step takes the queue apart, and no table word spells a command. -/
theorem stepRunsTheFrontCommand : Obligations.StepRunsTheFrontCommand :=
  ⟨fun _ _ _ => rfl, fun _ => step_of_empty, fun _ _ _ => rfl⟩

end Sys2Proof.Machine
end

section
/-! PROOFS. The loop outputs (R265 to R271): what an update sets, and what each command does in the state that lets it act. -/
namespace Sys2Proof.Machine

/-! ## What an update sets (R266) -/

/-- An update is counted, and the loop is not idle any more. -/
abbrev loopCounted (n : Nat) (s : State) : State :=
  modLoop n (fun u => { u with idle := 0, stale := false }) (inc (LOOP.LOOP_UPDATES n) s)

/-- An update that takes effect sets SETPOINT to c, and a loop that drives shows the state st. -/
abbrev loopSet (n st c : Nat) (s : State) : State := loopState n st (wr (LOOP.SETPOINT n) c (loopCounted n s))

theorem loopCounted_kept (n : Nat) (s : State) : Kept (· ≠ (LOOP.LOOP_UPDATES n).key) s (loopCounted n s) :=
  ((Kept.refl s).wr (f := LOOP.LOOP_UPDATES n) (by simp) _).regs rfl

theorem loopState_kept (n st : Nat) (s : State) : Kept (· ≠ (LOOP.LOOP_STATE n).key) s (loopState n st s) :=
  kept_ite (kept_wr (by simp) st s) (.refl s)

/-- A loop that does not drive shows no new state. -/
theorem loopState_off {n st : Nat} {s : State} (h : loopOn s n = false) : loopState n st s = s := if_neg (by simp [h])

/-- The three fields of a loop that an update writes stand apart. -/
theorem loop_keys (n : Nat) : (LOOP.SETPOINT n).key ≠ (LOOP.LOOP_UPDATES n).key ∧ (LOOP.SETPOINT n).key ≠ (LOOP.LOOP_STATE n).key
    ∧ (LOOP.LOOP_STATE n).key ≠ (LOOP.LOOP_UPDATES n).key := by
  simp only [LOOP.SETPOINT, LOOP.LOOP_UPDATES, LOOP.LOOP_STATE, Fld.key]; omega

theorem rd_loopSet_setpoint (n st c : Nat) (s : State) : rd (loopSet n st c s) (LOOP.SETPOINT n) = c % 2 ^ 16 := by
  obtain ⟨-, hstate, -⟩ := loop_keys n
  rw [loopState_kept n st _ _ hstate, rd_wr_same]
  rfl

theorem rd_loopCounted_setpoint (n : Nat) (s : State) : rd (loopCounted n s) (LOOP.SETPOINT n) = rd s (LOOP.SETPOINT n) :=
  loopCounted_kept n s _ (loop_keys n).1

theorem rd_loopCounted_updates (n : Nat) (s : State) :
    rd (loopCounted n s) (LOOP.LOOP_UPDATES n) = (rd s (LOOP.LOOP_UPDATES n) + 1) % 2 ^ (LOOP.LOOP_UPDATES n).w := rd_wr_same ..

/-- Counting an update leaves what decides whether the loop drives. -/
theorem loopOn_loopSet {n c : Nat} {s : State} : loopOn (wr (LOOP.SETPOINT n) c (loopCounted n s)) n = loopOn s n := by
  have hkept {f : Fld} (hset : f.key ≠ (LOOP.SETPOINT n).key) (hcount : f.key ≠ (LOOP.LOOP_UPDATES n).key) :
      rd (wr (LOOP.SETPOINT n) c (loopCounted n s)) f = rd s f := by
    rw [rd_wr_ne c _ hset, loopCounted_kept n s f hcount]
  obtain ⟨-, hsetState, hstateCount⟩ := loop_keys n
  have hpage : rd (wr (LOOP.SETPOINT n) c (loopCounted n s)) (HDR.ENABLE 0x5C) = rd s (HDR.ENABLE 0x5C) := by
    apply hkept <;> simp only [HDR.ENABLE, LOOP.SETPOINT, LOOP.LOOP_UPDATES, Fld.key] <;> omega
  have hen : rd (wr (LOOP.SETPOINT n) c (loopCounted n s)) (LOOP.LOOP_EN n) = rd s (LOOP.LOOP_EN n) := by
    apply hkept <;> simp only [LOOP.LOOP_EN, LOOP.SETPOINT, LOOP.LOOP_UPDATES, Fld.key] <;> omega
  rw [loopOn, enabled, hpage, hen, hkept hsetState.symm hstateCount]
  rfl

/-- The current of a value is a matter of the loop's own range. -/
theorem loopCurrent_loopCounted (n : Nat) (v : Int) (s : State) : loopCurrent (loopCounted n s) n v = loopCurrent s n v := by
  have hzero : rd (loopCounted n s) (LOOP.LOOP_ZERO n) = rd s (LOOP.LOOP_ZERO n) :=
    loopCounted_kept n s _ (by simp only [LOOP.LOOP_ZERO, LOOP.LOOP_UPDATES, Fld.key]; omega)
  have hspan : rd (loopCounted n s) (LOOP.LOOP_SPAN n) = rd s (LOOP.LOOP_SPAN n) :=
    loopCounted_kept n s _ (by simp only [LOOP.LOOP_SPAN, LOOP.LOOP_UPDATES, Fld.key]; omega)
  unfold loopCurrent rdS
  rw [hzero, hspan]

theorem loopUpdate_hold {n : Nat} {s : State} (h : loopSource (loopCounted n s) n = .hold) : loopUpdate n s = loopCounted n s := by
  unfold loopUpdate
  simp only [h]

theorem loopUpdate_fault {n : Nat} {s : State} (h : loopSource (loopCounted n s) n = .fault) :
    loopUpdate n s = loopSet n 4 (loopFaultCurrent (loopCounted n s) n) s := by
  unfold loopUpdate
  simp only [h]
  rfl

/-- A value sets its current, clamped to the measuring range. -/
theorem loopUpdate_value {n : Nat} {v : Int} {s : State} (h : loopSource (loopCounted n s) n = .value v) :
    ∃ st, loopUpdate n s = loopSet n st (max 3800 (min 20500 (loopCurrent s n v))).toNat s := by
  unfold loopUpdate
  simp only [h, loopCurrent_loopCounted]
  split
  case isTrue hlow => exact ⟨2, by rw [show max 3800 (min 20500 (loopCurrent s n v)) = 3800 by omega]; rfl⟩
  case isFalse hlow =>
    split
    case isTrue hhigh => exact ⟨3, by rw [show max 3800 (min 20500 (loopCurrent s n v)) = 20500 by omega]; rfl⟩
    case isFalse hhigh => exact ⟨1, by rw [show max 3800 (min 20500 (loopCurrent s n v)) = loopCurrent s n v by omega]⟩

/-- An update is counted, and it sets SETPOINT or leaves it. -/
theorem loopUpdate_cases (n : Nat) (s : State) : loopUpdate n s = loopCounted n s ∨ ∃ st c, loopUpdate n s = loopSet n st c s := by
  cases h : loopSource (loopCounted n s) n with
  | hold => exact .inl (loopUpdate_hold h)
  | fault => exact .inr ⟨_, _, loopUpdate_fault h⟩
  | value v =>
    obtain ⟨st, hst⟩ := loopUpdate_value h
    exact .inr ⟨st, _, hst⟩

/-- An update writes the loop's SETPOINT, UPDATES and STATE alone. -/
theorem loopUpdate_kept (n : Nat) (s : State) :
    Kept (fun k => k ≠ (LOOP.SETPOINT n).key ∧ k ≠ (LOOP.LOOP_UPDATES n).key ∧ k ≠ (LOOP.LOOP_STATE n).key) s (loopUpdate n s) := by
  have hcounted := (loopCounted_kept n s).mono (Q := fun k =>
    k ≠ (LOOP.SETPOINT n).key ∧ k ≠ (LOOP.LOOP_UPDATES n).key ∧ k ≠ (LOOP.LOOP_STATE n).key) fun k h => h.2.1
  rcases loopUpdate_cases n s with h | ⟨st, c, h⟩
  · rw [h]
    exact hcounted
  · rw [h]
    exact (hcounted.wr (f := LOOP.SETPOINT n) (by simp) c).trans ((loopState_kept n st _).mono fun k h => h.2.2)

theorem rd_loopUpdate_updates (n : Nat) (s : State) :
    rd (loopUpdate n s) (LOOP.LOOP_UPDATES n) = (rd s (LOOP.LOOP_UPDATES n) + 1) % 2 ^ (LOOP.LOOP_UPDATES n).w := by
  obtain ⟨hset, -, hstate⟩ := loop_keys n
  rcases loopUpdate_cases n s with h | ⟨st, c, h⟩
  · rw [h, rd_loopCounted_updates]
  · rw [h, loopState_kept n st _ _ hstate.symm, rd_wr_ne c _ hset.symm, rd_loopCounted_updates]

theorem rd_loopUpdate_state {n : Nat} {s : State} (hoff : loopOn s n = false) :
    rd (loopUpdate n s) (LOOP.LOOP_STATE n) = rd s (LOOP.LOOP_STATE n) := by
  obtain ⟨-, hset, hcount⟩ := loop_keys n
  rcases loopUpdate_cases n s with h | ⟨st, c, h⟩
  · rw [h, loopCounted_kept n s _ hcount]
  · rw [h, loopSet, loopState_off (loopOn_loopSet.trans hoff), rd_wr_ne c _ hset.symm, loopCounted_kept n s _ hcount]

/-- Settles O39: an update is counted, then its source alone decides whether SETPOINT is set, and to what. -/
theorem loopUpdateFollowsItsSource : Obligations.LoopUpdateFollowsItsSource := by
  intro n s _
  refine ⟨?value, ?fault, ?hold, rd_loopUpdate_updates n s, rd_loopUpdate_state, fun f hset hcount hstate =>
    loopUpdate_kept n s f ⟨hset, hcount, hstate⟩⟩
  case value =>
    intro v h
    obtain ⟨st, hst⟩ := loopUpdate_value h
    rw [hst, rd_loopSet_setpoint]
    omega
  case fault =>
    intro h
    have hfail : rd (loopCounted n s) (LOOP.FAIL_HIGH n) = rd s (LOOP.FAIL_HIGH n) :=
      loopCounted_kept n s _ (by simp only [LOOP.FAIL_HIGH, LOOP.LOOP_UPDATES, Fld.key]; omega)
    rw [loopUpdate_fault h, rd_loopSet_setpoint, loopFaultCurrent, hfail]
    split <;> rfl
  case hold =>
    intro h
    rw [loopUpdate_hold h, rd_loopCounted_setpoint]

/-! ## The commands of the loop outputs -/

theorem loopFitted_of_lt {s : State} {n : Nat} (h : n < Variant.loops s.fuse.variant) : loopFitted s n = true := decide_eq_true h

/-- HOST_HI_WRITE reaches the pair of HOST, whose loop updates where SRC is HOST (R268). -/
theorem hostHiWrite_routes {p : Port} {n v : Nat} {s : State} (hn : n < 2) (ho : opensAt s p 0x5C (0x118 + 64 * n)) :
    fabricWrite p 0x5C (0x118 + 64 * n) v {} s = pairHi p 0x5C (0x118 + 64 * n) v s := by
  have hhi : pairHiAt 0x5C (0x118 + 64 * n) = true := by
    obtain rfl | rfl : n = 0 ∨ n = 1 := by omega
    · decide
    · decide
  rw [fabricWrite_opens ho, routeWrite_noCommand (by omega) (by omega) rfl, if_pos hhi]

theorem written_host {n : Nat} {s0 s : State} (hn : n < 2) (hsrc : rd s (LOOP.LOOP_SRC n) = 0) :
    written 0x5C (0x118 + 64 * n) s0 s = loopTrigger .cmd n s := by
  obtain rfl | rfl : n = 0 ∨ n = 1 := by omega
  · exact if_pos hsrc
  · exact if_pos hsrc

theorem loopTrigger_takes {src : TrigSrc} {n : Nat} {s c : State} (hc : c = arrived src 0x5C s) (ht : takesTriggers c 0x5C) :
    loopTrigger src n s = loopUpdate n (trigExec 0x5C c) := by
  subst hc
  exact arrive_takes ht

/-- Within a frame that is not yet judged, the current is shown, the guard judges a loop that drives, and DRV follows. -/
theorem loopControl_first {n cur : Nat} {s a b : State} (hruns : unitRuns s 0x5C = true) (hframe : (loopOf s n).frame ≠ some (scFrame s))
    (ha : a = modLoop n (fun u => { u with frame := some (scFrame s) }) (wr (LOOP.LOOP_CURRENT n) cur s)) (hb : b = loopJudge n cur a) :
    loopControl n cur s = if loopOn a n = false then wr (LOOP.DRV n) 0 a
      else if loopOn b n = true then wr (LOOP.DRV n) (loopDrive b n cur) b else b := by
  have hstate : rd a PWR.STATE = rd s PWR.STATE :=
    (congrArg (rd · PWR.STATE) ha).trans (rd_wr_ne _ s (by simp only [PWR.STATE, LOOP.LOOP_CURRENT, Fld.key]; omega))
  have hunit : (!unitRuns a 0x5C) = false := by
    rw [unitRuns, hstate]
    simpa [unitRuns] using hruns
  subst hb
  unfold loopControl
  simp only [if_neg hframe, ← ha, hunit, Bool.false_eq_true, if_false, Bool.not_eq_true']

/-- Settles O38: each command has its effect in the state that lets it act. -/
theorem loopOutputsComplete : Obligations.LoopOutputsComplete := by
  refine ⟨?update, ?host, ?control, ?stale⟩
  case update =>
    intro t n src s m c hm hn hc ht
    change execLoopUpdate t src n s = _
    exact ev_answers hm ((if_pos (loopFitted_of_lt hn)).trans (loopTrigger_takes hc ht))
  case host =>
    intro t n v lo p s m d a b c hm hn ho hheld hd hsealed hfit hdef hunit ha hb hsrc hc ht
    have haddr : 0x5C * 0x1000 + (0x118 + 64 * n) - 4 = 0x5C114 + 64 * n := by omega
    rw [← haddr] at hheld hd
    subst hb
    change execHostHiWrite t p n v s = _
    unfold execHostHiWrite
    refine evPort_answers hm ((if_pos hn).trans ((hostHiWrite_routes hn ho).trans ?_))
    rw [pairHi_passes (by decide) hheld hd hsealed hfit hdef hunit ha, written_host hn hsrc, loopTrigger_takes hc ht]
  case control =>
    intro t n cur s m a b hm hn hruns hframe ha hb
    change execLoopControl t n cur s = _
    exact ev_answers hm ((if_pos (loopFitted_of_lt hn)).trans (loopControl_first hruns hframe ha hb))
  case stale =>
    intro t n s m hm hn hon hfresh hidle
    change execLoopStale t n s = _
    exact ev_answers hm ((if_pos (loopFitted_of_lt hn)).trans (if_pos ⟨hon, hfresh, hidle⟩))

end Sys2Proof.Machine
end

section
/-! PROOFS. The samples of the slices (R253 to R257): what a sample of a slice writes that shadows none and is shadowed by none. -/
namespace Sys2Proof.Machine

/-! ## What the guard and the weigh channel leave -/

/-- The guard of a slice writes STATUS and GUARD_FAILS of its page and raises its causes. -/
theorem guardRun_kept (i : Nat) (v : Int) (cm : Nat) (s : State) :
    Kept (fun k => k / 131072 = 0x30 ∨ k = (SLICE.SAMPLES i).key) s (guardRun i v cm s) := by
  have apart {f : Fld} (hpage : f.key / 131072 = 0x31 + i) (hcount : f.key ≠ (SLICE.SAMPLES i).key) :
      ¬ (f.key / 131072 = 0x30 ∨ f.key = (SLICE.SAMPLES i).key) := by omega
  have hcause : ¬ ((HDR.CAUSE (0x31 + i)).key / 131072 = 0x30 ∨ (HDR.CAUSE (0x31 + i)).key = (SLICE.SAMPLES i).key) := by
    rw [HDR.CAUSE_key]
    simp only [SLICE.SAMPLES, Fld.key]
    omega
  have hshown (u : State) (a b c : Bool) :
      Kept (fun k => k / 131072 = 0x30 ∨ k = (SLICE.SAMPLES i).key) u
        (u |> wrB (SLICE.OVER i) a |> wrB (SLICE.CM i) b |> wrB (SLICE.LOOPIN i) c) := by
    refine (((Kept.refl u).wr (f := SLICE.OVER i) ?_ _).wr (f := SLICE.CM i) ?_ _).wr (f := SLICE.LOOPIN i) ?_ _
    all_goals
      apply apart <;> simp only [SLICE.OVER, SLICE.CM, SLICE.LOOPIN, SLICE.SAMPLES, Fld.key] <;> omega
  rcases hjudge : judgeSample s i v cm with ⟨ov, cmBad, loop⟩
  have hs := hshown s ov cmBad loop
  simp only [guardRun, hjudge]
  refine kept_ite ?_ (kept_ite ?_ (hs.regs rfl))
  · refine Kept.event (((hs.regs (v := modSlice i _ _) rfl).wr (f := SLICE.FAULT i) ?_ 1).wr (f := SLICE.GUARD_FAILS i) ?_ _) hcause _
    all_goals
      apply apart <;> simp only [SLICE.FAULT, SLICE.GUARD_FAILS, SLICE.SAMPLES, Fld.key] <;> omega
  · refine Kept.event (((hs.regs (v := modSlice i _ _) rfl).wr (f := SLICE.FAULT i) ?_ 0).wr (f := SLICE.STALL i) ?_ 0) hcause _
    all_goals
      apply apart <;> simp only [SLICE.FAULT, SLICE.STALL, SLICE.SAMPLES, Fld.key] <;> omega

theorem feedChannel_regs (i : Nat) (x : Samp) (s : State) : (feedChannel i x s).regs = s.regs := by
  unfold feedChannel
  split <;> rfl

/-! ## What a sample writes -/

/-- A sample shows its value, its end and its flags, and is counted. -/
abbrev sampleShown (i b cm flags : Nat) (out : Int) (s : State) : State :=
  s |> wrS (SLICE.SAMPLE i) out |> wr (SLICE.SAMPLE_SC i) (scReg b) |> wr (SLICE.SAMPLE_FLAGS i) flags
    |> wr (SLICE.CM_NOW i) cm |> inc (SLICE.SAMPLES i)

/-- A marker is counted under its reason. -/
abbrev markerCounted (i : Nat) (rev blank : Bool) (s : State) : State :=
  if rev then inc (SLICE.REV_DROPPED i) s else if blank then inc (SLICE.BLANKED_SAMPLES i) s else s

/-- The kind of a sample: a reversal instant falls in its support, or a blanking window of the slice meets it. -/
abbrev revAt (s : State) (i pos sup : Nat) : Bool := (revsOf s i).any fun r => decide (r < pos ∧ pos ≤ r + sup)

/-- What a sample shows: 0 as a marker, its matched value else. -/
abbrev sampleValue (s : State) (i pos sup : Nat) (raw : Int) : Int :=
  if revAt s i pos sup || blankedAt s i pos sup then 0 else matched s i (satSample (if reversedAt s i pos then -raw else raw))

/-- The flags of a sample but FAULT, SWAPPED and SETTLING. -/
abbrev markerFlags (s : State) (i pos sup : Nat) : Nat := if revAt s i pos sup then 16 else b2n (blankedAt s i pos sup)

theorem markerCounted_kept (i : Nat) (rev blank : Bool) (s : State) :
    Kept (fun k => k ≠ (SLICE.REV_DROPPED i).key ∧ k ≠ (SLICE.BLANKED_SAMPLES i).key) s (markerCounted i rev blank s) :=
  kept_ite (kept_wr (by simp) _ s) (kept_ite (kept_wr (by simp) _ s) (.refl s))

theorem b2n_lt_two (b : Bool) : b2n b < 2 := by cases b <;> decide

/-- A sample of a slice that shadows none and is shadowed by none is judged unless it is a marker, shown, and counted. -/
theorem sample_unshadowed {i b pos sup cm : Nat} {raw : Int} {s : State} (hi : i < 18) (hself : shadows s i = false)
    (hothers : ∀ j < 18, j ≠ i → shadowOf s j ≠ i) (hsup : sup = rateSupport (rd s (SLICE.RATE (cfgSlice s i)))) :
    ∃ judged r, r < 8 ∧ Kept (fun k => k / 131072 = 0x30 ∨ k = (SLICE.SAMPLES i).key) s judged
      ∧ ((revAt s i pos sup || blankedAt s i pos sup) = true → judged.regs = s.regs)
      ∧ (sample i b pos raw cm s).regs = (markerCounted i (revAt s i pos sup) (blankedAt s i pos sup)
          (sampleShown i b cm (markerFlags s i pos sup + 2 * r) (sampleValue s i pos sup raw) judged)).regs := by
  subst hsup
  unfold sample
  extract_lets sup v0 v rev blank marker x settling judged fault flags out n noted shown counted settled compared others
  have hjudged : Kept (fun k => k / 131072 = 0x30 ∨ k = (SLICE.SAMPLES i).key) s judged := kept_ite (.refl s) (guardRun_kept i v cm s)
  have hshown : Kept (fun k => k / 131072 = 0x30) noted shown := by
    refine (((((Kept.refl noted).wr (f := SLICE.SAMPLE i) ?_ _).wr (f := SLICE.SAMPLE_SC i) ?_ _).wr (f := SLICE.SAMPLE_FLAGS i) ?_ _).wr
      (f := SLICE.CM_NOW i) ?_ _).wr (f := SLICE.SAMPLES i) ?_ _
    all_goals
      simp only [SLICE.SAMPLE, SLICE.SAMPLE_SC, SLICE.SAMPLE_FLAGS, SLICE.CM_NOW, SLICE.SAMPLES, Fld.key]
      omega
  have hcounted : Kept (fun k => k / 131072 = 0x30) shown counted := (markerCounted_kept i rev blank shown).mono fun k hk => by
    simp only [SLICE.REV_DROPPED, SLICE.BLANKED_SAMPLES, Fld.key]
    omega
  have hshadow {j : Nat} (hj : j < 18) : shadowOf counted j = shadowOf s j := by
    have hpage : (AFE.SLICE_SHADOW j).key / 131072 = 0x30 := by simp only [AFE.SLICE_SHADOW, Fld.key]; omega
    exact (hcounted _ hpage).trans ((hshown _ hpage).trans (hjudged _ (.inl hpage)))
  have hcountedSelf : shadows counted i = false := by rw [shadows, hshadow hi]; exact hself
  have hsettled : settled = counted := if_neg (by simp [hcountedSelf])
  have hcompared : compared = counted := by
    simp only [compared, hsettled]
    exact if_neg (by simp [hcountedSelf])
  have hothers : others = counted := by
    have hnone : ((List.range 18).filter fun j => decide (j ≠ i ∧ shadowOf counted j = i)) = [] := by
      rw [List.filter_eq_nil_iff]
      intro j hj
      have hj := List.mem_range.1 hj
      rw [hshadow hj, decide_eq_true_iff]
      exact fun h => hothers j hj h.1 h.2
    simp only [others, hcompared, hnone]
    rfl
  refine ⟨noted, b2n fault + 2 * b2n x.swapped + 4 * b2n settling, ?_, hjudged.regs rfl, fun hmarker => ?_, ?_⟩
  · have := b2n_lt_two fault
    have := b2n_lt_two x.swapped
    have := b2n_lt_two settling
    omega
  · have hleft : judged = s := if_pos hmarker
    exact (congrArg State.regs hleft : judged.regs = s.regs)
  · have hflags : flags = markerFlags s i pos sup + 2 * (b2n fault + 2 * b2n x.swapped + 4 * b2n settling) := by
      have hkind : (if rev = true then 16 else b2n blank) = markerFlags s i pos sup := rfl
      simp only [flags, hkind]
      omega
    rw [feedChannel_regs, hothers, ← hflags]

/-! ## What a sample shows -/

/-- The fields of a sample stand apart from one another and from the guard's FAULT. -/
theorem rd_sampleShown {i b cm flags : Nat} {out : Int} {rev blank : Bool} {s u : State}
    (hu : u.regs = (markerCounted i rev blank (sampleShown i b cm flags out s)).regs) :
    rd u (SLICE.SAMPLE i) = ofSigned 32 out % 2 ^ 32 ∧ rd u (SLICE.SAMPLE_SC i) = scReg b % 2 ^ 64
    ∧ rd u (SLICE.SAMPLE_FLAGS i) = flags % 2 ^ 32 ∧ rd u (SLICE.FAULT i) = rd s (SLICE.FAULT i)
    ∧ rd u (SLICE.SAMPLES i) = (rd s (SLICE.SAMPLES i) + 1) % 2 ^ 32 := by
  have hcounted {f : Fld} (hrev : f.key ≠ (SLICE.REV_DROPPED i).key) (hblank : f.key ≠ (SLICE.BLANKED_SAMPLES i).key) :
      rd u f = rd (sampleShown i b cm flags out s) f :=
    (rd_congr hu f).trans (markerCounted_kept i rev blank _ f ⟨hrev, hblank⟩)
  refine ⟨?value, ?sc, ?flags, ?fault, ?count⟩
  all_goals
    rw [hcounted (by simp only [SLICE.SAMPLE, SLICE.SAMPLE_SC, SLICE.SAMPLE_FLAGS, SLICE.FAULT, SLICE.SAMPLES, SLICE.REV_DROPPED, Fld.key]; omega)
      (by simp only [SLICE.SAMPLE, SLICE.SAMPLE_SC, SLICE.SAMPLE_FLAGS, SLICE.FAULT, SLICE.SAMPLES, SLICE.BLANKED_SAMPLES, Fld.key]; omega)]
    simp only [sampleShown, inc, addTo, wrS]
    repeat rw [rd_wr_ne _ _ (by
      simp only [SLICE.SAMPLE, SLICE.SAMPLE_SC, SLICE.SAMPLE_FLAGS, SLICE.CM_NOW, SLICE.FAULT, SLICE.SAMPLES, Fld.key]; omega)]
  case value | sc | flags => exact rd_wr_same ..
  case count =>
    rw [rd_wr_same]
    repeat rw [rd_wr_ne _ _ (by
      simp only [SLICE.SAMPLE, SLICE.SAMPLE_SC, SLICE.SAMPLE_FLAGS, SLICE.CM_NOW, SLICE.SAMPLES, Fld.key]; omega)]
    rfl

/-- A saturated value fits the register of a sample. -/
theorem toSigned_satSample (v : Int) : toSigned 32 (ofSigned 32 (satSample v) % 2 ^ 32) = satSample v := by
  apply toSigned_ofSigned (w := 31) <;> simp only [satSample] <;> omega

theorem rdS_sample_of {u : State} {i : Nat} {v : Int} (h : rd u (SLICE.SAMPLE i) = ofSigned 32 (satSample v) % 2 ^ 32) :
    rdS u (SLICE.SAMPLE i) = satSample v := by
  rw [rdS, h]
  exact toSigned_satSample v

/-- The flags of a marker stand below those that it shares with a sample. -/
theorem bit_sampleFlags {k r : Nat} (hr : r < 8) (hk : k = 16 ∨ k < 2) :
    bit ((k + 2 * r) % 2 ^ 32) 4 = decide (k = 16) ∧ bit ((k + 2 * r) % 2 ^ 32) 0 = decide (k = 1) := by
  constructor
  all_goals
    rw [Bool.eq_iff_iff, bit, beq_iff_eq, decide_eq_true_iff]
    omega

/-- Settles O37: a sample is judged unless it is a marker, and shows 0 or its matched value with the flag of its kind. -/
theorem samplesAreFlagged : Obligations.SamplesAreFlagged := by
  rintro i b pos sup cm raw rev s u hi hself hothers hsup hrev rfl
  obtain ⟨judged, r, hr, hkept, hmarker, hregs⟩ :=
    sample_unshadowed (b := b) (pos := pos) (cm := cm) (raw := raw) hi hself hothers hsup
  obtain ⟨hvalue, hsc, hflags, hfault, hcount⟩ := rd_sampleShown hregs
  have hrev : rev ↔ revAt s i pos sup = true := by simpa [revAt] using hrev
  have hkind : markerFlags s i pos sup = 16 ∨ markerFlags s i pos sup < 2 := by
    unfold markerFlags
    split
    · exact .inl rfl
    · exact .inr (b2n_lt_two _)
  obtain ⟨h4, h0⟩ := bit_sampleFlags hr hkind
  rw [← hflags] at h4 h0
  refine ⟨fun h => ?rev, fun h hblank => ?blank, fun h hblank => ?plain, hsc, ?count⟩
  case rev =>
    have h := hrev.1 h
    simp only [markerFlags, sampleValue, h, Bool.true_or, if_true] at h4 h0 hvalue hmarker
    exact ⟨by rw [rdS, hvalue]; rfl, h4, h0, hfault.trans (rd_congr (hmarker trivial) _)⟩
  case blank =>
    have h : revAt s i pos sup = false := by simpa using fun hn => h (hrev.2 hn)
    simp only [markerFlags, sampleValue, h, hblank, Bool.false_or, if_true] at h4 h0 hvalue hmarker
    exact ⟨by rw [rdS, hvalue]; rfl, h0, h4, hfault.trans (rd_congr (hmarker trivial) _)⟩
  case plain =>
    have h : revAt s i pos sup = false := by simpa using fun hn => h (hrev.2 hn)
    simp only [markerFlags, sampleValue, h, hblank, Bool.or_self] at h4 h0 hvalue
    exact ⟨rdS_sample_of hvalue, h0, h4⟩
  case count =>
    rw [hcount, hkept _ (.inr rfl)]
    rfl

end Sys2Proof.Machine
end

section
/-! PROOFS. The commands of the sensor front end (R244 to R260): the crosspoint, the excitation, blanking and the trigger pins. -/
namespace Sys2Proof.Machine

/-! ## What the beginning of a command leaves -/

/-- An accepted write renews a lease and clears a status CODE. -/
theorem accepted_eq (p : Port) (page : Nat) (codeF : Option Fld) (s : State) :
    ∃ regs fab, accepted p page codeF s = { s with regs := regs, fab := fab } := by
  have hrenewed : ∃ fab, renewLease p page s = { s with fab := fab } := by
    unfold renewLease
    split
    · exact ⟨_, rfl⟩
    · exact ⟨s.fab, rfl⟩
  obtain ⟨fab, hrenewed⟩ := hrenewed
  cases codeF with
  | none => exact ⟨s.regs, fab, hrenewed⟩
  | some f => exact ⟨_, fab, congrArg (wr f 0) hrenewed⟩

theorem acceptedBy_eq (w : Writer) (page : Nat) (codeF : Option Fld) (s : State) :
    ∃ regs fab, acceptedBy w page codeF s = { s with regs := regs, fab := fab } := by
  cases w with
  | fabric p => exact accepted_eq p page codeF s
  | lgc =>
    cases codeF with
    | none => exact ⟨s.regs, s.fab, rfl⟩
    | some f => exact ⟨_, s.fab, rfl⟩

/-- Counting a trigger leaves the front end. -/
theorem arrived_afe (src : TrigSrc) (u : Nat) (s : State) : (arrived src u s).afe = s.afe := by cases src <;> rfl

/-! ## The crosspoint (R245, R246) -/

/-- A writer's command whose effect on the state it meets is known answers that effect. -/
theorem evBy_answers {c : Comer} {t : Nat} {s m u : State} {f : State → State} (hm : meetsBy c t s m) (hf : f m = u) :
    evBy c t s f = .next u := by
  rw [evBy_of_meets hm, hf]

section
variable {w : Writer} {n v : Nat} {s a b : State}

/-- A PIN_CFG word that assigns a free pin without locking it. -/
theorem pinWord_fields (hv : v = bits v 30 30 * 2 ^ 30 + bits v 11 8 * 256 + bits v 4 0) :
    bits v 31 31 = 0 ∧ bits v 29 12 = 0 ∧ bits v 7 5 = 0 := by
  simp only [bits] at hv ⊢
  omega

theorem pinCfg_assigns (ho : opensTo s w 0x30) (hv : v = bits v 30 30 * 2 ^ 30 + bits v 11 8 * 256 + bits v 4 0)
    (hlock : rd s (AFE.LEGAL_LOCK n) = 0) (hfree : rd s (AFE.PIN_ROLE n) = 0) (hrole : bits v 11 8 ≠ 0)
    (hconflict : pinConflict s n (bits v 11 8) (bits v 4 0) = false)
    (hslice : sliceRole (bits v 11 8) = true →
      bits v 4 0 < Variant.slices s.fuse.variant ∧ rd s (AFE.SLICE_ROLE (bits v 4 0)) ≤ 1)
    (hrange : pinRange (bits v 11 8) (bits v 4 0) = false) (hold : ownerOn s 0 (rd s (AFE.PIN_OWNER n)) = false)
    (hnew : ownerOn s (bits v 11 8) (bits v 4 0) = false) (ha : a = acceptedBy w 0x30 none s)
    (hb : b = (a |> wr (AFE.LEGAL_LOCK n) 0 |> wr (AFE.OPEN_PULL n) (bits v 30 30) |> wr (AFE.PIN_ROLE n) (bits v 11 8)
      |> wr (AFE.PIN_OWNER n) (bits v 4 0))) :
    pinCfg w n v s = { b with afe := { b.afe with hiz := aset b.afe.hiz n (b.time.cycle + 400) } } := by
  obtain ⟨h31, h29, h7⟩ := pinWord_fields hv
  subst ha hb
  unfold pinCfg
  simp only [h31, hlock, hfree]
  refine (writerCmd_accepted ho rfl (.inr (by simp)) ?_).trans (if_pos hrole)
  rw [firstFail_none]
  by_cases hs : sliceRole (bits v 11 8) = true
  · obtain ⟨hfit, hspare⟩ := hslice hs
    have hfit : ¬ Variant.slices s.fuse.variant ≤ bits v 4 0 := by omega
    have hspare : ¬ 1 < rd s (AFE.SLICE_ROLE (bits v 4 0)) := by omega
    simp [h29, h7, hconflict, hfit, hspare, hrange, hold, hnew]
  · simp [h29, h7, hconflict, hs, hrange, hold, hnew]

theorem excApply_off (k rev : Nat) (s : State) : excApply k 0 rev s = modPair k (fun _ => {})
    (s |> wr (AFE.EXC_REVERSE k) rev |> wr (AFE.EXC_EN k) 0 |> wr (AFE.EXC_STATE k) 0 |> wr (AFE.REVERSED k) 0) := rfl

theorem excCfg_disables {k : Nat} (ho : opensTo s w 0x30) (hlegal : w = .lgc ∨ pairLegal s k = false) (hen : bits v 31 31 = 0)
    (h29 : bits v 29 24 = 0) (h15 : bits v 15 9 = 0) (h7 : bits v 7 6 = 0) (hper : 2 ≤ bits v 23 16) (hlow : 1 ≤ bits v 5 0)
    (hhigh : bits v 5 0 ≤ 60) (hsum : ilimSum s k 0 (bits v 5 0) ≤ 150)
    (ha : a = (acceptedBy w 0x30 none s |> wr (AFE.REV_PERIOD k) (bits v 23 16) |> wr (AFE.EXC_SENSE k) (bits v 8 8)
      |> wr (AFE.ILIM k) (bits v 5 0) |> wr (AFE.EXC_REVERSE k) (bits v 30 30) |> wr (AFE.EXC_EN k) 0 |> wr (AFE.EXC_STATE k) 0
      |> wr (AFE.REVERSED k) 0)) : excCfg w k v s = modPair k (fun _ => {}) a := by
  subst ha
  unfold excCfg
  simp only [hen]
  refine (writerCmd_accepted ho rfl (hlegal.imp_right fun h => by simp [h]) ?_).trans (excApply_off ..)
  have hfits : decide (bits v 23 16 < 2 ∨ bits v 5 0 < 1 ∨ 60 < bits v 5 0 ∨ 150 < ilimSum s k 0 (bits v 5 0)) = false :=
    decide_eq_false (by omega)
  rw [firstFail_none, hfits]
  simp [h29, h15, h7]

/-! ## Blanking (R256 to R259) -/

theorem blankWindow_opens {g t' n' : Nat} (hnone : s.afe.windows.find? (fun x => x.1 == g) = none) :
    blankWindow g t' n' s = trigExec 0x30 (inc AFE.WINDOWS (openWindow g t' (t' + n' * frameSteps) s)) := by
  unfold blankWindow
  rw [hnone]

/-- AFE_CMD with OP BLANK. -/
theorem afeWord_fields {g : Nat} (hg : g < 8) (hn : n < 65536) (hv : v = n * 65536 + g * 256 + 1) :
    bits v 10 8 = g ∧ bits v 31 16 = n ∧ bits v 3 0 = 1 ∧ bits v 15 11 = 0 ∧ bits v 7 4 = 0 := by
  subst hv
  simp only [bits]
  omega

theorem afeCmd_blanks {g : Nat} {c : State} (ho : opensTo s w 0x30) (hlegal : w = .lgc ∨ 4 ≤ g) (hg : g < 8) (hpos : 1 ≤ n)
    (hn : n < 65536) (hv : v = n * 65536 + g * 256 + 1) (hbusy : cmdBusy s 0x30140 = false)
    (ha : a = raise 0x30 6 (startCmd 0x30140 4 (acceptedBy w 0x30 (some AFE.CMD_CODE) s))) (hc : c = arrived .cmd 0x30 a)
    (ht : takesTriggers c 0x30) (hnone : s.afe.windows.find? (fun x => x.1 == g) = none) :
    afeCmd w v s = trigExec 0x30 (inc AFE.WINDOWS (openWindow g s.time.sc (s.time.sc + n * frameSteps) c)) := by
  obtain ⟨hgroup, hframes, hop, h15, h7⟩ := afeWord_fields hg hn hv
  obtain ⟨regs, fab, haccepted⟩ := acceptedBy_eq w 0x30 (some AFE.CMD_CODE) s
  have htime : (acceptedBy w 0x30 (some AFE.CMD_CODE) s).time = s.time := by rw [haccepted]
  have hafe : c.afe = s.afe := by
    rw [hc, arrived_afe, ha, haccepted]
    rfl
  unfold afeCmd
  simp only [hgroup, hframes, hop, Nat.one_ne_zero, if_false]
  refine (writerCmd_accepted ho hbusy ?_ ?_).trans ?_
  · exact hlegal.imp_right fun h => by simp [h]
  · have hpos : n ≠ 0 := by omega
    simp [firstFail_none, h15, h7, hpos]
  · subst hc ha
    rw [htime, arrive_takes ht]
    exact blankWindow_opens (by rw [hafe]; exact hnone)

theorem pinIgnored_stuck (h : s.afe.stuck = true) : pinIgnored s = wr AFE.PIN_IGNORED 1 s := by
  rw [pinIgnored, h, Bool.or_true]
  rfl

theorem pinIgnored_free (h : s.afe.stuck = false) : pinIgnored s = wrB AFE.PIN_IGNORED s.afe.chatter s := by
  rw [pinIgnored, h, Bool.or_false]

/-- A rising edge within the guard's limit opens the window of the pin. -/
theorem blankEdge_opens {edges : List Nat} {c : State} (hchatter : s.afe.chatter = false) (hwin : s.afe.pinWin = none)
    (hedges : edges = (s.time.cycle :: s.afe.blankEdges).filter (fun c => decide (s.time.cycle < c + secondSteps)))
    (hfew : edges.length ≤ rd s AFE.BLANK_MAX_EDGES)
    (hb : b = ({ s with afe := { s.afe with blankEdges := edges, highTick := s.time.ticks } } |> wr AFE.PIN_FILT 1 |> inc AFE.BLANK_EDGES))
    (hc : c = arrived .pin 0x30 b) (ht : takesTriggers c 0x30) :
    blankEdge s = trigExec 0x30 (inc AFE.WINDOWS
      { c with afe := { c.afe with pinWin := some ⟨rd c AFE.BLANK_PIN_GROUPS, c.time.sc, none⟩ } }) := by
  have hcwin : c.afe.pinWin = none := by
    rw [hc, arrived_afe, hb]
    exact hwin
  have hguard : (decide (rd s AFE.BLANK_MAX_EDGES < edges.length) || b.afe.chatter) = false := by
    rw [hb]
    simpa [hchatter] using hfew
  unfold blankEdge
  simp only [← hedges, ← hb, hguard, Bool.false_eq_true, if_false]
  subst hc
  rw [arrive_takes ht, hcwin]

end

/-! ## TRIG_IN (R260) -/

/-- A selected edge within the guard's limit is counted and sends its route. -/
theorem trigPin_sends {n : Nat} {level : Bool} {s b : State} (hedge : bit (trigEdge s n) (if level then 0 else 1) = true)
    (hb : b = { inc (AFE.TRIG_EDGES n) s with afe := { s.afe with
      trigEdges := (n, s.time.cycle) :: s.afe.trigEdges.filter fun x => decide (s.time.cycle < x.2 + secondSteps) } })
    (hfew : (b.afe.trigEdges.filter fun x => decide (x.1 = n)).length ≤ rd s AFE.TRIG_MAX_EDGES) :
    trigPin n level s = if rd b (AFE.TR_UNIT n) = 0 then b else
      deliver .pin (rd b (AFE.TR_UNIT n)) (rd b (AFE.TR_ACTION n)) (rd b (AFE.TR_ARG n)) (b.time.sc - rd b AFE.TRIG_FILTER) b := by
  have hlimit : rd b AFE.TRIG_MAX_EDGES = rd s AFE.TRIG_MAX_EDGES := by
    subst hb
    exact rd_wr_ne (f := AFE.TRIG_EDGES n) _ s (by simp only [AFE.TRIG_MAX_EDGES, AFE.TRIG_EDGES, Fld.key]; omega)
  have hwithin : ¬ rd b AFE.TRIG_MAX_EDGES < (b.afe.trigEdges.filter fun x => decide (x.1 = n)).length := by omega
  subst hb
  unfold trigPin
  exact (if_neg (by simp [hedge])).trans (if_neg hwithin)

/-- Settles O35: each command has its effect in the state that lets it act. -/
theorem frontEndCommandsComplete : Obligations.FrontEndCommandsComplete := by
  refine ⟨?pin, ?pair, ?reversal, ?guardFrame, ?timeout, ?trigger, ?blank, ?windowEnd, ?edge, ?fall, ?stuck, ?trigIn⟩
  case pin =>
    intro t n v w s m a b hm hn ho hv hlock hfree hrole hconflict hslice hrange hold hnew ha hb
    change execPinCfgWrite t w n v s = _
    exact evBy_answers hm ((if_pos hn).trans (pinCfg_assigns ho hv hlock hfree hrole hconflict hslice hrange hold hnew ha hb))
  case pair =>
    intro t k v w s m a hm hk ho hlegal hen h29 h15 h7 hper hlow hhigh hsum ha
    change execExcCfgWrite t w k v s = _
    exact evBy_answers hm ((if_pos hk).trans (excCfg_disables ho hlegal hen h29 h15 h7 hper hlow hhigh hsum ha))
  case reversal =>
    intro t k s m b hm hk hen hon hrev hphase hperiod hgrid hb
    subst hb
    change execExcReversal t k s = _
    exact ev_answers hm (if_pos ⟨hk, hen, hon, hrev, hphase, hperiod, hgrid⟩)
  case guardFrame =>
    intro t k current pm s m lim hm hk hen hon hfirst
    change execExcGuardFrame t k current pm lim s = _
    exact ev_answers hm (if_pos ⟨hk, hen, hon, hfirst⟩)
  case timeout =>
    intro t k s m hm hk hstate hlimit
    change execExcTimeout t k s = _
    exact ev_answers hm (if_pos ⟨hk, hstate, hlimit⟩)
  case trigger =>
    intro t occ g arg src s m c hm hc ht hg hpos harg hnone
    change execBlankTrigger t src occ (g + 1) arg s = _
    refine trigger_answers hm hc ht ((if_pos ⟨by omega, by omega, hpos⟩).trans ?_)
    rw [Nat.add_sub_cancel, Nat.mod_eq_of_lt harg]
    exact blankWindow_opens (by rw [hc, arrived_afe]; exact hnone)
  case blank =>
    intro t g n v w s m a c hm ho hlegal hg hpos hn hv hbusy ha hc ht hnone
    exact evBy_answers hm (afeCmd_blanks ho hlegal hg hpos hn hv hbusy ha hc ht hnone)
  case windowEnd =>
    intro t g w0 w1 s m b hm hg hwin hended hb
    subst hb
    change execBlankWindowEnd t g s = _
    refine ev_answers hm ((if_neg (by omega)).trans ?_)
    simp only [hwin, if_pos hended]
  case edge =>
    intro t edges s m b c hm hlow hchatter hwin hedges hfew hb hc ht
    change execBlankEdge t s = _
    exact ev_answers hm ((if_pos hlow).trans (blankEdge_opens hchatter hwin hedges hfew hb hc ht))
  case fall =>
    intro t s m b hm hhigh hb
    subst hb
    change execBlankFall t s = _
    exact ev_answers hm ((if_pos hhigh).trans (congrArg pinCloses (pinIgnored_free rfl)))
  case stuck =>
    intro t s m hm hhigh hfirst hlong
    change execBlankStuck t s = _
    exact ev_answers hm ((if_pos ⟨hhigh, hfirst, hlong⟩).trans (congrArg pinCloses (pinIgnored_stuck rfl)))
  case trigIn =>
    intro t n level s m b hm hn hedge hb hfew
    change execTrigInEdge t n level s = _
    exact ev_answers hm ((if_pos hn).trans (trigPin_sends hedge hb hfew))

end Sys2Proof.Machine
end

section
/-! PROOFS. The shots of the transit-time unit (R309 to R312): how each is judged, and what it counts. -/
namespace Sys2Proof.Machine

/-! ## The three outcomes of a shot -/

/-- A key that has been set holds its value. -/
theorem aget_aset_same {κ α : Type} [DecidableEq κ] (l : List (κ × α)) (k : κ) (v d : α) : aget (aset l k v) k d = v := if_pos rfl

/-- The counters by which a shot is seen to be judged. -/
abbrev shotCounter (p k : Nat) : Prop := k = (USP.SHOTS p).key ∨ k = (USP.SHOTS_BAD p).key

theorem shotCounters_apart (p : Nat) : (USP.SHOTS p).key ≠ (USP.SHOTS_BAD p).key ∧ ¬ shotCounter p (USP.SHOTS_BLANKED p).key := by
  simp only [shotCounter, USP.SHOTS, USP.SHOTS_BAD, USP.SHOTS_BLANKED, Fld.key]
  omega

/-- A good shot writes the path's latest values. -/
theorem goodShot_kept (p r d tof amp : Nat) (q : Seq) (s : State) : Kept (shotCounter p) s (goodShot p r d tof amp q s) := by
  unfold goodShot
  extract_lets x l tracked _ track shown
  refine Kept.regs (Kept.wr (Kept.wr (Kept.wr (kept_of_regs (u := usxDrawn 2 tracked) rfl) ?tof _) ?amp _) ?track _) rfl
  all_goals
    split <;> simp only [shotCounter, USP.SHOTS, USP.SHOTS_BAD, USP.TOF_UP, USP.TOF_DN, USP.AMP_UP, USP.AMP_DN, USP.TRACK_UP, USP.TRACK_DN,
      Fld.key] <;> omega

theorem goodShot_seq (p r d tof amp : Nat) (q : Seq) (s : State) :
    (goodShot p r d tof amp q s).usx.seq = some { q with slot := q.slot + 1, good := q.good ++ [(p, r, d, tof)] } := rfl

/-- The cause of a bad shot stands beside the counters. -/
theorem cause_shotCounter (p : Nat) : ¬ shotCounter p (HDR.CAUSE 0x5B).key := by
  simp only [shotCounter, USP.SHOTS, USP.SHOTS_BAD, HDR.CAUSE, Fld.key]
  omega

/-- A slip raises a cause and counts in SLIPS. -/
theorem slip_kept (p : Nat) (b : Bool) (s : State) :
    Kept (shotCounter p) s (when b (fun s => raise 0x5B 1 (inc (USP.SLIPS p) s)) s)
    ∧ (when b (fun s => raise 0x5B 1 (inc (USP.SLIPS p) s)) s).usx = s.usx := by
  refine ⟨kept_when (fun u => ?_) s, by cases b <;> rfl⟩
  refine ((Kept.refl u).wr (f := USP.SLIPS p) ?_ _).event (f := HDR.CAUSE 0x5B) (cause_shotCounter p) _
  simp only [shotCounter, USP.SHOTS, USP.SHOTS_BAD, USP.SLIPS, Fld.key]
  omega

section
variable {stamps : List Nat} {amp : Nat} {q : Seq} {s : State} {p r d : Nat} (hq : shotOf q = (p, r, d))
include hq

/-- A shot that its window or the move of its pin spoils is judged by nothing (R312). -/
theorem shot_spoilt (h : shotBlanked (inc (USP.SHOTS p) s) q p = true ∨ shotMoved (inc (USP.SHOTS p) s) q p = true) :
    ∃ next : Seq, next.slot = q.slot + 1 ∧ shot stamps amp q s =
      { inc (USP.SHOTS_BLANKED p) (inc (USP.SHOTS p) s) with usx := { s.usx with seq := some next } } := by
  simp only [shot, hq, if_pos (Bool.or_eq_true_iff.2 h)]
  exact ⟨_, rfl, rfl⟩

variable (hblank : shotBlanked (inc (USP.SHOTS p) s) q p = false) (hmoved : shotMoved (inc (USP.SHOTS p) s) q p = false)
include hblank hmoved

theorem shot_good (hgood : shotReason (inc (USP.SHOTS p) s) p d stamps amp = 0) :
    shot stamps amp q s = goodShot p r d (meanStamps stamps) amp q (inc (USP.SHOTS p) s) := by
  simp only [shot, hq, hblank, hmoved, Bool.or_self, Bool.false_eq_true, if_false, if_pos hgood]

/-- A bad shot counts in SHOTS_BAD, and its path keeps the reason (R311). -/
theorem shot_bad (hbad : shotReason (inc (USP.SHOTS p) s) p d stamps amp ≠ 0) :
    ∃ u, Kept (shotCounter p) (inc (USP.SHOTS_BAD p) (inc (USP.SHOTS p) s)) u
      ∧ (pathX u p).reason = shotReason (inc (USP.SHOTS p) s) p d stamps amp
      ∧ shot stamps amp q s =
        { u with usx := { u.usx with seq := some { q with slot := q.slot + 1, lost := q.lost ++ [(p, false)] } } } := by
  simp only [shot, hq, hblank, hmoved, Bool.or_self, Bool.false_eq_true, if_false, if_neg hbad]
  refine ⟨_, ?_, ?_, rfl⟩
  · refine Kept.trans ?_ (slip_kept _ _ _).1
    exact ((Kept.refl _).event (f := HDR.CAUSE 0x5B) (cause_shotCounter _) _).regs rfl
  · rw [pathX, (slip_kept _ _ _).2]
    exact congrArg PathX.reason (aget_aset_same ..)

end

/-! ## The judgement (R311) -/

theorem shotReason_noArrival (s : State) (p d amp : Nat) : shotReason s p d [] amp = 1 := by
  simp only [shotReason, if_true]

section
variable {s : State} {p d amp : Nat} {stamps : List Nat} (hs : stamps ≠ [])
include hs

theorem shotReason_tof : shotReason s p d stamps amp = 2 ↔
    meanStamps stamps < rd s (USP.TOF_MIN p) * tofUnit ∨ rd s (USP.TOF_MAX p) * tofUnit < meanStamps stamps := by
  unfold shotReason
  extract_lets tof half gaps nominal l
  rw [if_neg hs]
  split
  case isTrue h => exact ⟨fun _ => h, fun _ => rfl⟩
  case isFalse h =>
    refine ⟨fun hn => absurd hn ?_, fun hn => absurd hn h⟩
    split
    · decide
    · split
      · decide
      · split <;> decide

theorem shotReason_amplitude (hlow : rd s (USP.TOF_MIN p) * tofUnit ≤ meanStamps stamps)
    (hhigh : meanStamps stamps ≤ rd s (USP.TOF_MAX p) * tofUnit) :
    shotReason s p d stamps amp = 3 ↔ amp < rd s (USP.AMP_MIN p) ∨ rd s (USP.AMP_MAX p) < amp := by
  have hin : ¬ (meanStamps stamps < rd s (USP.TOF_MIN p) * tofUnit ∨ rd s (USP.TOF_MAX p) * tofUnit < meanStamps stamps) := by omega
  unfold shotReason
  extract_lets tof half gaps nominal l
  rw [if_neg hs, if_neg hin]
  split
  case isTrue h => exact ⟨fun _ => h, fun _ => rfl⟩
  case isFalse h =>
    refine ⟨fun hn => absurd hn ?_, fun hn => absurd hn h⟩
    split
    · decide
    · split <;> decide

end

/-! ## What every shot counts -/

/-- The state of the unit beside its page holds no field. -/
theorem rd_usx (x : UsxU) (s : State) (f : Fld) : rd { s with usx := x } f = rd s f := rfl

/-- Each shot counts in SHOTS and moves the sequence by one slot. -/
theorem shot_counted {stamps : List Nat} {amp : Nat} {q : Seq} {s : State} {p r d : Nat} (hq : shotOf q = (p, r, d)) :
    rd (shot stamps amp q s) (USP.SHOTS p) = (rd s (USP.SHOTS p) + 1) % 2 ^ (USP.SHOTS p).w
    ∧ (shot stamps amp q s).usx.seq.map Seq.slot = some (q.slot + 1) := by
  obtain ⟨hbad, hblanked⟩ := shotCounters_apart p
  cases hspoilt : shotBlanked (inc (USP.SHOTS p) s) q p || shotMoved (inc (USP.SHOTS p) s) q p with
  | true =>
    obtain ⟨next, hslot, h⟩ := shot_spoilt (stamps := stamps) (amp := amp) hq (Bool.or_eq_true_iff.1 hspoilt)
    rw [h, rd_usx]
    exact ⟨(rd_inc_ne (fun hn => hblanked (.inl hn.symm)) _).trans (rd_inc_same ..), congrArg some hslot⟩
  | false =>
    obtain ⟨hb, hm⟩ := Bool.or_eq_false_iff.1 hspoilt
    by_cases hgood : shotReason (inc (USP.SHOTS p) s) p d stamps amp = 0
    · rw [shot_good hq hb hm hgood]
      exact ⟨(goodShot_kept _ _ _ _ _ _ _ _ (.inl rfl)).trans (rd_inc_same ..), by rw [goodShot_seq]; rfl⟩
    · obtain ⟨u, hu, -, h⟩ := shot_bad hq hb hm hgood
      rw [h, rd_usx]
      exact ⟨(hu _ (.inl rfl)).trans ((rd_inc_ne hbad _).trans (rd_inc_same ..)), rfl⟩

/-- Settles O44: a spoilt shot is judged by nothing, and every other one is good or bad for the first check that fails. -/
theorem shotsAreJudgedInOrder : Obligations.ShotsAreJudgedInOrder := by
  intro stamps amp q s p hp _
  obtain ⟨hbad, hblanked⟩ := shotCounters_apart p
  have hq : shotOf q = (p, (shotOf q).2) := by rw [hp]
  obtain ⟨hshots, hslot⟩ := shot_counted (stamps := stamps) (amp := amp) (s := s) hq
  refine ⟨?spoilt, ?bad, fun d => shotReason_noArrival s p d amp, fun d => shotReason_tof, fun d => shotReason_amplitude, ?good, hshots, hslot⟩
  case spoilt =>
    intro h
    obtain ⟨next, -, h⟩ := shot_spoilt (stamps := stamps) (amp := amp) hq h
    rw [h, rd_usx, rd_usx]
    refine ⟨(rd_inc_ne (fun hn => hblanked (.inr hn.symm)) _).trans (rd_inc_ne hbad.symm _), (rd_inc_same ..).trans ?_, rfl⟩
    rw [rd_inc_ne fun hn => hblanked (.inl hn)]
  case bad =>
    intro hb hm hwhy
    obtain ⟨u, hu, hreason, h⟩ := shot_bad hq hb hm hwhy
    rw [h, rd_usx]
    refine ⟨(hu _ (.inr rfl)).trans ((rd_inc_same ..).trans ?_), hreason⟩
    rw [rd_inc_ne hbad.symm]
  case good =>
    intro hb hm hwhy
    rw [shot_good hq hb hm hwhy]
    exact ⟨by rw [goodShot_seq]; rfl, (goodShot_kept _ _ _ _ _ _ _ _ (.inr rfl)).trans (rd_inc_ne hbad.symm _)⟩

end Sys2Proof.Machine
end

section
/-! PROOFS. The commands of the transit-time unit (R305 to R315): what each does in the state that lets it act. -/
namespace Sys2Proof.Machine

/-- A well-formed trigger of a free unit that can measure all its paths starts a sequence (R305, R307). -/
theorem sequence_starts {occ arg : Nat} {c : State} (harg : seqArgOk arg = true) (hen : enabled c 0x5A = true)
    (hclk : rd c SYS.CORE_SRC ≠ 0) (hpaths : ((maskPaths (arg % 16)).all fun q => decide (rd c (USP.P_EN q) ≠ 0)) = true)
    (hfree : c.usx.seq = none) : sequence occ 1 arg c = trigExec 0x5A (startSeq occ arg c) := by
  have hany : ((maskPaths (arg % 16)).any fun q => decide (rd c (USP.P_EN q) = 0)) = false := by
    simpa [List.any_eq_false, List.all_eq_true] using hpaths
  unfold sequence
  rw [if_neg (by simp [harg, hen, hclk, hany]), if_pos (by rw [hfree]; rfl)]

theorem usxCmd_starts {p : Port} {arg : Nat} {s c : State} (ho : opens s p 0x5A) (hbusy : cmdBusy s 0x5A100 = false)
    (hlegal : maskLegal s (arg % 16) = false) (harg : seqArgOk arg = true)
    (hc : c = arrived .cmd 0x5A (raise 0x5A 8 (startCmd 0x5A100 4 (accepted p 0x5A (some USX.CMD_CODE) s)))) (ht : takesTriggers c 0x5A)
    (hen : enabled c 0x5A = true) (hclk : rd c SYS.CORE_SRC ≠ 0)
    (hpaths : ((maskPaths (arg % 16)).all fun q => decide (rd c (USP.P_EN q) ≠ 0)) = true) (hfree : c.usx.seq = none) :
    usxCmd p 1 arg s = trigExec 0x5A (startSeq s.time.sc arg c) := by
  have htime : (accepted p 0x5A (some USX.CMD_CODE) s).time = s.time := by
    obtain ⟨regs, fab, h⟩ := accepted_eq p 0x5A (some USX.CMD_CODE) s
    rw [h]
  unfold usxCmd
  refine (fabricCmd_accepted ho (by simp [firstFail_none, hbusy, hlegal, harg])).trans ?_
  subst hc
  rw [htime, arrive_takes ht]
  exact sequence_starts harg hen hclk hpaths hfree

theorem usxCmd_sealed {p : Port} {op arg : Nat} {s : State} (ho : opens s p 0x5A) (hbusy : cmdBusy s 0x5A100 = false)
    (hlegal : maskLegal s (arg % 16) = true) : usxCmd p op arg s = refusedAs p 0x5A 0x100 (some USX.CMD_CODE) .sealed s :=
  fabricCmd_refused ho (by simp [firstFail, hbusy, hlegal])

/-- A result finds a place in the queue of 8 (R308). -/
theorem endSeq_queues {q : Seq} {s : State} (hpend : s.usx.pend = none) (hroom : s.usx.results.length < 8) :
    endSeq q s = raise 0x5A 0 (inc USX.SEQS { s with usx := { s.usx with seq := none, results := s.usx.results ++ [q] } }) := by
  have hroom : ¬ 8 ≤ s.usx.results.length := by omega
  unfold endSeq
  simp only [hroom, if_false]
  simp only [raise_usx, inc_usx, hpend]

/-- A full queue discards the result. -/
theorem endSeq_discards {q : Seq} {s : State} (hpend : s.usx.pend = none) (hfull : 8 ≤ s.usx.results.length) :
    endSeq q s = raise 0x5A 1 (inc USX.SEQ_OVERRUN { s with usx := { s.usx with seq := none } }) := by
  unfold endSeq
  simp only [hfull, if_true]
  simp only [raise_usx, inc_usx, hpend]

/-- Settles O43: each command has its effect in the state that lets it act. -/
theorem ultrasonicCommandsComplete : Obligations.UltrasonicCommandsComplete := by
  refine ⟨?sequence, ?command, ?sealed, ?shot, ?discharge, ?queued, ?overrun, ?hold⟩
  case sequence =>
    intro t occ arg src s m c hm hc ht harg hen hclk hpaths hfree
    exact trigger_answers hm hc ht (sequence_starts harg hen hclk hpaths hfree)
  case command =>
    intro t arg p s m c hm ho hbusy hlegal harg hc ht hen hclk hpaths hfree
    exact evPort_answers hm (usxCmd_starts ho hbusy hlegal harg hc ht hen hclk hpaths hfree)
  case sealed =>
    intro t arg p s m hm ho hbusy hlegal
    exact evPort_answers hm (usxCmd_sealed ho hbusy hlegal)
  case shot =>
    intro t amp stamps q s m hm hq hslot hdue
    change execUsxShot t stamps amp s = _
    refine ev_answers hm ?_
    simp only [hq, hslot, hdue, and_self, if_true]
  case discharge =>
    intro t time q s m hm hq hlow hhigh hdue
    change execDischarge t time s = _
    refine ev_answers hm ?_
    simp only [hq, hlow, hhigh, hdue, and_self, if_true]
  case queued =>
    intro t q s m hm hq hended hpend hroom
    change execSequenceEnd t s = _
    refine ev_answers hm ?_
    simp only [hq, if_pos hended]
    exact endSeq_queues hpend hroom
  case overrun =>
    intro t q s m hm hq hended hpend hfull
    change execSequenceEnd t s = _
    refine ev_answers hm ?_
    simp only [hq, if_pos hended]
    exact endSeq_discards hpend hfull
  case hold =>
    intro t k s m hm hk hfault hlong
    change execTempHoldExpire t k s = _
    exact ev_answers hm (if_pos ⟨hk, hfault, hlong⟩)

end Sys2Proof.Machine
end

section
/-! PROOFS. The commands of the weigh channels and sets (R275 to R300): what each does in the state that lets it act. -/
namespace Sys2Proof.Machine

/-- A CONVERT of an enabled set that is free starts a window (R290, R291). -/
theorem convert_starts {c k t n : Nat} {s : State} (hset : setOf s c = some k) (hlow : 1 ≤ n) (hhigh : n ≤ 4095)
    (hen : rd s (WGH.SET_EN k) ≠ 0) (hfree : (setU s k).win = none) : convert c t n s = trigExec (0x48 + c) (startWindow k t n s) := by
  unfold convert
  simp only [hset]
  rw [if_neg (by omega), if_pos (by rw [hfree]; rfl)]

theorem wchConvertCmd_starts {p : Port} {c k n : Nat} {s a : State} (ho : opens s p (0x49 + c))
    (hbusy : cmdBusy s ((0x49 + c) * 0x1000 + 0x060) = false) (hlegal : channelLegal s c = false) (hlow : 1 ≤ n) (hhigh : n ≤ 4095)
    (ha : a = arrived .cmd (0x48 + c)
      (raise (0x49 + c) 4 (startCmd ((0x49 + c) * 0x1000 + 0x060) 4 (accepted p (0x49 + c) (some (WCH.CMD_CODE c)) s))))
    (ht : takesTriggers a (0x48 + c)) (hset : setOf a c = some k) (hen : rd a (WGH.SET_EN k) ≠ 0) (hfree : (setU a k).win = none) :
    wchConvertCmd p c n s = trigExec (0x48 + c) (startWindow k s.time.sc n a) := by
  have hcount : ¬ (n = 0 ∨ 4095 < n) := by omega
  have htime : (accepted p (0x49 + c) (some (WCH.CMD_CODE c)) s).time = s.time := by
    obtain ⟨regs, fab, h⟩ := accepted_eq p (0x49 + c) (some (WCH.CMD_CODE c)) s
    rw [h]
  unfold wchConvertCmd
  refine (fabricCmd_accepted ho (by simp [firstFail_none, hbusy, hlegal, hcount])).trans ?_
  subst ha
  rw [htime, arrive_takes ht]
  exact convert_starts hset hlow hhigh hen hfree

/-- A SET_CMD of a free set with a valid argument waits for the commit cycle (R299). -/
theorem setCmd_waits {p : Port} {k op : Nat} {s : State} (ho : opens s p 0x48) (hfree : (setU s k).cmd = none) (hop : 0 < op ∧ op ≤ 4)
    (harg : op = 3 → 0 < rdS s (WGH.CMD_ARG k) ∧ rdS s (WGH.CMD_ARG k) ≤ (rd s (WGH.MAX_E k) * rd s (WGH.E_MG k) : Nat)
      ∧ rdS s (WGH.CMD_ARG k) % (rd s (WGH.E_MG k) : Int) = 0) :
    setCmd p k op s = wr (WGH.SET_BUSY k) 1
      (modSet k (fun u => { u with cmd := some (op, rdS s (WGH.CMD_ARG k), p), cmdSc := s.time.sc })
        (accepted p 0x48 (some (WGH.SET_CODE k)) s)) := by
  have hrange : ¬ (op = 0 ∨ 4 < op) := by omega
  push_cast at harg
  have hvalid : ¬ (op = 3 ∧ (rdS s (WGH.CMD_ARG k) ≤ 0 ∨ (rd s (WGH.MAX_E k) : Int) * (rd s (WGH.E_MG k) : Int) < rdS s (WGH.CMD_ARG k)
      ∨ rdS s (WGH.CMD_ARG k) % (rd s (WGH.E_MG k) : Int) ≠ 0)) := by
    rintro ⟨h3, hbad⟩
    obtain ⟨hpos, hmax, hmul⟩ := harg h3
    omega
  have htime : (accepted p 0x48 (some (WGH.SET_CODE k)) s).time = s.time := by
    obtain ⟨regs, fab, h⟩ := accepted_eq p 0x48 (some (WGH.SET_CODE k)) s
    rw [h]
  unfold setCmd
  refine (fabricCmd_accepted ho (by
    simp only [firstFail_none, List.mem_cons, List.not_mem_nil, hfree, hrange, hvalid]
    simp)).trans ?_
  rw [htime]

theorem setCmd_answers {t : Nat} {p : Port} {k op : Nat} {s m : State} (hm : meetsFrom p t s m) (hk : k < 8) (ho : opens m p 0x48)
    (hfree : (setU m k).cmd = none) (hop : 0 < op ∧ op ≤ 4)
    (harg : op = 3 → 0 < rdS m (WGH.CMD_ARG k) ∧ rdS m (WGH.CMD_ARG k) ≤ (rd m (WGH.MAX_E k) * rd m (WGH.E_MG k) : Nat)
      ∧ rdS m (WGH.CMD_ARG k) % (rd m (WGH.E_MG k) : Int) = 0) :
    evPort p t s (fun s => if k < 8 then setCmd p k op s else s) = .next (wr (WGH.SET_BUSY k) 1
      (modSet k (fun u => { u with cmd := some (op, rdS m (WGH.CMD_ARG k), p), cmdSc := m.time.sc })
        (accepted p 0x48 (some (WGH.SET_CODE k)) m))) :=
  evPort_answers hm ((if_pos hk).trans (setCmd_waits ho hfree hop harg))

/-- A waiting SET_CMD acts, or is refused with STATE, in a commit cycle after its write (R299). -/
theorem setCmdExec_acts {k op : Nat} {arg : Int} {p : Port} {s : State} (hcmd : (setU s k).cmd = some (op, arg, p))
    (hsc : (setU s k).cmdSc < s.time.sc) (hok : setCmdState s k op = false) :
    setCmdExec k s = raise 0x48 5 (wr (WGH.SET_BUSY k) 0 (wr (WGH.SET_CODE k) 0
      (setCmdAct k op arg (modSet k (fun u => { u with cmd := none }) s)))) := by
  unfold setCmdExec
  simp only [hcmd, if_pos hsc, hok, Bool.false_eq_true, if_false]

theorem setCmdExec_refuses {k op : Nat} {arg : Int} {p : Port} {s : State} (hcmd : (setU s k).cmd = some (op, arg, p))
    (hsc : (setU s k).cmdSc < s.time.sc) (hbad : setCmdState s k op = true) :
    setCmdExec k s = raise 0x48 5 (wr (WGH.SET_BUSY k) 0 (wr (WGH.SET_CODE k) 8
      (refuse p 0x48 (setCmdOff k) .state (modSet k (fun u => { u with cmd := none }) s)))) := by
  unfold setCmdExec
  simp only [hcmd, if_pos hsc, hbad, if_true]
  rfl

/-- Settles O40: each command has its effect in the state that lets it act. -/
theorem weighingCommandsComplete : Obligations.WeighingCommandsComplete := by
  refine ⟨?output, ?notch, ?stale, ?setCmd, ?acts, ?refused, ?convert, ?command, ?done, ?check⟩
  case output =>
    intro t c b s m hm hc hen hdue
    change execWeighOutput t c s = _
    refine ev_answers hm ((if_pos ⟨hc, hen⟩).trans ?_)
    rw [hdue]
  case notch =>
    intro t c j s m hm hc hj hheld hpos hraised
    change execNotchFenceHeld t c j s = _
    exact ev_answers hm ((if_pos ⟨hc, hj⟩).trans (if_pos ⟨hheld, hpos, hraised⟩))
  case stale =>
    intro t k s m hm hk hon hfresh hlimit
    change execZeroStale t k s = _
    exact ev_answers hm ((if_pos ⟨hk, hon⟩).trans (if_pos ⟨hfresh, hlimit⟩))
  case setCmd =>
    rintro t k op p c s m a hm hk ho hfree hform rfl
    rcases hform with ⟨rfl, rfl⟩ | ⟨rfl, rfl⟩ | ⟨rfl, rfl⟩ | ⟨rfl, rfl, harg⟩
    · exact setCmd_answers hm hk ho hfree (by decide) (absurd · (by decide))
    · exact setCmd_answers hm hk ho hfree (by decide) (absurd · (by decide))
    · exact setCmd_answers hm hk ho hfree (by decide) (absurd · (by decide))
    · exact setCmd_answers hm hk ho hfree (by decide) fun _ => harg
  case acts =>
    rintro t k op arg p s m a hm hk htick hruns hcmd hsc hok rfl
    change execSetCmdExecute t k s = _
    exact ev_answers hm ((if_pos ⟨hk, htick, hruns⟩).trans (setCmdExec_acts hcmd hsc hok))
  case refused =>
    rintro t k op arg p s m a hm hk htick hruns hcmd hsc hbad rfl
    change execSetCmdExecute t k s = _
    exact ev_answers hm ((if_pos ⟨hk, htick, hruns⟩).trans (setCmdExec_refuses hcmd hsc hbad))
  case convert =>
    rintro t c k occ n src s m a hm hc rfl ht hset hlow hhigh hen hfree
    change execConvert t src c occ 1 n s = _
    refine ev_answers hm ((if_pos hc).trans ((arrive_takes ht).trans ?_))
    rw [if_pos rfl]
    exact convert_starts hset hlow hhigh hen hfree
  case command =>
    intro t c k n p s m a hm hc ho hbusy hlegal hlow hhigh ha ht hset hen hfree
    change execWchConvert t p c n s = _
    unfold execWchConvert
    exact evPort_answers hm ((if_pos hc).trans (wchConvertCmd_starts ho hbusy hlegal hlow hhigh ha ht hset hen hfree))
  case done =>
    intro t k w s m hm hk hwin hlast
    change execWinDone t k s = _
    refine ev_answers hm ((if_pos hk).trans ?_)
    unfold winDone
    simp only [hwin, if_pos hlast]
  case check =>
    intro t s m hm htick hruns hdwell
    change execDeCheck t s = _
    exact ev_answers hm (if_pos ⟨htick, hruns, hdwell⟩)

end Sys2Proof.Machine
end

section
/-! PROOFS. The audit log (R352 to R355): what the writing of an entry leaves. -/
namespace Sys2Proof.Machine

/-- The fields by which the log is seen to grow. -/
abbrev logCount (k : Nat) : Prop := k = ALOG.NEXT_SEQ.key ∨ k = ALOG.UNLOGGED.key ∨ k = ALOG.LOG_USED.key

/-- The entry that the log takes next: its SEQ, and the CHAIN over the last entry's (R352, R353). -/
abbrev logNext (e : LogEntry) (s : State) : LogEntry :=
  { e with seq := rd s ALOG.NEXT_SEQ, chain := chainAfter (lastChain s) { e with seq := rd s ALOG.NEXT_SEQ } }

/-- The log with one more entry, and the next SEQ. -/
abbrev logAppended (e : LogEntry) (s : State) : State :=
  inc ALOG.NEXT_SEQ { s with leg := { s.leg with log := s.leg.log ++ [logNext e s] } }

/-- A cause of the log's page stands beside its counters. -/
theorem raise_alog_kept (n : Nat) (s : State) : Kept logCount s (raise 0x61 n s) :=
  (Kept.refl s).event (f := HDR.CAUSE 0x61) (by decide) _

theorem eventCounter_apart {n : Nat} {f : Fld} (h : eventCounter n = some f) : ¬ logCount f.key := by
  unfold eventCounter at h
  repeat' split at h
  all_goals
    cases h
    try decide

/-- An event is counted under its kind (R354). -/
abbrev eventCounted (n : Nat) (s : State) : State :=
  match eventCounter n with
  | some f => inc f s
  | none => s

/-- LOG_NEAR, LOG_FULL and the causes of TRIG breaks are raised as the entry calls for them (R355). -/
abbrev logRaised (e : LogEntry) (s : State) : State :=
  s |> when (decide (s.leg.log.length = logNear)) (raise 0x61 0)
    |> (fun u => when (decide (u.leg.log.length = logSize)) (raise 0x61 1) u)
    |> when (decide (e.event = 0x80)) (raise 0x61 3) |> when (decide (e.event = 0x81)) (raise 0x61 4)

theorem eventCounted_kept (n : Nat) (s : State) : Kept logCount s (eventCounted n s) ∧ (eventCounted n s).leg = s.leg := by
  unfold eventCounted
  split
  case h_1 f hev => exact ⟨kept_wr (eventCounter_apart hev) _ _, rfl⟩
  case h_2 => exact ⟨.refl _, rfl⟩

theorem when_raise_leg (c : Bool) (p n : Nat) (s : State) : (when c (raise p n) s).leg = s.leg := by cases c <;> rfl

theorem logRaised_kept (e : LogEntry) (s : State) : Kept logCount s (logRaised e s) ∧ (logRaised e s).leg = s.leg := by
  have hstep (c : Bool) (n : Nat) (u : State) : Kept logCount u (when c (raise 0x61 n) u) := kept_when (raise_alog_kept n) u
  refine ⟨(((hstep _ 0 s).trans (hstep _ 1 _)).trans (hstep _ 3 _)).trans (hstep _ 4 _), ?_⟩
  simp only [logRaised, when_raise_leg]

theorem logWrite_room {e : LogEntry} {s : State} (h : s.leg.log.length < 4096) :
    logWrite e s = logRaised e (eventCounted e.event (showUsed (logAppended e s))) :=
  if_neg (by simp only [logSize]; omega)

theorem logWrite_full {e : LogEntry} {s : State} (h : 4096 ≤ s.leg.log.length) : logWrite e s = inc ALOG.UNLOGGED s := if_pos h

theorem showUsed_used (s : State) : rd (showUsed s) ALOG.LOG_USED = s.leg.log.length % 2 ^ 13 := by
  rw [showUsed, wrB, wrB, rd_wr_ne _ _ (by decide), rd_wr_ne _ _ (by decide), rd_wr_same]
  rfl

/-- USED stands beside the other counters of the log. -/
theorem showUsed_kept (s : State) : Kept (fun k => k = ALOG.NEXT_SEQ.key ∨ k = ALOG.UNLOGGED.key) s (showUsed s) :=
  (((Kept.refl s).wr (f := ALOG.LOG_USED) (by decide) _).wr (f := ALOG.LOG_FULL) (by decide) _).wr (f := ALOG.CAL_BLOCKED) (by decide) _

/-- Settles O47: a log with room takes the entry and counts it, and what follows stands beside its counters. -/
theorem logIsAppended : Obligations.LogIsAppended := by
  intro e s
  refine ⟨fun hroom => ?room, fun hfull => ?full⟩
  case room =>
    rw [logWrite_room hroom]
    obtain ⟨hevent, heventLeg⟩ := eventCounted_kept e.event (showUsed (logAppended e s))
    obtain ⟨hraise, hraiseLeg⟩ := logRaised_kept e (eventCounted e.event (showUsed (logAppended e s)))
    have hkept := hevent.trans hraise
    have hleg := hraiseLeg.trans heventLeg
    refine ⟨congrArg LegU.log hleg, ?seq, ?unlogged, ?used⟩
    case seq =>
      rw [hkept _ (.inl rfl), showUsed_kept _ _ (.inl rfl)]
      exact rd_inc_same ALOG.NEXT_SEQ _
    case unlogged =>
      rw [hkept _ (.inr (.inl rfl)), showUsed_kept _ _ (.inr rfl)]
      exact rd_inc_ne (by decide) _
    case used =>
      have hlen : (logAppended e s).leg.log.length = s.leg.log.length + 1 := List.length_append
      rw [hkept _ (.inr (.inr rfl)), showUsed_used, hlen]
      omega
  case full =>
    rw [logWrite_full hfull]
    exact ⟨rfl, rd_inc_same .., rd_inc_ne (by decide) _⟩

end Sys2Proof.Machine
end

section
/-! PROOFS. The services of the LGC and the commands of a session (R333 to R356): what each does in the state that lets it act. -/
namespace Sys2Proof.Machine

/-! ## A request is served (R333) -/

/-- The request at the front is served in a commit cycle that may still take one, by the row for its service. -/
theorem service_takes {r : LgcReq} {m b : State} {q : LgcReq → Bool} (h : takes r m b) (hq : q r = true) : service q m = serve r b := by
  obtain ⟨htick, hruns, rest, hfront, hqueue, hroom, hchecked, rfl⟩ := h
  have hfree : ¬ (4 ≤ takenNow (billTriggers m) ∨ r.code = 0x88 ∧ r.checked = false) := by
    rintro (hn | ⟨hcode, hno⟩)
    · omega
    · simp [hchecked hcode] at hno
  unfold service
  rw [hfront]
  simp only [htick, hruns, hq, Bool.and_self, if_true]
  unfold takeFront
  simp only [hqueue, if_neg hfree]

/-- A served request answers the step with the state of its service. -/
theorem service_answers {t : Nat} {r : LgcReq} {s m b u : State} {q : LgcReq → Bool} (hm : meets t s m) (ht : takes r m b)
    (hq : q r = true) (hu : serve r b = u) : ev t s (service q) = .next u :=
  ev_answers hm ((service_takes ht hq).trans hu)

theorem isCode_of {n : Nat} {r : LgcReq} (h : r.code = n) : isCode n r = true := decide_eq_true h

theorem isSession_of {op : Nat} {r : LgcReq} (hcode : r.code = 0x85) (hop : r.data.getD 4 0 = op) : isSession op r = true :=
  decide_eq_true ⟨hcode, hop⟩

section
variable {r : LgcReq} {b : State}

theorem serve_legalId (h : r.code = 0x81) : serve r b = answerNext r (legalIdService b).1 (legalIdService b).2.1 (legalIdService b).2.2 := by
  simp only [serve, h, if_true]

theorem serve_logRead (h : r.code = 0x82) :
    serve r b = answerNext r (logReadService r.data b).1 (logReadService r.data b).2.1 (logReadService r.data b).2.2 := by
  simp [serve, h]

theorem serve_sessionStart (h : r.code = 0x83) :
    serve r b = answerNext r (sessionStart r.data b).1 (sessionStart r.data b).2.1 (sessionStart r.data b).2.2 := by
  simp [serve, h]

theorem serve_sessionResponse (h : r.code = 0x84) :
    serve r b = answerNext r (sessionResponse r.data b).1 (sessionResponse r.data b).2.1 (sessionResponse r.data b).2.2 := by
  simp [serve, h]

theorem serve_sessionCmd (h : r.code = 0x85) : serve r b = sessionCmd r b := by
  simp [serve, h]

theorem serve_image (h : r.code = 0x8B) :
    serve r b = answerNext r (imageService r.data b).1 (imageService r.data b).2.1 (imageService r.data b).2.2 := by
  simp [serve, h]

/-! ## The services -/

theorem logReadService_held {d : List Nat} {e : LogEntry} (h : b.leg.log[le (slice d 0 2)]? = some e) :
    logReadService d b = (0, logBytes e, b) := by
  unfold logReadService
  rw [h]

/-- An armed seal starts a session with a new NONCE (R340). -/
theorem sessionStart_armed {d : List Nat} (hseal : rd b LEGL.SEAL_STATE = 1) (hdel : rd b BILL.DEL_OPEN ≠ 1)
    (hlock : b.leg.lockUntil ≤ b.time.ticks) : sessionStart d b =
      (0, toBe 16 (Config.nonce b.leg.draws) ++ serialBytes b ++ toLe 4 (rd b LEGL.ID_CRC), { b with leg := { b.leg with
        draws := b.leg.draws + 1,
        nonce := some { bytes := toBe 16 (Config.nonce b.leg.draws), tick := b.time.ticks,
                        station := le (slice d 0 4), officer := le (slice d 4 4) } } }) :=
  if_neg (by omega)

theorem sessionResponse_right {d : List Nat} {n : Nonce} (hseal : rd b LEGL.SEAL_STATE = 1) (hn : b.leg.nonce = some n)
    (htime : b.time.ticks ≤ n.tick + 4000) (hresp : slice d 0 16 = sessionResp b n) : sessionResponse d b = (0, [], openSession n b) := by
  have hfresh : ¬ n.tick + 4000 < b.time.ticks := by omega
  unfold sessionResponse
  rw [if_neg (by simp [hseal])]
  simp only [hn, hresp, hfresh, ne_eq, not_true_eq_false, or_self, if_false]

theorem imageService_eq (d : List Nat) : imageService d b = if imageRefused b (fit 64 d) = true
    then (0, [0], logEvent 0x70 0x86 ([0xFF] ++ slice (fit 64 d) 4 4) b) else (0, [1], b) := by
  unfold imageService imageCheck
  cases imageRefused b (fit 64 d) <;> rfl

/-! ## The commands of a session (R341) -/

/-- A command with the next SEQ and a right TAG is accepted. -/
theorem sessionAccept_right {a : State} (h : inSession r b a) : sessionAccept r.data b = (none, a) := by
  obtain ⟨hopen, hlen, htag, hseq, rfl⟩ := h
  unfold sessionAccept
  rw [if_neg (by simp [hopen])]
  simp only [htag, hseq, ne_eq, not_true_eq_false, false_or, if_neg (by omega : ¬ r.data.length < 21), if_false]

/-- A command with an answer of its own is answered with its results under the session (R341). -/
theorem sessionCmd_answered {a u : State} {op : Nat} {res : List Nat} (h : inSession r b a) (hop : r.data.getD 4 0 = op) (hclose : op ≠ 7)
    (hdone : sessionOp r (le (slice r.data 0 4)) op (sessionArgs r) a = (none, res, false, u)) :
    sessionCmd r b = answerNext r 0 (sessionBytes u (le (slice r.data 0 4)) op 0 res) u := by
  unfold sessionArgs at hdone
  unfold sessionCmd
  simp only [sessionAccept_right h, hop, hdone, Bool.false_eq_true, if_false, if_neg hclose]
  rfl

/-- A command whose answer comes with its completion has no answer now. -/
theorem sessionCmd_later {a u : State} {op : Nat} {res : List Nat} (h : inSession r b a) (hop : r.data.getD 4 0 = op)
    (hdone : sessionOp r (le (slice r.data 0 4)) op (sessionArgs r) a = (none, res, true, u)) : sessionCmd r b = u := by
  unfold sessionArgs at hdone
  unfold sessionCmd
  simp only [sessionAccept_right h, hop, hdone, if_true]

theorem sessionCmd_close {a : State} (h : inSession r b a) (hop : r.data.getD 4 0 = 7) :
    sessionCmd r b = endSession 4 (answerNext r 0 (sessionBytes a (le (slice r.data 0 4)) 7 0 []) a) := by
  unfold sessionCmd
  simp only [sessionAccept_right h, hop]
  rfl

end

section
variable {r : LgcReq} {seq : Nat} {args : List Nat} {a : State}

theorem sessionOp_read (h : le (slice args 0 2) < 1018) :
    sessionOp r seq 1 args a = (none, toLe 8 (a.leg.edit.getD (le (slice args 0 2)) erased), false, a) :=
  (if_pos rfl).trans (if_neg (by simp only [maxRecords]; omega))

theorem sessionOp_write (h : le (slice args 0 2) < 1018) :
    sessionOp r seq 2 args a = (none, [], false,
      { a with leg := { a.leg with edit := putRecord (le (slice args 0 2)) (le (slice args 2 8)) a.leg.edit } }) :=
  (if_neg (by decide)).trans ((if_pos rfl).trans (if_neg (by simp only [maxRecords]; omega)))

/-- A COMMIT that passes its checks waits for VRES and the totals commits (R345). -/
theorem commitCmd_waits (hfree : a.leg.cal = none) (hrange : commitRange a = false) (hdel : rd a BILL.DEL_OPEN ≠ 1)
    (hlog : vresOk a = true → a.leg.log.length < 4032) :
    commitCmd r seq a = (none, { a with leg := { a.leg with cal := some {
      gen := (max (bankTop a.leg.bankA) (bankTop a.leg.bankB) + 1) % 2 ^ 32, old := rd a LEGL.ACTIVE_GEN,
      changed := recordsChanged (bankAt a (rd a LEGL.ACTIVE_BANK)).params (listed a.leg.edit), params := listed a.leg.edit, start := none,
      waitTo := a.time.ticks + rd a LEGL.VRES_TIMEOUT, req := r, seq := seq } } }) := by
  have hroom : ¬ ((vresOk a && decide (logNear ≤ a.leg.log.length)) = true) := by
    intro h
    obtain ⟨hvres, hfull⟩ := Bool.and_eq_true_iff.1 h
    have hfull : 4032 ≤ a.leg.log.length := of_decide_eq_true hfull
    have := hlog hvres
    omega
  unfold commitCmd
  rw [if_neg (by simp [hfree]), if_neg (by simp [hrange]), if_neg hdel, if_neg hroom]

theorem sessionOp_commit {u : State} (h : commitCmd r seq a = (none, u)) : sessionOp r seq 3 args a = (none, [], true, u) := by
  simp [sessionOp, h]

theorem sessionOp_rollover (hfree : a.leg.roll = none) (hchain : slice args 0 8 = lastChain a) (hnear : 4032 ≤ a.leg.log.length) :
    sessionOp r seq 5 args a = (none, [], true, { a with leg := { a.leg with roll := some (a.time.cycle, r, seq) } }) := by
  have hroll : rolloverCmd r seq args a = (none, { a with leg := { a.leg with roll := some (a.time.cycle, r, seq) } }) := by
    unfold rolloverCmd
    rw [if_neg (by simp [hfree]), if_neg (by simp [hchain]), if_neg (by simp only [logNear]; omega)]
  simp [sessionOp, hroll]

theorem sessionOp_clear {d : Nat} (hd : d = args.getD 0 0) (hlow : 6 ≤ d) (hhigh : d ≤ 8) (hbal : balanced a d = true) :
    sessionOp r seq 6 args a = (none, [], false, endBreak d a) := by
  have hclear : sessionClear d a = (none, [], endBreak d a) := by
    unfold sessionClear
    rw [if_neg (by omega), if_neg (by simp [hbal])]
  simp only [sessionOp, ← hd, hclear, Nat.reduceEqDiff, if_false, if_true]

end

/-- Settles O45: each service is taken from the front of the queue, and each session command acts in the session that accepts it. -/
theorem sealedServicesComplete : Obligations.SealedServicesComplete := by
  refine ⟨?legalId, ?logRead, ?start, ?response, ?read, ?write, ?commit, ?discard, ?rollover, ?clear, ?close, ?image⟩
  case legalId =>
    intro t r s m b hm hcode ht
    exact service_answers hm ht (isCode_of hcode) (serve_legalId hcode)
  case logRead =>
    intro t r e s m b hm hcode ht he
    refine service_answers hm ht (isCode_of hcode) ((serve_logRead hcode).trans ?_)
    rw [logReadService_held he]
  case start =>
    rintro t r n s m b hm hcode ht hseal hdel hlock rfl
    refine service_answers hm ht (isCode_of hcode) ((serve_sessionStart hcode).trans ?_)
    rw [sessionStart_armed hseal hdel hlock]
  case response =>
    intro t r n s m b hm hcode ht hseal hn htime hresp
    refine service_answers hm ht (isCode_of hcode) ((serve_sessionResponse hcode).trans ?_)
    rw [sessionResponse_right hseal hn htime hresp]
  case read =>
    rintro t i r s m b a hm hcode hop ht hs rfl hi
    refine service_answers hm ht (isSession_of hcode hop) ((serve_sessionCmd hcode).trans ?_)
    exact sessionCmd_answered hs hop (by decide) (sessionOp_read hi)
  case write =>
    rintro t i r s m b a c hm hcode hop ht hs rfl hi rfl
    refine service_answers hm ht (isSession_of hcode hop) ((serve_sessionCmd hcode).trans ?_)
    exact sessionCmd_answered hs hop (by decide) (sessionOp_write hi)
  case commit =>
    rintro t r k l s m b a hm hcode hop ht hs hfree hrange hdel hlog rfl rfl
    change execCommit t s = _
    refine ev_answers hm (congrArg calWork ((service_takes ht (isSession_of hcode hop)).trans ((serve_sessionCmd hcode).trans ?_)))
    exact sessionCmd_later hs hop (sessionOp_commit (commitCmd_waits hfree hrange hdel hlog))
  case discard =>
    rintro t r s m b a c hm hcode hop ht hs rfl
    refine service_answers hm ht (isSession_of hcode hop) ((serve_sessionCmd hcode).trans ?_)
    exact sessionCmd_answered hs hop (by decide) rfl
  case rollover =>
    intro t r s m b a hm hcode hop ht hs hfree hchain hnear
    refine service_answers hm ht (isSession_of hcode hop) ((serve_sessionCmd hcode).trans ?_)
    exact sessionCmd_later hs hop (sessionOp_rollover hfree hchain hnear)
  case clear =>
    intro t d r s m b a hm hcode hop ht hs hd hlow hhigh hbal
    refine service_answers hm ht (isSession_of hcode hop) ((serve_sessionCmd hcode).trans ?_)
    exact sessionCmd_answered hs hop (by decide) (sessionOp_clear hd hlow hhigh hbal)
  case close =>
    intro t r s m b a hm hcode hop ht hs
    exact service_answers hm ht (isSession_of hcode hop) ((serve_sessionCmd hcode).trans (sessionCmd_close hs hop))
  case image =>
    intro t r s m b hm hcode ht
    refine service_answers hm ht (isCode_of hcode) ((serve_image hcode).trans ?_)
    rw [imageService_eq]
    split <;> rfl

end Sys2Proof.Machine
end

section
/-! PROOFS. Billing and prepayment (R366 to R375): what each service, trigger and step does in the state that lets it act. -/
namespace Sys2Proof.Machine

/-! ## The services -/

section
variable {r : LgcReq} {b : State}

theorem serve_open (h : r.code = 0x86) :
    serve r b = answerNext r (openService r.data b).1 (openService r.data b).2.1 (openService r.data b).2.2 := by
  simp [serve, h]

theorem serve_stop (h : r.code = 0x87) :
    serve r b = answerNext r (stopService r.data b).1 (stopService r.data b).2.1 (stopService r.data b).2.2 := by
  simp [serve, h]

theorem serve_credit (h : r.code = 0x88) : serve r b = answerNext r (creditService (fit 36 r.data) b).1
    (creditService (fit 36 r.data) b).2.1 (creditService (fit 36 r.data) b).2.2 := by
  simp [serve, h]

theorem serve_price (h : r.code = 0x89) : serve r b = answerNext r (priceService (decide (r.win = 1)) (fit 36 r.data) b).1
    (priceService (decide (r.win = 1)) (fit 36 r.data) b).2.1 (priceService (decide (r.win = 1)) (fit 36 r.data) b).2.2 := by
  simp [serve, h]

theorem serve_emergency (h : r.code = 0x8A) :
    serve r b = answerNext r (emergencyService r.data b).1 (emergencyService r.data b).2.1 (emergencyService r.data b).2.2 := by
  simp [serve, h]

end

section
variable {x d : List Nat} {b : State}

/-- A credit message that passes its three checks is booked (R369). -/
theorem creditService_books (hrange : creditRange b x = false) (htag : slice x 20 8 = voucherTag b x) (hstate : creditState b x = false) :
    creditService x b =
      (0, [], makeBooking (.credit (x.getD 4 0) (x.getD 5 0) (be (slice x 8 4)) (be (slice x 12 8)) (bit (x.getD 6 0) 0)) b) := by
  unfold creditService
  rw [if_neg (by simp [hrange]), if_neg (by simp [htag]), if_neg (by simp [hstate])]

/-- A PRICE message of the STC in range, in time, is staged (R368). -/
theorem priceService_stages (hop : x.getD 4 0 = 1) (hrate : x.getD 5 0 ≤ 7) (h6 : x.getD 6 0 = 0) (h7 : x.getD 7 0 = 0)
    (hpad : (slice x 26 10).all (· == 0) = true) (hact : scFrame b + 25 ≤ be (slice x 20 6)) :
    priceService true x b = (0, [], b |> wr (BILL.ST_PRICE_MASS (x.getD 5 0)) (be (slice x 8 4))
      |> wr (BILL.ST_PRICE_VOL (x.getD 5 0)) (be (slice x 12 4)) |> wr (BILL.ST_PRICE_SVC (x.getD 5 0)) (be (slice x 16 4))
      |> wr BILL.STAGED_ACT (be (slice x 20 6)) |> wr BILL.STAGED_PEND 1 |> raise 0x68 4) := by
  have hpad : (slice x 26 10).any (· != 0) = false := by
    simpa [List.any_eq_false, List.all_eq_true] using hpad
  unfold priceService
  extract_lets r act
  rw [if_neg, if_neg (by decide), if_neg (by omega)]
  · simp only [hop, h6, h7, hpad, ne_eq, not_true_eq_false, false_or, Bool.false_eq_true, or_false]
    omega

/-- An open account without emergency credit takes it where its balance is below the amount (R370). -/
theorem emergencyService_books {a : Nat} (ha : a = d.getD 0 0) (hlow : a ≤ 7) (hopen : rd (view b) (PREP.A_OPEN a) ≠ 0)
    (hout : rd (view b) (PREP.EMERG_OUT a) = 0) (hpos : 0 < rd (view b) (PREP.E_AMT a))
    (hbal : balanceOf (view b) a < rd (view b) (PREP.E_AMT a)) (hfree : bookingBlocked b = false) :
    emergencyService d b = (0, [], makeBooking (.emergency a) b) := by
  have hamt : rd (view b) (PREP.E_AMT a) ≠ 0 := by omega
  have hneed : ¬ ((rd (view b) (PREP.E_AMT a) : Int) ≤ balanceOf (view b) a) := by omega
  subst ha
  unfold emergencyService
  rw [if_neg (by omega), if_neg]
  simp only [hopen, hout, hamt, hneed, hfree, ne_eq, not_true_eq_false, or_self, decide_false, Bool.or_self, Bool.false_eq_true,
    not_false_eq_true]

theorem openService_opens (habsent : bit (d.getD 2 0) 1 = true → Variant.usxPaths b.fuse.variant ≠ 0) (hrange : openRange d = false)
    (hstate : openState b d = false) (hlog : b.leg.log.length < 4096) :
    openService d b = (0, toLe 4 (rd (openDelivery d b) BILL.DEL_NO), openDelivery d b) := by
  unfold openService
  rw [if_neg fun h => habsent h.1 h.2, if_neg (by simp [hrange]), if_neg (by simp [hstate]), if_neg (by simp only [logSize]; omega)]

theorem stopService_stops (hopen : rd b BILL.DEL_OPEN ≠ 0) (hno : le (slice d 0 4) = rd b BILL.DEL_NO) :
    stopService d b = (0, [], stopDelivery 2 b) :=
  if_neg (by simp [hopen, hno])

end

/-- A byte of a request within its fixed length is the byte of its body. -/
theorem fit_getD {n k : Nat} (h : k < n) (l : List Nat) : (fit n l).getD k 0 = l.getD k 0 := by
  have hlen : (l.take n).length = min n l.length := List.length_take
  by_cases hk : k < l.length
  · have hbody : k < (l.take n).length := by omega
    rw [fit, List.getD_append _ _ _ _ hbody, List.getD_eq_getElem _ _ hbody, List.getD_eq_getElem _ _ hk, List.getElem_take]
  · rw [fit, List.getD_append_right _ _ _ _ (by omega), List.getD_eq_default l 0 (by omega), zeros, List.getD_eq_getElem?_getD,
      List.getElem?_getD_replicate_default_eq]

/-! ## The triggers (R366) -/

/-- A known action is latched for the next commit cycle. -/
theorem billTrigger_latched {t u act occ arg : Nat} {src : TrigSrc} {s m a : State} (hm : meets t s m) (ha : a = arrived src u m)
    (ht : takesTriggers a u) (hknown : actionKnown u act arg = true) (hruns : lgcRuns a = true) (hroom : a.bill.queue.length < 8) :
    ev t s (billTrigger src u act occ arg) =
      .next (trigExec u { a with bill := { a.bill with queue := a.bill.queue ++ [⟨u, act, occ, scFrame a⟩] } }) := by
  refine trigger_answers hm ha ht (if_neg ?_)
  have hroom : ¬ 8 ≤ a.bill.queue.length := by omega
  simp [hknown, hruns, hroom]

/-! ## The steps -/

/-- A signed record is booked while the service runs (R373). -/
theorem bookSigned_books {d : DelBook} {l : List DelBook} {s : State} (hfront : s.bill.toSign = d :: l) (hsigned : s.deck.signed = true)
    (hruns : billHalted s = false) (hroom : s.leg.bookings.length < 8) :
    bookSigned s = raise 0x68 2 (makeBooking (.delivery { d with record := d.record ++ recordTag s d.record }) (showRecord
      { s with bill := { s.bill with toSign := l, records := ((d.record ++ recordTag s d.record) :: s.bill.records).take 32 },
               deck := { s.deck with signing := !l.isEmpty, signed := false } })) := by
  have hroom : ¬ 8 ≤ s.leg.bookings.length := by omega
  unfold bookSigned
  simp only [hfront, hsigned, hruns, hroom, decide_false, Bool.not_true, Bool.or_self, Bool.false_eq_true, if_false]

/-- Settles O49: each service is taken from the front of the queue, each trigger is latched, and each step is due. -/
theorem billingCommandsComplete : Obligations.BillingCommandsComplete := by
  refine ⟨?credit, ?price, ?emergency, ?open_, ?stop, ?trigger, ?close, ?book, ?unattributed⟩
  case credit =>
    rintro t op c r x s m b hm hcode hop ht hform rfl hrange htag hstate
    have hserve : serve r b = answerNext r 0 [] (makeBooking (.credit op ((fit 36 r.data).getD 5 0) (be (slice (fit 36 r.data) 8 4))
        (be (slice (fit 36 r.data) 12 8)) (bit ((fit 36 r.data).getD 6 0) 0)) b) := by
      rw [serve_credit hcode, creditService_books hrange htag hstate, fit_getD (by decide) r.data, hop]
    have hcredit : isCredit op r = true := decide_eq_true ⟨hcode, hop⟩
    rcases hform with ⟨rfl, rfl⟩ | ⟨rfl, rfl⟩ | ⟨rfl, rfl⟩ | ⟨rfl, rfl⟩
    all_goals exact service_answers hm ht hcredit hserve
  case price =>
    rintro t r x s m b a hm hcode hwin ht rfl hop hrate h6 h7 hpad hact rfl
    refine service_answers hm ht (isCode_of hcode) ((serve_price hcode).trans ?_)
    rw [decide_eq_true hwin, priceService_stages hop hrate h6 h7 hpad hact]
  case emergency =>
    rintro t a r s m b v hm hcode ht rfl ha hlow hopen hout hpos hbal hfree
    refine service_answers hm ht (isCode_of hcode) ((serve_emergency hcode).trans ?_)
    rw [emergencyService_books ha hlow hopen hout hpos hbal hfree]
  case open_ =>
    rintro t r s m b a hm hcode ht habsent hrange hstate hlog rfl
    refine service_answers hm ht (isCode_of hcode) ((serve_open hcode).trans ?_)
    rw [openService_opens habsent hrange hstate hlog]
  case stop =>
    intro t r s m b hm hcode ht hopen hno
    refine service_answers hm ht (isCode_of hcode) ((serve_stop hcode).trans ?_)
    rw [stopService_stops hopen hno]
  case trigger =>
    intro t u act occ arg src c s m a hm ha ht hform hknown hruns hroom
    rcases hform with ⟨rfl, rfl, rfl⟩ | ⟨rfl, rfl, rfl⟩ | ⟨rfl, rfl, rfl⟩ | ⟨rfl, rfl, rfl⟩
    all_goals exact billTrigger_latched hm ha ht hknown hruns hroom
  case close =>
    intro t x s m hm htick hruns hdue
    change execDeliveryClose t s = _
    refine ev_answers hm ((if_pos (by simp [htick, hruns])).trans ?_)
    unfold closeDelivery
    simp only [hdue]
  case book =>
    rintro t d l rec_ s m b hm htick hruns hfront hsigned hopen hroom rfl rfl
    change execDeliveryBook t s = _
    exact ev_answers hm ((if_pos (by simp [htick, hruns])).trans (bookSigned_books hfront hsigned hopen hroom))
  case unattributed =>
    intro t no sc u s m hm htick hruns hu hno hidle
    change execUnattributedClose t s = _
    refine ev_answers hm ((if_pos (by simp [htick, hruns])).trans ?_)
    unfold closeIdleUnattr
    simp only [hu]
    exact if_pos ⟨by rw [hno]; rfl, hidle⟩

end Sys2Proof.Machine
end

section
/-! PROOFS. The causes of a cycle of the supply switch (R397, R517): the TAP's hold prevails over a VIN fault. -/
namespace Sys2Proof.Machine

/-- The TAP's hold among the causes of a cycle ends RAMP_UP in OFF for reason 5, whatever VIN fault stands beside it. -/
theorem swNext_vin_tap {s : State} (h : s.tap = false) : swNext [.vin, .tap] 1 s = enterOff (wr SWCH.STOP_WHY 5 (gatesOff s)) := by
  unfold swNext
  rw [h]
  rfl

theorem rd_enterOff_stopWhy (s : State) : rd (enterOff s) SWCH.STOP_WHY = rd s SWCH.STOP_WHY := by
  rw [enterOff, rd_wr_ne _ _ (by decide), rd_wr_ne _ _ (by decide)]
  rfl

/-- Refutes O53: its clause on a VIN fault ranges over every list of causes, and on one that holds the TAP's cause too, which R397 puts
with the halt, STOP_WHY reads 5 where the statement has it 4. A hold that Test-Logic-Reset ends within its cycle leaves such a list. -/
theorem not_tripsAreRetriedOrLatched : ¬ Obligations.TripsAreRetriedOrLatched := by
  rintro ⟨-, -, hvin, -⟩
  have htap : State.reset.tap = false := rfl
  obtain ⟨-, hsaid⟩ := hvin [.vin, .tap] 1 State.reset htap (.inl rfl) (List.mem_cons_self ..)
  have hreads : rd (swNext [.vin, .tap] 1 State.reset) SWCH.STOP_WHY = 5 := by
    rw [swNext_vin_tap htap, rd_enterOff_stopWhy, rd_wr_same]
    rfl
  rw [hreads] at hsaid
  exact absurd hsaid (by decide)

end Sys2Proof.Machine
end

section
/-! PROOFS. The power states, the core voltage and the supervisors (R407 to R427): what each command does in the state that lets it act. -/
namespace Sys2Proof.Machine

/-! ## Requests and entries -/

/-- A request of the STC that passes its checks outside an entry is accepted (R407, R408). -/
theorem powerRequest_accepted {target : Nat} {s : State} (ho : opens s .stc 0x78) (hc : firstFail (requestChecks s target) = none)
    (he : entering s = false) :
    powerRequest .stc target s = acceptRequest (some .stc) 6 target (accepted .stc 0x78 (some PWR.CMD_CODE) s) := by
  have hc : firstFail ((decide (Port.stc ≠ .stc), Code.locked) :: requestChecks s target) = none := hc
  unfold powerRequest
  rw [fabricCmd_accepted ho hc, he]
  rfl

theorem powerTrigger_accepted {arg : Nat} {s : State} (hc : firstFail (requestChecks s arg) = none) :
    powerTrigger 1 arg s = acceptRequest none 5 arg (trigExec 0x78 s) :=
  if_neg (by simp [hc])

/-- Without an engine held there is nothing to reclaim. -/
theorem reclaimHeld_none {s : State} (h : quiesceHeld s = []) : reclaimHeld s = s := by
  unfold reclaimHeld
  rw [h]
  rfl

/-- Past an abort point that no wake has met, the entry goes on. -/
theorem abortPoint_on {n : Nat} {go : State → State} {s : State} (h : s.pwr.wakeSeen = false) : abortPoint n go s = go s :=
  if_neg (by simp [h])

/-- An entry whose engines are released goes on past its second abort point (R410). -/
theorem quiesceDone_on {st : Nat} {s : State} (he : entering s = true) (hstep : rd s PWR.STEP = 2 ∨ rd s PWR.STEP = 7)
    (hheld : quiesceHeld s = []) (hwake : s.pwr.wakeSeen = false) (ht : s.pwr.target = some st) :
    quiesceDone s = if st = 4 then sealedCommit s else abortPoint 3 (lowerVoltage st) (clocksLow st (wr PWR.STEP 3 s)) := by
  have hdue : (!entering s || !(rd s PWR.STEP == 2 || rd s PWR.STEP == 7)) = false := by
    rcases hstep with h | h <;> simp [he, h]
  unfold quiesceDone
  rw [if_neg (Bool.eq_false_iff.1 hdue), if_neg (by simp [hheld])]
  simp only [ht, Option.getD_some, reclaimHeld_none hheld, abortPoint_on hwake]

/-! ## The regulator -/

theorem vregCtl_accepted {p : Port} {v mode : Nat} {s a : State} (ho : opens s p 0x79) (hc : firstFail (vregChecks s v) = none)
    (ha : a = setRows (fun _ => true) 0x79 0x040 v (accepted p 0x79 none s)) :
    vregCtl p v mode s = if v / 2 ^ 31 % 2 = 0 then a
      else if mode / 32 % 8 = 0 then pmbusSend 0x20 0 a |> wr VREG.V_FAILED 0 |> wr VREG.FAILS_IN_ROW 0 |> wr VREG.MODE_OK 1
        |> wrS VREG.MODE_N (toSigned 5 (mode % 32))
      else pmbusSend 0x20 0 a |> wr VREG.V_FAILED 0 |> wr VREG.FAILS_IN_ROW 0 |> wr VREG.MODE_OK 0 |> wr VREG.V_EN 0 |> raise 0x79 3 := by
  subst ha
  exact fabricCmd_accepted ho hc

/-- What ACK_MODE reads of the regulator stands beside the rest of its page. -/
theorem vregRead_kept (mv : Nat) (s : State) :
    Kept (· ≠ VREG.READ_MV.key) s (if rd s VREG.ACK_MODE = 0 then s else wr VREG.READ_MV mv s) :=
  kept_ite (.refl s) (kept_wr (by simp) mv s)

theorem vregRead_apart (mv : Nat) (s : State) : (if rd s VREG.ACK_MODE = 0 then s else wr VREG.READ_MV mv s).time = s.time
    ∧ (if rd s VREG.ACK_MODE = 0 then s else wr VREG.READ_MV mv s).pwr = s.pwr := by
  split <;> exact ⟨rfl, rfl⟩

/-- A settled request is acknowledged where the mode reads nothing or reads the target (R422). -/
theorem vregAck_reached {mv : Nat} {s a : State} (hflight : rd s VREG.V_IN_FLIGHT = 1)
    (hsettled : s.pwr.reqAt + rd s VREG.SETTLE_US * 400 ≤ s.time.cycle)
    (hnear : rd s VREG.ACK_MODE = 0 ∨ mv ≤ rd s VREG.TARGET_MV + rd s VREG.TOL_MV ∧ rd s VREG.TARGET_MV ≤ mv + rd s VREG.TOL_MV)
    (ha : a = (if rd s VREG.ACK_MODE = 0 then s else wr VREG.READ_MV mv s)) :
    vregAck mv s = voltageReached (a |> wr VREG.V_IN_FLIGHT 0 |> wr VREG.ACK_MV (rd s VREG.TARGET_MV)
      |> wr VREG.FAILS_IN_ROW 0 |> inc VREG.ACKS |> raise 0x79 4) := by
  have hkept := vregRead_kept mv s
  obtain ⟨htime, hpwr⟩ := vregRead_apart mv s
  rw [← ha] at hkept htime hpwr
  have hflight : rd a VREG.V_IN_FLIGHT = 1 := (hkept _ (by decide)).trans hflight
  have hsettle : rd a VREG.SETTLE_US = rd s VREG.SETTLE_US := hkept _ (by decide)
  have htarget : rd a VREG.TARGET_MV = rd s VREG.TARGET_MV := hkept _ (by decide)
  unfold vregAck
  simp only [← ha]
  rw [if_neg, htarget]
  rw [hflight, hsettle, htime, hpwr, decide_eq_true_iff]
  omega

theorem vregTimeout_fails {st n : Nat} {s a : State} (hflight : rd s VREG.V_IN_FLIGHT = 1)
    (hlate : s.pwr.reqAt + rd s VREG.ACK_TIMEOUT_US * 400 ≤ s.time.cycle) (hn : n = min 255 (rd s VREG.FAILS_IN_ROW + 1))
    (ha : a = (pmbusSend 0x03 0 (pmbusSend 0x79 0 s) |> wr VREG.V_IN_FLIGHT 0 |> wr VREG.ACK_MV (min (rd s VREG.ACK_MV) (rd s VREG.TARGET_MV))
      |> inc VREG.FAILS |> wr VREG.FAILS_IN_ROW n |> wr VREG.LAST_STATUS_WORD st)) :
    vregTimeout st s = if max 1 (rd s VREG.RETRY_MAX) ≤ n then raise 0x79 0 (wr VREG.V_FAILED 1 a) else a := by
  have hmax : rd a VREG.RETRY_MAX = rd s VREG.RETRY_MAX := by
    subst ha
    refine ((((((Kept.refl s).regs (P := (· = VREG.RETRY_MAX.key)) (v := pmbusSend 0x03 0 (pmbusSend 0x79 0 s)) rfl).wr
      (f := VREG.V_IN_FLIGHT) (by decide) _).wr (f := VREG.ACK_MV) (by decide) _).wr (f := VREG.FAILS) (by decide) _).wr
      (f := VREG.FAILS_IN_ROW) (by decide) _).wr (f := VREG.LAST_STATUS_WORD) (by decide) st _ rfl
  unfold vregTimeout
  rw [if_neg (by omega)]
  simp only [← hn, ← ha]
  rw [hmax]

/-! ## Wakes and returns -/

theorem hostWake_low {p : Port} {s : State} (ho : opens s p 0x78)
    (hlow : rd s PWR.STATE = 2 ∨ rd s PWR.STATE = 3 ∨ entering s = true ∧ s.pwr.target ≠ some 4) :
    hostWake p s = wake 7 (accepted p 0x78 none s) := by
  unfold hostWake
  refine fabricCmd_accepted ho ?_
  rcases hlow with h | h | ⟨he, ht⟩
  · simp [firstFail_none, h]
  · simp [firstFail_none, h]
  · simp [firstFail_none, he, ht]

/-- A return whose voltage stands restores the clocks and goes on with what waits for it (R417). -/
theorem clockRestore_ends {s b c : State} (hexit : s.pwr.exiting = true) (hflight : rd s VREG.V_IN_FLIGHT = 0)
    (hmv : needMv s (rd s PWR.PRIOR) ≤ ackMv s)
    (hb : b = (if s.pwr.undoing = true ∧ rd (clocksBack s) PWR.STATE = rd s PWR.PRIOR then clocksBack s
      else takeState (rd s PWR.PRIOR) (clocksBack s)))
    (hc : c = wr PWR.STEP 15 (endTransit { b with pwr := { b.pwr with after := none } })) :
    clockRestore s = match b.pwr.after with
      | some n => beginEntry b.pwr.reqBy n c
      | none => c := by
  have hstands : ¬ ackMv s < needMv s (rd s PWR.PRIOR) := by omega
  unfold clockRestore
  rw [if_neg (by simp [hexit, hflight, hstands])]
  simp only [← hb, ← hc] <;> rfl

/-- Settles O54: each command has its effect in the state that lets it act. -/
theorem powerCommandsComplete : Obligations.PowerCommandsComplete := by
  refine ⟨?request, ?trigger, ?sealed, ?lowered, ?enable, ?ack, ?late, ?pgood, ?rails, ?forced, ?clock, ?host, ?restore, ?pop⟩
  case request =>
    rintro t target s m a hm ho hc he rfl
    change execPowerRequest t .stc target s = _
    unfold execPowerRequest
    exact evPort_answers hm (powerRequest_accepted ho hc he)
  case trigger =>
    intro t arg src s m c hm hc ht hchecks
    exact trigger_answers hm hc ht (powerTrigger_accepted hchecks)
  case sealed =>
    intro t s m hm he hstep hheld hwake ht
    change execQuiesceDone t s = _
    exact ev_answers hm ((quiesceDone_on he (.inr hstep) hheld hwake ht).trans (if_pos rfl))
  case lowered =>
    intro t st s m hm he hstep hheld hwake ht hst
    change execQuiesceDone t s = _
    exact ev_answers hm ((quiesceDone_on he (.inl hstep) hheld hwake ht).trans (if_neg (by omega)))
  case enable =>
    intro t v mode p s m a hm ho hc ha
    change execVregEnable t p v mode s = _
    unfold execVregEnable
    exact evPort_answers hm (vregCtl_accepted ho hc ha)
  case ack =>
    intro t mv s m a hm hflight hsettled hnear ha
    change execVregAck t mv s = _
    exact ev_answers hm (vregAck_reached hflight hsettled hnear ha)
  case late =>
    intro t st n s m a hm hflight hlate hn ha
    change execVregAckTimeout t st s = _
    exact ev_answers hm (vregTimeout_fails hflight hlate hn ha)
  case pgood =>
    intro t s m hm hflight
    change execPgoodLost t s = _
    exact ev_answers hm (if_pos hflight)
  case rails =>
    intro t now s m hm
    change execRailOutOfWindow t now s = _
    exact ev_answers hm rfl
  case forced =>
    intro t s m hm hrun hstate htransit
    change execThermalForcedTrim t s = _
    exact ev_answers hm (if_pos ⟨hrun, hstate, htransit⟩)
  case clock =>
    rintro t p s m a hm ho hclocks hstate rfl
    have hstate : ¬ 2 ≤ rd m PWR.STATE := by omega
    change execCtlClk t p s = _
    unfold execCtlClk
    exact evPort_answers hm (fabricCmd_accepted ho (by simp [firstFail_none, hclocks, hstate]))
  case host =>
    rintro t p s m a hm ho hlow rfl
    change execHostWake t p s = _
    unfold execHostWake
    exact evPort_answers hm (hostWake_low ho hlow)
  case restore =>
    intro t s m b c hm hexit hflight hmv hb hc
    change execWakeClockRestore t s = _
    exact ev_answers hm (clockRestore_ends hexit hflight hmv hb hc)
  case pop =>
    rintro t p s m a hm ho hlog rfl
    change execWakePop t p s = _
    unfold execWakePop
    exact evPort_answers hm (fabricCmd_accepted ho (by simp [firstFail_none, hlog]))

end Sys2Proof.Machine
end

section
/-! PROOFS. The Dome, the reset sequence and the test pins (R413 to R418, R484 to R503, R517): what each command does in the state that
lets it act. -/
namespace Sys2Proof.Machine

/-! ## The wake pins (R415, R416) -/

theorem wakePin_modPin (n : Nat) (f : WakePin → WakePin) (s : State) : wakePin (modPin n f s) n = f (wakePin s n) := by
  unfold wakePin modPin
  split <;> rfl

theorem modPin_regs (n : Nat) (f : WakePin → WakePin) (s : State) : (modPin n f s).regs = s.regs := rfl

/-- The pin is at its active level. -/
theorem active_of_level {level pol : Bool} (h : level = !pol) : (level != pol) = true := by subst h; cases pol <;> rfl

/-- An active edge within the guard counts and wakes. -/
theorem wakeEdge_wakes {n : Nat} {level : Bool} {s a : State} (hen : rd s (PWR.WK_EN n) = 1) (hedge : (wakePin s n).level ≠ level)
    (hlevel : level = !decide (rd s (PWR.WK_POL n) = 1))
    (ha : a = modPin n (fun x => { x with edges := rtcNow s :: (wakePin s n).edges.filter fun x => decide (rtcNow s < x + rtcSecond) })
      (inc PWR.WAKE_EDGES (modPin n (fun x => { x with level := level, since := rtcNow s }) s)))
    (hcalm : (wakePin a n).chatter = false) (hfree : (wakePin a n).stuck = false)
    (hguard : (wakePin a n).edges.length ≤ rd s (PWR.WK_MAX_EDGES n)) : wakeEdge n level s = wake (1 + n) a := by
  have hmax : rd a (PWR.WK_MAX_EDGES n) = rd s (PWR.WK_MAX_EDGES n) := by
    rw [ha]
    refine (rd_congr (modPin_regs _ _ _) _).trans ((rd_inc_ne ?_ _).trans (rd_congr (modPin_regs _ _ _) _))
    simp only [PWR.WK_MAX_EDGES, PWR.WAKE_EDGES, Fld.key]
    omega
  have hedges : (wakePin a n).edges = rtcNow s :: (wakePin s n).edges.filter fun x => decide (rtcNow s < x + rtcSecond) := by
    rw [ha, wakePin_modPin]
  unfold wakeEdge
  rw [if_neg (by simp [hen, hedge])]
  simp only [active_of_level hlevel, Bool.and_true, Bool.not_true, Bool.false_eq_true, if_false, wakePin_modPin, ← ha, hcalm, hfree,
    Bool.or_self, hmax]
  rw [← hedges]
  exact if_neg (by omega)

theorem wakeStuck_fails {n : Nat} {s : State} (hen : rd s (PWR.WK_EN n) = 1) (hfree : (wakePin s n).stuck = false)
    (hlevel : (wakePin s n).level = !decide (rd s (PWR.WK_POL n) = 1))
    (hlong : (wakePin s n).since + rd s (PWR.WK_TIMEOUT n) * rtcSecond < rtcNow s) :
    wakeStuck n s = wakeGuard (modPin n (fun x => { x with stuck := true }) s) :=
  if_pos ⟨hen, active_of_level hlevel, hfree, hlong⟩

/-- A matched address wakes the Dome (R449). -/
theorem wake_address {s : State} (h : hibernating s = true) : wake 4 s = domeLatch 4 s := (if_pos h).trans (if_pos (by decide))

/-! ## The test pins (R517) -/

/-- An instruction that drives the pins holds the outputs off. -/
theorem tapInstruction_holds {code : Nat} {s : State} (h : tapHolds code = true) :
    tapInstruction code false s = swCause .tap (wr (LOOP.DRV 1) 0 (wr (LOOP.DRV 0) 0
      (condLost 3 { abortBurst { s with tapIr := code % 32 } with tap := true }))) := by
  unfold tapInstruction
  simp only [h, Bool.not_true, Bool.false_eq_true, if_false]
  rfl

theorem tapInstruction_idle {code : Nat} {s : State} (h : tapHolds code = false) :
    tapInstruction code false s = { s with tapIr := code % 32 } := by
  unfold tapInstruction
  simp only [h, Bool.not_false, Bool.false_eq_true, if_false, if_true]

/-- Settles O55: each command has its effect in the state that lets it act. -/
theorem domeAndResetCommandsComplete : Obligations.DomeAndResetCommandsComplete := by
  refine ⟨?edge, ?stuck, ?alarm, ?address, ?rails, ?reset, ?release, ?ready, ?exit, ?tap, ?test⟩
  case edge =>
    rintro t n level s m a rfl hen hedge hlevel ha hcalm hfree hguard
    exact congrArg Host.Outcome.next (wakeEdge_wakes hen hedge hlevel ha hcalm hfree hguard)
  case stuck =>
    rintro t n s m rfl hen hfree hlevel hlong
    exact congrArg Host.Outcome.next (wakeStuck_fails hen hfree hlevel hlong)
  case alarm =>
    rintro t s m rfl hen halarm
    exact congrArg Host.Outcome.next (if_pos ⟨hen, halarm⟩)
  case address =>
    rintro t s m rfl hdown hen
    exact congrArg Host.Outcome.next ((if_pos ⟨hdown, hen, rfl⟩).trans (wake_address hdown))
  case rails =>
    rintro t s m rfl hdown hlatched
    exact congrArg Host.Outcome.next (if_pos ⟨hdown, hlatched⟩)
  case reset =>
    rintro t s m rfl
    exact ⟨rfl, rfl⟩
  case release =>
    rintro t up down failed a b s m rfl hheld
    exact congrArg Host.Outcome.next (if_neg (by simp [hheld]))
  case ready =>
    rintro t s m rfl hreleased
    exact congrArg Host.Outcome.next (if_neg (by simp [hreleased]))
  case exit =>
    rintro t failed a b s m r rfl hdown hlatched rfl
    exact congrArg Host.Outcome.next (if_neg fun h => h.elim (by simp [hdown]) hlatched)
  case tap =>
    rintro t code s m a hm rfl
    refine ⟨fun h => ?holds, fun h => ?idle, ?reset⟩
    case holds => exact ev_answers hm (tapInstruction_holds h)
    case idle => exact ev_answers hm (tapInstruction_idle h)
    case reset => exact ev_answers hm (if_pos rfl)
  case test =>
    intro t s m hm
    exact ⟨ev_answers hm rfl, ev_answers hm rfl⟩

end Sys2Proof.Machine
end

section
/-! PROOFS. Self-repair (R457 to R482): what each command does in the state that lets it act. -/
namespace Sys2Proof.Machine

/-! ## Errors of rows (R469, R470) -/

section
variable {r : Nat × Nat × Nat} {s : State} (hrow : isRow r = true)
include hrow

/-- A corrected error below CE_ROW_MAX is counted and leaves the row in service. -/
theorem correctedError_below {col : Nat} {c : CellAt} (hk : r.1 ≠ 5) (hbelow : (ceTable s r).1.n < rd s RPR.CE_ROW_MAX) :
    correctedError r col c s = inc RPR.CE_TOTAL { s with rpr := { s.rpr with ce := (ceTable s r).2 } } := by
  have hmax : rd (inc RPR.CE_TOTAL (modRpr (fun x => { x with ce := (ceTable s r).2 }) s)) RPR.CE_ROW_MAX = rd s RPR.CE_ROW_MAX :=
    rd_inc_ne (by decide) _
  unfold correctedError
  simp only [hrow, Bool.not_true, Bool.false_eq_true, if_false, hk, decide_false]
  exact if_neg fun h => Nat.not_le.2 hbelow (hmax ▸ h.1)

/-- An uncorrectable error of a row that holds no cell and no Almanac entry makes the row due. -/
theorem uncorrectableError_due {entry : Nat} {c : CellAt} {u : CellUse} (hbuf : r.1 ≠ 1) (halm : r.1 ≠ 5) :
    uncorrectableError r entry c u s = rowDue r .ue c (condLost 2 (raise 0x90 1 (inc RPR.UE_TOTAL s))) := by
  unfold uncorrectableError
  simp only [hrow, Bool.not_true, Bool.false_eq_true, if_false, hbuf, halm]
  rfl

end

/-! ## Tests of engines and slices (R474, R475) -/

theorem engineTest_takes {t e : Nat} {pass : Bool} {s m : State} (hm : meets t s m) (hruns : sweeperRuns m = true)
    (hidle : engineIdle m e = true) :
    exec (.engineTest t e pass) s = .next (rprDone (.engine e) (when (!pass) (engineFails e) (inc RPR.ENG_TESTS m))) := by
  change execEngineTest t e pass s = _
  exact ev_answers hm (if_pos (by simp [hruns, hidle]))

theorem sliceTest_takes {t i : Nat} {pass : Bool} {s m : State} (hm : meets t s m) (hruns : sweeperRuns m = true)
    (hi : i < Variant.slices m.fuse.variant) (hspare : rd m (AFE.SLICE_ROLE i) = 3) (hshadow : shadows m i = false) :
    exec (.sliceTest t i pass) s = .next (if pass then rprDone (.slice i) m else rprDone (.slice i)
      (modRpr (fun x => { x with slices := x.slices ++ [(i, true)] }) (metrologyRepair i (raise rprPage 10 m)))) := by
  change execSliceTest t i pass s = _
  exact ev_answers hm (if_pos (by simp [hruns, hi, hspare, hshadow]))

/-! ## The commands of the STC (R481, R482) -/

theorem rprCmd_accepted {p : Port} {op : Nat} {r : Nat × Nat × Nat} {c : CellAt} {s : State} (ho : opens s p 0x90)
    (hc : firstFail (rprChecks p op r s) = none) :
    rprCmd p op r c s = rprAct op r c (accepted p 0x90 (some RPR.CMD_CODE) s) := fabricCmd_accepted ho hc

/-- A command of the STC for a request that waits is carried out and answered. -/
theorem stcCommand_answered {w code st : Nat} {act : List Nat → StcReq → State → Option (Nat × List Nat) × State} {r : StcReq} {d : List Nat}
    {s b : State} (hruns : stcRuns s = true) (hr : (s.stc.waiting.find? fun r => r.win == w) = some r) (hcode : r.code = code)
    (hact : act r.data r s = (some (st, d), b)) : stcCommand w code act s = stcAnswer w r.tag code st d b := by
  unfold stcCommand
  subst hcode
  simp only [hruns, Bool.not_true, Bool.false_eq_true, if_false, hr, ne_eq, not_true_eq_false, hact]

/-- Settles O57: each command has its effect in the state that lets it act. -/
theorem repairCommandsComplete : Obligations.RepairCommandsComplete := by
  refine ⟨?corrected, ?below, ?uncorrectable, ?tested, ?copied, ?column, ?engine, ?slice, ?command, ?forward, ?report, ?pop, ?margin⟩
  case corrected =>
    intro t k i row col c s m hm _
    exact ev_answers hm rfl
  case below =>
    intro t k i row col c s m hm hrow hk hbelow
    exact ev_answers hm (correctedError_below hrow hk hbelow)
  case uncorrectable =>
    intro t k i row e c u s m hm hrow hlow hk
    exact ev_answers hm (uncorrectableError_due hrow (Nat.ne_of_gt hlow) hk)
  case tested =>
    intro t bank row pass d s m hm hd hruns
    change execRowTestDone t bank row pass s = _
    refine ev_answers hm ?_
    simp only [hd, if_pos hruns]
  case copied =>
    intro t k row d s m hm hd hruns
    change execRowCopyDone t k row s = _
    refine ev_answers hm ?_
    simp only [hd, if_pos hruns]
  case column =>
    intro t bank col l s m hm hcols
    change execColumnCopyDone t s = _
    refine ev_answers hm ?_
    simp only [hcols]
    rfl
  case engine =>
    intro t e s m hm hruns hidle
    exact ⟨engineTest_takes hm hruns hidle, engineTest_takes hm hruns hidle⟩
  case slice =>
    intro t i s m hm hruns hi hspare hshadow
    exact ⟨sliceTest_takes hm hruns hi hspare hshadow, sliceTest_takes hm hruns hi hspare hshadow⟩
  case command =>
    rintro t op k i x c q s m a hm ho hform hc rfl
    rcases hform with ⟨rfl, rfl⟩ | ⟨rfl, rfl⟩ | ⟨rfl, rfl, rfl⟩ | ⟨rfl, rfl, rfl, rfl, rfl, rfl⟩
    all_goals exact evPort_answers hm (rprCmd_accepted ho hc)
  case forward =>
    rintro t w c r s m b hm hruns hr hcode hlow hhigh rfl
    change execRepairForward t w c s = _
    refine ev_answers hm (stcCommand_answered hruns hr hcode ?_)
    exact (if_neg (by omega)).trans (if_neg (by omega))
  case report =>
    intro t w r s m hm hruns hr hcode hop
    change execRepairReport t w s = _
    exact ev_answers hm (stcCommand_answered hruns hr hcode (if_pos hop))
  case pop =>
    rintro t s m a hm ho hqueue rfl
    change execRecPop t .stc s = _
    unfold execRecPop
    exact evPort_answers hm (fabricCmd_accepted ho (by simp [firstFail_none, hqueue]))
  case margin =>
    intro t k s m hm hlow
    change execMarginLow t k s = _
    exact ev_answers hm (if_pos hlow)

end Sys2Proof.Machine
end

section
/-! PROOFS. The PCIe link, the Ethernet ports, the host's TX rings, the two-wire target and the guards (R429 to R448, R519): what each
command does in the state that lets it act. -/
namespace Sys2Proof.Machine

/-! ## The Ethernet link (R438) -/

section
variable {p : Nat} {s : State} (hen : enabled s (0x81 + p) = true) (hpresent : Variant.pageAbsent s.fuse.variant (0x81 + p) = false)
include hen hpresent

theorem ethUp_rises (hlink : rd s (ETH.E_LINK p) ≠ 1) :
    ethUp p s = (s |> wr (ETH.E_LINK p) 1 |> wr (ETH.BLOCK_LOCK p) 1 |> wr (ETH.HI_BER p) 0 |> wr (ETH.LOCAL_FAULT p) 0
      |> wr (ETH.REMOTE_FAULT p) 0 |> raise (0x81 + p) 0) :=
  if_neg (by simp [hen, hpresent, hlink])

theorem ethDown_falls {ber : Bool} (hlink : rd s (ETH.E_LINK p) = 1) :
    ethDown p ber s = (s |> wr (ETH.E_LINK p) 0 |> wrB (ETH.BLOCK_LOCK p) ber |> wrB (ETH.HI_BER p) ber
      |> when ber (raise (0x81 + p) 2) |> raise (0x81 + p) 1) := by
  unfold ethDown
  simp only [hen, hpresent, hlink, Bool.not_true, Bool.or_self, Bool.false_eq_true, if_false]
  rfl

end

/-! ## The PCIe function (R431, R432) -/

/-- Out of D3hot, the vectors that neither mask holds send what they hold pending. -/
theorem configWrite_resumes {mask : Bool} {s a : State}
    (ha : a = wr HOST.DSTATE 0 { s with host := { s.host with msixStopped := false, funcMask := mask } }) :
    configWrite false mask s = if mask = true then a else
      forEach (s.host.pba.filter fun v => !s.host.vecMasked.contains v).reverse msixSend
        { a with host := { a.host with pba := s.host.pba.filter s.host.vecMasked.contains } } := by
  subst ha
  cases mask <;> rfl

/-! ## The TX rings (R434, R436) -/

/-- A whole frame of the ring in turn enters at source 18. -/
theorem hostTx_enters {r len : Nat} {descs ds : List (List Nat)} {data : List Nat} {s : State}
    (hr : (ringOrder s.host.lastTx).find? (fun r => decide (rd s (HOST.TX_EN r) = 1 ∧ ringHeld s (16 + r) ≠ 0)) = some r)
    (hds : toEop descs = some ds) (hheld : ds.length ≤ ringHeld s (16 + r)) (hruns : dmaRuns s = true)
    (hlen : len = (ds.map fun d => le (slice d 8 2)).foldl (· + ·) 0) (hlow : 64 ≤ len) (hhigh : len ≤ 9728)
    (hpad : (ds.all fun d => decide (slice d 11 5 = zeros 5)) = true) :
    hostTx descs data false s =
      ingress 18 (fit len data) (txComplete (16 + r) 0 len ds.length { s with host := { s.host with lastTx := r } }) := by
  have hstays : ¬ (ringHeld s (16 + r) < ds.length ∨ dmaRuns s = false) := by
    rw [hruns]
    simpa using hheld
  have hpad : (ds.any fun d => decide (slice d 11 5 ≠ zeros 5)) = false := by
    simpa [List.any_eq_false, List.all_eq_true] using hpad
  have hrange : ¬ (len < 64 ∨ 9728 < len) := by omega
  unfold hostTx
  simp only [hr, hds, if_neg hstays, ← hlen, hpad, hrange, decide_false, Bool.or_self, Bool.false_eq_true, if_false]

/-! ## The two-wire target (R445 to R448) -/

theorem addressed_busy {act : State → State} {s : State} (h : bridgeIsBusy s = true) :
    addressed (twAddr s) act s = inc TWIT.BUSY_NACKS s := by
  rw [addressed, if_neg fun hn => hn rfl, if_pos h]

theorem addressed_free {act : State → State} {s : State} (h : bridgeIsBusy s = false) : addressed (twAddr s) act s = act s := by
  rw [addressed, if_neg fun hn => hn rfl, if_neg (by simp [h])]

/-- A write part with a whole header and no PEC runs its groups (R446). -/
theorem writePart_runs {addr page hi lo : Nat} {body : List Nat} {x : Outside} {s : State} (hpec : rd s TWIT.TW_PEC = 0)
    (hpage : excluded page = false) (hoff : hi * 256 + lo < 4096) (hword : (hi * 256 + lo) % 4 = 0) (hlen : body.length ≤ 32) :
    writePart addr (page :: hi :: lo :: body) x s = (true, groupWrites ⟨page, hi * 256 + lo, body, true⟩ x s) := by
  have hframe : frameOf s addr (page :: hi :: lo :: body) = some ⟨page, hi * 256 + lo, body, true⟩ := if_neg (by simp [hpec])
  have hnack : frameNack ⟨page, hi * 256 + lo, body, true⟩ = false := decide_eq_false (by
    dsimp only
    omega)
  unfold writePart
  simp only [hframe, hpage, hnack, Bool.false_eq_true, if_false, Bool.not_true]

/-- Settles O59: each command has its effect in the state that lets it act. -/
theorem hostAndTwoWireCommandsComplete : Obligations.HostAndTwoWireCommandsComplete := by
  refine ⟨?resets, ?link, ?sleep, ?resume, ?up, ?down, ?frame, ?write, ?busy, ?read, ?timeout, ?warn, ?guards, ?wake⟩
  case resets =>
    intro t rx tx s m hm
    refine ⟨ev_answers hm rfl, ev_answers hm rfl, ?_⟩
    change execFunctionLevelReset t rx tx s = _
    exact ev_answers hm rfl
  case link =>
    intro t sp wd s m hm hsp
    exact ⟨ev_answers hm (if_neg hsp), ev_answers hm rfl⟩
  case sleep =>
    intro t mask s m hm
    exact ev_answers hm rfl
  case resume =>
    intro t mask s m a hm ha
    exact ev_answers hm (configWrite_resumes ha)
  case up =>
    intro t p s m hm hen hpresent hlink
    exact ev_answers hm (ethUp_rises hen hpresent hlink)
  case down =>
    intro t p ber s m hm hen hpresent hlink
    exact ev_answers hm (ethDown_falls hen hpresent hlink)
  case frame =>
    intro t r len descs ds data s m hm hr hds hheld hruns hlen hlow hhigh hpad
    exact ev_answers hm (hostTx_enters hr hds hheld hruns hlen hlow hhigh hpad)
  case write =>
    intro t page hi lo body x s m hm hfree hpec hpage hoff hword hlen
    refine ev_answers hm ((addressed_free hfree).trans ?_)
    simp only [writePart_runs hpec hpage hoff hword hlen, if_true]
  case busy =>
    intro t bytes x s m hm hbusy
    exact ev_answers hm (addressed_busy hbusy)
  case read =>
    intro t n s m hm hfree
    exact ev_answers hm (addressed_free hfree)
  case timeout =>
    intro t s m hm
    change execSclTimeout t s = _
    exact ev_answers hm rfl
  case warn =>
    intro t s m hm hchatter hedges
    exact ev_answers hm (if_pos ⟨hchatter, hedges⟩)
  case guards =>
    intro t s m hm
    exact ⟨ev_answers hm rfl, ev_answers hm rfl, ev_answers hm rfl⟩
  case wake =>
    rintro t n s m rfl hn
    exact congrArg Host.Outcome.next (if_pos hn)

end Sys2Proof.Machine
end

section
/-! PROOFS. The Site Controller's life, its windows and the mailbox (R441 to R463): what each command does in the state that lets it act. -/
namespace Sys2Proof.Machine

/-! ## The boot (R441) -/

theorem imageValid_badCrc (h : List Nat) : imageValid h false = false := Bool.and_false _

/-- Without a candidate the loader chooses no slot. -/
theorem chooseSlot_none (s : State) (genA genB : Nat) : chooseSlot s false false genA genB = none := by
  have hnamed (k : Nat) : (if (if k = 0 then false else false) = true then some k else (none : Option Nat)) = none := by simp
  unfold chooseSlot
  simp only [Bool.false_eq_true, and_self, if_false, hnamed]
  split
  · rfl
  · split <;> rfl

/-- Two slots whose CRC fails leave the STC without an image. -/
theorem stcBoot_noImage {a b : List Nat} {s : State} (hstate : rd s SYS.STC_STATE = 1) (hload : s.stc.loading = true) (hage : 2 ≤ s.stc.age) :
    stcBoot a b false false s = raise 0x86 1 (wr SYS.STC_STATE 4
      (let c := (s |> wr QSPI.A_VALID 0 |> wr QSPI.B_VALID 0 |> wr QSPI.A_GEN 0 |> wr QSPI.B_GEN 0)
       { c with stc := { c.stc with loading := false, prefer := none } })) := by
  have hdue : ¬ (rd s SYS.STC_STATE ≠ 1 ∨ s.stc.loading = false ∨ s.stc.age < 2) := by
    rintro (h | h | h)
    · exact h hstate
    · simp [hload] at h
    · omega
  unfold stcBoot
  rw [if_neg hdue]
  simp only [imageValid_badCrc, Bool.false_and, Bool.false_eq_true, if_false, chooseSlot_none]
  rfl

/-! ## The two-wire controller (R451, R452) -/

/-- A transaction ends with RESULT, its bytes and CMD_DONE. -/
abbrev twcEnded (r n : Nat) (b : List Nat) (s : State) : State :=
  when (r == 4) (raise 0x85 2) (if r = 0 ∧ 0 < n
    then raise 0x85 1 (wr TWIC.TWC_RESULT r (wr TWIC.TWC_BUSY 0 s)) |> wr (TWIC.TWC_RX 0) (le (slice b 0 4)) |> wr (TWIC.TWC_RX 1) (le (slice b 4 4))
    else raise 0x85 1 (wr TWIC.TWC_RESULT r (wr TWIC.TWC_BUSY 0 s)))

/-- The end of a transaction leaves the request that waits for it. -/
theorem twcEnded_stc (r n : Nat) (b : List Nat) (s : State) : (twcEnded r n b s).stc = s.stc := by
  unfold twcEnded
  cases r == 4 <;> split <;> rfl

section
variable {r : Nat} {data : List Nat} {s : State} (hbusy : rd s TWIC.TWC_BUSY ≠ 0)
include hbusy

theorem twcDone_ends (hwait : s.stc.modWait = none) :
    twcDone r data s = twcEnded r (rd s TWIC.TWC_RLEN) (fit 8 (data.take (rd s TWIC.TWC_RLEN))) s := by
  have hwait : (twcEnded r (rd s TWIC.TWC_RLEN) (fit 8 (data.take (rd s TWIC.TWC_RLEN))) s).stc.modWait = none := by
    rw [twcEnded_stc, hwait]
  unfold twcDone
  rw [if_neg hbusy]
  simp only [hwait]

theorem twcDone_answers {w tag code : Nat} (hwait : s.stc.modWait = some (w, tag, code)) :
    twcDone r data s = stcAnswer w tag code r (if code = 0x04 ∧ r = 0 then data.take (rd s TWIC.TWC_RLEN) else [])
      (let c := twcEnded r (rd s TWIC.TWC_RLEN) (fit 8 (data.take (rd s TWIC.TWC_RLEN))) s
       { c with stc := { c.stc with modWait := none } }) := by
  have hwait : (twcEnded r (rd s TWIC.TWC_RLEN) (fit 8 (data.take (rd s TWIC.TWC_RLEN))) s).stc.modWait = some (w, tag, code) := by
    rw [twcEnded_stc, hwait]
  unfold twcDone
  rw [if_neg hbusy]
  simp only [hwait]

end

section
variable {r : Nat} {data : List Nat} {s : State} (hen : rd s TWIC.POLL_EN ≠ 0) (hdue : s.stc.pollTick + rd s TWIC.POLL_TICKS ≤ s.time.ticks)
include hen hdue

theorem modulePoll_reads : modulePoll 0 data s = ({ s with stc := { s.stc with pollTick := s.time.ticks, pollFails := 0 } }
    |> wr (TWIC.MOD_STATUS 0) (le (slice (fit 8 (data.take (rd s TWIC.POLL_LEN))) 0 4))
    |> wr (TWIC.MOD_STATUS 1) (le (slice (fit 8 (data.take (rd s TWIC.POLL_LEN))) 4 4)) |> wr TWIC.MOD_STALE 0 |> wr TWIC.MOD_AGE 0) :=
  if_neg (by omega)

/-- A poll that gets no answer counts a failure, and POLL_FILTER of them in a row mark the status stale. -/
theorem modulePoll_fails {a : State} (hresult : r ≠ 0) (hstuck : r ≠ 4)
    (ha : a = { s with stc := { s.stc with pollTick := s.time.ticks, pollFails := s.stc.pollFails + 1 } }) :
    modulePoll r data s = if max 1 (rd s TWIC.POLL_FILTER) ≤ s.stc.pollFails + 1 ∧ rd s TWIC.MOD_STALE = 0
      then raise 0x85 0 (wr TWIC.MOD_STALE 1 a) else a := by
  subst ha
  have hstuck : (r == 4) = false := beq_false_of_ne hstuck
  unfold modulePoll
  rw [if_neg (by omega)]
  simp only [hstuck, if_neg hresult]
  rfl

end

/-! ## The mailbox (R453 to R456) -/

theorem reqPost_posts {p : Port} {w : Nat} {s a : State} (ho : opens s p 0xF0) (hw : w = windowOf p) (hfree : rd s (MBOX.RSP_OUT w) ≠ 1)
    (hrange : reqRange s w = false) (hstate : rd s (MBOX.REQ_DEST w) = 0 → w ≠ 1 ∧ rd s SYS.STC_STATE = 2)
    (ha : a = wr (MBOX.RSP_OUT w) 1 (accepted p 0xF0 none s)) :
    reqPost p w s = if rd a (MBOX.REQ_DEST w) = 1 then
      lgcPost { win := w, tag := rd a (MBOX.REQ_TAG w), code := rd a (MBOX.REQ_CODE w), data := reqBytes a w } a else toInbox w a := by
  have hdest : ¬ (rd s (MBOX.REQ_DEST w) = 0 ∧ (w = 1 ∨ rd s SYS.STC_STATE ≠ 2)) := by
    rintro ⟨h, hbad⟩
    obtain ⟨hw, hruns⟩ := hstate h
    exact hbad.elim hw fun hn => hn hruns
  have hpass : firstFail [(decide (windowOf p ≠ w), Code.locked), (decide (rd s (MBOX.RSP_OUT w) = 1), Code.busy), (reqRange s w, Code.range),
      (decide (rd s (MBOX.REQ_DEST w) = 0 ∧ (w = 1 ∨ rd s SYS.STC_STATE ≠ 2)), Code.state)] = none := by
    simp only [firstFail, ← hw, hfree, hrange, hdest, ne_eq, not_true_eq_false, decide_false, Bool.false_eq_true, if_false]
  subst ha
  exact fabricCmd_accepted ho hpass

theorem outPost_answers {w : Nat} {s a : State} (ho : opens s .stc 0xF0) (hw : w = rd s MBOX.OUT_WINDOW) (hwaits : stcWaits s w = true)
    (ha : a = accepted .stc 0xF0 none s) :
    outPost .stc s = mboxAnswer w (rd a MBOX.OUT_STATUS) (rd a MBOX.OUT_TAG) (rd a MBOX.OUT_CODE)
      (((List.range 16).flatMap fun k => toLe 4 (rd a (MBOX.OUT_DATA k))).take (rd a MBOX.OUT_LEN))
      { a with stc := { a.stc with waiting := a.stc.waiting.filter fun r => r.win != w } } := by
  subst ha hw
  unfold outPost
  exact fabricCmd_accepted ho (by simp [firstFail_none, hwaits])

/-- A trigger of unit 0xF0 with room in its queue is an event for the STC (R456). -/
theorem stcEvent_queues {occ arg : Nat} {s : State} (hroom : s.stc.oevs.length < 8) (hruns : rd s SYS.STC_STATE = 2) :
    stcEvent occ 1 arg s = showOevs (trigExec 0xF0 { s with stc := { s.stc with oevs := s.stc.oevs ++ [(arg, occ)] } }) :=
  if_neg (by omega)

end Sys2Proof.Machine
end

section
/-! PROOFS. The command set of the STC (R457): what each command answers. -/
namespace Sys2Proof.Machine

/-- A command whose answer comes later leaves its request waiting. -/
theorem stcCommand_deferred {w code : Nat} {act : List Nat → StcReq → State → Option (Nat × List Nat) × State} {r : StcReq} {s b : State}
    (hruns : stcRuns s = true) (hr : (s.stc.waiting.find? fun r => r.win == w) = some r) (hcode : r.code = code)
    (hact : act r.data r s = (none, b)) : stcCommand w code act s = b := by
  unfold stcCommand
  subst hcode
  simp only [hruns, Bool.not_true, Bool.false_eq_true, if_false, hr, ne_eq, not_true_eq_false, hact]

section
variable {t w : Nat} {r : StcReq} {s m : State} (hm : meets t s m) (hruns : stcRuns m = true)
  (hr : (m.stc.waiting.find? fun r => r.win == w) = some r)
include hm hruns hr

/-- A command that is carried out at once answers its request. -/
theorem stcCommand_next {code st : Nat} {act : List Nat → StcReq → State → Option (Nat × List Nat) × State} {d : List Nat} {b : State}
    (hcode : r.code = code) (hact : act r.data r m = (some (st, d), b)) :
    ev t s (stcCommand w code act) = .next (stcAnswer w r.tag code st d b) :=
  ev_answers hm (stcCommand_answered hruns hr hcode hact)

/-- A transaction of the two-wire controller answers at its end, or at once where GO was refused (R452). -/
theorem moduleAccess_next {code : Nat} {write : Bool} {u : State} (hcode : r.code = code) (hlow : 1 ≤ r.data.getD 2 0)
    (hhigh : r.data.getD 2 0 ≤ 7) (hfree : rd m TWIC.TWC_BUSY ≠ 1)
    (hu : u = if write then twcStart (r.data.getD 0 0) (r.data.getD 1 0 :: fit (r.data.getD 2 0) (r.data.drop 3)) 0 m
      else twcStart (r.data.getD 0 0) [r.data.getD 1 0] (r.data.getD 2 0) m) :
    ev t s (stcCommand w code (moduleAccess write)) = .next (if rd u TWIC.TWC_BUSY = 0
      then stcAnswer w r.tag code (rd u (HDR.REF_CODE 0x85)) [] u
      else { u with stc := { u.stc with modWait := some (r.win, r.tag, r.code) } }) := by
  have hact : moduleAccess write r.data r m = if rd u TWIC.TWC_BUSY = 0 then (some (rd u (HDR.REF_CODE 0x85), []), u)
      else (none, { u with stc := { u.stc with modWait := some (r.win, r.tag, r.code) } }) := by
    unfold moduleAccess
    rw [if_neg (by omega), if_neg hfree]
    simp only [← hu]
  by_cases hrefused : rd u TWIC.TWC_BUSY = 0
  · rw [if_pos hrefused]
    exact stcCommand_next hm hruns hr hcode (hact.trans (if_pos hrefused))
  · rw [if_neg hrefused]
    exact ev_answers hm (stcCommand_deferred hruns hr hcode (hact.trans (if_neg hrefused)))

end

/-- Settles O60: each command has its effect in the state that lets it act. -/
theorem siteControllerCommandsComplete : Obligations.SiteControllerCommandsComplete := by
  refine ⟨?boot, ?noImage, ?kick, ?expire, ?timeout, ?restart, ?flash, ?flashRead, ?flashWrite, ?wire, ?wireDone, ?poll, ?pollFails, ?post,
    ?ack, ?out, ?late, ?event, ?pop, ?trigger, ?oevPop, ?commands⟩
  case boot =>
    intro t a b x y s m hm
    exact ev_answers hm rfl
  case noImage =>
    intro t a b s m hm hstate hload hage
    exact ev_answers hm (stcBoot_noImage hstate hload hage)
  case kick =>
    rintro t s m a hm ho rfl
    change execStcKick t .stc s = _
    unfold execStcKick
    exact evPort_answers hm (fabricCmd_accepted ho rfl)
  case expire =>
    intro t s m hm hruns hage
    change execStcWdogExpire t s = _
    exact ev_answers hm (if_pos (by simp [hruns, hage]))
  case timeout =>
    rintro t k s m hm hstate hload hage rfl
    exact ev_answers hm (if_pos ⟨hstate, hload, hage⟩)
  case restart =>
    intro t slot s m hm ho
    change execStcRestart t .pcie slot s = _
    unfold execStcRestart
    exact evPort_answers hm (fabricCmd_accepted ho rfl)
  case flash =>
    intro t p s m hm ho hbusy hdenied
    change execFlGo t p s = _
    unfold execFlGo
    exact evPort_answers hm (fabricCmd_accepted ho (by simp [firstFail_none, hbusy, hdenied]))
  case flashRead =>
    intro t data s m hm hbusy hdir
    refine ev_answers hm ((if_neg hbusy).trans ?_)
    simp only [if_pos hdir]
  case flashWrite =>
    rintro t data out s m hm hbusy hdir rfl
    refine ev_answers hm ((if_neg hbusy).trans ?_)
    simp only [if_neg hdir]
  case wire =>
    intro t s m hm ho hbusy hrange
    change execTwcGo t .stc s = _
    unfold execTwcGo
    exact evPort_answers hm (fabricCmd_accepted ho (by simp [firstFail_none, hbusy, hrange]))
  case wireDone =>
    rintro t r n data b s m a c hm hbusy rfl rfl rfl rfl
    exact ⟨fun hwait => ev_answers hm (twcDone_ends hbusy hwait), fun w tag code hwait => ev_answers hm (twcDone_answers hbusy hwait)⟩
  case poll =>
    rintro t data b s m hm hen hdue rfl
    exact ev_answers hm (modulePoll_reads hen hdue)
  case pollFails =>
    intro t r data s m a hm hen hdue hresult hstuck ha
    exact ev_answers hm (modulePoll_fails hen hdue hresult hstuck ha)
  case post =>
    intro t w p s m a hm ho hw hfree hrange hstate ha
    change execReqPost t p w s = _
    unfold execReqPost
    exact evPort_answers hm (reqPost_posts ho hw hfree hrange hstate ha)
  case ack =>
    rintro t w p s m hm ho rfl
    change execRspAck t p _ s = _
    unfold execRspAck
    exact evPort_answers hm (fabricCmd_accepted ho (by simp [firstFail_none]))
  case out =>
    intro t w s m a hm ho hw hwaits ha
    change execOutPost t .stc s = _
    unfold execOutPost
    exact evPort_answers hm (outPost_answers ho hw hwaits ha)
  case late =>
    intro t w r s m hm hr hlate
    refine ev_answers hm ?_
    unfold stcRspTimeout
    simp only [hr, if_pos hlate]
  case event =>
    rintro t v s m a hm ho hroom rfl
    have hroom : ¬ 16 ≤ m.stc.events.length := by omega
    change execEvtPost t .stc v s = _
    unfold execEvtPost
    exact evPort_answers hm (fabricCmd_accepted ho (by simp [firstFail_none, hroom]))
  case pop =>
    rintro t p s m a hm ho hqueue rfl
    change execEvtPop t p s = _
    unfold execEvtPop
    exact evPort_answers hm (fabricCmd_accepted ho (by simp [firstFail_none, hqueue]))
  case trigger =>
    intro t occ arg src s m c hm hc ht hroom hruns
    exact trigger_answers hm hc ht (stcEvent_queues hroom hruns)
  case oevPop =>
    rintro t s m a hm ho hqueue rfl
    change execOevPop t .stc s = _
    unfold execOevPop
    exact evPort_answers hm (fabricCmd_accepted ho (by simp [firstFail_none, hqueue]))
  case commands =>
    intro t w r s m hm hruns hr
    refine ⟨fun hcode => ?info, fun hcode => ?power, fun hcode => ?policy, fun u hcode hlow hhigh hfree hu => ?read,
      fun u hcode hlow hhigh hfree hu => ?write, fun hcode hkind => ?report, fun hcode => ?oam, fun hcode => ?begin_, fun hcode => ?data,
      fun hcode => ?commit, fun hcode hop hopen => ?enable, fun hcode hop hopen => ?disable, fun hcode hop => ?rejoin,
      fun hcode hop => ?forward⟩
    case info => exact stcCommand_next hm hruns hr hcode rfl
    case power => exact stcCommand_next hm hruns hr hcode rfl
    case policy => exact stcCommand_next hm hruns hr hcode rfl
    case read => exact moduleAccess_next (write := false) hm hruns hr hcode hlow hhigh hfree hu
    case write => exact moduleAccess_next (write := true) hm hruns hr hcode hlow hhigh hfree hu
    case report => exact stcCommand_next hm hruns hr hcode (if_neg (Nat.not_lt.2 hkind))
    case oam => exact stcCommand_next hm hruns hr hcode rfl
    case begin_ => exact stcCommand_next hm hruns hr hcode rfl
    case data => exact stcCommand_next hm hruns hr hcode rfl
    case commit => exact stcCommand_next hm hruns hr hcode rfl
    case enable =>
      refine stcCommand_next hm hruns hr hcode ((if_neg fun h => h hop).trans ((if_neg (by simp [hopen])).trans ?_))
      split <;> rfl
    case disable =>
      refine stcCommand_next hm hruns hr hcode ((if_neg fun h => h hop).trans ((if_neg (by simp [hopen])).trans ?_))
      cases enabled m 0x0D <;> rfl
    case rejoin => exact stcCommand_next hm hruns hr hcode ((if_neg (by omega)).trans (if_neg (by omega)))
    case forward => exact stcCommand_next hm hruns hr hcode (if_neg (Nat.not_lt.2 hop))

end Sys2Proof.Machine
end
